-- ==== Sys2Proof/Word.lean ====
section
/-!
DEFINITION. The words of the Korim K4 and the tables the state is made of.
Every address counts bits (02 R22); widths follow the register and field maps of spec/.
-/
namespace Sys2Proof

/-- A 64-bit register or pointer word. -/
abbrev Word := BitVec 64

/-- One byte of physical memory or of a typed buffer. -/
abbrev Byte := BitVec 8

/-- A tag: die [31:29], frame [28:8], iteration [7:0] (06 R125). -/
abbrev Tag := BitVec 32

/-- The 256-bit payload of a token (06 R123). -/
abbrev Payload := BitVec 256

/-- A sparse table: keys strictly rising, each with its value. -/
abbrev Tbl (β : Type) := List (Nat × β)

end Sys2Proof
end

