-- ==== Sys2Proof/Fields.lean ====
section
/-!
DEFINITION. The operand fields of a node record, of a step entry and of the machine's steps:
the names the encodings of 08 R165 to R179 stand for.
-/
namespace Sys2Proof

/-- A port of a node (06 R123): a, b, c or the trigger port t. -/
inductive Port where
  | a | b | c | t
deriving DecidableEq, Repr

/-- A destination field (08 R168). -/
inductive Dest where
  | local_ (unit : BitVec 6) (node : BitVec 9) (port : Port) (top : BitVec 3)
  | route (cls : BitVec 12) (port : BitVec 2) (top : BitVec 3)
  | stream (port : BitVec 8)
  | sink
  | ret
  | fault
deriving DecidableEq, Repr

/-- The two destination fields DA and DB of a node record (08 R165). -/
structure Dests where
  da : Dest
  db : Dest
deriving DecidableEq, Repr

/-- Where the port-b operand comes from when LB may be set (08 R171). -/
inductive BSrc where
  | port
  | lit (v : BitVec 32)
deriving DecidableEq, Repr

/-- A rounding mode code (07 R156); rdyn reads PE_MODE.RM. -/
inductive RMode where
  | rne | rtz | rup | rdn | rna | rdyn
deriving DecidableEq, Repr

/-- A floating-point lane class (12 R252). -/
inductive FCls where
  | f16 | bf16 | f32 | f64
deriving DecidableEq, Repr

/-- The element type of form TY (08 R173); a float type carries its rounding mode. -/
inductive ElemTy where
  | uns
  | sgn
  | flt (rm : RMode) (cls : FCls)
deriving DecidableEq, Repr

/-- A comparison condition (08 R173). -/
inductive Cond where
  | eq | ne | lt | le | gt | ge
deriving DecidableEq, Repr

/-- The tie rule of SHRR (11 R242). -/
inductive TieMode where
  | up | even | away
deriving DecidableEq, Repr

/-- An integer atomic operation (08 R173, form AT). -/
inductive AtomOp where
  | add | and | or | xor | smin | smax | umin | umax | swp
deriving DecidableEq, Repr

/-- A floating-point atomic operation (08 R173, form AF). -/
inductive FAtomOp where
  | fadd | fmin | fmax
deriving DecidableEq, Repr

/-- A release scope (04 R82). -/
inductive RelScope where
  | cluster | die | package | system
deriving DecidableEq, Repr

/-- The position GPOS reads (13 R295). -/
inductive GposSel where
  | a | p | d
deriving DecidableEq, Repr

/-- What a parked record waits for (10 R225). -/
inductive ParkKind where
  | tag | tl | ring | net
deriving DecidableEq, Repr

/-- The timeline TLREAD and TLWAIT select, with the LIT field it uses (16 R333). -/
inductive TlSel where
  | ch (c : BitVec 2)
  | mx (ctx : BitVec 2)
  | net (ctx : BitVec 10)
deriving DecidableEq, Repr

/-- The identity value IDENT sends (16 R341). -/
inductive IdentSel where
  | cl | unit | part | dev
deriving DecidableEq, Repr

/-- PSPC's variant: read the space tag, or replace it (11 R251). -/
inductive PspcSel where
  | get
  | set (tag : BitVec 4)
deriving DecidableEq, Repr

/-- A wave-number literal (08 R172). -/
structure WaveLit where
  pred : BitVec 10
  own : BitVec 10
  succ : BitVec 10
  pw : Bool
  sw : Bool
deriving DecidableEq, Repr

/-- The RQUANT literal (11 R243). -/
structure RqLit where
  zp : BitVec 8
  s : BitVec 6
  ow : BitVec 6
deriving DecidableEq, Repr

/-- The BFX and BFI literal (11 R245). -/
structure FieldLit where
  lenm1 : BitVec 6
  pos : BitVec 6
deriving DecidableEq, Repr

/-- The step-list literal of STEP and MXSEQ (08 R178). -/
structure ListLit where
  start : BitVec 6
  lenm1 : BitVec 4
deriving DecidableEq, Repr

/-- The FORK and PARK literal (10 R223): bits [21:2] of the entry destination, groups, frame size. -/
structure EntryLit where
  entry : BitVec 20
  ngm1 : BitVec 2
  nm1 : BitVec 8
deriving DecidableEq, Repr

/-- The BARR literal (10 R217): SCOPE 01 is the partition. -/
structure BarrLit where
  arrm1 : BitVec 10
  part : Bool
  id : BitVec 4
deriving DecidableEq, Repr

/-- The CHAIN literal (12 R271). -/
structure ChainLit where
  node2 : BitVec 9
  node1 : BitVec 9
  node0 : BitVec 9
  cntm1 : BitVec 2
deriving DecidableEq, Repr

/-- The MXOUT literal (15 R324). -/
structure MxoutLit where
  port : BitVec 8
  dmode : BitVec 2
  prof : BitVec 3
deriving DecidableEq, Repr

/-- A register of the system space (02 R23). -/
structure RegAddr where
  block : Nat
  unit : Nat
  index : Nat
deriving DecidableEq, Repr

/-- Who performs a register access; it decides privilege (05 R101, 20 R363, 22 R388). -/
inductive Agent where
  | privForme | systemCore | managementCore | host
deriving DecidableEq, Repr

/-- A move of an MXE command: its slot, the entries of its region that an MXOUT reads, and what an upset adds to a sum that
a check compares (15 R306, R316, R319; log 44). -/
structure MxeMove where
  slot : Nat
  reads : List Nat := []
  upset : List (Nat × Nat) := []
deriving DecidableEq, Repr

/-- Why a die-link module retrains (25 R428): a lane has failed, with one half of the lanes sound or not, or a request. -/
inductive Retrain where
  | lane (sound : Bool)
  | request
deriving DecidableEq, Repr

/-- Where data of the storage port go: a frame at its address, or an address of a space (25 R435, 03 R46). -/
structure StorageDst where
  sid : Nat
  frame : Bool
  addr : Nat
deriving DecidableEq, Repr

end Sys2Proof
end

