-- ==== Sys2Proof/Machine/Bits.lean ====
section
/-!
DEFINITION. Bit fields, sign extension, and the sparse tables' reads and writes (00 R2, R6, R7).
-/
namespace Sys2Proof

/-- The value a table holds under a key, or the default for a key it does not list. -/
def Tbl.get {β : Type} (d : β) : Tbl β → Nat → β
  | [], _ => d
  | (k, v) :: rest, a => if a = k then v else Tbl.get d rest a

/-- The value a table lists under a key, if it lists the key. -/
def Tbl.find {β : Type} : Tbl β → Nat → Option β
  | [], _ => none
  | (k, v) :: rest, a => if a = k then some v else Tbl.find rest a

/-- Whether a table lists a key. -/
def Tbl.has {β : Type} (t : Tbl β) (a : Nat) : Bool := (Tbl.find t a).isSome

/-- Set the value under a key, keeping the keys rising. -/
def Tbl.put {β : Type} : Tbl β → Nat → β → Tbl β
  | [], a, v => [(a, v)]
  | (k, w) :: rest, a, v =>
    if a < k then (a, v) :: (k, w) :: rest
    else if a = k then (a, v) :: rest
    else (k, w) :: Tbl.put rest a v

/-- Remove a key. -/
def Tbl.del {β : Type} : Tbl β → Nat → Tbl β
  | [], _ => []
  | (k, w) :: rest, a => if a = k then rest else (k, w) :: Tbl.del rest a

/-- The bits [hi:lo] of a natural number (00 R7, `Bits`). -/
def bits (v hi lo : Nat) : Nat := (v / 2 ^ lo) % 2 ^ (hi + 1 - lo)

/-- The low w bits read as a two's-complement integer (00 R7, `Sext`). -/
def sext (v w : Nat) : Int :=
  let u := v % 2 ^ w
  if w = 0 then 0 else if u < 2 ^ (w - 1) then (u : Int) else (u : Int) - ((2 ^ w : Nat) : Int)

/-- An integer reduced to its low w bits (00 R7, `Zext`). -/
def zextInt (v : Int) (w : Nat) : Nat := (v % ((2 ^ w : Nat) : Int)).toNat

/-- `Sat` of 00 R7. -/
def sat (v lo hi : Int) : Int := if v < lo then lo else if v > hi then hi else v

/-- x >> n, the floor of x / 2^n (00 R6). -/
def shrInt (x : Int) (n : Nat) : Int := x / ((2 ^ n : Nat) : Int)

/-- Round a natural number up to a multiple of m. -/
def roundUp (v m : Nat) : Nat := (v + m - 1) / m * m

/-- v with its bits [lo + w - 1 : lo] replaced by x. -/
def setBits (v lo w x : Nat) : Nat :=
  v - (v / 2 ^ lo % 2 ^ w) * 2 ^ lo + (x % 2 ^ w) * 2 ^ lo

/-- The element at a position of a list, if it is there. -/
def nth {α : Type} (l : List α) (k : Nat) : Option α := (l.drop k).head?

/-- A list without the element at a position. -/
def dropNth {α : Type} (l : List α) (k : Nat) : List α := l.take k ++ l.drop (k + 1)

/-- A list with the element at a position changed. -/
def mapNth {α : Type} (l : List α) (k : Nat) (f : α → α) : List α :=
  match l, k with
  | [], _ => []
  | x :: rest, 0 => f x :: rest
  | x :: rest, k + 1 => x :: mapNth rest k f

/-- The lowest set bit of the low n bits of m, if there is one. -/
def lowestBit (m n : Nat) : Option Nat := (List.range n).find? (fun i => m.testBit i)

end Sys2Proof
end

