-- ==== Sys2Proof/Machine/Fd.lean ====
section
/-!
DEFINITION. The fields of a format descriptor and its validity (07 R150, R151, R152, R155, R164).
-/
namespace Sys2Proof.Fd

/-- CLASS, bits [31:28] (07 R150). -/
def cls (fd : BitVec 32) : Nat := bits fd.toNat 31 28
def width (fd : BitVec 32) : Nat := bits fd.toNat 27 22
def expBits (fd : BitVec 32) : Nat := bits fd.toNat 21 18
def signBit (fd : BitVec 32) : Nat := bits fd.toNat 17 17
def biasField (fd : BitVec 32) : Nat := bits fd.toNat 16 9
def spv (fd : BitVec 32) : Nat := bits fd.toNat 8 7
def npol (fd : BitVec 32) : Nat := bits fd.toNat 6 5
def subn (fd : BitVec 32) : Nat := bits fd.toNat 4 3
def ovfp (fd : BitVec 32) : Nat := bits fd.toNat 2 1

/-- 07 R151: the row of the descriptor's class holds, bit 0 is zero and no field holds a reserved code.
A six-bit WIDTH holds its plain value, so 0 is no width of a class whose range is 1 to 64 (log 10). -/
def valid (fd : BitVec 32) : Bool :=
  let w := width fd; let e := expBits fd; let s := signBit fd; let b := biasField fd
  let ok := bits fd.toNat 0 0 = 0 && spv fd ≠ 3 && npol fd ≠ 3 && subn fd ≠ 3 && ovfp fd ≠ 3
  ok && match cls fd with
  | 0 => 1 ≤ w && e = 0 && s = 0 && b = 0 && spv fd = 0 && subn fd = 0 && ovfp fd ≠ 1
  | 1 => 1 ≤ w && e = 0 && s = 1 && b = 0 && spv fd = 0 && subn fd = 0 && ovfp fd ≠ 1
  | 2 => 1 ≤ w && w ≤ 8 && 1 ≤ e && e ≤ 7 && s + e ≤ w &&
      (spv fd ≠ 2 || s + e + 1 ≤ w) && (spv fd = 0 || npol fd = 0)
  | 3 | 4 | 5 | 6 => w = 0 && e = 0 && s = 0 && b = 0 && spv fd = 2 && npol fd = 0
  | 7 => w = 1 && e = 0 && s = 0 && b = 0 && spv fd = 0 && subn fd = 0 && ovfp fd = 0
  | _ => false

/-- The code width w of the format (07 R152, R153). -/
def codeWidth (fd : BitVec 32) : Nat :=
  match cls fd with
  | 3 | 4 => 16
  | 5 => 32
  | 6 => 64
  | _ => width fd

/-- log2 of the lane container of width w: the smallest of 1, 2, 4, 8, 16, 32, 64 that is at least w (07 R155). -/
def contL2 (w : Nat) : Nat :=
  if w ≤ 1 then 0 else if w ≤ 2 then 1 else if w ≤ 4 then 2 else if w ≤ 8 then 3
  else if w ≤ 16 then 4 else if w ≤ 32 then 5 else 6

/-- 07 R164: one of the 20 MXE operand formats, valid under R151. -/
def mxeOk (fd : BitVec 32) : Bool :=
  valid fd && match cls fd with
  | 0 | 1 => [2, 3, 4, 6, 8].contains (width fd)
  | 2 => 3 ≤ width fd && width fd ≤ 8
  | 3 | 4 | 5 => true
  | 7 => true
  | _ => false

end Sys2Proof.Fd
end

