-- ==== Sys2Proof/Machine/Numbers.lean ====
section
/-!
DEFINITION. Numbers and rounding: what a code stands for, and Round, RoundMultiple, the flags and the block scales
(07 R150 to R163). Numbers are exact: a sign, a numerator and a denominator.
-/
namespace Sys2Proof.Machine

/-- An exact number, an infinity or a NaN; the flag says the sign is negative (07 R153). -/
inductive ExtNum where
  | nan (neg : Bool)
  | inf (neg : Bool)
  | fin (neg : Bool) (n d : Nat)
deriving DecidableEq, Repr

namespace Flag
def INV := 1
def DZ := 2
def OVF := 4
def UNF := 8
def INX := 16
def NANLOST := 32
def SAT := 64
end Flag

/-- The parameters a format descriptor gives a code (07 R150, R152). -/
structure Fmt where
  cls : Nat
  w : Nat
  s : Nat
  e : Nat
  m : Nat
  bias : Nat
  spv : Nat
  npol : Nat
  subn : Nat
  ovfp : Nat
deriving DecidableEq, Repr

def Fmt.of (fd : BitVec 32) : Fmt :=
  let p (w e m bias : Nat) : Fmt :=
    { cls := Fd.cls fd, w := w, s := 1, e := e, m := m, bias := bias, spv := 2, npol := Fd.npol fd,
      subn := Fd.subn fd, ovfp := Fd.ovfp fd }
  match Fd.cls fd with
  | 3 => p 16 5 10 15
  | 4 => p 16 8 7 127
  | 5 => p 32 8 23 127
  | 6 => p 64 11 52 1023
  | c => { cls := c, w := Fd.width fd, s := Fd.signBit fd, e := Fd.expBits fd,
           m := Fd.width fd - Fd.signBit fd - Fd.expBits fd, bias := Fd.biasField fd, spv := Fd.spv fd,
           npol := Fd.npol fd, subn := Fd.subn fd, ovfp := Fd.ovfp fd }

/-- A split float: class 2, or one of classes 3 to 6 read as one (07 R152). -/
def Fmt.isFloat (f : Fmt) : Bool := 2 ≤ f.cls && f.cls ≤ 6

/-- Whether the format represents −0, and negative values (07 R154, R157). -/
def Fmt.negZero (f : Fmt) : Bool := f.isFloat && f.s = 1
def Fmt.hasNeg (f : Fmt) : Bool := !(f.cls = 0 || (f.isFloat && f.s = 0))

/-- m × 2^k as a fraction. -/
def scaled (m : Nat) (k : Int) : Nat × Nat :=
  if 0 ≤ k then (m * 2 ^ k.toNat, 1) else (m, 2 ^ (-k).toNat)

def ExtNum.scaledBy (neg : Bool) (m : Nat) (k : Int) : ExtNum := .fin neg (scaled m k).1 (scaled m k).2

/-- The magnitude of a float code's exponent and fraction (07 R153). -/
def Fmt.mag (f : Fmt) (e m : Nat) : Nat × Nat :=
  if e = 0 then scaled m (1 - (f.bias : Int) - f.m) else scaled (2 ^ f.m + m) ((e : Int) - f.bias - f.m)

/-- An integer as a number. -/
def ExtNum.ofInt (x : Int) : ExtNum := .fin (x < 0) x.natAbs 1

/-- Decode (07 R153). -/
def decode (f : Fmt) (code : Nat) : ExtNum :=
  let c := code % 2 ^ f.w
  if f.cls = 0 then .fin false c 1
  else if f.cls = 1 then ExtNum.ofInt (sext c f.w)
  else if f.cls = 7 then .fin (c = 1) 1 1
  else
    let s := decide (f.s = 1 ∧ c.testBit (f.w - 1))
    let e := c / 2 ^ f.m % 2 ^ f.e
    let m := c % 2 ^ f.m
    if f.spv = 2 ∧ e = 2 ^ f.e - 1 then (if m = 0 then .inf s else .nan s)
    else if f.spv = 1 ∧ e = 2 ^ f.e - 1 ∧ m = 2 ^ f.m - 1 then .nan s
    else if e = 0 ∧ f.subn = 2 then .fin s 0 1
    else .fin s (f.mag e m).1 (f.mag e m).2

/-- The sign of a code, of NaN and Inf codes too (07 R163). -/
def ExtNum.neg : ExtNum → Bool
  | .nan s => s | .inf s => s | .fin s _ _ => s

def ExtNum.isNan : ExtNum → Bool
  | .nan _ => true | _ => false
def ExtNum.isInf : ExtNum → Bool
  | .inf _ => true | _ => false
def ExtNum.isZero : ExtNum → Bool
  | .fin _ n _ => n = 0 | _ => false
def ExtNum.flip : ExtNum → ExtNum
  | .nan s => .nan !s | .inf s => .inf !s | .fin s n d => .fin (!s) n d

/-- Exponent and fraction of maxfin (07 R154). -/
def Fmt.maxfin (f : Fmt) : Nat × Nat :=
  if f.spv = 0 then (2 ^ f.e - 1, 2 ^ f.m - 1)
  else if f.spv = 1 then (if f.m = 0 then (2 ^ f.e - 2, 0) else (2 ^ f.e - 1, 2 ^ f.m - 2))
  else (2 ^ f.e - 2, 2 ^ f.m - 1)

/-- A float code of a sign, an exponent and a fraction. -/
def Fmt.pack (f : Fmt) (neg : Bool) (e m : Nat) : Nat :=
  (if neg ∧ f.s = 1 then 2 ^ (f.w - 1) else 0) + e * 2 ^ f.m + m

/-- The canonical NaN (07 R154). -/
def Fmt.nanCode (f : Fmt) : Nat :=
  if f.spv = 1 then f.pack false (2 ^ f.e - 1) (2 ^ f.m - 1) else f.pack false (2 ^ f.e - 1) (2 ^ (f.m - 1))

def Fmt.infCode (f : Fmt) (neg : Bool) : Nat := f.pack neg (2 ^ f.e - 1) 0

/-- Lim of 07 R157 as a code. -/
def Fmt.lim (f : Fmt) (neg : Bool) : Nat :=
  if f.cls = 0 then (if neg then 0 else 2 ^ f.w - 1)
  else if f.cls = 1 then (if neg then 2 ^ (f.w - 1) else 2 ^ (f.w - 1) - 1)
  else if neg ∧ f.s = 0 then 0
  else f.pack neg f.maxfin.1 f.maxfin.2

/-- floor(log2 (n / d)) for n, d ≥ 1. -/
def floorLog2 (n d : Nat) : Int :=
  let k : Int := (Nat.log2 n : Int) - Nat.log2 d
  let p := scaled d k
  if n * p.2 < p.1 then k - 1 else k

/-- The magnitude of RoundMultiple(±n / d, 2^k, mode) in units of 2^k (07 R156). -/
def roundMag (neg : Bool) (n d : Nat) (k : Int) (rm : RMode) : Nat :=
  let p := scaled d k
  let a := n * p.2
  let q := a / p.1
  let r := a % p.1
  match rm with
  | .rtz => q
  | .rup => if r = 0 ∨ neg then q else q + 1
  | .rdn => if r = 0 ∨ !neg then q else q + 1
  | .rna => if 2 * r < p.1 then q else q + 1
  | _ => if 2 * r < p.1 then q else if p.1 < 2 * r then q + 1 else if q % 2 = 0 then q else q + 1

/-- What Round answers: the code, the flags of R158 and whether it called ForceTrap. -/
structure Rounded where
  code : Nat
  flags : Nat := 0
  force : Bool := false
deriving DecidableEq, Repr

/-- A flag, where a condition holds. -/
def fl (b : Bool) (v : Nat) : Nat := if b then v else 0

/-- The mode a code names; rdyn reads PE_MODE.RM (07 R156). -/
def resolveRm (rm : RMode) (mode : Nat) : RMode :=
  match rm with
  | .rdyn => (match mode with | 1 => .rtz | 2 => .rup | 3 => .rdn | 4 => .rna | _ => .rne)
  | m => m

/-- Round for an integer format and a finite x that is not zero (07 R157). -/
def roundInt (f : Fmt) (neg : Bool) (n d : Nat) (rm : RMode) : Rounded :=
  let q := roundMag neg n d 0 rm
  let exact := decide (q * d = n)
  if neg && !f.hasNeg then
    { code := 0, flags := Flag.INX + fl (q ≠ 0) Flag.SAT }
  else
    let v : Int := if neg then -(q : Int) else q
    let lo : Int := if f.cls = 0 then 0 else -((2 ^ (f.w - 1) : Nat) : Int)
    let hi : Int := if f.cls = 0 then ((2 ^ f.w : Nat) : Int) - 1 else ((2 ^ (f.w - 1) : Nat) : Int) - 1
    if v < lo ∨ hi < v then
      { code := zextInt (Sys2Proof.sat v lo hi) f.w, flags := Flag.INX + Flag.SAT, force := f.ovfp = 2 }
    else { code := zextInt v f.w, flags := fl (!exact) Flag.INX }

/-- Round for a float format and a finite x that is not zero (07 R157). -/
def roundFloat (f : Fmt) (neg : Bool) (n d : Nat) (rm : RMode) : Rounded :=
  let emin : Int := 1 - (f.bias : Int)
  let k := max (floorLog2 n d) emin - f.m
  let q := roundMag neg n d k rm
  let qv := scaled q k
  let exact := decide (qv.1 * d = n * qv.2)
  let norm := scaled 1 emin
  let tiny := decide (n * norm.2 < norm.1 * d)
  let mx := f.mag f.maxfin.1 f.maxfin.2
  if neg && !f.hasNeg then
    { code := 0, flags := Flag.INX + fl (q ≠ 0) Flag.SAT + fl tiny Flag.UNF }
  else if mx.1 * qv.2 < qv.1 * mx.2 then
    if f.ovfp = 1 && f.spv = 2 && (rm == .rne || rm == .rna || (rm == .rup && !neg) || (rm == .rdn && neg)) then
      { code := f.infCode neg, flags := Flag.INX + Flag.OVF }
    else { code := f.lim neg, flags := Flag.INX + Flag.OVF + Flag.SAT, force := f.ovfp = 2 }
  else if tiny && f.subn ≠ 0 && decide (qv.1 * norm.2 < norm.1 * qv.2) then
    { code := f.pack neg 0 0, flags := Flag.UNF + Flag.INX }
  else
    let code :=
      if q < 2 ^ f.m then f.pack neg 0 q
      else if q < 2 ^ (f.m + 1) then f.pack neg (k + f.m + f.bias).toNat (q - 2 ^ f.m)
      else f.pack neg (k + f.m + f.bias + 1).toNat 0
    { code := code, flags := fl (!exact) (Flag.INX + fl tiny Flag.UNF) }

/-- Encode(Round(x, fd, mode), fd), with the flags Round raises (07 R157). The mode is not rdyn. -/
def round (f : Fmt) (rm : RMode) (x : ExtNum) : Rounded :=
  if f.cls = 7 then
    match x with
    | .nan neg => { code := if f.npol = 1 ∧ neg then 1 else 0, flags := Flag.NANLOST, force := f.npol = 2 }
    | .inf neg => { code := if neg then 1 else 0, flags := Flag.INX }
    | .fin neg n d => { code := if neg ∧ n ≠ 0 then 1 else 0, flags := fl (n ≠ d) Flag.INX }
  else match x with
  | .nan neg =>
    if f.isFloat && f.spv ≠ 0 then { code := f.nanCode }
    else { code := if f.npol = 1 then f.lim neg else 0, flags := Flag.NANLOST, force := f.npol = 2 }
  | .inf neg =>
    if f.isFloat && f.spv = 2 then { code := f.infCode neg }
    else { code := f.lim neg, flags := Flag.SAT, force := f.ovfp = 2 }
  | .fin neg n d =>
    if n = 0 then { code := if f.negZero then f.pack neg 0 0 else 0 }
    else if f.isFloat then roundFloat f neg n d rm
    else roundInt f neg n d rm

/-- LaneFD of a float lane class (12 R252). -/
def laneFd : FCls → BitVec 32
  | .f16 => 0x30000102 | .bf16 => 0x40000102 | .f32 => 0x50000102 | .f64 => 0x60000102

def laneFmt (c : FCls) : Fmt := Fmt.of (laneFd c)

/-- log2 of the container of a lane class (12 R252). -/
def laneCl2 : FCls → Nat
  | .f16 => 4 | .bf16 => 4 | .f32 => 5 | .f64 => 6

/-! ## Arithmetic (12 R253, R255): a result and the flags of R158 -/

def ExtNum.addFin (s1 : Bool) (n1 d1 : Nat) (s2 : Bool) (n2 d2 : Nat) (rm : RMode) : ExtNum :=
  let a := n1 * d2
  let b := n2 * d1
  if s1 = s2 then .fin s1 (a + b) (d1 * d2)
  else if b < a then .fin s1 (a - b) (d1 * d2)
  else if a < b then .fin s2 (b - a) (d1 * d2)
  else .fin (rm == .rdn) 0 1

def ExtNum.add (x y : ExtNum) (rm : RMode) : ExtNum × Nat :=
  match x, y with
  | .nan s, _ => (.nan s, 0)
  | _, .nan s => (.nan s, 0)
  | .inf s, .inf t => if s = t then (.inf s, 0) else (.nan false, Flag.INV)
  | .inf s, .fin .. => (.inf s, 0)
  | .fin .., .inf t => (.inf t, 0)
  | .fin s1 n1 d1, .fin s2 n2 d2 => (ExtNum.addFin s1 n1 d1 s2 n2 d2 rm, 0)

/-- An exact difference, with the flags of its rounding's case: a zero difference is +0, or −0 under RDN (12 R253; log 84
for zeros of one sign). -/
def ExtNum.sub (x y : ExtNum) (rm : RMode) : ExtNum × Nat :=
  match ExtNum.add x y.flip rm with
  | (.fin _ 0 d, k) => (.fin (rm == .rdn) 0 d, k)
  | r => r

def ExtNum.mul (x y : ExtNum) : ExtNum × Nat :=
  match x, y with
  | .nan s, _ => (.nan s, 0)
  | _, .nan s => (.nan s, 0)
  | .inf s, .inf t => (.inf (s != t), 0)
  | .inf s, .fin t n _ => if n = 0 then (.nan false, Flag.INV) else (.inf (s != t), 0)
  | .fin s n _, .inf t => if n = 0 then (.nan false, Flag.INV) else (.inf (s != t), 0)
  | .fin s1 n1 d1, .fin s2 n2 d2 => (.fin (s1 != s2) (n1 * n2) (d1 * d2), 0)

def ExtNum.div (x y : ExtNum) : ExtNum × Nat :=
  match x, y with
  | .nan s, _ => (.nan s, 0)
  | _, .nan s => (.nan s, 0)
  | .inf _, .inf _ => (.nan false, Flag.INV)
  | .inf s, .fin t _ _ => (.inf (s != t), 0)
  | .fin s _ _, .inf t => (.fin (s != t) 0 1, 0)
  | .fin s1 n1 d1, .fin s2 n2 d2 =>
    if n2 = 0 then (if n1 = 0 then (.nan false, Flag.INV) else (.inf (s1 != s2), Flag.DZ))
    else (.fin (s1 != s2) (n1 * d2) (d1 * n2), 0)

/-- x × y + z with one rounding still to come; 0 × Inf sets INV even when z is NaN (12 R255). -/
def ExtNum.fma (x y z : ExtNum) (rm : RMode) : ExtNum × Nat :=
  let p := ExtNum.mul x y
  if p.2 ≠ 0 then p else ExtNum.add p.1 z rm

/-- x × 2^n (12 R255); an |n| above 8192 acts as 8192, past every format's range. -/
def ExtNum.mulPow2 (x : ExtNum) (n : Int) : ExtNum :=
  match x with
  | .fin s m d =>
    let p := scaled 1 (Sys2Proof.sat n (-8192) 8192)
    .fin s (m * p.1) (d * p.2)
  | v => v

/-- Newton's iteration for the integer square root, from above. -/
def isqrtFrom (n : Nat) : Nat → Nat → Nat
  | 0, x => x
  | k + 1, x => let y := (x + n / x) / 2; if y < x then isqrtFrom n k y else x

/-- The integer square root. -/
def isqrt (n : Nat) : Nat := if n = 0 then 0 else isqrtFrom n (Nat.log2 n + 2) (2 ^ (Nat.log2 n / 2 + 1))

/-- The square root of n / d: exact where it is rational with denominator d, else a point of the open interval of
2^−k / d that holds it, with k past every format's precision. -/
def sqrtFrac (n d : Nat) : Nat × Nat :=
  let k := 2200
  let r := isqrt (n * d * 4 ^ k)
  if r * r = n * d * 4 ^ k then (r, d * 2 ^ k) else (2 * r + 1, 2 * d * 2 ^ k)

def ExtNum.sqrt (x : ExtNum) : ExtNum × Nat :=
  match x with
  | .nan s => (.nan s, 0)
  | .inf s => if s then (.nan false, Flag.INV) else (.inf false, 0)
  | .fin s n d =>
    if n = 0 then (.fin s 0 1, 0)
    else if s then (.nan false, Flag.INV)
    else (.fin false (sqrtFrac n d).1 (sqrtFrac n d).2, 0)

def ExtNum.rsqrt (x : ExtNum) : ExtNum × Nat :=
  match x with
  | .nan s => (.nan s, 0)
  | .inf s => if s then (.nan false, Flag.INV) else (.fin false 0 1, 0)
  | .fin s n d =>
    if n = 0 then (.inf s, Flag.DZ)
    else if s then (.nan false, Flag.INV)
    else (.fin false (sqrtFrac d n).1 (sqrtFrac d n).2, 0)

def ExtNum.recip (x : ExtNum) : ExtNum × Nat :=
  match x with
  | .nan s => (.nan s, 0)
  | .inf s => (.fin s 0 1, 0)
  | .fin s n d => if n = 0 then (.inf s, Flag.DZ) else (.fin s d n, 0)

/-- The order of two numbers that are not NaN, zeros equal: true where x < y. -/
def ExtNum.lt (x y : ExtNum) : Bool :=
  match x, y with
  | .fin s n d, .fin t m e =>
    let a := n * e
    let b := m * d
    if s then (if t then decide (b < a) else decide (a ≠ 0 ∨ b ≠ 0)) else (if t then false else decide (a < b))
  | .inf s, .inf t => s && !t
  | .inf s, .fin .. => s
  | .fin .., .inf t => !t
  | _, _ => false

/-- |x| < |y| for numbers that are not NaN. -/
def ExtNum.ltMag (x y : ExtNum) : Bool :=
  let ab : ExtNum → ExtNum := fun v => match v with | .fin _ n d => .fin false n d | .inf _ => .inf false | w => w
  ExtNum.lt (ab x) (ab y)

/-! ## Block scales (07 R161, R162) -/

/-- The value of an S16 code with SE below 255; zero for SE = 0. -/
def scaleVal (s : BitVec 16) : Nat × Nat :=
  let se := s.toNat / 256
  if se = 0 then (0, 1) else scaled (256 + s.toNat % 256) ((se : Int) - 127 - 8)

def scaleInvalid (s : BitVec 16) : Bool := s.toNat / 256 = 255
def scaleZero (s : BitVec 16) : Bool := s.toNat / 256 = 0

/-- The S16 code of a number (07 R162). -/
def encodeScale (x : ExtNum) : Rounded :=
  match x with
  | .fin neg n d =>
    if n = 0 then { code := 0 }
    else if neg then { code := 0xFF00, flags := Flag.INV }
    else
      let k := floorLog2 n d - 8
      let q := roundMag false n d k .rne
      let qv := scaled q k
      let k' := if q = 512 then k + 1 else k
      let sf := if q = 512 then 0 else q - 256
      if 128 ≤ k' + 8 then { code := 0xFEFF, flags := Flag.OVF + Flag.SAT + Flag.INX }
      else if k' + 8 < -126 then { code := 0, flags := Flag.UNF + Flag.INX }
      else { code := (k' + 8 + 127).toNat * 256 + sf, flags := fl (qv.1 * d ≠ n * qv.2) Flag.INX }
  | _ => { code := 0xFF00, flags := Flag.INV }

end Sys2Proof.Machine
end

