-- ==== Sys2Proof/Config.lean ====
section
/-!
DEFINITION. What the spec leaves open or to an implementation: constants without a body, so that no statement can
rest on a value of them. Each is named in a log entry.
-/
namespace Sys2Proof.Config

/-- The free values the spec states no value for, by the count of State.freeCtr (log 2). -/
opaque free : Nat → Nat

/-- SCLMAX for a format whose maxfin is 0: the spec states no quotient (log 17). -/
opaque scaleOverZero : Nat → Nat → Nat

/-- The set of an L2 TLB entry: the hash is not given (03 R52; log 12). -/
opaque l2Hash : Nat → Nat → Nat

/-- The signature of the outputs of the firing with an arrival number, held in its unit's history (22 R393; log 6). -/
opaque signature : Nat → BitVec 32

/-- A measurement extended by a digest: SHA-256(M ‖ D) (27 R442; log 6). -/
opaque measure : BitVec 256 → BitVec 256 → BitVec 256

/-- The attestation signature over a report (27 R443; log 6). -/
opaque sign : List Byte → List Byte

/-- Cause data of a code whose rule says what the data holds and not in which bits, of those parts (log 21). -/
opaque cause : Nat → List Nat → Nat

/-- Parameter set and key of the device attestation key (27 R443; log 6). -/
opaque attestPset : Nat
opaque attestKey : Nat

/-- The host window that Nymtor reserves: base and size in bytes (25 R421; log 7). -/
opaque hostWindow : Nat × Nat

/-- An execution context's bytes in an image, whose layout is the shadow store's (23 R410; log 5). -/
opaque contextBytes : Nat → List Byte

/-- A C-store entry's 64 bits in an image, from its code, TY and PZ (23 R410; log 5). -/
opaque imageEntry : Nat → Bool → Bool → Nat

/-- Whether an opcode is present in a Tamod version older than the device's own (21 R379; log 7). -/
opaque opIn : Nat → Nat → Bool

/-- The buffers of a virtual channel at a die link's receiver, less one, modulo 63 (06 R141; log 85). -/
opaque vcBuffers : Nat → Nat

/-- The beats of a message, by its number, less one, modulo 127 (25 R426; log 85). -/
opaque msgBeats : Nat → Nat

/-- A beat of a message: its number, and which beat; of a header, the bits below its length (25 R426; log 85). -/
opaque beat : Nat → Nat → Nat

/-- Whether a signature section's bits after its first word are a signature of a message by a key under a parameter set
(21 R378; log 6). -/
opaque sigVerifies : Nat → Nat → List Byte → List Byte → Bool

/-- The newest Tamod version that a management firmware image accepts, by its digest (21 R379; log 86). -/
opaque firmwareHigh : BitVec 256 → Nat

end Sys2Proof.Config
end

