-- ==== Sys2Proof/Syntax.lean ====
section
/-!
DEFINITION. The instructions of the Korim K4, one constructor for each row of spec/opcode_table.json:
the node-record instructions of 08 R177, the step-list entries of 08 R179 and 15 R322, and the machine's
own steps (95_what_each_step_holds.md). A machine step has no encoding: its arguments name the agent that
moves and carry what comes from outside the machine.
-/
namespace Sys2Proof

/-- An instruction, or an indivisible step of the machine. -/
inductive Instr where
  /-- MOV (R209): Forwards operand a to DA and DB. -/
  | mov (d : Dests)
  /-- CONST (R210): Fires on port t and sends the literal as a 64-bit scalar, sign- or zero-extended. -/
  | const_ (sg : Bool) (k : BitVec 32) (d : Dests)
  /-- STEER (R209): Sends a to DA if control b is true, else to DB. -/
  | steer (d : Dests)
  /-- SELECT (R209): Sends b if control a is true, else c, and consumes the other. -/
  | select (d : Dests)
  /-- MERGE (R209): Forwards a token arriving at either port alone. -/
  | merge (d : Dests)
  /-- GATE (R209): Forwards a once gate b is present and consumes b unread. -/
  | gate (d : Dests)
  /-- SYNC2 (R209): Sends a to DA and b to DB once both are present. -/
  | sync2 (d : Dests)
  /-- SYNC3 (R209): Sends a to DA and b to DB once a, b and c are present, and consumes c. -/
  | sync3 (d : Dests)
  /-- LOOPIN (R212): Allocates a frame, sends a into its iteration 0 and sends the frame tag as a scalar. -/
  | loopin (nm1 : BitVec 8) (d : Dests)
  /-- IEND (R213): Frees the iteration slot of its tag and frees the frame when it becomes empty. -/
  | iend (d : Dests)
  /-- LOOPOUT (R213): Sends a under the PARENT tag of its frame. -/
  | loopout (d : Dests)
  /-- TALLOC (R212): Allocates a frame and sends its tag as scalars to DA and DB. -/
  | talloc (nm1 : BitVec 8) (d : Dests)
  /-- TFREE (R213): Frees the frame named by the tag in lane 0 of a. -/
  | tfree (d : Dests)
  /-- CALL (R212): Allocates a frame, saves DB as its return link and sends a into iteration 0. -/
  | call (nm1 : BitVec 8) (d : Dests)
  /-- RET (R213): Sends a to the frame's return link under the PARENT tag. -/
  | ret_ (d : Dests)
  /-- TAGGET (R214): Sends the current tag as a 32-bit scalar. -/
  | tagget (d : Dests)
  /-- TAGSET (R214): Sends a under the tag held in lane 0 of b. -/
  | tagset (d : Dests)
  /-- ITER (R214): Sends the iteration number of the tag as a scalar. -/
  | iter (d : Dests)
  /-- WAVE (R215): Sends wave-start markers for its tag to the edge tiles, then forwards a. -/
  | wave (d : Dests)
  /-- WAVE_MARKER (R215): An edge tile receives a wave-start marker and discards its ordering state for the tag. -/
  | waveMarker (k : Nat)
  /-- STEP (R216): Starts a step-list activation on the arrival of its trigger. -/
  | step_ (l : ListLit) (d : Dests)
  /-- STEP_SNOP (R179): Step-list no-operation. -/
  | stepSnop
  /-- STEP_LOOP (R182): Opens a counted loop over the following steps of the list. -/
  | stepLoop (last : BitVec 4) (x : BitVec 2) (csrc : Bool) (count : BitVec 16)
  /-- STEP_SETX (R179): Sets a step register to the immediate. -/
  | stepSetx (x : BitVec 2) (imm : BitVec 16)
  /-- STEP_ADDX (R179): Adds the immediate to a step register modulo 2^32. -/
  | stepAddx (x : BitVec 2) (imm : BitVec 16)
  /-- STEP_EMIT (R179): Emits one token to DA or DB under the trigger's tag, with a payload chosen by FORM. -/
  | stepEmit (dsel : Bool) (x : BitVec 2) (form : BitVec 2) (sh : BitVec 4) (imm : BitVec 16)
  /-- MXSEQ_PATCH (R322): In an MXSEQ list, adjusts one field of the control token held in V. -/
  | mxseqPatch (dsel : Bool) (field : BitVec 3) (x : BitVec 2) (sh : BitVec 4) (imm : BitVec 16)
  /-- STEP_OPN (R179): Fires a node of the same PE on V and takes its DA output as the new V. -/
  | stepOpn (node : BitVec 9)
  /-- STEP_JMP (R179): Continues the step list at TARGET. -/
  | stepJmp (target : BitVec 4)
  /-- STEP_DONE (R179): Ends the step-list activation. -/
  | stepDone
  /-- BARR (R217): Counts an arrival at a barrier object and holds the token. -/
  | barr (l : BarrLit) (d : Dests)
  /-- BARR_GENERATION_COMPLETE (R217): Every cluster in scope has arrived, and the held tokens of the generation are sent. -/
  | barrGenerationComplete (c : Nat) (id : Nat)
  /-- TRIGGER (R218): On the first data firing, releases at package scope, records the trigger position and signals the launch's trigger count. -/
  | trigger (d : Dests)
  /-- DONE (R219): Records the cluster's exit value on its first firing. -/
  | done (d : Dests)
  /-- CKPT (R220): Forwards a, and halts the cluster at this checkpoint if a pre-emption request is pending. -/
  | ckpt (n : BitVec 8) (d : Dests)
  /-- FORK (R224): Releases, builds a continuation record and pushes it onto the deque head. -/
  | fork (l : EntryLit) (d : Dests)
  /-- JOIN (R227): Releases and atomically decrements a join object, pushing its continuation when the count reaches zero. -/
  | join (d : Dests)
  /-- PARK (R225): Parks the activation as a continuation that waits on a completion object. -/
  | park (kind : ParkKind) (l : EntryLit) (d : Dests)
  /-- PARK_WAKE (R225): The condition of a parked record holds, and the record is pushed onto the deque with the object's stamp. -/
  | parkWake (c : Nat) (k : Nat)
  /-- RESUME (R226): Reads a continuation record from process memory and pushes it. -/
  | resume (d : Dests)
  /-- TASK_RESUME (R228): The task unit acquires, allocates a frame and delivers the groups of the deque-head record. -/
  | taskResume (c : Nat)
  /-- FRAME_JOIN (R228): A resumed frame with a join pointer is freed, and the task unit performs a JOIN on it. -/
  | frameJoin (c : Nat)
  /-- STEAL_REQUEST (R229): An idle cluster sends a steal request to its steal-ring successor. -/
  | stealRequest (c : Nat)
  /-- STEAL_SERVE (R229): The victim moves its deque tail record, with its stamps, to the thief. -/
  | stealServe (c : Nat)
  /-- ADD (R236): Lane-wise wrapping addition. -/
  | add (sg : Bool) (b : BSrc) (d : Dests)
  /-- SUB (R236): Lane-wise wrapping subtraction. -/
  | sub (sg : Bool) (b : BSrc) (d : Dests)
  /-- MUL (R236): Lane-wise low product. -/
  | mul (sg : Bool) (b : BSrc) (d : Dests)
  /-- MULH (R236): Lane-wise high half of the product. -/
  | mulh (sg : Bool) (b : BSrc) (d : Dests)
  /-- DIV (R237): Lane-wise truncating division. -/
  | div (sg : Bool) (b : BSrc) (d : Dests)
  /-- REM (R237): Lane-wise remainder. -/
  | rem (sg : Bool) (b : BSrc) (d : Dests)
  /-- MIN (R236): Lane-wise minimum. -/
  | min_ (sg : Bool) (b : BSrc) (d : Dests)
  /-- MAX (R236): Lane-wise maximum. -/
  | max_ (sg : Bool) (b : BSrc) (d : Dests)
  /-- CMP (R238): Lane-wise comparison giving all ones or zero. -/
  | cmp (sg : Bool) (cond : Cond) (b : BSrc) (d : Dests)
  /-- AND (R236): Lane-wise AND. -/
  | and_ (b : BSrc) (d : Dests)
  /-- OR (R236): Lane-wise OR. -/
  | or_ (b : BSrc) (d : Dests)
  /-- XOR (R236): Lane-wise XOR. -/
  | xor (b : BSrc) (d : Dests)
  /-- ANDN (R236): Lane-wise AND with the complement of b. -/
  | andn (b : BSrc) (d : Dests)
  /-- ROTL (R236): Lane-wise left rotation. -/
  | rotl (b : BSrc) (d : Dests)
  /-- ROTR (R236): Lane-wise right rotation. -/
  | rotr (b : BSrc) (d : Dests)
  /-- SHL (R236): Lane-wise left shift. -/
  | shl (sg : Bool) (b : BSrc) (d : Dests)
  /-- SHR (R236): Lane-wise logical or arithmetic right shift. -/
  | shr (sg : Bool) (b : BSrc) (d : Dests)
  /-- NEG (R239): Lane-wise negation. -/
  | neg (d : Dests)
  /-- ABS (R239): Lane-wise absolute value. -/
  | abs (d : Dests)
  /-- NOT (R239): Lane-wise complement. -/
  | not_ (d : Dests)
  /-- CLZ (R239): Lane-wise count of leading zeros. -/
  | clz (d : Dests)
  /-- CTZ (R239): Lane-wise count of trailing zeros. -/
  | ctz (d : Dests)
  /-- POPC (R239): Lane-wise population count. -/
  | popc (d : Dests)
  /-- ADDS (R240): Lane-wise saturating addition. -/
  | adds (sg : Bool) (b : BSrc) (d : Dests)
  /-- SUBS (R240): Lane-wise saturating subtraction. -/
  | subs (sg : Bool) (b : BSrc) (d : Dests)
  /-- MULS (R240): Lane-wise saturating multiplication. -/
  | muls (sg : Bool) (b : BSrc) (d : Dests)
  /-- SHLS (R240): Lane-wise saturating left shift. -/
  | shls (sg : Bool) (b : BSrc) (d : Dests)
  /-- ABSS (R240): Lane-wise saturating absolute value. -/
  | abss (d : Dests)
  /-- CLAMP (R241): Clamps each lane of a between the lanes of b and c. -/
  | clamp (sg : Bool) (d : Dests)
  /-- SHRR (R242): Rounding right shift. -/
  | shrr (sg : Bool) (tie : TieMode) (b : BSrc) (d : Dests)
  /-- RQUANT (R244): Requantises 32-bit accumulators to codes of the output width. -/
  | rquant (sg : Bool) (l : RqLit) (d : Dests)
  /-- BFX (R245): Extracts a bit field from each lane. -/
  | bfx (sg : Bool) (l : FieldLit) (d : Dests)
  /-- BFI (R245): Inserts a bit field into each lane. -/
  | bfi (l : FieldLit) (d : Dests)
  /-- BREV (R246): Reverses the bits of each lane. -/
  | brev (d : Dests)
  /-- SEXT (R246): Sign-extends each lane from a width. -/
  | sext (wm1 : BitVec 6) (d : Dests)
  /-- ZEXT (R246): Zero-extends each lane from a width. -/
  | zext (wm1 : BitVec 6) (d : Dests)
  /-- PADD (R248): Advances a bit pointer by an index times the element size. -/
  | padd (n : BitVec 16) (d : Dests)
  /-- PSUB (R248): Gives the element distance between two pointers. -/
  | psub (n : BitVec 16) (d : Dests)
  /-- PALN (R249): Aligns a pointer down to a multiple of AL bits. -/
  | paln (n : BitVec 16) (d : Dests)
  /-- PCHK (R249): Reports the alignment class and sector crossing of an access. -/
  | pchk (n : BitVec 7) (d : Dests)
  /-- PCVT (R250): Converts between bit pointers and byte addresses. -/
  | pcvt (toByte : Bool) (d : Dests)
  /-- PSPC (R251): Reads or replaces a pointer's space tag. -/
  | pspc (sel : PspcSel) (d : Dests)
  /-- FADD (R255): Floating-point addition, rounded once. -/
  | fadd (rm : RMode) (cls : FCls) (b : BSrc) (d : Dests)
  /-- FSUB (R255): Floating-point subtraction. -/
  | fsub (rm : RMode) (cls : FCls) (b : BSrc) (d : Dests)
  /-- FMUL (R255): Floating-point multiplication. -/
  | fmul (rm : RMode) (cls : FCls) (b : BSrc) (d : Dests)
  /-- FDIV (R255): Floating-point division. -/
  | fdiv (rm : RMode) (cls : FCls) (b : BSrc) (d : Dests)
  /-- FSCLB (R255): Scales by a power of two. -/
  | fsclb (rm : RMode) (cls : FCls) (b : BSrc) (d : Dests)
  /-- FMA (R255): Fused multiply-add. -/
  | fma (rm : RMode) (cls : FCls) (d : Dests)
  /-- FNMA (R255): Fused negated multiply-add. -/
  | fnma (rm : RMode) (cls : FCls) (d : Dests)
  /-- FSQRT (R255): Square root. -/
  | fsqrt (rm : RMode) (cls : FCls) (d : Dests)
  /-- FRSQ (R255): Reciprocal square root. -/
  | frsq (rm : RMode) (cls : FCls) (d : Dests)
  /-- FRCP (R255): Reciprocal. -/
  | frcp (rm : RMode) (cls : FCls) (d : Dests)
  /-- FRINT (R255): Rounds to an integer value. -/
  | frint (rm : RMode) (cls : FCls) (d : Dests)
  /-- FMIN (R256): Floating-point minimum. -/
  | fmin (cls : FCls) (b : BSrc) (d : Dests)
  /-- FMAX (R256): Floating-point maximum. -/
  | fmax (cls : FCls) (b : BSrc) (d : Dests)
  /-- FMINM (R256): Operand of lesser magnitude. -/
  | fminm (cls : FCls) (b : BSrc) (d : Dests)
  /-- FMAXM (R256): Operand of greater magnitude. -/
  | fmaxm (cls : FCls) (b : BSrc) (d : Dests)
  /-- FABS (R256): Clears the sign bit. -/
  | fabs (cls : FCls) (d : Dests)
  /-- FNEG (R256): Inverts the sign bit. -/
  | fneg (cls : FCls) (d : Dests)
  /-- FCLASS (R256): Classifies each lane as a one-hot mask. -/
  | fclass (cls : FCls) (d : Dests)
  /-- FCPYS (R256): Copies the sign of b onto a. -/
  | fcpys (cls : FCls) (b : BSrc) (d : Dests)
  /-- FCMP (R256): Floating-point comparison giving all ones or zero. -/
  | fcmp (cond : Cond) (cls : FCls) (b : BSrc) (d : Dests)
  /-- CVTFF (R257): Converts between a stored format and a float lane class, applying the block scale. -/
  | cvtff (toFd : Bool) (rm : RMode) (cls : FCls) (fd : BitVec 32) (d : Dests)
  /-- CVTFI (R258): Converts float lanes to an integer format. -/
  | cvtfi (rm : RMode) (cls : FCls) (fd : BitVec 32) (d : Dests)
  /-- CVTIF (R258): Converts integer codes to float lanes. -/
  | cvtif (rm : RMode) (cls : FCls) (fd : BitVec 32) (d : Dests)
  /-- FEXP2 (R259): 2^x. -/
  | fexp2 (rm : RMode) (cls : FCls) (d : Dests)
  /-- FEXPE (R259): e^x. -/
  | fexpe (rm : RMode) (cls : FCls) (d : Dests)
  /-- FLOG2 (R259): log2 x. -/
  | flog2 (rm : RMode) (cls : FCls) (d : Dests)
  /-- FTANH (R259): tanh x. -/
  | ftanh (rm : RMode) (cls : FCls) (d : Dests)
  /-- FSIG (R259): Logistic sigmoid. -/
  | fsig (rm : RMode) (cls : FCls) (d : Dests)
  /-- FSINP (R259): sin(πx). -/
  | fsinp (rm : RMode) (cls : FCls) (d : Dests)
  /-- FCOSP (R259): cos(πx). -/
  | fcosp (rm : RMode) (cls : FCls) (d : Dests)
  /-- SCLMAX (R260): Computes an S16 block scale for a format from the lanes' maximum magnitude. -/
  | sclmax (fd : BitVec 32) (d : Dests)
  /-- SCLGET (R261): Sends a token's block scale as a scalar. -/
  | sclget (d : Dests)
  /-- SCLSET (R261): Forwards a with a new block scale. -/
  | sclset (b : BSrc) (d : Dests)
  /-- VCTX (R262): Establishes a colour, re-reads the payload under it and sends the grant. -/
  | vctx (qm1 : BitVec 5) (cl2 : BitVec 3) (d : Dests)
  /-- VPACK (R263): Joins the lanes of a and b. -/
  | vpack (d : Dests)
  /-- VUNPACK (R263): Splits the lanes into two halves. -/
  | vunpack (d : Dests)
  /-- VSPLAT (R263): Replicates one lane. -/
  | vsplat (gl2 : BitVec 3) (lane : BitVec 5) (d : Dests)
  /-- VPERM (R263): Permutes lanes by an index operand. -/
  | vperm (d : Dests)
  /-- VEXT (R263): Extracts one lane as a scalar. -/
  | vext (lane : BitVec 5) (d : Dests)
  /-- VINS (R263): Replaces one lane with lane 0 of b. -/
  | vins (lane : BitVec 5) (d : Dests)
  /-- VSEL (R263): Lane-wise selection by mask. -/
  | vsel (d : Dests)
  /-- VREDADD (R264): Sums the lanes of a token. -/
  | vredadd (ty : ElemTy) (d : Dests)
  /-- VREDMIN (R264): Least lane of a token. -/
  | vredmin (ty : ElemTy) (d : Dests)
  /-- VREDMAX (R264): Greatest lane of a token. -/
  | vredmax (ty : ElemTy) (d : Dests)
  /-- VSCAN (R264): In-token prefix sum. -/
  | vscan (ty : ElemTy) (d : Dests)
  /-- RED (R266): Takes the next member of a dimension into a lane-wise sum and emits the total at its close. -/
  | red (ty : ElemTy) (d : Dests)
  /-- SCAN (R267): Emits the running lane-wise sum for each member of a dimension. -/
  | scan (ty : ElemTy) (d : Dests)
  /-- ARGMAX (R268): Tracks the greatest value and position of each lane across a dimension. -/
  | argmax (ty : ElemTy) (d : Dests)
  /-- ARGMIN (R268): Tracks the least value and position of each lane across a dimension. -/
  | argmin (ty : ElemTy) (d : Dests)
  /-- SORTK (R269): Keeps the K best elements of a dimension and emits them with their indices. -/
  | sortk (ty : ElemTy) (km1 : BitVec 6) (asc : Bool) (d : Dests)
  /-- CHAIN (R271): Applies up to three nodes of its PE in turn to a. -/
  | chain (l : ChainLit) (d : Dests)
  /-- EOD (R270): Forwards a with its end-of-dimension level set. -/
  | eod (n : BitVec 2) (d : Dests)
  /-- CNTR (R270): Counts the members of a dimension and marks every L-th. -/
  | cntr (n : BitVec 16) (d : Dests)
  /-- RNG (R272): Counter-based random 32-bit integers. -/
  | rng (d : Dests)
  /-- RNGF (R272): Counter-based random FP32 values in [0, 1). -/
  | rngf (d : Dests)
  /-- LD (R278): Wave-ordered scalar load. -/
  | ld (sg : Bool) (wm1 : BitVec 6) (w : WaveLit) (d : Dests)
  /-- LDV (R278): Wave-ordered vector load. -/
  | ldv (sg : Bool) (wm1 : BitVec 6) (w : WaveLit) (d : Dests)
  /-- LDX (R280): Scalar load with displacement and no wave order. -/
  | ldx (sg : Bool) (wm1 : BitVec 6) (k : BitVec 32) (d : Dests)
  /-- LOAD_DATA_RETURN (R274): A load's data return and leave the tile as a token. -/
  | loadDataReturn (c : Nat) (k : Nat)
  /-- VIEW_CACHE_FILL (R41): A fill installs its line, merged with the cluster's undrained own entries. -/
  | viewCacheFill (c : Nat) (line : Nat)
  /-- PREF (R281): Requests a line into the view cache. -/
  | pref (d : Dests)
  /-- LDB (R290): Loads one block through a stream endpoint. -/
  | ldb (n : BitVec 8) (d : Dests)
  /-- ST (R278): Wave-ordered scalar store. -/
  | st (wm1 : BitVec 6) (w : WaveLit) (d : Dests)
  /-- STV (R278): Wave-ordered vector store. -/
  | stv (wm1 : BitVec 6) (w : WaveLit) (d : Dests)
  /-- STX (R278): Scalar store with displacement and no wave order. -/
  | stx (wm1 : BitVec 6) (k : BitVec 32) (d : Dests)
  /-- STB (R290): Stores one block received at a stream endpoint. -/
  | stb (n : BitVec 8) (d : Dests)
  /-- STRMGO (R283): Starts a stream on an endpoint from a configuration token. -/
  | strmgo (n : BitVec 8) (d : Dests)
  /-- STREAM_TOKEN_EMIT (R285): An into-fabric stream emits its next token, or a bubble. -/
  | streamTokenEmit (c : Nat) (port : Nat)
  /-- STREAM_TOKEN_ACCEPT (R286): An out-of-fabric stream accepts a token and writes its elements. -/
  | streamTokenAccept (c : Nat) (port : Nat)
  /-- STREAM_END (R287): A stream ends and STRMGO sends its element count. -/
  | streamEnd (c : Nat) (port : Nat)
  /-- STRMEND (R289): Stops the stream on an endpoint. -/
  | strmend (n : BitVec 8) (d : Dests)
  /-- STRMST (R289): Reports a stream's state and count. -/
  | strmst (n : BitVec 8) (d : Dests)
  /-- ATOM (R291): Integer atomic at the home. -/
  | atom (w64 : Bool) (op : AtomOp) (w : WaveLit) (d : Dests)
  /-- ATOMF (R291): Floating-point atomic at the home. -/
  | atomf (op : FAtomOp) (f64 : Bool) (w : WaveLit) (d : Dests)
  /-- ACAS (R291): Atomic compare and swap. -/
  | acas (w64 : Bool) (w : WaveLit) (d : Dests)
  /-- ATOMIC_HOME_EXEC (R91): After the requester's galley has drained, the atomic executes at the home as one step of home order. -/
  | atomicHomeExec (c : Nat) (k : Nat)
  /-- ATOMIC_RETURN (R91): The old value returns and the requester invalidates the word's view-cache line. -/
  | atomicReturn (c : Nat) (k : Nat)
  /-- REL (R293): Sets P := A for the cluster's galley under a scope. -/
  | rel (scope : RelScope) (w : WaveLit) (d : Dests)
  /-- REL_SCOPE_REACHED (R82): A release's scope guarantee holds and its output is emitted. -/
  | relScopeReached (c : Nat) (k : Nat)
  /-- ACQ (R294): Acquires named galleys up to positions. -/
  | acq (w : WaveLit) (d : Dests)
  /-- ACQ_COMPLETE (R84): The mirror reaches q, the view cache is invalidated, a marker is appended and the outputs leave. -/
  | acqComplete (c : Nat) (k : Nat)
  /-- GPOS (R295): Reads a galley position. -/
  | gpos (sel : GposSel) (d : Dests)
  /-- FENCE (R292): Wave member performed once earlier accesses have completed. -/
  | fence (w : WaveLit) (d : Dests)
  /-- FENCE_PERFORMED (R292): The accesses before a FENCE have completed and it sends its output. -/
  | fencePerformed (c : Nat) (k : Nat)
  /-- QPUSH (R296): Claims a queue slot, writes the payload, releases and marks the slot filled. -/
  | qpush (d : Dests)
  /-- QPOP (R297): Takes the next queue entry. -/
  | qpop (d : Dests)
  /-- QPOP_COMPLETE (R297): The pusher's drain passes the stamp, and the pop acquires, reads and releases the slot. -/
  | qpopComplete (c : Nat) (k : Nat)
  /-- REMOTE_ABUF_ACCESS (R39): A tag 0x7 access arrives at the target cluster's A-buffer bank. -/
  | remoteAbufAccess (k : Nat)
  /-- MXCMD (R321): Builds a control token from a template. -/
  | mxcmd (n : BitVec 4) (d : Dests)
  /-- MXSEQ (R322): Runs a step list that emits and patches control tokens. -/
  | mxseq (l : ListLit) (d : Dests)
  /-- MXEXEC (R320): Checks and accepts a control token and sends its ticket. -/
  | mxexec (d : Dests)
  /-- MMUL (R312): The array starts an accepted matrix product whose predecessors have retired. -/
  | mmul (c : Nat)
  /-- MZERO (R311): The array zeroes an m × n region of the C-store. -/
  | mzero (c : Nat)
  /-- MNOP (R311): A command that only orders retires once its predecessors have. -/
  | mnop (c : Nat)
  /-- MXE_GROUP (R313): The array completes one k-group, checks its checksum and writes the C entries. -/
  | mxeGroup (c : Nat) (upset : List (Nat × Nat))
  /-- MXE_RETIRE (R306): A command retires and MXE_TLc advances. -/
  | mxeRetire (c : Nat) (move : MxeMove)
  /-- MXIN (R323): Writes codes into the C-store as a command of the graph. -/
  | mxin (token : Bool) (fp : Bool) (d : Dests)
  /-- MXOUT (R324): Runs the epilogue on a C-store region as a command of the graph. -/
  | mxout (l : MxoutLit) (d : Dests)
  /-- MXCHK (R325): Sends a command's status once its ticket has retired. -/
  | mxchk (d : Dests)
  /-- MXWAIT (R326): Forwards a once its ticket has retired. -/
  | mxwait (d : Dests)
  /-- TICKET_RETIRED (R325): The awaited ticket retires and a waiting MXCHK or MXWAIT sends its output. -/
  | ticketRetired (c : Nat) (k : Nat)
  /-- MXTL (R326): Sends an MXE context timeline. -/
  | mxtl (d : Dests)
  /-- CPGO (R331): Writes a chain head into a channel's CH_HEAD. -/
  | cpgo (ch : BitVec 2) (d : Dests)
  /-- CPSTAT (R332): Reads a channel's CH_STAT and CH_HEAD. -/
  | cpstat (ch : BitVec 2) (d : Dests)
  /-- TLREAD (R333): Reads a timeline. -/
  | tlread (sel : TlSel) (d : Dests)
  /-- TLWAIT (R333): Waits until a timeline reaches n. -/
  | tlwait (sel : TlSel) (d : Dests)
  /-- WTANY (R334): Waits for any named copy tag. -/
  | wtany (d : Dests)
  /-- WTALL (R334): Waits for all named copy tags. -/
  | wtall (d : Dests)
  /-- WTFF (R334): Waits for the lowest named ready copy tag. -/
  | wtff (d : Dests)
  /-- TAGCLR (R334): Clears copy tags. -/
  | tagclr (d : Dests)
  /-- RAWAIT (R336): Waits for a filled ring slot and acquires its stamp. -/
  | rawait (d : Dests)
  /-- RSREL (R336): Releases the head ring slot. -/
  | rsrel (d : Dests)
  /-- RAPEEK (R336): Reads a ring's fill and claim counts. -/
  | rapeek (d : Dests)
  /-- WAIT_COMPLETE (R330): A waiting match finds its condition holding, acquires and sends its outputs. -/
  | waitComplete (c : Nat) (k : Nat)
  /-- TRAP (R337): Writes a USER_TRAP record and optionally ends the unit. -/
  | trap (endU : Bool) (code : BitVec 16) (d : Dests)
  /-- FLAGS (R338): Reads the unit's sticky flags. -/
  | flags (d : Dests)
  /-- FLCLR (R338): Clears the unit's sticky flags. -/
  | flclr (d : Dests)
  /-- PERF (R339): Reads a cluster performance register. -/
  | perf (index : BitVec 12) (d : Dests)
  /-- CYCL (R340): Reads CL_CYCLE. -/
  | cycl (d : Dests)
  /-- SUBCNT (R340): Reads CL_SUBST. -/
  | subcnt (d : Dests)
  /-- SYSQ (R342): Releases and submits a request record to a submission queue. -/
  | sysq (n : BitVec 10) (d : Dests)
  /-- SYSQ_REQUEST (R374): The firmware acquires, reads and validates a SYSQ request record and answers. -/
  | sysqRequest (k : Nat)
  /-- BRK (R343): Breakpoint that may halt the cluster. -/
  | brk (n : BitVec 16) (d : Dests)
  /-- IDENT (R341): Sends an identity value. -/
  | ident (sel : IdentSel) (d : Dests)
  /-- SYSRD (R344): Reads a system register. -/
  | sysrd (d : Dests)
  /-- SYSWR (R344): Writes a system register. -/
  | syswr (d : Dests)
  /-- TOKEN_ARRIVE (R131): A token arrives at a unit and joins or opens a matching entry, or spills. -/
  | tokenArrive (k : Nat)
  /-- OVERFLOW_REFILL (R132): A freed matching entry is refilled from the overflow store. -/
  | overflowRefill (c : Nat) (u : Nat)
  /-- MATCH_PROMOTE (R137): A complete match's age counter reaches 1,024 and it is promoted. -/
  | matchPromote (c : Nat) (k : Nat)
  /-- TAG_OP_APPLY (R128): The frame owner applies a token's tag-op and forwards it, or holds it. -/
  | tagOpApply (k : Nat)
  /-- HELD_TOKEN_GRANT (R130): Held tokens waiting for a freed slot are granted and forwarded. -/
  | heldTokenGrant (c : Nat) (f : Nat) (slot : Nat)
  /-- FRAME_ALLOC_WAKE (R126): A frame entry is freed and a waiting allocation proceeds. -/
  | frameAllocWake (c : Nat) (k : Nat)
  /-- VC_STARVATION_PRIORITY (R141): A virtual channel refused for 256 cycles is served first. -/
  | vcStarvationPriority (link : Nat) (dir : Bool)
  /-- WALK_COMPLETE (R50): A table walk ends, fills the L2 and L1 TLB, or faults. -/
  | walkComplete (c : Nat) (k : Nat)
  /-- PTE_LOST (R56): Both copies of a table entry are bad; the walking SID is quiesced and records are written. -/
  | pteLost (c : Nat) (k : Nat)
  /-- QUIESCE_SHARED_SIDS (R56): The firmware quiesces the other SIDs that share the lost table. -/
  | quiesceSharedSids (pa : Nat) (sids : List Nat)
  /-- TLB_INV_PAGE (R54): GO with SCOPE 00 invalidates one page of a SID. -/
  | tlbInvPage (sid : Nat) (va : Nat) (size : Nat)
  /-- TLB_INV_SID (R54): GO with SCOPE 01 invalidates every entry of a SID. -/
  | tlbInvSid (sid : Nat)
  /-- TLB_INV_ALL (R54): GO with SCOPE 10 invalidates every entry. -/
  | tlbInvAll
  /-- TLB_INV_DONE (R54): No matching entry or in-flight access remains and BUSY falls. -/
  | tlbInvDone
  /-- DIRTY_BIT_UPDATE (R71): A store or atomic sets DIRTY and clears CP in both copies of the leaf at the home. -/
  | dirtyBitUpdate (c : Nat) (k : Nat)
  /-- WRITE_BACK_SCAN (R72): The scanner marks a dirty file-backed page clean-pending, invalidates it and queues it. -/
  | writeBackScan (sid : Nat) (va : Nat)
  /-- WRITE_BACK_COMPLETE (R72): A flash write completes and DIRTY and CP are cleared if CP is still 1. -/
  | writeBackComplete (sid : Nat) (va : Nat)
  /-- LEASE_GRANTED (R58): Nymtor reports a launch's lease granted. -/
  | leaseGranted (slot : Nat)
  /-- LEASE_RELEASE (R61): The launch has completed and its galleys have drained, and the lease is released. -/
  | leaseRelease (slot : Nat)
  /-- REPAIR_PASS_START (R68): A quiescent main pass with non-empty skip lists re-injects its start tokens for the repair pass. -/
  | repairPassStart (c : Nat)
  /-- DRAIN_ENTRY (R81): The drain engine reads the next galley entry and sends it to its compactor. -/
  | drainEntry (g : Nat)
  /-- COMPACTOR_FOLD (R81): A compactor folds an entry into the base image and D advances. -/
  | compactorFold (g : Nat) (home : Nat)
  /-- GAL_LOST (R98): An entry header is uncorrectable; it is skipped and GAL_LOST records are written. -/
  | galLost (g : Nat)
  /-- MIRROR_UPDATE (R82): A position mirror receives a galley's new P or D. -/
  | mirrorUpdate (d : Nat) (g : Nat)
  /-- GALLEY_FULL_RESUME (R96): D advances on a full ring and waiting appends proceed. -/
  | galleyFullResume (g : Nat)
  /-- VC_INVAL_ALL (R42): Writing INVAL_ALL starts a full view-cache invalidation. -/
  | vcInvalAll (c : Nat)
  /-- VC_INVAL_DONE (R42): A full view-cache invalidation completes and BUSY falls. -/
  | vcInvalDone (c : Nat)
  /-- CH_HEAD_WRITE (R102): A write to CH_HEAD starts a channel or is refused. -/
  | chHeadWrite (c : Nat) (ch : Nat) (v : Word)
  /-- RECORD_FETCH (R103): After the drain wait, a channel reads a transfer record, checks it, or stops at OWN = 0. -/
  | recordFetch (c : Nat) (ch : Nat)
  /-- RING_SLOT_CLAIM (R116): A ring record claims a slot once one is free. -/
  | ringSlotClaim (c : Nat) (ch : Nat)
  /-- COPY_MOVE (R106): A channel moves the elements of a record in loop order. -/
  | copyMove (c : Nat) (ch : Nat)
  /-- RECORD_RETIRE (R111): A record retires: OWN write, release, timeline, tag and ring slot, then the next record. -/
  | recordRetire (c : Nat) (ch : Nat)
  /-- CL_READY_CLEAR (R112): A W1C write to CL_READY clears bits and their stamps. -/
  | clReadyClear (c : Nat) (m : Word)
  /-- RING_ENABLE (R114): A CL_RING_CFG write setting EN = 1 enables a ring, or is ignored. -/
  | ringEnable (c : Nat) (r : Nat) (cfg : Word)
  /-- RING_DISABLE (R114): Writing EN := 0 resets a ring's pointers and discards its stamps. -/
  | ringDisable (c : Nat) (r : Nat)
  /-- PE_MODE_WRITE (R159): A write to PE_MODE takes effect only while no forme is loaded. -/
  | peModeWrite (c : Nat) (u : Nat) (v : Word)
  /-- PE_XEN_WRITE (R159): A write to PE_XEN takes effect only while no forme is loaded. -/
  | peXenWrite (c : Nat) (u : Nat) (v : Word)
  /-- PE_FLAGS_CLEAR (R160): A W1C write clears flag bits. -/
  | peFlagsClear (c : Nat) (u : Nat) (v : Word)
  /-- CNT_ARM (R358): ARM on a free counter. -/
  | cntArm (n : Nat) (pv : Bool) (parent : Nat) (arg : Nat)
  /-- CNT_ADD (R358): ADD to an armed counter's REMAIN. -/
  | cntAdd (n : Nat) (arg : Nat)
  /-- CNT_CANCEL (R360): CANCEL on an armed counter frees bound slots and cancels running units. -/
  | cntCancel (n : Nat)
  /-- CNT_FREE (R358): FREE of a completed counter. -/
  | cntFree (n : Nat)
  /-- CNT_SIGNAL (R359): A signal decrements REMAIN and completes the counter at zero, signalling its parent. -/
  | cntSignal (n : Nat)
  /-- SLOT_COMMIT (R363): COMMIT checks the staging words and binds them into a slot. -/
  | slotCommit
  /-- DISPATCH_START (R365): Dispatch starts a ready slot: arms the counter, loads and checks the forme, reserves, acquires and injects start tokens. -/
  | dispatchStart (slot : Nat)
  /-- UNIT_END (R367): A quiescent unit releases, writes its exit value, counts its trigger, frees the root and signals LCNT. -/
  | unitEnd (c : Nat)
  /-- UNIT_FAULT (R367): A fault ends a unit and dispatch cancels the other units of its launch. -/
  | unitFault (c : Nat)
  /-- FAULT_RECORD_WRITE (R389): The hub fault agent writes a fault record into its queue or counts it lost. -/
  | faultRecordWrite (j : Nat)
  /-- GRAPH_REPLAY (R371): The firmware snapshots the parameter page and binds a graph's nodes. -/
  | graphReplay (g : Nat)
  /-- QUEUE_BIND (R372): The firmware binds a queue head by level and deficit round robin. -/
  | queueBind
  /-- QUEUE_AGE (R372): A head request's wait passes another T_age and its level rises or it becomes due. -/
  | queueAge (q : Nat)
  /-- DRONE_BIND (R373): A drone request or the hum forme is bound at PRIO 8 on free clusters. -/
  | droneBind
  /-- HANG (R376): A partition quiet for CL_QUIET cycles is halted, mapped and reported. -/
  | hang (slot : Nat)
  /-- OBJECT_LOAD (R380): The translator service checks a code object and records it in the code heap. -/
  | objectLoad (k : Nat)
  /-- TRANSLATION_RECORD (R382): A translator launch completes and its native image is checked and recorded. -/
  | translationRecord (obj : Nat) (forme : Nat)
  /-- NATIVE_SWAP (R383): At a safe point a unit re-addresses its tokens and changes to the native image. -/
  | nativeSwap (c : Nat)
  /-- KERNEL_RESTART (R387): The system cores restart into the inactive kernel slot and adopt the handover table. -/
  | kernelRestart (measured : Bool)
  /-- CHECK_REPLAY (R393): The two performances of a firing disagree and the history is replayed. -/
  | checkReplay (c : Nat) (u : Nat) (rounds : Nat)
  /-- PE_RETIRED (R393): A failing PE is replaced by a spare that takes over its logical index. -/
  | peRetired (c : Nat) (u : Nat) (agrees : Bool)
  /-- STATE_LOST (R392): An uncorrectable error in a stored structure is handled or ends the unit. -/
  | stateLost (c : Nat) (u : Nat) (structure_ : Nat) (entry : Option Nat)
  /-- TRAP_STOP (R397): The first ARITH_TRAP under trap=stop freezes the launch's stream endpoints. -/
  | trapStop (slot : Nat)
  /-- STOP_MAP (R397): After 4,096 quiet cycles the stopped partition halts and its map is written. -/
  | stopMap (slot : Nat)
  /-- CLUSTER_REMAP (R400): The firmware remaps a degraded cluster onto a spare site. -/
  | clusterRemap (c : Nat)
  /-- MIRROR_REBUILD (R402): A position mirror with an uncorrectable error is rebuilt from the galley units. -/
  | mirrorRebuild (d : Nat)
  /-- DIE_FAULT (R402): An uncontainable die error halts the package and writes DIE_FAULT and STATE_LOST. -/
  | dieFault (d : Nat)
  /-- PREEMPT (R406): OP 01 pre-empts a running slot. -/
  | preempt (slot : Nat)
  /-- PREEMPT_FORCE_HALT (R406): A cluster not halted 5 µs after acceptance is forced to halt. -/
  | preemptForceHalt (c : Nat)
  /-- CONTEXT_SWAP (R406): Once the partition is halted and drained, each cluster releases and swaps its context into its shadow store. -/
  | contextSwap (slot : Nat)
  /-- LIVE_RANGE_SAVE (R409): A cluster saves its live ranges and writes its image through to HBM. -/
  | liveRangeSave (c : Nat)
  /-- RESTORE (R411): OP 10 restores a saved slot onto a target partition; `bad` names the clusters whose shadow store
  reads with an uncorrectable error. -/
  | restore (slot : Nat) (bad : List Nat)
  /-- SNAPSHOT (R412): OP 11 writes images of a debug-halted slot. -/
  | snapshot (slot : Nat)
  /-- HALT (R413): Writing HALT starts a debug halt in MODE. -/
  | halt (c : Nat)
  /-- RESUME_HALT (R413): Writing RESUME restarts firing, freely or for STEPN firings. -/
  | resumeHalt (c : Nat)
  /-- HALT_COMPLETE (R413): Every unit is idle and every channel has met its mode, and STATE becomes halted. -/
  | haltComplete (c : Nat)
  /-- MBX_DOORBELL (R422): The host writes SQTAIL or CQHEAD. -/
  | mbxDoorbell (cqhead : BitVec 32) (sqtail : BitVec 32)
  /-- MBX_LOAD_OBJECT (R423): OPC 1 loads a code object. -/
  | mbxLoadObject
  /-- MBX_LAUNCH (R423): OPC 2 launches a template with parameters. -/
  | mbxLaunch
  /-- MBX_CANCEL (R423): OPC 3 cancels a counter. -/
  | mbxCancel
  /-- MBX_COPY_TO_PROCESS (R423): OPC 4 copies host data into process memory. -/
  | mbxCopyToProcess
  /-- MBX_COPY_TO_HOST (R423): OPC 5 copies process memory to the host. -/
  | mbxCopyToHost
  /-- MBX_ATTEST (R443): OPC 6 writes a signed attestation report. -/
  | mbxAttest
  /-- MBX_COMPLETION_POST (R423): A completion entry is posted to the completion ring. -/
  | mbxCompletionPost
  /-- FLIT_SEND (R427): A die-link sender sends a data flit holding the messages ready at that slot. -/
  | flitSend (l : Nat) (m : Nat) (dir : Bool)
  /-- FLIT_RECEIVE (R427): A receiver delivers or drops a flit and may send a NAK. -/
  | flitReceive (l : Nat) (m : Nat) (dir : Bool) (flips : List Nat)
  /-- NAK_REPLAY (R427): On a NAK the sender resends every held flit above ACK. -/
  | nakReplay (l : Nat) (m : Nat) (dir : Bool)
  /-- CONTROL_FLIT (R427): A control flit carrying ACK and credits is sent when due, at least every 64 ns. -/
  | controlFlit (l : Nat) (m : Nat) (dir : Bool)
  /-- LANE_FAILURE (R428): A lane failure or retrain request retrains the module onto redundant lanes or to x32, then replays. -/
  | laneFailure (l : Nat) (m : Nat) (dir : Bool) (why : Retrain)
  /-- NET_DOORBELL (R432): The doorbell's home notifies the network port of a new value. -/
  | netDoorbell (ctx : Nat)
  /-- PUT (R433): Copies local bits to a peer's galley 1024. -/
  | put (ctx : Nat) (slot : Nat) (status : Nat) (reply : List Byte)
  /-- GET (R433): Copies a peer's bits into local galley 1024. -/
  | get (ctx : Nat) (slot : Nat) (status : Nat) (reply : List Byte)
  /-- CAS (R433): Remote 64-bit compare-and-swap. -/
  | cas (ctx : Nat) (slot : Nat) (status : Nat) (reply : List Byte)
  /-- RADD_I32 (R433): Remote INT32 element-wise atomic add. -/
  | raddI32 (ctx : Nat) (slot : Nat) (status : Nat) (reply : List Byte)
  /-- RADD_F32 (R433): Remote FP32 element-wise atomic add. -/
  | raddF32 (ctx : Nat) (slot : Nat) (status : Nat) (reply : List Byte)
  /-- NET_COMPLETE (R433): A network command completes and the context timeline advances with a release. -/
  | netComplete (ctx : Nat)
  /-- NET_TIMEOUT (R434): A peer does not answer within 1 s and the command fails with status 3. -/
  | netTimeout (ctx : Nat) (slot : Nat)
  /-- STORAGE_READ_COMPLETE (R435): An NVMe read fills a frame through galley 1025. -/
  | storageReadComplete (qp : Nat) (dst : StorageDst) (data : List Byte)
  /-- DEVICE_RESET (R441): Reset starts boot from the root of trust. -/
  | deviceReset (fence : List Nat)
  /-- BOOT_STAGE (R441): A boot stage's image is verified, measured and entered. -/
  | bootStage (stage : Nat) (kslot : Bool) (pset : Nat) (keyid : Nat) (digest : BitVec 256) (verified : Bool)
  /-- THERM_SAMPLE (R446): A die's sensors update every 10 µs and the thermal controller acts on TMAX. -/
  | thermSample (d : Nat) (temps : List (BitVec 12))
  /-- THROTTLE_STEP_UP (R446): Every 100 µs at or above 108 °C the throttle level rises by one. -/
  | throttleStepUp (d : Nat)
  /-- THROTTLE_STEP_DOWN (R446): Every 1 ms below 105 °C the throttle level falls by one. -/
  | throttleStepDown (d : Nat)
  /-- THERM_CRIT (R446): TMAX reaches 120 °C and every fabric cluster halts. -/
  | thermCrit (d : Nat)
  /-- HBM_BAND_CHANGE (R447): A stack crosses a refresh band bound and its refresh and pacing change at the next interval. -/
  | hbmBandChange (k : Nat) (temp : BitVec 12)
  /-- PWR_EVALUATE (R448): Every 1 ms the firmware compares power with the set point and binds or pre-empts drones or moves CAP. -/
  | pwrEvaluate (watts : Nat)
  /-- ISLAND_LEVEL_CHANGE (R444): An island changes level at a firing boundary of its clusters. -/
  | islandLevelChange (i : Nat)
  /-- REGISTER_WRITE (R5): A write to a register that has no row of its own applies under its Access column. -/
  | registerWrite (agent : Agent) (r : RegAddr) (v : Word)
  /-- NET_FADD (R433): A network command with OP 2 performs a fetch-and-add on a naturally aligned 64-bit word at the peer and appends the old value locally. -/
  | netFadd (ctx : Nat) (slot : Nat) (status : Nat) (reply : List Byte)
  /-- PEER_REQUEST (R433): A PUT, GET, FADD, CAS or RADD arriving from a remote peer is executed at this device, appended to galley 1024 and released before it is acknowledged. -/
  | peerRequest (ctx : Nat) (op : Nat) (addr : Nat) (len : Nat) (opnd : Word) (swap : Word) (data : List Byte)
  /-- NET_CONTEXT_RESTART (R434): A stopped network context restarts when Nymtor rewrites word 5 of its entry to zero. -/
  | netContextRestart (ctx : Nat)
  /-- HDM_WINDOW_STORE (R421): A host store through CXL.mem to the HDM window writes the base image directly, with no galley entry. -/
  | hdmWindowStore (pa : Nat) (data : List Byte)
  /-- A_BUFFER_BANK_PRIORITY (R35): A requester refused an A-buffer bank for 16 consecutive cycles is served first in the next cycle in which its bank is free. -/
  | aBufferBankPriority (die : BitVec 2) (cl : BitVec 8) (bank : BitVec 5)
  /-- SYSTEM_CORE_STORE (R75): A system core stores to a process space through the hub translation agent, appending to galley 1026, or writes a page table directly to its base image. -/
  | systemCoreStore (sid : Nat) (addr : Nat) (table : Bool) (data : List Byte)
deriving DecidableEq, Repr

end Sys2Proof
end

