-- ==== Sys2Proof/WellFormed.lean ====
section
/-!
DEFINITION. Which instructions a record may hold: the limits on operand fields that 08 R169 to R173 and the
instruction descriptions state of the record alone. What a record needs of the rest of its forme is checked
by the forme loader (Machine/Loader.lean).
-/
namespace Sys2Proof

/-- 08 R169: UNIT names a unit of 01 R13, and no tag-op or override is 1xx. -/
def Dest.wf : Dest → Bool
  | .local_ u _ _ top => u.toNat ≤ 38 && top.toNat < 4
  | .route _ _ top => top.toNat < 4
  | _ => true

def Dests.wf (d : Dests) : Bool := d.da.wf && d.db.wf

/-- 08 R172. -/
def WaveLit.wf (w : WaveLit) : Bool :=
  1 ≤ w.own.toNat && w.own.toNat ≤ 1022 && !(w.pw && w.sw) &&
  (if w.pw then w.pred.toNat = 0 else w.pred.toNat < w.own.toNat) &&
  (if w.sw then w.succ.toNat = 0 else w.own.toNat < w.succ.toNat)

/-- 11 R243. -/
def RqLit.wf (l : RqLit) : Bool := 1 ≤ l.ow.toNat && l.ow.toNat ≤ 32

/-- 08 R178: START + LEN is at most 64. -/
def ListLit.wf (l : ListLit) : Bool := l.start.toNat + l.lenm1.toNat + 1 ≤ 64

/-- 10 R223: a kind 00 destination with TOP 000 and a unit of 01 R13. -/
def EntryLit.wf (l : EntryLit) : Bool := bits l.entry.toNat 19 14 ≤ 38 && bits l.entry.toNat 2 0 = 0

/-- 12 R271: at most three links, and unused NODE fields are zero. -/
def ChainLit.wf (l : ChainLit) : Bool :=
  l.cntm1.toNat < 3 && (1 ≤ l.cntm1.toNat || l.node1 = 0) && (2 ≤ l.cntm1.toNat || l.node2 = 0)

/-- 15 R324: DMODE is not 11, and PORT is zero unless DMODE is 01. -/
def MxoutLit.wf (l : MxoutLit) : Bool := l.dmode.toNat < 3 && (l.dmode = 1 || l.port = 0)

/-- 12 R252: a literal under a 16-bit lane class has zero upper bits. -/
def FCls.litOk (c : FCls) : BSrc → Bool
  | .port => true
  | .lit v => match c with
    | .f16 | .bf16 => v.toNat < 65536
    | _ => true

/-- 16 R339: the registers PERF reads. -/
def perfIndex (n : Nat) : Bool :=
  (0x040 ≤ n && n ≤ 0x043) || (0x051 ≤ n && n ≤ 0x053) || n = 0x064 || n = 0x065 ||
  (0x0E0 ≤ n && n ≤ 0x0E4) || n = 0x0F0 || n = 0x0F1 || n = 0x0F8 || n = 0x196 || n = 0x197

/-- 12 R257: CVTFF's format is of class 2 to 7. -/
def cvtffFd (fd : BitVec 32) : Bool := Fd.valid fd && 2 ≤ Fd.cls fd

/-- 12 R258: an integer format. -/
def cvtIntFd (fd : BitVec 32) : Bool := Fd.valid fd && Fd.cls fd ≤ 1

/-- 12 R260: any valid format but class 1 with width 1. -/
def sclmaxFd (fd : BitVec 32) : Bool := Fd.valid fd && !(Fd.cls fd = 1 && Fd.width fd = 1)

/-- The limits on an instruction's own fields. A machine step has none: its arguments are not encoded. -/
def Instr.wf : Instr → Bool
  | .mov d => d.wf
  | .const_ _ _ d => d.wf
  | .steer d => d.wf
  | .select d => d.wf
  | .merge d => d.wf
  | .gate d => d.wf
  | .sync2 d => d.wf
  | .sync3 d => d.wf
  | .loopin _ d => d.wf
  | .iend d => d.wf
  | .loopout d => d.wf
  | .talloc _ d => d.wf
  | .tfree d => d.wf
  | .call _ d => d.wf
  | .ret_ d => d.wf
  | .tagget d => d.wf
  | .tagset d => d.wf
  | .iter d => d.wf
  | .wave d => d.wf
  | .waveMarker _ => true
  | .step_ l d => l.wf && d.wf
  | .stepSnop => true
  | .stepLoop _ _ csrc count => !csrc || count = 0
  | .stepSetx _ _ => true
  | .stepAddx _ _ => true
  | .stepEmit _ _ form _ _ => form.toNat ≠ 3
  | .mxseqPatch _ _ _ _ _ => true
  | .stepOpn _ => true
  | .stepJmp _ => true
  | .stepDone => true
  | .barr _ d => d.wf
  | .barrGenerationComplete _ _ => true
  | .trigger d => d.wf
  | .done d => d.wf
  | .ckpt _ d => d.wf
  | .fork l d => l.wf && d.wf
  | .join d => d.wf
  | .park _ l d => l.wf && d.wf
  | .parkWake _ _ => true
  | .resume d => d.wf
  | .taskResume _ => true
  | .frameJoin _ => true
  | .stealRequest _ => true
  | .stealServe _ => true
  | .add _ _ d => d.wf
  | .sub _ _ d => d.wf
  | .mul _ _ d => d.wf
  | .mulh _ _ d => d.wf
  | .div _ _ d => d.wf
  | .rem _ _ d => d.wf
  | .min_ _ _ d => d.wf
  | .max_ _ _ d => d.wf
  | .cmp _ _ _ d => d.wf
  | .and_ _ d => d.wf
  | .or_ _ d => d.wf
  | .xor _ d => d.wf
  | .andn _ d => d.wf
  | .rotl _ d => d.wf
  | .rotr _ d => d.wf
  | .shl _ _ d => d.wf
  | .shr _ _ d => d.wf
  | .neg d => d.wf
  | .abs d => d.wf
  | .not_ d => d.wf
  | .clz d => d.wf
  | .ctz d => d.wf
  | .popc d => d.wf
  | .adds _ _ d => d.wf
  | .subs _ _ d => d.wf
  | .muls _ _ d => d.wf
  | .shls _ _ d => d.wf
  | .abss d => d.wf
  | .clamp _ d => d.wf
  | .shrr _ _ _ d => d.wf
  | .rquant _ l d => l.wf && d.wf
  | .bfx _ _ d => d.wf
  | .bfi _ d => d.wf
  | .brev d => d.wf
  | .sext _ d => d.wf
  | .zext _ d => d.wf
  | .padd n d => n.toNat ≠ 0 && d.wf
  | .psub n d => n.toNat ≠ 0 && d.wf
  | .paln n d => n.toNat ≠ 0 && d.wf
  | .pchk n d => (1 ≤ n.toNat && n.toNat ≤ 64) && d.wf
  | .pcvt _ d => d.wf
  | .pspc _ d => d.wf
  | .fadd _ cls b d => cls.litOk b && d.wf
  | .fsub _ cls b d => cls.litOk b && d.wf
  | .fmul _ cls b d => cls.litOk b && d.wf
  | .fdiv _ cls b d => cls.litOk b && d.wf
  | .fsclb _ _ _ d => d.wf
  | .fma _ _ d => d.wf
  | .fnma _ _ d => d.wf
  | .fsqrt _ _ d => d.wf
  | .frsq _ _ d => d.wf
  | .frcp _ _ d => d.wf
  | .frint _ _ d => d.wf
  | .fmin cls b d => cls.litOk b && d.wf
  | .fmax cls b d => cls.litOk b && d.wf
  | .fminm cls b d => cls.litOk b && d.wf
  | .fmaxm cls b d => cls.litOk b && d.wf
  | .fabs _ d => d.wf
  | .fneg _ d => d.wf
  | .fclass _ d => d.wf
  | .fcpys cls b d => cls.litOk b && d.wf
  | .fcmp _ cls b d => cls.litOk b && d.wf
  | .cvtff _ _ _ fd d => cvtffFd fd && d.wf
  | .cvtfi _ _ fd d => cvtIntFd fd && d.wf
  | .cvtif _ _ fd d => cvtIntFd fd && d.wf
  | .fexp2 _ _ d => d.wf
  | .fexpe _ _ d => d.wf
  | .flog2 _ _ d => d.wf
  | .ftanh _ _ d => d.wf
  | .fsig _ _ d => d.wf
  | .fsinp _ _ d => d.wf
  | .fcosp _ _ d => d.wf
  | .sclmax fd d => sclmaxFd fd && d.wf
  | .sclget d => d.wf
  | .sclset b d => FCls.litOk .f16 b && d.wf
  | .vctx _ cl2 d => cl2.toNat < 7 && d.wf
  | .vpack d => d.wf
  | .vunpack d => d.wf
  | .vsplat gl2 _ d => gl2.toNat < 6 && d.wf
  | .vperm d => d.wf
  | .vext _ d => d.wf
  | .vins _ d => d.wf
  | .vsel d => d.wf
  | .vredadd _ d => d.wf
  | .vredmin _ d => d.wf
  | .vredmax _ d => d.wf
  | .vscan _ d => d.wf
  | .red _ d => d.wf
  | .scan _ d => d.wf
  | .argmax _ d => d.wf
  | .argmin _ d => d.wf
  | .sortk _ _ _ d => d.wf
  | .chain l d => l.wf && d.wf
  | .eod n d => n.toNat ≠ 0 && d.wf
  | .cntr _ d => d.wf
  | .rng d => d.wf
  | .rngf d => d.wf
  | .ld _ _ w d => w.wf && d.wf
  | .ldv _ _ w d => w.wf && d.wf
  | .ldx _ _ _ d => d.wf
  | .loadDataReturn _ _ => true
  | .viewCacheFill _ _ => true
  | .pref d => d.wf
  | .ldb _ d => d.wf
  | .st _ w d => w.wf && d.wf
  | .stv _ w d => w.wf && d.wf
  | .stx _ _ d => d.wf
  | .stb _ d => d.wf
  | .strmgo _ d => d.wf
  | .streamTokenEmit _ _ => true
  | .streamTokenAccept _ _ => true
  | .streamEnd _ _ => true
  | .strmend _ d => d.wf
  | .strmst _ d => d.wf
  | .atom _ _ w d => w.wf && d.wf
  | .atomf _ _ w d => w.wf && d.wf
  | .acas _ w d => w.wf && d.wf
  | .atomicHomeExec _ _ => true
  | .atomicReturn _ _ => true
  | .rel _ w d => w.wf && d.wf
  | .relScopeReached _ _ => true
  | .acq w d => w.wf && d.wf
  | .acqComplete _ _ => true
  | .gpos _ d => d.wf
  | .fence w d => w.wf && d.wf
  | .fencePerformed _ _ => true
  | .qpush d => d.wf
  | .qpop d => d.wf
  | .qpopComplete _ _ => true
  | .remoteAbufAccess _ => true
  | .mxcmd _ d => d.wf
  | .mxseq l d => l.wf && d.wf
  | .mxexec d => d.wf
  | .mmul _ => true
  | .mzero _ => true
  | .mnop _ => true
  | .mxeGroup _ _ => true
  | .mxeRetire _ _ => true
  | .mxin _ _ d => d.wf
  | .mxout l d => l.wf && d.wf
  | .mxchk d => d.wf
  | .mxwait d => d.wf
  | .ticketRetired _ _ => true
  | .mxtl d => d.wf
  | .cpgo _ d => d.wf
  | .cpstat _ d => d.wf
  | .tlread _ d => d.wf
  | .tlwait _ d => d.wf
  | .wtany d => d.wf
  | .wtall d => d.wf
  | .wtff d => d.wf
  | .tagclr d => d.wf
  | .rawait d => d.wf
  | .rsrel d => d.wf
  | .rapeek d => d.wf
  | .waitComplete _ _ => true
  | .trap _ _ d => d.wf
  | .flags d => d.wf
  | .flclr d => d.wf
  | .perf index d => perfIndex index.toNat && d.wf
  | .cycl d => d.wf
  | .subcnt d => d.wf
  | .sysq _ d => d.wf
  | .sysqRequest _ => true
  | .brk _ d => d.wf
  | .ident _ d => d.wf
  | .sysrd d => d.wf
  | .syswr d => d.wf
  | .tokenArrive _ => true
  | .overflowRefill _ _ => true
  | .matchPromote _ _ => true
  | .tagOpApply _ => true
  | .heldTokenGrant _ _ _ => true
  | .frameAllocWake _ _ => true
  | .vcStarvationPriority _ _ => true
  | .walkComplete _ _ => true
  | .pteLost _ _ => true
  | .quiesceSharedSids _ _ => true
  | .tlbInvPage _ _ _ => true
  | .tlbInvSid _ => true
  | .tlbInvAll => true
  | .tlbInvDone => true
  | .dirtyBitUpdate _ _ => true
  | .writeBackScan _ _ => true
  | .writeBackComplete _ _ => true
  | .leaseGranted _ => true
  | .leaseRelease _ => true
  | .repairPassStart _ => true
  | .drainEntry _ => true
  | .compactorFold _ _ => true
  | .galLost _ => true
  | .mirrorUpdate _ _ => true
  | .galleyFullResume _ => true
  | .vcInvalAll _ => true
  | .vcInvalDone _ => true
  | .chHeadWrite _ _ _ => true
  | .recordFetch _ _ => true
  | .ringSlotClaim _ _ => true
  | .copyMove _ _ => true
  | .recordRetire _ _ => true
  | .clReadyClear _ _ => true
  | .ringEnable _ _ _ => true
  | .ringDisable _ _ => true
  | .peModeWrite _ _ _ => true
  | .peXenWrite _ _ _ => true
  | .peFlagsClear _ _ _ => true
  | .cntArm _ _ _ _ => true
  | .cntAdd _ _ => true
  | .cntCancel _ => true
  | .cntFree _ => true
  | .cntSignal _ => true
  | .slotCommit => true
  | .dispatchStart _ => true
  | .unitEnd _ => true
  | .unitFault _ => true
  | .faultRecordWrite _ => true
  | .graphReplay _ => true
  | .queueBind => true
  | .queueAge _ => true
  | .droneBind => true
  | .hang _ => true
  | .objectLoad _ => true
  | .translationRecord _ _ => true
  | .nativeSwap _ => true
  | .kernelRestart _ => true
  | .checkReplay _ _ _ => true
  | .peRetired _ _ _ => true
  | .stateLost _ _ _ _ => true
  | .trapStop _ => true
  | .stopMap _ => true
  | .clusterRemap _ => true
  | .mirrorRebuild _ => true
  | .dieFault _ => true
  | .preempt _ => true
  | .preemptForceHalt _ => true
  | .contextSwap _ => true
  | .liveRangeSave _ => true
  | .restore _ _ => true
  | .snapshot _ => true
  | .halt _ => true
  | .resumeHalt _ => true
  | .haltComplete _ => true
  | .mbxDoorbell _ _ => true
  | .mbxLoadObject => true
  | .mbxLaunch => true
  | .mbxCancel => true
  | .mbxCopyToProcess => true
  | .mbxCopyToHost => true
  | .mbxAttest => true
  | .mbxCompletionPost => true
  | .flitSend _ _ _ => true
  | .flitReceive _ _ _ _ => true
  | .nakReplay _ _ _ => true
  | .controlFlit _ _ _ => true
  | .laneFailure _ _ _ _ => true
  | .netDoorbell _ => true
  | .put _ _ _ _ => true
  | .get _ _ _ _ => true
  | .cas _ _ _ _ => true
  | .raddI32 _ _ _ _ => true
  | .raddF32 _ _ _ _ => true
  | .netComplete _ => true
  | .netTimeout _ _ => true
  | .storageReadComplete _ _ _ => true
  | .deviceReset _ => true
  | .bootStage _ _ _ _ _ _ => true
  | .thermSample _ _ => true
  | .throttleStepUp _ => true
  | .throttleStepDown _ => true
  | .thermCrit _ => true
  | .hbmBandChange _ _ => true
  | .pwrEvaluate _ => true
  | .islandLevelChange _ => true
  | .registerWrite _ _ _ => true
  | .netFadd _ _ _ _ => true
  | .peerRequest _ _ _ _ _ _ _ => true
  | .netContextRestart _ => true
  | .hdmWindowStore _ _ => true
  | .aBufferBankPriority _ _ _ => true
  | .systemCoreStore _ _ _ _ => true

end Sys2Proof
end

