-- ==== Sys2Proof/Decode.lean ====
section
/-!
DEFINITION. Node records and step entries as bits, the decoder, and the encoder (08 R165 to R179, 15 R322).
The decoder is total on every byte string and names what it refuses.
-/
namespace Sys2Proof

/-- Why a record or a step entry is refused (08 R177, R170 to R172, R169, R180). -/
inductive DecodeError where
  | badLength
  | unassignedOp
  | unassignedMod
  | badLiteral
  | badDest
  | badStep
  | illFormed
deriving DecidableEq, Repr

/-- The five fields of a node record (08 R165). -/
structure NodeWord where
  op : BitVec 9
  mod : BitVec 7
  da : BitVec 24
  db : BitVec 24
  lit : BitVec 32
deriving DecidableEq, Repr

/-- The record as its 96 bits (08 R165). -/
def NodeWord.toBits (r : NodeWord) : BitVec 96 :=
  BitVec.cast (by decide) (r.op ++ r.mod ++ r.da ++ r.db ++ r.lit)

/-- The fields of 96 bits (08 R165). -/
def NodeWord.ofBits (w : BitVec 96) : NodeWord :=
  { op := w.extractLsb' 87 9, mod := w.extractLsb' 80 7, da := w.extractLsb' 56 24,
    db := w.extractLsb' 32 24, lit := w.extractLsb' 0 32 }

/-- A port's code in a kind 00 destination (08 R168). -/
def Port.code : Port → BitVec 2
  | .a => 0 | .b => 1 | .c => 2 | .t => 3

/-- The port a code names (08 R168). -/
def Port.ofCode (c : BitVec 2) : Port :=
  if c = 0 then .a else if c = 1 then .b else if c = 2 then .c else .t

/-- A destination field as bits (08 R168). -/
def Dest.toBits : Dest → BitVec 24
  | .local_ u n p t => BitVec.cast (by decide) ((0 : BitVec 2) ++ u ++ n ++ p.code ++ t ++ (0 : BitVec 2))
  | .route c p t => BitVec.cast (by decide) ((1 : BitVec 2) ++ c ++ p ++ t ++ (0 : BitVec 5))
  | .stream p => BitVec.cast (by decide) ((2 : BitVec 2) ++ p ++ (0 : BitVec 14))
  | .sink => 0xC00000
  | .ret => 0xC10000
  | .fault => 0xC20000

/-- The destination a field names; none where a reserved bit is set or a code is reserved (08 R168, R169). -/
def Dest.ofBits (w : BitVec 24) : Option Dest :=
  let kind := w.extractLsb' 22 2
  if kind = 0 then
    if w.extractLsb' 0 2 = 0 then
      some (.local_ (w.extractLsb' 16 6) (w.extractLsb' 7 9) (Port.ofCode (w.extractLsb' 5 2)) (w.extractLsb' 2 3))
    else none
  else if kind = 1 then
    if w.extractLsb' 0 5 = 0 then
      some (.route (w.extractLsb' 10 12) (w.extractLsb' 8 2) (w.extractLsb' 5 3))
    else none
  else if kind = 2 then
    if w.extractLsb' 0 14 = 0 then some (.stream (w.extractLsb' 14 8)) else none
  else if w = 0xC00000 then some .sink
  else if w = 0xC10000 then some .ret
  else if w = 0xC20000 then some .fault
  else none

/-! ## The MOD field (08 R173): codes, then readers and writers of each form. -/

def RMode.code : RMode → BitVec 3
  | .rne => 0 | .rtz => 1 | .rup => 2 | .rdn => 3 | .rna => 4 | .rdyn => 5

def RMode.ofCode (c : BitVec 3) : Option RMode :=
  if c = 0 then some .rne else if c = 1 then some .rtz else if c = 2 then some .rup
  else if c = 3 then some .rdn else if c = 4 then some .rna else if c = 5 then some .rdyn else none

def FCls.code : FCls → BitVec 3
  | .f16 => 3 | .bf16 => 4 | .f32 => 5 | .f64 => 6

def FCls.ofCode (c : BitVec 3) : Option FCls :=
  if c = 3 then some .f16 else if c = 4 then some .bf16 else if c = 5 then some .f32
  else if c = 6 then some .f64 else none

def Cond.code : Cond → BitVec 3
  | .eq => 0 | .ne => 1 | .lt => 2 | .le => 3 | .gt => 4 | .ge => 5

def Cond.ofCode (c : BitVec 3) : Option Cond :=
  if c = 0 then some .eq else if c = 1 then some .ne else if c = 2 then some .lt
  else if c = 3 then some .le else if c = 4 then some .gt else if c = 5 then some .ge else none

def AtomOp.code : AtomOp → BitVec 4
  | .add => 0 | .and => 1 | .or => 2 | .xor => 3 | .smin => 4 | .smax => 5 | .umin => 6 | .umax => 7 | .swp => 8

def AtomOp.ofCode (c : BitVec 4) : Option AtomOp :=
  if c = 0 then some .add else if c = 1 then some .and else if c = 2 then some .or else if c = 3 then some .xor
  else if c = 4 then some .smin else if c = 5 then some .smax else if c = 6 then some .umin
  else if c = 7 then some .umax else if c = 8 then some .swp else none

def TieMode.code : TieMode → BitVec 5
  | .up => 0 | .even => 1 | .away => 2

/-- A bit as a one-bit word. -/
def bit1 (b : Bool) : BitVec 1 := BitVec.ofBool b

def mLB : BSrc → BitVec 7
  | .port => 0
  | .lit _ => 0x40
def mSG (b : Bool) : BitVec 7 := if b then 0x20 else 0
def mTop (b : Bool) : BitVec 7 := if b then 0x40 else 0
def mCond (c : Cond) : BitVec 7 := c.code.zeroExtend 7
def mCondHi (c : Cond) : BitVec 7 := c.code.zeroExtend 7 <<< 3
def mTie (t : TieMode) : BitVec 7 := t.code.zeroExtend 7
def mRm (r : RMode) : BitVec 7 := r.code.zeroExtend 7 <<< 3
def mCls (c : FCls) : BitVec 7 := c.code.zeroExtend 7
def mTy : ElemTy → BitVec 7
  | .uns => 0
  | .sgn => 1
  | .flt rm c => mRm rm ||| mCls c
def mW (w : BitVec 6) : BitVec 7 := w.zeroExtend 7
def mAtom (o : AtomOp) : BitVec 7 := o.code.zeroExtend 7
def mFAtom : FAtomOp → BitVec 7
  | .fadd => 0x00 | .fmin => 0x08 | .fmax => 0x10
def mF64 (f64 : Bool) : BitVec 7 := if f64 then 6 else 5
def mPark : ParkKind → BitVec 7
  | .tag => 0 | .tl => 1 | .ring => 2 | .net => 3
def mScope : RelScope → BitVec 7
  | .cluster => 0 | .die => 1 | .package => 2 | .system => 3
def mGpos : GposSel → BitVec 7
  | .a => 0 | .p => 1 | .d => 2
def mIdent : IdentSel → BitVec 7
  | .cl => 0 | .unit => 1 | .part => 2 | .dev => 3
def mCh (c : BitVec 2) : BitVec 7 := c.zeroExtend 7
def mK2 (b : Bool) : BitVec 7 := if b then 1 else 0
def mTl : TlSel → BitVec 7
  | .ch c => c.zeroExtend 7
  | .mx _ => 4
  | .net _ => 5
def mPspc : PspcSel → BitVec 7
  | .get => 0
  | .set _ => 1

/-- An option as a decoding result with the error to report. -/
def orErr {α : Type} (e : DecodeError) : Option α → Except DecodeError α
  | some x => .ok x
  | none => .error e

/-- Accept x if writing it back gives the field that was read. -/
def backTo {α : Type} {w : Nat} (e : DecodeError) (field : BitVec w) (write : α → BitVec w) (x : α) :
    Except DecodeError α :=
  if write x = field then .ok x else .error e

/-- The port-b source: LIT where LB is set, else the port with LIT zero (08 R170, R171). -/
def getBSrc (lb : Bool) (lit : BitVec 32) : Except DecodeError BSrc :=
  if lb then .ok (.lit lit) else if lit = 0 then .ok .port else .error .badLiteral

def isZ (m : BitVec 7) : Except DecodeError Unit :=
  if m = 0 then .ok () else .error .unassignedMod

def getSG (m : BitVec 7) : Except DecodeError Bool :=
  if m = 0x20 then .ok true else if m = 0 then .ok false else .error .unassignedMod

def getZLB (m : BitVec 7) (lit : BitVec 32) : Except DecodeError BSrc := do
  isZ (m &&& 0x3F)
  getBSrc (m.getLsbD 6) lit

def getSGLB (m : BitVec 7) (lit : BitVec 32) : Except DecodeError (Bool × BSrc) := do
  let sg ← getSG (m &&& 0x3F)
  let b ← getBSrc (m.getLsbD 6) lit
  .ok (sg, b)

def getSG6LB (m : BitVec 7) (lit : BitVec 32) : Except DecodeError (Bool × Cond × BSrc) := do
  let c ← orErr .unassignedMod (if m.extractLsb' 3 2 = 0 then Cond.ofCode (m.extractLsb' 0 3) else none)
  let b ← getBSrc (m.getLsbD 6) lit
  .ok (m.getLsbD 5, c, b)

def getSG3LB (m : BitVec 7) (lit : BitVec 32) : Except DecodeError (Bool × TieMode × BSrc) := do
  let v := m.extractLsb' 0 5
  let t ← orErr .unassignedMod
    (if v = 0 then some TieMode.up else if v = 1 then some .even else if v = 2 then some .away else none)
  let b ← getBSrc (m.getLsbD 6) lit
  .ok (m.getLsbD 5, t, b)

def getFT (m : BitVec 7) : Except DecodeError (RMode × FCls) := do
  if m.getLsbD 6 then .error .unassignedMod
  let rm ← orErr .unassignedMod (RMode.ofCode (m.extractLsb' 3 3))
  let c ← orErr .unassignedMod (FCls.ofCode (m.extractLsb' 0 3))
  .ok (rm, c)

def getFTLB (m : BitVec 7) (lit : BitVec 32) : Except DecodeError (RMode × FCls × BSrc) := do
  let (rm, c) ← getFT (m &&& 0x3F)
  let b ← getBSrc (m.getLsbD 6) lit
  .ok (rm, c, b)

def getFK (m : BitVec 7) : Except DecodeError FCls :=
  orErr .unassignedMod (if m.extractLsb' 3 4 = 0 then FCls.ofCode (m.extractLsb' 0 3) else none)

def getFKLB (m : BitVec 7) (lit : BitVec 32) : Except DecodeError (FCls × BSrc) := do
  let c ← getFK (m &&& 0x3F)
  let b ← getBSrc (m.getLsbD 6) lit
  .ok (c, b)

def getFCLB (m : BitVec 7) (lit : BitVec 32) : Except DecodeError (Cond × FCls × BSrc) := do
  let k ← orErr .unassignedMod (Cond.ofCode (m.extractLsb' 3 3))
  let c ← orErr .unassignedMod (FCls.ofCode (m.extractLsb' 0 3))
  let b ← getBSrc (m.getLsbD 6) lit
  .ok (k, c, b)

def getCV (m : BitVec 7) : Except DecodeError (Bool × RMode × FCls) := do
  let (rm, c) ← getFT (m &&& 0x3F)
  .ok (m.getLsbD 6, rm, c)

def getTY (m : BitVec 7) : Except DecodeError ElemTy :=
  if m = 0 then .ok .uns else if m = 1 then .ok .sgn
  else do
    let (rm, c) ← getFT m
    .ok (.flt rm c)

def getWDL (m : BitVec 7) : Except DecodeError (Bool × BitVec 6) :=
  .ok (m.getLsbD 6, m.extractLsb' 0 6)

def getWDS (m : BitVec 7) : Except DecodeError (BitVec 6) :=
  if m.getLsbD 6 then .error .unassignedMod else .ok (m.extractLsb' 0 6)

def getAT (m : BitVec 7) : Except DecodeError (Bool × AtomOp) := do
  let o ← orErr .unassignedMod
    (if m.getLsbD 6 || m.getLsbD 4 then none else AtomOp.ofCode (m.extractLsb' 0 4))
  .ok (m.getLsbD 5, o)

def getAF (m : BitVec 7) : Except DecodeError (FAtomOp × Bool) :=
  if m = 5 then .ok (.fadd, false) else if m = 6 then .ok (.fadd, true)
  else if m = 0x0D then .ok (.fmin, false) else if m = 0x0E then .ok (.fmin, true)
  else if m = 0x15 then .ok (.fmax, false) else if m = 0x16 then .ok (.fmax, true)
  else .error .unassignedMod

def getPark (m : BitVec 7) : Except DecodeError ParkKind :=
  if m = 0 then .ok .tag else if m = 1 then .ok .tl else if m = 2 then .ok .ring
  else if m = 3 then .ok .net else .error .unassignedMod

def getScope (m : BitVec 7) : Except DecodeError RelScope :=
  if m = 0 then .ok .cluster else if m = 1 then .ok .die else if m = 2 then .ok .package
  else if m = 3 then .ok .system else .error .unassignedMod

def getGpos (m : BitVec 7) : Except DecodeError GposSel :=
  if m = 0 then .ok .a else if m = 1 then .ok .p else if m = 2 then .ok .d else .error .unassignedMod

def getIdent (m : BitVec 7) : Except DecodeError IdentSel :=
  if m = 0 then .ok .cl else if m = 1 then .ok .unit else if m = 2 then .ok .part
  else if m = 3 then .ok .dev else .error .unassignedMod

def getCh (m : BitVec 7) : Except DecodeError (BitVec 2) :=
  backTo .unassignedMod m mCh (m.extractLsb' 0 2)

def getK2 (m : BitVec 7) : Except DecodeError Bool :=
  if m = 0 then .ok false else if m = 1 then .ok true else .error .unassignedMod

/-! ## The literal (08 R170 to R172 and the instruction descriptions). -/

/-- A field at the bottom of LIT, zero above. -/
def padL {w : Nat} (x : BitVec w) : BitVec 32 := x.zeroExtend 32

def noLit (lit : BitVec 32) : Except DecodeError Unit :=
  if lit = 0 then .ok () else .error .badLiteral

/-- The low w bits of LIT, refused where a higher bit is set. -/
def getB (w : Nat) (lit : BitVec 32) : Except DecodeError (BitVec w) :=
  backTo .badLiteral lit padL (lit.extractLsb' 0 w)

def lTl : TlSel → BitVec 32
  | .ch _ => 0
  | .mx c => padL c
  | .net c => padL c

def getTl (m : BitVec 7) (lit : BitVec 32) : Except DecodeError TlSel :=
  if m = 4 then backTo .badLiteral lit lTl (.mx (lit.extractLsb' 0 2))
  else if m = 5 then backTo .badLiteral lit lTl (.net (lit.extractLsb' 0 10))
  else do
    let c ← getCh m
    backTo .badLiteral lit lTl (.ch c)

def lPspc : PspcSel → BitVec 32
  | .get => 0
  | .set t => padL t

def getPspc (m : BitVec 7) (lit : BitVec 32) : Except DecodeError PspcSel :=
  if m = 0 then backTo .badLiteral lit lPspc .get
  else if m = 1 then backTo .badLiteral lit lPspc (.set (lit.extractLsb' 0 4))
  else .error .unassignedMod

def lWave (w : WaveLit) : BitVec 32 :=
  BitVec.cast (by decide) (w.pred ++ w.own ++ w.succ ++ bit1 w.pw ++ bit1 w.sw)

def getWave (lit : BitVec 32) : Except DecodeError WaveLit :=
  .ok { pred := lit.extractLsb' 22 10, own := lit.extractLsb' 12 10, succ := lit.extractLsb' 2 10,
        pw := lit.getLsbD 1, sw := lit.getLsbD 0 }

def lRq (l : RqLit) : BitVec 32 :=
  BitVec.cast (by decide) (l.zp ++ (0 : BitVec 10) ++ l.s ++ (0 : BitVec 2) ++ l.ow)

def getRq (lit : BitVec 32) : Except DecodeError RqLit :=
  backTo .badLiteral lit lRq { zp := lit.extractLsb' 24 8, s := lit.extractLsb' 8 6, ow := lit.extractLsb' 0 6 }

def lField (l : FieldLit) : BitVec 32 := BitVec.cast (by decide) ((0 : BitVec 20) ++ l.lenm1 ++ l.pos)

def getField (lit : BitVec 32) : Except DecodeError FieldLit :=
  backTo .badLiteral lit lField { lenm1 := lit.extractLsb' 6 6, pos := lit.extractLsb' 0 6 }

def lList (l : ListLit) : BitVec 32 := BitVec.cast (by decide) ((0 : BitVec 22) ++ l.lenm1 ++ l.start)

def getList (lit : BitVec 32) : Except DecodeError ListLit :=
  backTo .badLiteral lit lList { start := lit.extractLsb' 0 6, lenm1 := lit.extractLsb' 6 4 }

def lEntry (l : EntryLit) : BitVec 32 :=
  BitVec.cast (by decide) ((0 : BitVec 2) ++ l.entry ++ l.ngm1 ++ l.nm1)

def getEntry (lit : BitVec 32) : Except DecodeError EntryLit :=
  backTo .badLiteral lit lEntry
    { entry := lit.extractLsb' 10 20, ngm1 := lit.extractLsb' 8 2, nm1 := lit.extractLsb' 0 8 }

def lBarr (l : BarrLit) : BitVec 32 :=
  BitVec.cast (by decide) ((0 : BitVec 16) ++ l.arrm1 ++ (0 : BitVec 1) ++ bit1 l.part ++ l.id)

def getBarr (lit : BitVec 32) : Except DecodeError BarrLit :=
  backTo .badLiteral lit lBarr
    { arrm1 := lit.extractLsb' 6 10, part := lit.getLsbD 4, id := lit.extractLsb' 0 4 }

def lChain (l : ChainLit) : BitVec 32 :=
  BitVec.cast (by decide) ((0 : BitVec 3) ++ l.node2 ++ l.node1 ++ l.node0 ++ l.cntm1)

def getChain (lit : BitVec 32) : Except DecodeError ChainLit :=
  backTo .badLiteral lit lChain
    { node2 := lit.extractLsb' 20 9, node1 := lit.extractLsb' 11 9, node0 := lit.extractLsb' 2 9,
      cntm1 := lit.extractLsb' 0 2 }

def lVctx (qm1 : BitVec 5) (cl2 : BitVec 3) : BitVec 32 := BitVec.cast (by decide) ((0 : BitVec 24) ++ cl2 ++ qm1)

def getVctx (lit : BitVec 32) : Except DecodeError (BitVec 5 × BitVec 3) :=
  backTo .badLiteral lit (fun p => lVctx p.1 p.2) (lit.extractLsb' 0 5, lit.extractLsb' 5 3)

def lVsplat (gl2 : BitVec 3) (lane : BitVec 5) : BitVec 32 :=
  BitVec.cast (by decide) ((0 : BitVec 19) ++ lane ++ (0 : BitVec 5) ++ gl2)

def getVsplat (lit : BitVec 32) : Except DecodeError (BitVec 3 × BitVec 5) :=
  backTo .badLiteral lit (fun p => lVsplat p.1 p.2) (lit.extractLsb' 0 3, lit.extractLsb' 8 5)

def lSortk (km1 : BitVec 6) (asc : Bool) : BitVec 32 :=
  BitVec.cast (by decide) ((0 : BitVec 25) ++ bit1 asc ++ km1)

def getSortk (lit : BitVec 32) : Except DecodeError (BitVec 6 × Bool) :=
  backTo .badLiteral lit (fun p => lSortk p.1 p.2) (lit.extractLsb' 0 6, lit.getLsbD 6)

def lMxin (token fp : Bool) : BitVec 32 :=
  BitVec.cast (by decide) ((0 : BitVec 29) ++ bit1 fp ++ (0 : BitVec 1) ++ bit1 token)

def getMxin (lit : BitVec 32) : Except DecodeError (Bool × Bool) :=
  backTo .badLiteral lit (fun p => lMxin p.1 p.2) (lit.getLsbD 0, lit.getLsbD 2)

def lMxout (l : MxoutLit) : BitVec 32 :=
  BitVec.cast (by decide) ((0 : BitVec 19) ++ l.port ++ l.dmode ++ l.prof)

def getMxout (lit : BitVec 32) : Except DecodeError MxoutLit :=
  backTo .badLiteral lit lMxout
    { port := lit.extractLsb' 5 8, dmode := lit.extractLsb' 3 2, prof := lit.extractLsb' 0 3 }

def lTrap (endU : Bool) (code : BitVec 16) : BitVec 32 :=
  BitVec.cast (by decide) ((0 : BitVec 15) ++ bit1 endU ++ code)

def getTrap (lit : BitVec 32) : Except DecodeError (Bool × BitVec 16) :=
  backTo .badLiteral lit (fun p => lTrap p.1 p.2) (lit.getLsbD 16, lit.extractLsb' 0 16)

/-- The literal of a record whose port b may be LIT. -/
def lBSrc : BSrc → BitVec 32
  | .port => 0
  | .lit v => v

/-! ## The opcode map (08 R177): each row's opcode, with the readers of its MOD and its LIT. -/

/-- What the map says of one opcode. -/
abbrev RowDec := BitVec 7 → BitVec 32 → Except DecodeError (Dests → Instr)


/-- Group 000 of the map (08 R175). -/
def rowsG0 : Tbl RowDec :=
  [ (0x000, fun mod lit => do isZ mod; noLit lit; .ok (fun d => .mov d)),
    (0x001, fun mod lit => do let sg ← getSG mod; let k := lit; .ok (fun d => .const_ sg k d)),
    (0x002, fun mod lit => do isZ mod; noLit lit; .ok (fun d => .steer d)),
    (0x003, fun mod lit => do isZ mod; noLit lit; .ok (fun d => .select d)),
    (0x004, fun mod lit => do isZ mod; noLit lit; .ok (fun d => .merge d)),
    (0x005, fun mod lit => do isZ mod; noLit lit; .ok (fun d => .gate d)),
    (0x006, fun mod lit => do isZ mod; noLit lit; .ok (fun d => .sync2 d)),
    (0x007, fun mod lit => do isZ mod; noLit lit; .ok (fun d => .sync3 d)),
    (0x008, fun mod lit => do isZ mod; let nm1 ← getB 8 lit; .ok (fun d => .loopin nm1 d)),
    (0x009, fun mod lit => do isZ mod; noLit lit; .ok (fun d => .iend d)),
    (0x00A, fun mod lit => do isZ mod; noLit lit; .ok (fun d => .loopout d)),
    (0x00B, fun mod lit => do isZ mod; let nm1 ← getB 8 lit; .ok (fun d => .talloc nm1 d)),
    (0x00C, fun mod lit => do isZ mod; noLit lit; .ok (fun d => .tfree d)),
    (0x00D, fun mod lit => do isZ mod; let nm1 ← getB 8 lit; .ok (fun d => .call nm1 d)),
    (0x00E, fun mod lit => do isZ mod; noLit lit; .ok (fun d => .ret_ d)),
    (0x00F, fun mod lit => do isZ mod; noLit lit; .ok (fun d => .tagget d)),
    (0x010, fun mod lit => do isZ mod; noLit lit; .ok (fun d => .tagset d)),
    (0x011, fun mod lit => do isZ mod; noLit lit; .ok (fun d => .iter d)),
    (0x012, fun mod lit => do isZ mod; noLit lit; .ok (fun d => .wave d)),
    (0x013, fun mod lit => do isZ mod; let l ← getList lit; .ok (fun d => .step_ l d)),
    (0x014, fun mod lit => do isZ mod; let l ← getBarr lit; .ok (fun d => .barr l d)),
    (0x015, fun mod lit => do isZ mod; noLit lit; .ok (fun d => .trigger d)),
    (0x016, fun mod lit => do isZ mod; noLit lit; .ok (fun d => .done d)),
    (0x017, fun mod lit => do isZ mod; let n ← getB 8 lit; .ok (fun d => .ckpt n d)),
    (0x018, fun mod lit => do isZ mod; let l ← getEntry lit; .ok (fun d => .fork l d)),
    (0x019, fun mod lit => do isZ mod; noLit lit; .ok (fun d => .join d)),
    (0x01A, fun mod lit => do let kind ← getPark mod; let l ← getEntry lit; .ok (fun d => .park kind l d)),
    (0x01B, fun mod lit => do isZ mod; noLit lit; .ok (fun d => .resume d)) ]

/-- Group 001 of the map (08 R175). -/
def rowsG1 : Tbl RowDec :=
  [ (0x040, fun mod lit => do let (sg, b) ← getSGLB mod lit; .ok (fun d => .add sg b d)),
    (0x041, fun mod lit => do let (sg, b) ← getSGLB mod lit; .ok (fun d => .sub sg b d)),
    (0x042, fun mod lit => do let (sg, b) ← getSGLB mod lit; .ok (fun d => .mul sg b d)),
    (0x043, fun mod lit => do let (sg, b) ← getSGLB mod lit; .ok (fun d => .mulh sg b d)),
    (0x044, fun mod lit => do let (sg, b) ← getSGLB mod lit; .ok (fun d => .div sg b d)),
    (0x045, fun mod lit => do let (sg, b) ← getSGLB mod lit; .ok (fun d => .rem sg b d)),
    (0x046, fun mod lit => do let (sg, b) ← getSGLB mod lit; .ok (fun d => .min_ sg b d)),
    (0x047, fun mod lit => do let (sg, b) ← getSGLB mod lit; .ok (fun d => .max_ sg b d)),
    (0x048, fun mod lit => do let (sg, cond, b) ← getSG6LB mod lit; .ok (fun d => .cmp sg cond b d)),
    (0x049, fun mod lit => do let b ← getZLB mod lit; .ok (fun d => .and_ b d)),
    (0x04A, fun mod lit => do let b ← getZLB mod lit; .ok (fun d => .or_ b d)),
    (0x04B, fun mod lit => do let b ← getZLB mod lit; .ok (fun d => .xor b d)),
    (0x04C, fun mod lit => do let b ← getZLB mod lit; .ok (fun d => .andn b d)),
    (0x04D, fun mod lit => do let b ← getZLB mod lit; .ok (fun d => .rotl b d)),
    (0x04E, fun mod lit => do let b ← getZLB mod lit; .ok (fun d => .rotr b d)),
    (0x04F, fun mod lit => do let (sg, b) ← getSGLB mod lit; .ok (fun d => .shl sg b d)),
    (0x050, fun mod lit => do let (sg, b) ← getSGLB mod lit; .ok (fun d => .shr sg b d)),
    (0x051, fun mod lit => do isZ mod; noLit lit; .ok (fun d => .neg d)),
    (0x052, fun mod lit => do isZ mod; noLit lit; .ok (fun d => .abs d)),
    (0x053, fun mod lit => do isZ mod; noLit lit; .ok (fun d => .not_ d)),
    (0x054, fun mod lit => do isZ mod; noLit lit; .ok (fun d => .clz d)),
    (0x055, fun mod lit => do isZ mod; noLit lit; .ok (fun d => .ctz d)),
    (0x056, fun mod lit => do isZ mod; noLit lit; .ok (fun d => .popc d)) ]

/-- Group 010 of the map (08 R175). -/
def rowsG2 : Tbl RowDec :=
  [ (0x080, fun mod lit => do let (sg, b) ← getSGLB mod lit; .ok (fun d => .adds sg b d)),
    (0x081, fun mod lit => do let (sg, b) ← getSGLB mod lit; .ok (fun d => .subs sg b d)),
    (0x082, fun mod lit => do let (sg, b) ← getSGLB mod lit; .ok (fun d => .muls sg b d)),
    (0x083, fun mod lit => do let (sg, b) ← getSGLB mod lit; .ok (fun d => .shls sg b d)),
    (0x084, fun mod lit => do isZ mod; noLit lit; .ok (fun d => .abss d)),
    (0x085, fun mod lit => do let sg ← getSG mod; noLit lit; .ok (fun d => .clamp sg d)),
    (0x086, fun mod lit => do let (sg, tie, b) ← getSG3LB mod lit; .ok (fun d => .shrr sg tie b d)),
    (0x087, fun mod lit => do let sg ← getSG mod; let l ← getRq lit; .ok (fun d => .rquant sg l d)),
    (0x088, fun mod lit => do let sg ← getSG mod; let l ← getField lit; .ok (fun d => .bfx sg l d)),
    (0x089, fun mod lit => do isZ mod; let l ← getField lit; .ok (fun d => .bfi l d)),
    (0x08A, fun mod lit => do isZ mod; noLit lit; .ok (fun d => .brev d)),
    (0x08B, fun mod lit => do isZ mod; let wm1 ← getB 6 lit; .ok (fun d => .sext wm1 d)),
    (0x08C, fun mod lit => do isZ mod; let wm1 ← getB 6 lit; .ok (fun d => .zext wm1 d)),
    (0x08D, fun mod lit => do isZ mod; let n ← getB 16 lit; .ok (fun d => .padd n d)),
    (0x08E, fun mod lit => do isZ mod; let n ← getB 16 lit; .ok (fun d => .psub n d)),
    (0x08F, fun mod lit => do isZ mod; let n ← getB 16 lit; .ok (fun d => .paln n d)),
    (0x090, fun mod lit => do isZ mod; let n ← getB 7 lit; .ok (fun d => .pchk n d)),
    (0x091, fun mod lit => do let toByte ← getK2 mod; noLit lit; .ok (fun d => .pcvt toByte d)),
    (0x092, fun mod lit => do let sel ← getPspc mod lit; .ok (fun d => .pspc sel d)) ]

/-- Group 011 of the map (08 R175). -/
def rowsG3 : Tbl RowDec :=
  [ (0x0C0, fun mod lit => do let (rm, cls, b) ← getFTLB mod lit; .ok (fun d => .fadd rm cls b d)),
    (0x0C1, fun mod lit => do let (rm, cls, b) ← getFTLB mod lit; .ok (fun d => .fsub rm cls b d)),
    (0x0C2, fun mod lit => do let (rm, cls, b) ← getFTLB mod lit; .ok (fun d => .fmul rm cls b d)),
    (0x0C3, fun mod lit => do let (rm, cls, b) ← getFTLB mod lit; .ok (fun d => .fdiv rm cls b d)),
    (0x0C4, fun mod lit => do let (rm, cls, b) ← getFTLB mod lit; .ok (fun d => .fsclb rm cls b d)),
    (0x0C5, fun mod lit => do let (rm, cls) ← getFT mod; noLit lit; .ok (fun d => .fma rm cls d)),
    (0x0C6, fun mod lit => do let (rm, cls) ← getFT mod; noLit lit; .ok (fun d => .fnma rm cls d)),
    (0x0C7, fun mod lit => do let (rm, cls) ← getFT mod; noLit lit; .ok (fun d => .fsqrt rm cls d)),
    (0x0C8, fun mod lit => do let (rm, cls) ← getFT mod; noLit lit; .ok (fun d => .frsq rm cls d)),
    (0x0C9, fun mod lit => do let (rm, cls) ← getFT mod; noLit lit; .ok (fun d => .frcp rm cls d)),
    (0x0CA, fun mod lit => do let (rm, cls) ← getFT mod; noLit lit; .ok (fun d => .frint rm cls d)),
    (0x0CB, fun mod lit => do let (cls, b) ← getFKLB mod lit; .ok (fun d => .fmin cls b d)),
    (0x0CC, fun mod lit => do let (cls, b) ← getFKLB mod lit; .ok (fun d => .fmax cls b d)),
    (0x0CD, fun mod lit => do let (cls, b) ← getFKLB mod lit; .ok (fun d => .fminm cls b d)),
    (0x0CE, fun mod lit => do let (cls, b) ← getFKLB mod lit; .ok (fun d => .fmaxm cls b d)),
    (0x0CF, fun mod lit => do let cls ← getFK mod; noLit lit; .ok (fun d => .fabs cls d)),
    (0x0D0, fun mod lit => do let cls ← getFK mod; noLit lit; .ok (fun d => .fneg cls d)),
    (0x0D1, fun mod lit => do let cls ← getFK mod; noLit lit; .ok (fun d => .fclass cls d)),
    (0x0D2, fun mod lit => do let (cls, b) ← getFKLB mod lit; .ok (fun d => .fcpys cls b d)),
    (0x0D3, fun mod lit => do let (cond, cls, b) ← getFCLB mod lit; .ok (fun d => .fcmp cond cls b d)) ]

/-- Group 100 of the map (08 R175). -/
def rowsG4 : Tbl RowDec :=
  [ (0x100, fun mod lit => do let (toFd, rm, cls) ← getCV mod; let fd := lit; .ok (fun d => .cvtff toFd rm cls fd d)),
    (0x101, fun mod lit => do let (rm, cls) ← getFT mod; let fd := lit; .ok (fun d => .cvtfi rm cls fd d)),
    (0x102, fun mod lit => do let (rm, cls) ← getFT mod; let fd := lit; .ok (fun d => .cvtif rm cls fd d)),
    (0x103, fun mod lit => do let (rm, cls) ← getFT mod; noLit lit; .ok (fun d => .fexp2 rm cls d)),
    (0x104, fun mod lit => do let (rm, cls) ← getFT mod; noLit lit; .ok (fun d => .fexpe rm cls d)),
    (0x105, fun mod lit => do let (rm, cls) ← getFT mod; noLit lit; .ok (fun d => .flog2 rm cls d)),
    (0x106, fun mod lit => do let (rm, cls) ← getFT mod; noLit lit; .ok (fun d => .ftanh rm cls d)),
    (0x107, fun mod lit => do let (rm, cls) ← getFT mod; noLit lit; .ok (fun d => .fsig rm cls d)),
    (0x108, fun mod lit => do let (rm, cls) ← getFT mod; noLit lit; .ok (fun d => .fsinp rm cls d)),
    (0x109, fun mod lit => do let (rm, cls) ← getFT mod; noLit lit; .ok (fun d => .fcosp rm cls d)),
    (0x10A, fun mod lit => do isZ mod; let fd := lit; .ok (fun d => .sclmax fd d)),
    (0x10B, fun mod lit => do isZ mod; noLit lit; .ok (fun d => .sclget d)),
    (0x10C, fun mod lit => do let b ← getZLB mod lit; .ok (fun d => .sclset b d)) ]

/-- Group 101 of the map (08 R175). -/
def rowsG5 : Tbl RowDec :=
  [ (0x140, fun mod lit => do isZ mod; let (qm1, cl2) ← getVctx lit; .ok (fun d => .vctx qm1 cl2 d)),
    (0x141, fun mod lit => do isZ mod; noLit lit; .ok (fun d => .vpack d)),
    (0x142, fun mod lit => do isZ mod; noLit lit; .ok (fun d => .vunpack d)),
    (0x143, fun mod lit => do isZ mod; let (gl2, lane) ← getVsplat lit; .ok (fun d => .vsplat gl2 lane d)),
    (0x144, fun mod lit => do isZ mod; noLit lit; .ok (fun d => .vperm d)),
    (0x145, fun mod lit => do isZ mod; let lane ← getB 5 lit; .ok (fun d => .vext lane d)),
    (0x146, fun mod lit => do isZ mod; let lane ← getB 5 lit; .ok (fun d => .vins lane d)),
    (0x147, fun mod lit => do isZ mod; noLit lit; .ok (fun d => .vsel d)),
    (0x148, fun mod lit => do let ty ← getTY mod; noLit lit; .ok (fun d => .vredadd ty d)),
    (0x149, fun mod lit => do let ty ← getTY mod; noLit lit; .ok (fun d => .vredmin ty d)),
    (0x14A, fun mod lit => do let ty ← getTY mod; noLit lit; .ok (fun d => .vredmax ty d)),
    (0x14B, fun mod lit => do let ty ← getTY mod; noLit lit; .ok (fun d => .vscan ty d)),
    (0x14C, fun mod lit => do let ty ← getTY mod; noLit lit; .ok (fun d => .red ty d)),
    (0x14D, fun mod lit => do let ty ← getTY mod; noLit lit; .ok (fun d => .scan ty d)),
    (0x14E, fun mod lit => do let ty ← getTY mod; noLit lit; .ok (fun d => .argmax ty d)),
    (0x14F, fun mod lit => do let ty ← getTY mod; noLit lit; .ok (fun d => .argmin ty d)),
    (0x150, fun mod lit => do let ty ← getTY mod; let (km1, asc) ← getSortk lit; .ok (fun d => .sortk ty km1 asc d)),
    (0x151, fun mod lit => do isZ mod; let l ← getChain lit; .ok (fun d => .chain l d)),
    (0x152, fun mod lit => do isZ mod; let n ← getB 2 lit; .ok (fun d => .eod n d)),
    (0x153, fun mod lit => do isZ mod; let n ← getB 16 lit; .ok (fun d => .cntr n d)),
    (0x154, fun mod lit => do isZ mod; noLit lit; .ok (fun d => .rng d)),
    (0x155, fun mod lit => do isZ mod; noLit lit; .ok (fun d => .rngf d)) ]

/-- Group 110 of the map (08 R175). -/
def rowsG6 : Tbl RowDec :=
  [ (0x180, fun mod lit => do let (sg, wm1) ← getWDL mod; let w ← getWave lit; .ok (fun d => .ld sg wm1 w d)),
    (0x181, fun mod lit => do let (sg, wm1) ← getWDL mod; let w ← getWave lit; .ok (fun d => .ldv sg wm1 w d)),
    (0x182, fun mod lit => do let (sg, wm1) ← getWDL mod; let k := lit; .ok (fun d => .ldx sg wm1 k d)),
    (0x183, fun mod lit => do isZ mod; noLit lit; .ok (fun d => .pref d)),
    (0x184, fun mod lit => do isZ mod; let n ← getB 8 lit; .ok (fun d => .ldb n d)),
    (0x185, fun mod lit => do let wm1 ← getWDS mod; let w ← getWave lit; .ok (fun d => .st wm1 w d)),
    (0x186, fun mod lit => do let wm1 ← getWDS mod; let w ← getWave lit; .ok (fun d => .stv wm1 w d)),
    (0x187, fun mod lit => do let wm1 ← getWDS mod; let k := lit; .ok (fun d => .stx wm1 k d)),
    (0x188, fun mod lit => do isZ mod; let n ← getB 8 lit; .ok (fun d => .stb n d)),
    (0x189, fun mod lit => do isZ mod; let n ← getB 8 lit; .ok (fun d => .strmgo n d)),
    (0x18A, fun mod lit => do isZ mod; let n ← getB 8 lit; .ok (fun d => .strmend n d)),
    (0x18B, fun mod lit => do isZ mod; let n ← getB 8 lit; .ok (fun d => .strmst n d)),
    (0x18C, fun mod lit => do let (w64, op) ← getAT mod; let w ← getWave lit; .ok (fun d => .atom w64 op w d)),
    (0x18D, fun mod lit => do let (op, f64) ← getAF mod; let w ← getWave lit; .ok (fun d => .atomf op f64 w d)),
    (0x18E, fun mod lit => do let w64 ← getSG mod; let w ← getWave lit; .ok (fun d => .acas w64 w d)),
    (0x18F, fun mod lit => do let scope ← getScope mod; let w ← getWave lit; .ok (fun d => .rel scope w d)),
    (0x190, fun mod lit => do isZ mod; let w ← getWave lit; .ok (fun d => .acq w d)),
    (0x191, fun mod lit => do let sel ← getGpos mod; noLit lit; .ok (fun d => .gpos sel d)),
    (0x192, fun mod lit => do isZ mod; let w ← getWave lit; .ok (fun d => .fence w d)),
    (0x193, fun mod lit => do isZ mod; noLit lit; .ok (fun d => .qpush d)),
    (0x194, fun mod lit => do isZ mod; noLit lit; .ok (fun d => .qpop d)) ]

/-- Group 111 of the map (08 R175). -/
def rowsG7 : Tbl RowDec :=
  [ (0x1C0, fun mod lit => do isZ mod; let n ← getB 4 lit; .ok (fun d => .mxcmd n d)),
    (0x1C1, fun mod lit => do isZ mod; let l ← getList lit; .ok (fun d => .mxseq l d)),
    (0x1C2, fun mod lit => do isZ mod; noLit lit; .ok (fun d => .mxexec d)),
    (0x1C3, fun mod lit => do isZ mod; let (token, fp) ← getMxin lit; .ok (fun d => .mxin token fp d)),
    (0x1C4, fun mod lit => do isZ mod; let l ← getMxout lit; .ok (fun d => .mxout l d)),
    (0x1C5, fun mod lit => do isZ mod; noLit lit; .ok (fun d => .mxchk d)),
    (0x1C6, fun mod lit => do isZ mod; noLit lit; .ok (fun d => .mxwait d)),
    (0x1C7, fun mod lit => do isZ mod; noLit lit; .ok (fun d => .mxtl d)),
    (0x1D0, fun mod lit => do let ch ← getCh mod; noLit lit; .ok (fun d => .cpgo ch d)),
    (0x1D1, fun mod lit => do let ch ← getCh mod; noLit lit; .ok (fun d => .cpstat ch d)),
    (0x1D2, fun mod lit => do let sel ← getTl mod lit; .ok (fun d => .tlread sel d)),
    (0x1D3, fun mod lit => do let sel ← getTl mod lit; .ok (fun d => .tlwait sel d)),
    (0x1D4, fun mod lit => do isZ mod; noLit lit; .ok (fun d => .wtany d)),
    (0x1D5, fun mod lit => do isZ mod; noLit lit; .ok (fun d => .wtall d)),
    (0x1D6, fun mod lit => do isZ mod; noLit lit; .ok (fun d => .wtff d)),
    (0x1D7, fun mod lit => do isZ mod; noLit lit; .ok (fun d => .tagclr d)),
    (0x1D8, fun mod lit => do isZ mod; noLit lit; .ok (fun d => .rawait d)),
    (0x1D9, fun mod lit => do isZ mod; noLit lit; .ok (fun d => .rsrel d)),
    (0x1DA, fun mod lit => do isZ mod; noLit lit; .ok (fun d => .rapeek d)),
    (0x1E0, fun mod lit => do isZ mod; let (endU, code) ← getTrap lit; .ok (fun d => .trap endU code d)),
    (0x1E1, fun mod lit => do isZ mod; noLit lit; .ok (fun d => .flags d)),
    (0x1E2, fun mod lit => do isZ mod; noLit lit; .ok (fun d => .flclr d)),
    (0x1E3, fun mod lit => do isZ mod; let index ← getB 12 lit; .ok (fun d => .perf index d)),
    (0x1E4, fun mod lit => do isZ mod; noLit lit; .ok (fun d => .cycl d)),
    (0x1E5, fun mod lit => do isZ mod; noLit lit; .ok (fun d => .subcnt d)),
    (0x1E6, fun mod lit => do isZ mod; let n ← getB 10 lit; .ok (fun d => .sysq n d)),
    (0x1E7, fun mod lit => do isZ mod; let n ← getB 16 lit; .ok (fun d => .brk n d)),
    (0x1E8, fun mod lit => do let sel ← getIdent mod; noLit lit; .ok (fun d => .ident sel d)),
    (0x1E9, fun mod lit => do isZ mod; noLit lit; .ok (fun d => .sysrd d)),
    (0x1EA, fun mod lit => do isZ mod; noLit lit; .ok (fun d => .syswr d)) ]

/-- The map's row of an opcode, if the opcode is assigned (08 R177). -/
def opRow (op : BitVec 9) : Option RowDec :=
  let n := op.toNat
  if n < 0x040 then rowsG0.find n
  else if n < 0x080 then rowsG1.find n
  else if n < 0x0C0 then rowsG2.find n
  else if n < 0x100 then rowsG3.find n
  else if n < 0x140 then rowsG4.find n
  else if n < 0x180 then rowsG5.find n
  else if n < 0x1C0 then rowsG6.find n
  else rowsG7.find n

/-- Accept an instruction that is well formed. -/
def checkWf (i : Instr) : Except DecodeError Instr := if i.wf then .ok i else .error .illFormed

/-- The instruction of a node record, in the order of checks 1 to 4 of 08 R186. -/
def decodeNode (r : NodeWord) : Except DecodeError Instr := do
  let row ← orErr .unassignedOp (opRow r.op)
  let f ← row r.mod r.lit
  let da ← orErr .badDest (Dest.ofBits r.da)
  let db ← orErr .badDest (Dest.ofBits r.db)
  checkWf (f { da := da, db := db })

/-- What a record's OP and MOD say of it, whatever its LIT and destinations hold (08 R173, R177). -/
def NodeWord.head (r : NodeWord) : Option Instr :=
  match opRow r.op with
  | none => none
  | some row =>
    match row r.mod 0 with
    | .ok f => some (f { da := .sink, db := .sink })
    | .error _ => none

/-! ## Step entries (08 R179, 15 R322). -/

/-- The instruction of a step entry. FORM 11 of EMIT is the patch step of an MXSEQ list; R180 refuses it in a
STEP list at load. -/
def decodeStep (w : BitVec 32) : Except DecodeError Instr :=
  let sop := w.extractLsb' 28 4
  let low28 := w.extractLsb' 0 28
  let x := w.extractLsb' 22 2
  let imm := w.extractLsb' 0 16
  if sop = 0 then if low28 = 0 then .ok .stepSnop else .error .badStep
  else if sop = 1 then
    if w.extractLsb' 16 5 = 0 then checkWf (.stepLoop (w.extractLsb' 24 4) x (w.getLsbD 21) imm)
    else .error .badStep
  else if sop = 2 then
    if w.extractLsb' 24 4 = 0 ∧ w.extractLsb' 16 6 = 0 then .ok (.stepSetx x imm) else .error .badStep
  else if sop = 3 then
    if w.extractLsb' 24 4 = 0 ∧ w.extractLsb' 16 6 = 0 then .ok (.stepAddx x imm) else .error .badStep
  else if sop = 4 then
    if w.extractLsb' 20 2 = 3 then
      .ok (.mxseqPatch (w.getLsbD 27) (w.extractLsb' 24 3) x (w.extractLsb' 16 4) imm)
    else if w.extractLsb' 24 3 = 0 then
      .ok (.stepEmit (w.getLsbD 27) x (w.extractLsb' 20 2) (w.extractLsb' 16 4) imm)
    else .error .badStep
  else if sop = 5 then
    if w.extractLsb' 25 3 = 0 ∧ imm = 0 then .ok (.stepOpn (w.extractLsb' 16 9)) else .error .badStep
  else if sop = 6 then
    if w.extractLsb' 0 24 = 0 then .ok (.stepJmp (w.extractLsb' 24 4)) else .error .badStep
  else if sop = 7 then if low28 = 0 then .ok .stepDone else .error .badStep
  else .error .badStep

/-- Bytes, the lowest address first, as a number. -/
def bytesNat : List Byte → Nat
  | [] => 0
  | b :: rest => b.toNat + 256 * bytesNat rest

/-- The n low bytes of a number, the lowest address first. -/
def natBytes : Nat → Nat → List Byte
  | 0, _ => []
  | n + 1, v => BitVec.ofNat 8 v :: natBytes n (v / 256)

/-- The decoder on bytes: a record is 12 bytes, a step entry 4 (08 R165, R178). -/
def decodeBytes (l : List Byte) : Except DecodeError Instr :=
  if l.length = 12 then decodeNode (NodeWord.ofBits (BitVec.ofNat 96 (bytesNat l)))
  else if l.length = 4 then decodeStep (BitVec.ofNat 32 (bytesNat l))
  else .error .badLength

/-- What the decoder reads from an instruction of the opcode table's numbering. -/
def decodeTableWord (nbits w : Nat) : Option Instr :=
  match decodeBytes (natBytes (nbits / 8) w) with
  | .ok i => some i
  | .error _ => none

/-! ## The encoder. -/

/-- The words of an instruction: a node record, a step entry, or none for a machine step. -/
inductive Code where
  | node (w : BitVec 96)
  | entry (w : BitVec 32)
  | noWords
deriving DecidableEq, Repr

def nodeBits (op : BitVec 9) (mod : BitVec 7) (d : Dests) (lit : BitVec 32) : Code :=
  .node (NodeWord.toBits { op := op, mod := mod, da := d.da.toBits, db := d.db.toBits, lit := lit })

/-- A step entry (08 R179). -/
def entryBits (sop top : BitVec 4) (mid : BitVec 8) (low : BitVec 16) : Code :=
  .entry (BitVec.cast (by decide) (sop ++ top ++ mid ++ low))

def xField (x : BitVec 2) (low : BitVec 6) : BitVec 8 := BitVec.cast (by decide) (x ++ low)


/-- The encoding of an instruction (08 R165 to R179, R322). -/
def encode : Instr → Code
  | .mov d => nodeBits 0x000 (0) d 0
  | .const_ sg k d => nodeBits 0x001 (mSG sg) d k
  | .steer d => nodeBits 0x002 (0) d 0
  | .select d => nodeBits 0x003 (0) d 0
  | .merge d => nodeBits 0x004 (0) d 0
  | .gate d => nodeBits 0x005 (0) d 0
  | .sync2 d => nodeBits 0x006 (0) d 0
  | .sync3 d => nodeBits 0x007 (0) d 0
  | .loopin nm1 d => nodeBits 0x008 (0) d (padL nm1)
  | .iend d => nodeBits 0x009 (0) d 0
  | .loopout d => nodeBits 0x00A (0) d 0
  | .talloc nm1 d => nodeBits 0x00B (0) d (padL nm1)
  | .tfree d => nodeBits 0x00C (0) d 0
  | .call nm1 d => nodeBits 0x00D (0) d (padL nm1)
  | .ret_ d => nodeBits 0x00E (0) d 0
  | .tagget d => nodeBits 0x00F (0) d 0
  | .tagset d => nodeBits 0x010 (0) d 0
  | .iter d => nodeBits 0x011 (0) d 0
  | .wave d => nodeBits 0x012 (0) d 0
  | .waveMarker _ => .noWords
  | .step_ l d => nodeBits 0x013 (0) d (lList l)
  | .stepSnop => entryBits 0 0 0 0
  | .stepLoop last x csrc count => entryBits 1 last (xField x (BitVec.cast (by decide) (bit1 csrc ++ (0 : BitVec 5)))) count
  | .stepSetx x imm => entryBits 2 0 (xField x 0) imm
  | .stepAddx x imm => entryBits 3 0 (xField x 0) imm
  | .stepEmit dsel x form sh imm => entryBits 4 (BitVec.cast (by decide) (bit1 dsel ++ (0 : BitVec 3))) (xField x (BitVec.cast (by decide) (form ++ sh))) imm
  | .mxseqPatch dsel field x sh imm => entryBits 4 (BitVec.cast (by decide) (bit1 dsel ++ field)) (xField x (BitVec.cast (by decide) ((3 : BitVec 2) ++ sh))) imm
  | .stepOpn node => .entry (BitVec.cast (by decide) ((5 : BitVec 4) ++ (0 : BitVec 3) ++ node ++ (0 : BitVec 16)))
  | .stepJmp target => entryBits 6 target 0 0
  | .stepDone => entryBits 7 0 0 0
  | .barr l d => nodeBits 0x014 (0) d (lBarr l)
  | .barrGenerationComplete _ _ => .noWords
  | .trigger d => nodeBits 0x015 (0) d 0
  | .done d => nodeBits 0x016 (0) d 0
  | .ckpt n d => nodeBits 0x017 (0) d (padL n)
  | .fork l d => nodeBits 0x018 (0) d (lEntry l)
  | .join d => nodeBits 0x019 (0) d 0
  | .park kind l d => nodeBits 0x01A (mPark kind) d (lEntry l)
  | .parkWake _ _ => .noWords
  | .resume d => nodeBits 0x01B (0) d 0
  | .taskResume _ => .noWords
  | .frameJoin _ => .noWords
  | .stealRequest _ => .noWords
  | .stealServe _ => .noWords
  | .add sg b d => nodeBits 0x040 (mSG sg ||| mLB b) d (lBSrc b)
  | .sub sg b d => nodeBits 0x041 (mSG sg ||| mLB b) d (lBSrc b)
  | .mul sg b d => nodeBits 0x042 (mSG sg ||| mLB b) d (lBSrc b)
  | .mulh sg b d => nodeBits 0x043 (mSG sg ||| mLB b) d (lBSrc b)
  | .div sg b d => nodeBits 0x044 (mSG sg ||| mLB b) d (lBSrc b)
  | .rem sg b d => nodeBits 0x045 (mSG sg ||| mLB b) d (lBSrc b)
  | .min_ sg b d => nodeBits 0x046 (mSG sg ||| mLB b) d (lBSrc b)
  | .max_ sg b d => nodeBits 0x047 (mSG sg ||| mLB b) d (lBSrc b)
  | .cmp sg cond b d => nodeBits 0x048 (mSG sg ||| mLB b ||| mCond cond) d (lBSrc b)
  | .and_ b d => nodeBits 0x049 (mLB b) d (lBSrc b)
  | .or_ b d => nodeBits 0x04A (mLB b) d (lBSrc b)
  | .xor b d => nodeBits 0x04B (mLB b) d (lBSrc b)
  | .andn b d => nodeBits 0x04C (mLB b) d (lBSrc b)
  | .rotl b d => nodeBits 0x04D (mLB b) d (lBSrc b)
  | .rotr b d => nodeBits 0x04E (mLB b) d (lBSrc b)
  | .shl sg b d => nodeBits 0x04F (mSG sg ||| mLB b) d (lBSrc b)
  | .shr sg b d => nodeBits 0x050 (mSG sg ||| mLB b) d (lBSrc b)
  | .neg d => nodeBits 0x051 (0) d 0
  | .abs d => nodeBits 0x052 (0) d 0
  | .not_ d => nodeBits 0x053 (0) d 0
  | .clz d => nodeBits 0x054 (0) d 0
  | .ctz d => nodeBits 0x055 (0) d 0
  | .popc d => nodeBits 0x056 (0) d 0
  | .adds sg b d => nodeBits 0x080 (mSG sg ||| mLB b) d (lBSrc b)
  | .subs sg b d => nodeBits 0x081 (mSG sg ||| mLB b) d (lBSrc b)
  | .muls sg b d => nodeBits 0x082 (mSG sg ||| mLB b) d (lBSrc b)
  | .shls sg b d => nodeBits 0x083 (mSG sg ||| mLB b) d (lBSrc b)
  | .abss d => nodeBits 0x084 (0) d 0
  | .clamp sg d => nodeBits 0x085 (mSG sg) d 0
  | .shrr sg tie b d => nodeBits 0x086 (mSG sg ||| mLB b ||| mTie tie) d (lBSrc b)
  | .rquant sg l d => nodeBits 0x087 (mSG sg) d (lRq l)
  | .bfx sg l d => nodeBits 0x088 (mSG sg) d (lField l)
  | .bfi l d => nodeBits 0x089 (0) d (lField l)
  | .brev d => nodeBits 0x08A (0) d 0
  | .sext wm1 d => nodeBits 0x08B (0) d (padL wm1)
  | .zext wm1 d => nodeBits 0x08C (0) d (padL wm1)
  | .padd n d => nodeBits 0x08D (0) d (padL n)
  | .psub n d => nodeBits 0x08E (0) d (padL n)
  | .paln n d => nodeBits 0x08F (0) d (padL n)
  | .pchk n d => nodeBits 0x090 (0) d (padL n)
  | .pcvt toByte d => nodeBits 0x091 (mK2 toByte) d 0
  | .pspc sel d => nodeBits 0x092 (mPspc sel) d (lPspc sel)
  | .fadd rm cls b d => nodeBits 0x0C0 (mRm rm ||| mCls cls ||| mLB b) d (lBSrc b)
  | .fsub rm cls b d => nodeBits 0x0C1 (mRm rm ||| mCls cls ||| mLB b) d (lBSrc b)
  | .fmul rm cls b d => nodeBits 0x0C2 (mRm rm ||| mCls cls ||| mLB b) d (lBSrc b)
  | .fdiv rm cls b d => nodeBits 0x0C3 (mRm rm ||| mCls cls ||| mLB b) d (lBSrc b)
  | .fsclb rm cls b d => nodeBits 0x0C4 (mRm rm ||| mCls cls ||| mLB b) d (lBSrc b)
  | .fma rm cls d => nodeBits 0x0C5 (mRm rm ||| mCls cls) d 0
  | .fnma rm cls d => nodeBits 0x0C6 (mRm rm ||| mCls cls) d 0
  | .fsqrt rm cls d => nodeBits 0x0C7 (mRm rm ||| mCls cls) d 0
  | .frsq rm cls d => nodeBits 0x0C8 (mRm rm ||| mCls cls) d 0
  | .frcp rm cls d => nodeBits 0x0C9 (mRm rm ||| mCls cls) d 0
  | .frint rm cls d => nodeBits 0x0CA (mRm rm ||| mCls cls) d 0
  | .fmin cls b d => nodeBits 0x0CB (mCls cls ||| mLB b) d (lBSrc b)
  | .fmax cls b d => nodeBits 0x0CC (mCls cls ||| mLB b) d (lBSrc b)
  | .fminm cls b d => nodeBits 0x0CD (mCls cls ||| mLB b) d (lBSrc b)
  | .fmaxm cls b d => nodeBits 0x0CE (mCls cls ||| mLB b) d (lBSrc b)
  | .fabs cls d => nodeBits 0x0CF (mCls cls) d 0
  | .fneg cls d => nodeBits 0x0D0 (mCls cls) d 0
  | .fclass cls d => nodeBits 0x0D1 (mCls cls) d 0
  | .fcpys cls b d => nodeBits 0x0D2 (mCls cls ||| mLB b) d (lBSrc b)
  | .fcmp cond cls b d => nodeBits 0x0D3 (mCondHi cond ||| mCls cls ||| mLB b) d (lBSrc b)
  | .cvtff toFd rm cls fd d => nodeBits 0x100 (mTop toFd ||| mRm rm ||| mCls cls) d fd
  | .cvtfi rm cls fd d => nodeBits 0x101 (mRm rm ||| mCls cls) d fd
  | .cvtif rm cls fd d => nodeBits 0x102 (mRm rm ||| mCls cls) d fd
  | .fexp2 rm cls d => nodeBits 0x103 (mRm rm ||| mCls cls) d 0
  | .fexpe rm cls d => nodeBits 0x104 (mRm rm ||| mCls cls) d 0
  | .flog2 rm cls d => nodeBits 0x105 (mRm rm ||| mCls cls) d 0
  | .ftanh rm cls d => nodeBits 0x106 (mRm rm ||| mCls cls) d 0
  | .fsig rm cls d => nodeBits 0x107 (mRm rm ||| mCls cls) d 0
  | .fsinp rm cls d => nodeBits 0x108 (mRm rm ||| mCls cls) d 0
  | .fcosp rm cls d => nodeBits 0x109 (mRm rm ||| mCls cls) d 0
  | .sclmax fd d => nodeBits 0x10A (0) d fd
  | .sclget d => nodeBits 0x10B (0) d 0
  | .sclset b d => nodeBits 0x10C (mLB b) d (lBSrc b)
  | .vctx qm1 cl2 d => nodeBits 0x140 (0) d (lVctx qm1 cl2)
  | .vpack d => nodeBits 0x141 (0) d 0
  | .vunpack d => nodeBits 0x142 (0) d 0
  | .vsplat gl2 lane d => nodeBits 0x143 (0) d (lVsplat gl2 lane)
  | .vperm d => nodeBits 0x144 (0) d 0
  | .vext lane d => nodeBits 0x145 (0) d (padL lane)
  | .vins lane d => nodeBits 0x146 (0) d (padL lane)
  | .vsel d => nodeBits 0x147 (0) d 0
  | .vredadd ty d => nodeBits 0x148 (mTy ty) d 0
  | .vredmin ty d => nodeBits 0x149 (mTy ty) d 0
  | .vredmax ty d => nodeBits 0x14A (mTy ty) d 0
  | .vscan ty d => nodeBits 0x14B (mTy ty) d 0
  | .red ty d => nodeBits 0x14C (mTy ty) d 0
  | .scan ty d => nodeBits 0x14D (mTy ty) d 0
  | .argmax ty d => nodeBits 0x14E (mTy ty) d 0
  | .argmin ty d => nodeBits 0x14F (mTy ty) d 0
  | .sortk ty km1 asc d => nodeBits 0x150 (mTy ty) d (lSortk km1 asc)
  | .chain l d => nodeBits 0x151 (0) d (lChain l)
  | .eod n d => nodeBits 0x152 (0) d (padL n)
  | .cntr n d => nodeBits 0x153 (0) d (padL n)
  | .rng d => nodeBits 0x154 (0) d 0
  | .rngf d => nodeBits 0x155 (0) d 0
  | .ld sg wm1 w d => nodeBits 0x180 (mTop sg ||| mW wm1) d (lWave w)
  | .ldv sg wm1 w d => nodeBits 0x181 (mTop sg ||| mW wm1) d (lWave w)
  | .ldx sg wm1 k d => nodeBits 0x182 (mTop sg ||| mW wm1) d k
  | .loadDataReturn _ _ => .noWords
  | .viewCacheFill _ _ => .noWords
  | .pref d => nodeBits 0x183 (0) d 0
  | .ldb n d => nodeBits 0x184 (0) d (padL n)
  | .st wm1 w d => nodeBits 0x185 (mW wm1) d (lWave w)
  | .stv wm1 w d => nodeBits 0x186 (mW wm1) d (lWave w)
  | .stx wm1 k d => nodeBits 0x187 (mW wm1) d k
  | .stb n d => nodeBits 0x188 (0) d (padL n)
  | .strmgo n d => nodeBits 0x189 (0) d (padL n)
  | .streamTokenEmit _ _ => .noWords
  | .streamTokenAccept _ _ => .noWords
  | .streamEnd _ _ => .noWords
  | .strmend n d => nodeBits 0x18A (0) d (padL n)
  | .strmst n d => nodeBits 0x18B (0) d (padL n)
  | .atom w64 op w d => nodeBits 0x18C (mSG w64 ||| mAtom op) d (lWave w)
  | .atomf op f64 w d => nodeBits 0x18D (mFAtom op ||| mF64 f64) d (lWave w)
  | .acas w64 w d => nodeBits 0x18E (mSG w64) d (lWave w)
  | .atomicHomeExec _ _ => .noWords
  | .atomicReturn _ _ => .noWords
  | .rel scope w d => nodeBits 0x18F (mScope scope) d (lWave w)
  | .relScopeReached _ _ => .noWords
  | .acq w d => nodeBits 0x190 (0) d (lWave w)
  | .acqComplete _ _ => .noWords
  | .gpos sel d => nodeBits 0x191 (mGpos sel) d 0
  | .fence w d => nodeBits 0x192 (0) d (lWave w)
  | .fencePerformed _ _ => .noWords
  | .qpush d => nodeBits 0x193 (0) d 0
  | .qpop d => nodeBits 0x194 (0) d 0
  | .qpopComplete _ _ => .noWords
  | .remoteAbufAccess _ => .noWords
  | .mxcmd n d => nodeBits 0x1C0 (0) d (padL n)
  | .mxseq l d => nodeBits 0x1C1 (0) d (lList l)
  | .mxexec d => nodeBits 0x1C2 (0) d 0
  | .mmul _ => .noWords
  | .mzero _ => .noWords
  | .mnop _ => .noWords
  | .mxeGroup _ _ => .noWords
  | .mxeRetire _ _ => .noWords
  | .mxin token fp d => nodeBits 0x1C3 (0) d (lMxin token fp)
  | .mxout l d => nodeBits 0x1C4 (0) d (lMxout l)
  | .mxchk d => nodeBits 0x1C5 (0) d 0
  | .mxwait d => nodeBits 0x1C6 (0) d 0
  | .ticketRetired _ _ => .noWords
  | .mxtl d => nodeBits 0x1C7 (0) d 0
  | .cpgo ch d => nodeBits 0x1D0 (mCh ch) d 0
  | .cpstat ch d => nodeBits 0x1D1 (mCh ch) d 0
  | .tlread sel d => nodeBits 0x1D2 (mTl sel) d (lTl sel)
  | .tlwait sel d => nodeBits 0x1D3 (mTl sel) d (lTl sel)
  | .wtany d => nodeBits 0x1D4 (0) d 0
  | .wtall d => nodeBits 0x1D5 (0) d 0
  | .wtff d => nodeBits 0x1D6 (0) d 0
  | .tagclr d => nodeBits 0x1D7 (0) d 0
  | .rawait d => nodeBits 0x1D8 (0) d 0
  | .rsrel d => nodeBits 0x1D9 (0) d 0
  | .rapeek d => nodeBits 0x1DA (0) d 0
  | .waitComplete _ _ => .noWords
  | .trap endU code d => nodeBits 0x1E0 (0) d (lTrap endU code)
  | .flags d => nodeBits 0x1E1 (0) d 0
  | .flclr d => nodeBits 0x1E2 (0) d 0
  | .perf index d => nodeBits 0x1E3 (0) d (padL index)
  | .cycl d => nodeBits 0x1E4 (0) d 0
  | .subcnt d => nodeBits 0x1E5 (0) d 0
  | .sysq n d => nodeBits 0x1E6 (0) d (padL n)
  | .sysqRequest _ => .noWords
  | .brk n d => nodeBits 0x1E7 (0) d (padL n)
  | .ident sel d => nodeBits 0x1E8 (mIdent sel) d 0
  | .sysrd d => nodeBits 0x1E9 (0) d 0
  | .syswr d => nodeBits 0x1EA (0) d 0
  | .tokenArrive _ => .noWords
  | .overflowRefill _ _ => .noWords
  | .matchPromote _ _ => .noWords
  | .tagOpApply _ => .noWords
  | .heldTokenGrant _ _ _ => .noWords
  | .frameAllocWake _ _ => .noWords
  | .vcStarvationPriority _ _ => .noWords
  | .walkComplete _ _ => .noWords
  | .pteLost _ _ => .noWords
  | .quiesceSharedSids _ _ => .noWords
  | .tlbInvPage _ _ _ => .noWords
  | .tlbInvSid _ => .noWords
  | .tlbInvAll => .noWords
  | .tlbInvDone => .noWords
  | .dirtyBitUpdate _ _ => .noWords
  | .writeBackScan _ _ => .noWords
  | .writeBackComplete _ _ => .noWords
  | .leaseGranted _ => .noWords
  | .leaseRelease _ => .noWords
  | .repairPassStart _ => .noWords
  | .drainEntry _ => .noWords
  | .compactorFold _ _ => .noWords
  | .galLost _ => .noWords
  | .mirrorUpdate _ _ => .noWords
  | .galleyFullResume _ => .noWords
  | .vcInvalAll _ => .noWords
  | .vcInvalDone _ => .noWords
  | .chHeadWrite _ _ _ => .noWords
  | .recordFetch _ _ => .noWords
  | .ringSlotClaim _ _ => .noWords
  | .copyMove _ _ => .noWords
  | .recordRetire _ _ => .noWords
  | .clReadyClear _ _ => .noWords
  | .ringEnable _ _ _ => .noWords
  | .ringDisable _ _ => .noWords
  | .peModeWrite _ _ _ => .noWords
  | .peXenWrite _ _ _ => .noWords
  | .peFlagsClear _ _ _ => .noWords
  | .cntArm _ _ _ _ => .noWords
  | .cntAdd _ _ => .noWords
  | .cntCancel _ => .noWords
  | .cntFree _ => .noWords
  | .cntSignal _ => .noWords
  | .slotCommit => .noWords
  | .dispatchStart _ => .noWords
  | .unitEnd _ => .noWords
  | .unitFault _ => .noWords
  | .faultRecordWrite _ => .noWords
  | .graphReplay _ => .noWords
  | .queueBind => .noWords
  | .queueAge _ => .noWords
  | .droneBind => .noWords
  | .hang _ => .noWords
  | .objectLoad _ => .noWords
  | .translationRecord _ _ => .noWords
  | .nativeSwap _ => .noWords
  | .kernelRestart _ => .noWords
  | .checkReplay _ _ _ => .noWords
  | .peRetired _ _ _ => .noWords
  | .stateLost _ _ _ _ => .noWords
  | .trapStop _ => .noWords
  | .stopMap _ => .noWords
  | .clusterRemap _ => .noWords
  | .mirrorRebuild _ => .noWords
  | .dieFault _ => .noWords
  | .preempt _ => .noWords
  | .preemptForceHalt _ => .noWords
  | .contextSwap _ => .noWords
  | .liveRangeSave _ => .noWords
  | .restore _ _ => .noWords
  | .snapshot _ => .noWords
  | .halt _ => .noWords
  | .resumeHalt _ => .noWords
  | .haltComplete _ => .noWords
  | .mbxDoorbell _ _ => .noWords
  | .mbxLoadObject => .noWords
  | .mbxLaunch => .noWords
  | .mbxCancel => .noWords
  | .mbxCopyToProcess => .noWords
  | .mbxCopyToHost => .noWords
  | .mbxAttest => .noWords
  | .mbxCompletionPost => .noWords
  | .flitSend _ _ _ => .noWords
  | .flitReceive _ _ _ _ => .noWords
  | .nakReplay _ _ _ => .noWords
  | .controlFlit _ _ _ => .noWords
  | .laneFailure _ _ _ _ => .noWords
  | .netDoorbell _ => .noWords
  | .put _ _ _ _ => .noWords
  | .get _ _ _ _ => .noWords
  | .cas _ _ _ _ => .noWords
  | .raddI32 _ _ _ _ => .noWords
  | .raddF32 _ _ _ _ => .noWords
  | .netComplete _ => .noWords
  | .netTimeout _ _ => .noWords
  | .storageReadComplete _ _ _ => .noWords
  | .deviceReset _ => .noWords
  | .bootStage _ _ _ _ _ _ => .noWords
  | .thermSample _ _ => .noWords
  | .throttleStepUp _ => .noWords
  | .throttleStepDown _ => .noWords
  | .thermCrit _ => .noWords
  | .hbmBandChange _ _ => .noWords
  | .pwrEvaluate _ => .noWords
  | .islandLevelChange _ => .noWords
  | .registerWrite _ _ _ => .noWords
  | .netFadd _ _ _ _ => .noWords
  | .peerRequest _ _ _ _ _ _ _ => .noWords
  | .netContextRestart _ => .noWords
  | .hdmWindowStore _ _ => .noWords
  | .aBufferBankPriority _ _ _ => .noWords
  | .systemCoreStore _ _ _ _ => .noWords

end Sys2Proof
end

