-- ==== Sys2Proof/Machine/State.lean ====
section
/-!
DEFINITION. The state of the machine: every register, table, store and queue the spec names, as plain data,
and the state right after reset. Fields marked "model" are the model's own and no part of the spec.
-/
namespace Sys2Proof.Machine

/-- Why the machine cannot take a step. -/
inductive Fault where
  /-- Raised by `step` when a unit is to fire a node-store position that holds no decodable record. 08 R188 says
  no loaded forme has one, so only a state no run reaches stops here. Safe: the machine stops. -/
  | noRecord
deriving DecidableEq, Repr

/-- Why the model gives no meaning. -/
inductive Refusal where
  /-- Raised by `exec` for an instruction the model gives no meaning to yet. Safe: the machine stops. -/
  | notModelled (mnemonic : String)
deriving DecidableEq, Repr

/-! ## Tokens, matches and firings -/

/-- TKIND of a token (06 R123). -/
inductive TKind where
  | data | bubble | control
deriving DecidableEq, Repr

/-- A token without its destination (06 R123): the header fields from TAG down, and the payload. -/
structure Token where
  tag : Tag := 0
  /-- die [23:21] and frame [20:0] of the frame `:first` names -/
  aux : BitVec 24 := 0
  kind : TKind := .data
  gl2 : Nat := 0
  cl2 : Nat := 6
  scale : BitVec 16 := 0x7F00
  bpos : Nat := 0
  eod : Nat := 0
  ov : Bool := false
  oidx : Nat := 0
  pmask : Nat := 0
  pay : Nat := 0
deriving DecidableEq, Repr

/-- A stamp: a galley and a position (05 R113). -/
structure Stamp where
  gal : Nat
  pos : Nat
deriving DecidableEq, Repr

/-- The operands a firing has latched. Model: the instruction under execution reads them here. -/
structure Firing where
  cl : Nat := 0
  unit : Nat := 0
  node : Nat := 0
  tag : Tag := 0
  a : Option Token := none
  b : Option Token := none
  c : Option Token := none
  t : Option Token := none
  /-- arrival number of the match, for the order of R217 and R137 -/
  seq : Nat := 0
deriving DecidableEq, Repr

/-- A matching-table entry, or the same entry spilled to the overflow store (06 R131, R132). -/
structure MEntry where
  seq : Nat
  fir : Firing
  /-- false: the entry's tokens lie in the overflow store -/
  inTable : Bool := true
  /-- cycles since the match became complete (06 R137) -/
  age : Nat := 0
  /-- cycles since the first token arrived (20 R376) -/
  wait : Nat := 0
  promoted : Bool := false
  /-- the walk or dirty-bit request the match is held for (03 R53, R71) -/
  held : Option Nat := none
  /-- its translation has missed: a store of its unit after it waits for it (03 R53) -/
  missed : Bool := false
  /-- the slot that a QPUSH has claimed: owner, ring, claim number (13 R296) -/
  claim : Option (Nat × Nat × Nat) := none
deriving DecidableEq, Repr

/-- A token's place: cluster, unit, node, port (08 R168), or a stream port of a unit. -/
inductive Place where
  | node (cl unit node : Nat) (port : Port)
  | stream (cl port : Nat)
deriving DecidableEq, Repr

/-- A held token (06 R130). -/
structure Held where
  seq : Nat
  frame : Nat
  slot : Nat
  dst : Place
  tok : Token
deriving DecidableEq, Repr

/-- A frame table entry in use (06 R126, 10 R228). -/
structure Frame where
  n : Nat := 1
  parent : Option Tag := none
  retlink : Option (BitVec 24) := none
  age : Nat := 0
  occ : Nat := 1
  newest : Nat := 0
  pend : Nat := 0
  join : Word := 0
  /-- allocated for a resumption (10 R222) -/
  resumed : Bool := false
deriving DecidableEq, Repr

/-- A step-list activation (08 R181, R182). -/
structure Activation where
  seq : Nat
  fir : Firing
  list : ListLit
  mxseq : Bool := false
  dests : Dests
  idx : Nat := 0
  x : List Nat := [0, 0, 0, 0]
  v : Token := {}
  /-- open loops, innermost first: step index, last step, register, count -/
  loops : List (Nat × Nat × Nat × Nat) := []
  /-- cycles since it last ran a step, for the promotion of 06 R137 -/
  age : Nat := 0
  promoted : Bool := false
deriving DecidableEq, Repr

/-- A sequence entry (12 R265): the state a sequence node keeps for one frame. -/
structure SeqEnt where
  node : Nat
  unit : Nat
  /-- die and frame of the tags it serves: the tag without its iteration -/
  frame : Nat
  /-- the frame's N, read when the entry was opened -/
  n : Nat := 1
  /-- members taken over the frame's life; the cursor e is this modulo n -/
  count : Nat := 0
  /-- position of the next member within the open dimension -/
  k : Nat := 0
  /-- GRANTL2 and CONTL2 of the dimension's first member -/
  shape : Option (Nat × Nat) := none
  /-- RED: its partials by k mod 4; SCAN: the running sum -/
  parts : List (List Nat) := []
  /-- ARGMAX and ARGMIN: each lane's winner, code and position; SORTK: the elements taken, code and index -/
  kept : List (Option (Nat × Nat)) := []
  /-- lanes poisoned in any member -/
  pm : Nat := 0
  bubbled : Bool := false
  bport : Nat := 0
  /-- hull of the outer indices of every token of the dimension (03 R66) -/
  hull : Option (Nat × Nat) := none
deriving DecidableEq, Repr

/-- A wave-table entry (13 R275). -/
structure WaveEnt where
  tag : Tag
  wown : Nat
  wsucc : Nat
  wsw : Bool
  /-- when its wave opened: a marker for its tag that left earlier leaves it alone (10 R215) -/
  born : Nat := 0
deriving DecidableEq, Repr

/-- A change that one tile's copy of the wave table has made and that the other copies make next (13 R275). -/
structure WaveNote where
  tile : Nat
  tag : Tag
  /-- the entry that goes; none: a new one is taken -/
  old : Option WaveEnt
  /-- the entry that comes; none: the old one is freed -/
  new : Option WaveEnt
  /-- tiles that have discarded the wave meanwhile -/
  not : List Nat := []
deriving DecidableEq, Repr

/-- One piece of a pending load: physical bits, and the data and poison once captured (13 R279). -/
structure Piece where
  pba : Nat
  len : Nat
  et : Bool := false
  got : Option (Nat × Bool) := none
deriving DecidableEq, Repr

/-- What a pending firing waits for. -/
inductive Waiting where
  /-- a load: width, lane count, sign extension, snapshot and pieces; late: it waits for the galley before its probe
  (04 R80, 13 R278, R279) -/
  | load (w lanes : Nat) (sg : Bool) (snap : Nat) (late : Bool) (pieces : List Piece)
  /-- an atomic issued at A, its word, and the value once it has executed (04 R91): old, poisoned, flags -/
  | atomic (issueA pba sid : Nat) (done : Option (Nat × Bool × Nat × Bool))
  | rel (scope : RelScope) (pos : Nat)
  /-- a TRIGGER's release: the galley and the position (10 R218); none: it is still held (03 R69) -/
  | trigger (pos : Option Stamp)
  /-- ACQ: galleys still to acquire; the pages its finished ones invalidated, and whether they all were; whether it
  has advanced a table entry (04 R84, R85) -/
  | acq (gals : List (Nat × Nat)) (pages : List Nat) (full advanced : Bool)
  | fence (before : List Nat)
  /-- QPUSH after its claim: owner, ring, slot -/
  | qpush (owner ring slot : Nat)
  /-- QPOP after it took its slot: owner, ring, slot, stamp; A at the issue of its read, once it has acquired; a read
  of the owner's A-buffer under way; the pieces of its read of memory, once that has been issued -/
  | qpop (owner ring slot : Nat) (st : Option Stamp) (issued : Option Nat) (reading : Bool) (pieces : List Piece)
  /-- a remote A-buffer access in flight (02 R39) -/
  | remote
  /-- an access that the banks of the own A-buffer have still to serve (02 R35) -/
  | banks
  /-- a load that the banks have served: its bits -/
  | served (value : Nat)
  /-- a request to another unit on channel 3 or 5, and what it has answered (06 R141, 10 R208, 16 R336, R344) -/
  | request (answer : Option Nat)
  /-- a wait of 16 R330 -/
  | wait
  | ticket (t : Nat)
  /-- an allocation that waits for a free frame (06 R126) -/
  | frame
  | barr (id gen : Nat)
  /-- a wait whose condition was found to hold: the stamps to acquire and the value it observed (16 R330) -/
  | acquiring (stamps : List Stamp) (value : Nat)
  /-- SYSQ, and the firmware's answer (16 R342) -/
  | sysq (answer : Option Nat)
  /-- a galley append held by a full ring (04 R96): its pieces -/
  | append (pieces : List (Nat × Nat × Nat × Bool)) (sid : Nat) (src : Nat)
  /-- a push waiting for room in the deque or the parked table (10 R222) -/
  | task
  /-- JOIN's atomic (10 R227): issue A, the counter's bits, the object, and what the atomic returned; inside, no
  value where its sector was poisoned -/
  | join (issueA pba : Nat) (va : Nat) (done : Option (Option Nat))
  /-- STRMEND, until the stream on its port has stopped (13 R289) -/
  | strmend (port : Nat)
  /-- RESUME's record read (10 R226): D must reach this position -/
  | recread (issueA : Nat) (va : Nat) (joined : Bool)
deriving DecidableEq, Repr

/-- A firing that has not completed. -/
structure Pend where
  id : Nat
  fir : Firing
  instr : Instr
  why : Waiting
  age : Nat := 0
deriving DecidableEq, Repr

/-- A stream (13 R283 to R287) or the block of an LDB or STB (R290). -/
structure Stream where
  fir : Firing
  instr : Instr
  base : Nat
  c0 : Nat
  c1 : Nat
  c2 : Nat
  s1 : Int
  s2 : Int
  drl : Bool := false
  /-- tokens emitted or accepted -/
  j : Nat := 0
  moved : Nat := 0
  stopping : Bool := false
  block : Bool := false
  scale : BitVec 16 := 0x7F00
  scalePoison : Bool := false
  /-- the burst whose scale is not read: its BPOS 0 token was a bubble -/
  scaleLost : Bool := false
  /-- A when the next token's line requests issued (04 R80), or its buffer accesses' key -/
  issued : Option Nat := none
  /-- the pieces of memory that the issued token reads: its scale's, and its elements' -/
  reads : List Piece × List Piece := ([], [])
  /-- the token at the port waits for a walk or a dirty-bit update (03 R53) -/
  missed : Bool := false
  /-- elements of the token at the port already written (13 R283) -/
  part : Nat := 0
  /-- the port holds its token for an iteration slot, counted in the frame's PEND (06 R130, R147) -/
  holding : Bool := false
  /-- LDB: its pointer has been sent (13 R290) -/
  told : Bool := false
  /-- lowest and highest process bits written (03 R73) -/
  lo : Option Nat := none
  hi : Nat := 0
  /-- pieces not appended yet: pba, length, data, poison; contiguous elements merge (13 R286), and an MXOUT tile's
  wait for its checksum (15 R319) -/
  held : List (Nat × Nat × Nat × Bool) := []
  tileSums : Tbl Nat := []
  /-- elements of the open tile still to come -/
  tileLeft : Nat := 0
  /-- an MXOUT tile's writes to a typed buffer, held for its checksum: offset, bits, data (15 R319) -/
  heldBuf : List (Nat × Nat × Nat) := []
deriving DecidableEq, Repr

/-- A token waiting at an out-of-fabric port, with the tile checksum it carries (15 R319). -/
structure PortTok where
  tok : Token
  /-- the MXE command that sent it: slot and generation (15 R324) -/
  cmd : Option (Nat × Nat) := none
  /-- MXOUT: row, column of lane 0, rows, columns of the tile, and the tile's checksums at its last token -/
  tile : Option (Nat × Nat × Nat × Nat × List Nat) := none
deriving DecidableEq, Repr

/-- A stream port of the cluster (06 R146, R147). -/
structure StrPort where
  stream : Option Stream := none
  queue : List PortTok := []
  lastMoved : Nat := 0
  ran : Bool := false
deriving DecidableEq, Repr

/-- A continuation record with its stamps (10 R221). -/
structure TaskRec where
  entry : BitVec 24 := 0
  nm1 : Nat := 0
  ngm1 : Nat := 0
  join : Word := 0
  live : List Nat := []
  /-- PMASK of the FORK operand, for group 0 (10 R224) -/
  pmask : Nat := 0
  /-- live values that RESUME or JOIN read poisoned: a bit for each (22 R395) -/
  poison : Nat := 0
  stamps : List Stamp := []
  joined : Bool := false
deriving DecidableEq, Repr

/-- A parked record (10 R225). -/
structure Parked where
  id : Nat
  rec_ : TaskRec
  kind : ParkKind
  value : Nat
  obj : Nat
deriving DecidableEq, Repr

/-- A transfer record in progress (05 R104), its words as fetched. -/
structure CopyRec where
  ptr : Nat
  words : List Nat
  /-- the destination pointer in use: DST, or the ring slot of R116 -/
  dst : Nat := 0
  /-- claimed ring slot: owner, ring, slot (05 R116) -/
  claim : Option (Nat × Nat × Nat) := none
  /-- the record's slot is claimed where it needs one, and its elements may move -/
  started : Bool := false
  /-- elements moved, in loop order: the index (k0, k1, k2) of the next one -/
  j : Nat := 0
  /-- pieces not appended yet: contiguous destination bits merge (05 R106) -/
  held : List (Nat × Nat × Nat × Bool) := []
  /-- the W-buffer word being gathered: its number, its bits written so far, and their values (02 R37) -/
  word : Option (Nat × Nat × Nat) := none
  /-- contiguous bits of an A-buffer word being gathered: offset, bits, data (05 R106) -/
  run : Option (Nat × Nat × Nat) := none
  /-- the key of the record's writes to an A-buffer -/
  wkey : Option Nat := none
  /-- the scale of the burst in progress under SCM 10 (05 R108, 06 R148) -/
  scale : BitVec 16 := 0x7F00
  /-- the key of an A-buffer access under way -/
  key : Option Nat := none
  appended : Bool := false
  skipped : Bool := false
  poisoned : Bool := false
  /-- steps 1 and 2 of the retirement are done: the record's stamp (05 R111) -/
  retiring : Option (Option Stamp) := none
deriving DecidableEq, Repr

/-- A copy channel (05 R101). -/
structure Channel where
  head : Word := 0
  busy : Bool := false
  frozen : Bool := false
  waiting : Bool := false
  lastStat : Nat := 0
  retired : Nat := 0
  tl : Nat := 0
  cur : Word := 0
  stamp : Option Stamp := none
  /-- A held when the fetch or the record's read was issued (05 R103) -/
  issueA : Nat := 0
  rec_ : Option CopyRec := none
deriving DecidableEq, Repr

/-- A ring object (05 R114). -/
structure Ring where
  base : Word := 0
  slot : Nat := 0
  log2n : Nat := 0
  mode : Bool := false
  en : Bool := false
  wslot : Nat := 0
  rslot : Nat := 0
  claim : Nat := 0
  popc : Nat := 0
  /-- filled slots' stamps, by count (05 R116) -/
  filled : Tbl (Option Stamp) := []
  /-- pops that have released their slot out of order (13 R297) -/
  released : List Nat := []
deriving DecidableEq, Repr

/-- A command slot of the MXE graph (15 R305). -/
structure MxSlot where
  gen : Nat := 0
  retired : Nat := 0
  /-- by generation: COOKIE, CODE and FLAGS of the retired command (15 R325) -/
  done : Tbl (Nat × Nat × Nat) := []
deriving DecidableEq, Repr

/-- What a command does (15 R302, R323, R324). -/
inductive MxOp where
  | mmul (words : List Nat)
  | mzero (words : List Nat)
  | mnop
  | mxin (region : Nat) (token fp : Bool) (src pitch : Nat) (tok : Token)
  | mxout (region vb : Nat) (lit : MxoutLit) (dst pitch : Nat)
deriving DecidableEq, Repr

/-- A C-store entry (15 R309). -/
structure CEnt where
  code : Nat := 0
  ty : Bool := false
  pz : Bool := false
deriving DecidableEq, Repr

/-- An accepted command that has not retired (15 R305, R306). -/
structure MxCmd where
  slot : Nat
  gen : Nat
  op : MxOp
  fir : Firing
  dests : Dests
  /-- bound predecessors: slot and generation -/
  preds : List (Nat × Nat)
  started : Bool := false
  /-- next group of the array, or next row of the epilogue or the input port -/
  next : Nat := 0
  done : Bool := false
  retried : Bool := false
  flags : Nat := 0
  force : Bool := false
  cookie : Nat := 0
  /-- running output checksums by column: the epilogue's, and those the write port recomputes; tokens sent (15 R319) -/
  sums : List Nat := []
  written : List Nat := []
  sent : Nat := 0
  /-- an MXOUT holds its row's next token for an occupied slot (06 R130, R147) -/
  holding : Bool := false
  /-- the key of an A-buffer read under way (15 R308) -/
  key : Option Nat := none
  /-- entries of an MXOUT's region read so far, by their place in it (15 R306) -/
  read : Tbl CEnt := []
deriving DecidableEq, Repr

/-- A barrier object (10 R217). -/
structure Barrier where
  gen : Nat := 0
  /-- arrivals of each cluster, by its place in the partition, in its current and later generations -/
  counts : Tbl Nat := []
deriving DecidableEq, Repr

/-- PE_MODE, PE_XEN and PE_FLAGS of a checked unit (07 R159). -/
structure PeReg where
  mode : Nat := 0
  xen : Nat := 0
  flags : Nat := 0
  /-- model: the flags that firings have set in the present cycle (07 R160) -/
  now : Nat := 0
deriving DecidableEq, Repr

/-- The execution context of a cluster (23 R407). -/
structure Ctx where
  matches_ : List MEntry := []
  frames : Tbl Frame := []
  allocCtr : Nat := 0
  framesHigh : Nat := 0
  ovfHigh : Nat := 0
  resv : Nat := 0
  held : List Held := []
  acts : List Activation := []
  seqs : List SeqEnt := []
  /-- each edge tile's copy of the wave table, by unit (13 R275) -/
  waves : Tbl (List WaveEnt) := []
  /-- changes of one tile's copy on their way to the others (13 R275) -/
  waveNotes : List WaveNote := []
  pend : List Pend := []
  ports : Tbl StrPort := []
  skip0 : List (Nat × Nat) := []
  skip1 : List (Nat × Nat) := []
  skipAll : Bool := false
  repair : Bool := false
  repaired : Bool := false
  subst : Nat := 0
  /-- records from the head; those past the 64th lie in memory, and spillTop numbers the next spilled (10 R222) -/
  deque : List TaskRec := []
  spillTop : Nat := 0
  parked : List Parked := []
  /-- join pointers of freed frames whose JOIN is still to be performed (10 R228) -/
  joins : List Word := []
  stealing : Bool := false
  /-- the record whose frame the task unit has asked the frame table for (10 R208, R228) -/
  resuming : Option TaskRec := none
  chans : Tbl Channel := []
  ready : Nat := 0
  /-- copy tags that retirements have set in this cycle, with their stamps: a TAGCLR of the cycle comes before them
  (16 R335) -/
  setNow : Tbl (Option Stamp) := []
  /-- copy tags that a TAGCLR has cleared in this cycle: a retirement that waited for it applies in the next (16 R335) -/
  clrNow : Nat := 0
  tagStamps : Tbl Stamp := []
  rings : Tbl Ring := []
  tlBias : Tbl Nat := []
  mxBias : Tbl Nat := []
  mxSlots : Tbl MxSlot := []
  mxCmds : List MxCmd := []
  /-- the barrier objects of SCOPE 00 (10 R217) -/
  barriers : Tbl Barrier := []
  exitVal : Option Nat := none
  trigPos : Option Nat := none
  trigFired : Bool := false
  pe : Tbl PeReg := []
  /-- last node fired by each unit, for the round robin of 06 R137 -/
  lastNode : Tbl Nat := []
  /-- appenders that a full ring holds: modulo 8 their place in R78's order, 0 S0, 1 S1, 2 to 5 the copy channels, 6 an
  ACQ's marker; above that 0 for stores and channels, 1 + its port for a stream, 512 + its number for a QPUSH
  (04 R78, R96) -/
  appWait : List Nat := []
  /-- requesters that wait for a line-request entry, by agent (02 R43) -/
  reqWait : List Nat := []
  /-- a frame has been freed in the cycle (21 R383) -/
  freed : Bool := false
deriving DecidableEq, Repr

/-! ## Memory -/

/-- Physical memory: bytes in address order, no entry equal to what an unlisted byte reads as (02 R27). -/
abbrev Memory := List Host.Cell

/-- A view-cache line (02 R40): data, poison by sector, last use. -/
structure VLine where
  data : Nat
  poison : Nat
  use : Nat
deriving DecidableEq, Repr

/-- A request of an A-buffer bank for bits of one 256-bit word (02 R34 to R36). -/
structure BankReq where
  /-- the access it is a part of -/
  key : Nat
  /-- the requester, by its place in R35's order: 0 MXE operand fetch to 8 another cluster -/
  who : Nat
  off : Nat
  w : Nat
  /-- the data of a store -/
  store : Option Nat := none
  /-- served: what a read returned -/
  got : Option Nat := none
  /-- the cycle in which it was served is over, and what it delivers can be used -/
  done : Bool := false
deriving DecidableEq, Repr

/-- A line-request entry in use, of an agent that is no view-cache fill (02 R43). -/
structure LineReq where
  /-- 0 L0, 1 L1, 2 the copy port, 3 S0, S1 and the fills -/
  holder : Nat
  agent : Nat
  line : Nat
deriving DecidableEq, Repr

/-- A view-cache fill in flight (02 R41). -/
structure Fill where
  line : Nat
  sid : Nat := 0
  /-- whose line-request entry it holds (02 R43) -/
  holder : Nat := 3
  /-- merged, then invalidated: the fill is reissued (04 R84) -/
  reissue : Bool := false
deriving DecidableEq, Repr

/-- A TLB entry (03 R52). -/
structure TlbEnt where
  sid : Nat
  page : Nat
  size : Nat
  frame : Nat
  rd : Bool
  wr : Bool
  user : Bool
  et : Bool
  cp : Bool
  dirty : Bool
deriving DecidableEq, Repr

/-- What an access asks of a translation (03 R50). -/
inductive AccKind where
  | read | write | atomic
deriving DecidableEq, Repr

/-- A walk in progress (03 R52). -/
structure Walk where
  id : Nat
  sid : Nat
  va : Nat
  kind : AccKind
  /-- both copies of a table were bad (03 R56): the table's primary address -/
  lost : Option Nat := none
  /-- PTE_LOST has been reported -/
  reported : Bool := false
  fir : Firing := {}
  /-- a copy channel's walk -/
  chan : Option Nat := none
  /-- bit addresses whose lines prefetches wait to request -/
  prefs : List Nat := []
  /-- the stream port whose token waits for it (13 R283) -/
  port : Option Nat := none
  /-- the unit that asked for it has ended: its outcome ends no other (03 R51) -/
  orphan : Bool := false
deriving DecidableEq, Repr

/-- A dirty-bit update in progress (03 R71). -/
structure Dirty where
  id : Nat
  sid : Nat
  va : Nat
deriving DecidableEq, Repr

/-- A galley entry not yet folded (04 R77). -/
structure GEnt where
  pos : Nat
  poison : Bool := false
  kind : Nat := 0
  source : Nat := 0
  pba : Nat := 0
  len : Nat := 1
  sid : Nat := 0
  data : Nat := 0
  sent : Bool := false
  /-- 64-bit words of its sector already folded: a bit for each (02 R33) -/
  folded : Nat := 0
  /-- whose launch held the cluster when the position was appended: slot, fault queue, SID, launch counter (04 R98) -/
  owner : Option (Nat × Nat × Nat × Nat) := none
deriving DecidableEq, Repr

/-- The open segment's summary (04 R83). -/
structure Summary where
  pages : List Nat := []
  ovr : Bool := false
deriving DecidableEq, Repr

/-- A galley (04 R75 to R83). D is the position of the first entry of `ents`, or A. -/
structure Galley where
  a : Nat := 0
  p : Nat := 0
  base : Nat := 0
  ents : List GEnt := []
  seg : Summary := {}
  stall : Nat := 0
  fullinv : Nat := 0
deriving DecidableEq, Repr

/-- An acquire-table entry, most recently used first (04 R84). -/
structure AcqEnt where
  gal : Nat
  pos : Nat
deriving DecidableEq, Repr

/-! ## The loaded forme (08, 06 R139, R146, 15 R317, R321, 23 R403). Model: its image's layout is not given. -/

/-- An endpoint descriptor (06 R146), its four words. -/
abbrev EpWords := List Nat

/-- A body of the forme for the budget of 06 R134: N, its enclosing bodies, instances (R222), and its nodes. -/
structure Body where
  n : Nat
  enclosing : List Nat := []
  /-- named as an ENTRY (10 R222) -/
  resumed : Bool := false
  /-- positions of its nodes, unit × 512 + node -/
  nodes : List Nat := []
deriving DecidableEq, Repr

/-- A dense record's forme or a native forme: what the loader reads. -/
structure Forme where
  /-- node records by unit × 512 + node -/
  nodes : Tbl (BitVec 96) := []
  /-- step entries by PE × 64 + entry -/
  steps : Tbl (BitVec 32) := []
  routes : Tbl (BitVec 256) := []
  eps : Tbl EpWords := []
  rings : List (Word × Word) := []
  fds : List (BitVec 32) := []
  /-- places of MXE_FMT_A and MXE_FMT_B in fds, where the forme holds them (08 R187) -/
  ordA : Option Nat := none
  ordB : Option Nat := none
  templates : List (List Nat) := []
  profiles : List (List Nat) := []
  tables : List (List Nat) := []
  ckpts : Tbl (List Nat) := []
  /-- the bodies but the root, to which every other node belongs (06 R134) -/
  bodies : List Body := []
  peMode : Tbl Nat := []
  peXen : Tbl Nat := []
  priv : Bool := false
  stall : Bool := false
  trapStop : Bool := false
  /-- node positions, unit × 512 + node, with a destination on port t (06 R131) -/
  tPorts : List Nat := []
deriving DecidableEq, Repr

/-! ## The cluster -/

/-- The status of the unit on a cluster (20 R367). -/
inductive UnitStat where
  | idle
  | running
  /-- ended by a fault or cancel, its tokens discarded: it waits for its channels and MXE -/
  | ending
  /-- a fault or cancel has ended it; its tokens are still to be discarded -/
  | faulting
  /-- saved by a pre-emption (23 R406) -/
  | saved
deriving DecidableEq, Repr

/-- A debug halt's state (23 R413). -/
inductive HaltStat where
  | run | halting | halted | stepping
deriving DecidableEq, Repr

/-- One firing in a unit's input-latch history, with the outputs' signature (22 R393; log 6). -/
structure HistEnt where
  fir : Firing
  sig : BitVec 32
deriving DecidableEq, Repr

/-- The image of a context in a shadow store (23 R405, R410). In its context the biases hold the saved views
(R408). -/
structure Image where
  ctx : Ctx
  cluster : Nat
  slot : Nat
  gpos : Nat
  forme : Word
  time : Nat
  complete : Bool := false
  forced : Bool := false
  halted : Bool := false
  ckid : Nat := 0
  /-- words 4 to 8 of the header -/
  entry : List Nat := []
  /-- live ranges: store (0 A, 1 W, 2 C), base, length in bits -/
  ranges : List (Nat × Nat × Nat) := []
  expanded : Bool := false
  area : Nat := 0
  index : Nat := 0
  /-- buffer contents saved so far: store (0 A, 1 W, 2 C), word or entry, value -/
  saved : List (Nat × Nat × Nat) := []
  /-- the key of the save's read under way at the A-buffer's banks (23 R409) -/
  reading : Option Nat := none
deriving DecidableEq, Repr

/-- Pending marks of a live-range save (23 R409): store (0 A, 1 W, 2 C), first and last word or entry. -/
abbrev SaveMark := Nat × Nat × Nat

structure Cluster where
  ctx : Ctx := {}
  /-- the slot whose unit holds the cluster -/
  slot : Option Nat := none
  stat : UnitStat := .idle
  forme : Forme := {}
  formePtr : Word := 0
  expanded : Bool := false
  sid : Nat := 0
  /-- earlier values of CL_SID whose accesses may still be in flight (03 R54) -/
  oldSids : List Nat := []
  /-- A-buffer words of 256 bits (02 R34) -/
  abuf : Tbl Nat := []
  wbuf : Tbl Nat := []
  cstore : Tbl CEnt := []
  vc : Tbl VLine := []
  vcBusy : Bool := false
  fills : List Fill := []
  /-- prefetches that wait for a line-request entry: holder, line (02 R43, 13 R281) -/
  prefWait : List (Nat × Nat) := []
  /-- line-request entries of streams, copy channels, pops, records and walks (02 R43) -/
  lines : List LineReq := []
  /-- lines that have been delivered to an agent -/
  here : Tbl (List Nat) := []
  /-- the walker's cache of space entries and level-4 to level-2 entries, most recent first: address, entry
  (03 R52) -/
  walkCache : List (Nat × Nat) := []
  perf : Tbl Nat := []
  tlb : List TlbEnt := []
  walks : List Walk := []
  dirties : List Dirty := []
  gal : Galley := {}
  acqs : List AcqEnt := []
  mxTl : Tbl Nat := []
  brk : Nat := 0
  quietLimit : Nat := 0x4000000
  quiet : Nat := 0
  sp0 : Nat := 0x3F
  sp1 : Nat := 0x3F
  sites : Nat := 4
  health : Nat := 0
  site : Nat := 0
  /-- physical units marked failed: 0 to 35, spare PEs 40 and 41 (22 R393) -/
  failed : List Nat := []
  /-- cycles of a unit's latest 16 replays, and of its latest CHECK_REPLAY record (22 R393) -/
  replays : Tbl (List Nat) := []
  lastReplay : Tbl Nat := []
  halt : HaltStat := .run
  haltMode : Bool := false
  /-- the mode of the halt in force: HALT_FREEZE (23 R413) -/
  haltAs : Bool := false
  stepN : Nat := 0
  stepLeft : Nat := 0
  frozenPorts : Bool := false
  /-- the halt in force quiesces the cluster because a table was lost (03 R56) -/
  quiesced : Bool := false
  preReq : Bool := false
  /-- a unit that replays: the performances it has still to make, before any other firing, and the arrival number of the
  firing whose mismatch began it, which comes next (06 R137, 22 R393) -/
  replaying : Tbl (Nat × Nat) := []
  /-- units whose replay under way runs a second round, or has run it (22 R393) -/
  secondRound : List Nat := []
  /-- each unit's input-latch history: its last 8 firings (22 R393) -/
  hist : Tbl (List HistEnt) := []
  /-- requests of the A-buffer's banks, oldest first (02 R35) -/
  banks : List BankReq := []
  /-- a bank that accepts nothing else: cycles left, this one included, and whom it serves (02 R34) -/
  bankBusy : Tbl (Nat × Nat) := []
  /-- consecutive cycles in which a bank has refused a requester: bank × 16 + requester (02 R35) -/
  bankRefused : Tbl Nat := []
  shadow : Option Image := none
  marks : List SaveMark := []
  ckSel : Option Nat := none
  savedWait : Bool := false
  /-- halted by the 5 µs backstop (23 R406) -/
  forced : Bool := false
  /-- a debug halt is in force, or has been asked for during the halting of a pre-emption (23 R410, R414) -/
  brkMark : Bool := false
deriving DecidableEq, Repr

/-! ## Die and hub -/

/-- What a flit is: its FK (25 R426). -/
inductive FlitKind where
  | data | control | nak | retrain
deriving DecidableEq, Repr

/-- Consecutive beats of one message in a flit: the message, its channel, the first of the beats, and how many. -/
structure Frag where
  id : Nat
  vc : Nat
  first : Nat
  n : Nat
deriving DecidableEq, Repr

/-- A flit (25 R426): SEQ, ACK, FK, the credits returned by channel, and the beats of its payload, in order. -/
structure Flit where
  seq : Nat
  ack : Nat
  kind : FlitKind := .data
  credit : Tbl Nat := []
  frags : List Frag := []
deriving DecidableEq, Repr

/-- A direction of a die-link module (25 R426 to R429). -/
structure LinkDir where
  txseq : Nat := 0
  rxexp : Nat := 0
  /-- flits held for replay -/
  heldF : List Flit := []
  /-- flits on the wire, oldest first -/
  wire : List Flit := []
  /-- a NAK is outstanding -/
  nak : Bool := false
  /-- the ACK of a NAK that has reached the sender and is not answered -/
  nakWire : Option Nat := none
  /-- the beats still to send of the message that the last flit cut -/
  cut : Option Frag := none
  /-- by channel, the credits in use (06 R141, 25 R426) -/
  used : Tbl Nat := []
  /-- messages in the receiver's buffers whose credits have not been returned: message, channel, hops left; 9 hops stand
  for a credit whose flit was lost -/
  bufs : List (Nat × Nat × Nat) := []
  /-- the retrain marker has been received (25 R428) -/
  marked : Bool := false
  err : Nat := 0
  rpl : Nat := 0
  spares : Nat := 4
  /-- consecutive slots in which a channel was ready and not served (06 R141) -/
  refused : Tbl Nat := []
deriving DecidableEq, Repr

/-- A die-link module (25 R424, R429): direction up is from the lower end. -/
structure LinkMod where
  stat : Nat := 0
  width : Nat := 64
  repaired : Nat := 0
  up : LinkDir := {}
  down : LinkDir := {}
deriving DecidableEq, Repr

/-- One crossing of a message's path: link, module, direction. -/
abbrev Hop := Nat × Nat × Bool

/-- What a message carries (06 R141). -/
inductive MsgPay where
  /-- a token for its node; TOP is still to be applied where it is not 0 -/
  | token (dst : Place) (top : Nat) (tok : Token)
  | waveMark (cl unit : Nat) (tag : Tag)
  /-- a tag 0x7 access (02 R39): cluster, bit offset, width, and the data of a store -/
  | abuf (cl off width : Nat) (store : Option Nat) (from_ : Nat × Nat)
  /-- the value a tag 0x7 read returns -/
  | abufVal (cl pend value : Nat)
  | signal (counter : Nat) (fault : Bool)
  /-- a frame operation of a pending firing (10 R208): cluster, firing -/
  | frameReq (cl pend : Nat)
  /-- a request of a pending firing on channel 5, applied at its destination (10 R217, 16 R336, R344) -/
  | request (cl pend : Nat)
  /-- a cluster's trigger: launch counter, slot, the cluster's place in the partition, galley and position (20 R369) -/
  | trig (counter slot idx gal pos : Nat)
  /-- a steal request, then the record it moved -/
  | steal (thief victim : Nat)
  /-- SYSQ's request, with its sender's job and space (16 R342) -/
  | sysq (job sid pend queue ptr : Nat) (st : Stamp)
  | portTok (cl port : Nat) (pt : PortTok)
  /-- a request of a cluster's agent to a home on another die, and its response (25 R436) -/
  | memReq (cl agent id : Nat)
  | memResp (cl agent id : Nat)
  /-- a galley entry on its way to a home on another die -/
  | drained (galley pos : Nat)
  /-- a galley's P and D on their way to another die's mirror -/
  | mirrorPD (die galley p d : Nat)
deriving DecidableEq, Repr

/-- A message in the fabric (06 R141, R142). Model: its id orders messages of one pair and channel. -/
structure Msg where
  id : Nat
  vc : Nat
  src : Nat
  srcUnit : Nat
  dst : Nat
  dstUnit : Nat
  hops : List Hop := []
  /-- the message is inside a link module -/
  inLink : Bool := false
  /-- the sender's slot: a token for a unit that has ended is discarded (20 R367) -/
  slot : Option Nat := none
  /-- the unit that emitted it; srcUnit is its cluster's router for a route-class copy (06 R142) -/
  emitter : Nat := 0
  pay : MsgPay
deriving DecidableEq, Repr

/-- A completion counter (20 R358). -/
structure Counter where
  status : Nat := 0
  flt : Bool := false
  pv : Bool := false
  parent : Nat := 0
  remain : Nat := 0
  ln : Bool := false
  err : Bool := false
  trigLeft : Nat := 0
  /-- galley and trigger position of each cluster of its launch, kept when the launch's slot is freed (20 R369) -/
  trigs : List (Nat × Nat) := []
deriving DecidableEq, Repr

/-- A slot-table entry (20 R361, R363). -/
structure Slot where
  state : Nat := 0
  words : List Nat := []
  order : Nat := 0
  leaseGranted : Bool := false
  /-- lease slots in use: base, length, WR (03 R57) -/
  lease : List (Nat × Nat × Bool) := []
  /-- pages that the lease counts against, as in Hub.leases (03 R58) -/
  pages : List Nat := []
  /-- A of each cluster's galley at the unit's end, by the cluster's place in the partition and number (03 R61) -/
  endA : Tbl Nat := []
  clusters : List Nat := []
  trapStop : Bool := false
  /-- the launch's stop has frozen its endpoints (22 R397) -/
  trapSeen : Bool := false
  /-- the stop's map has been written (22 R397) -/
  mapDone : Bool := false
  /-- 0 none, 1 halting, 2 swapped, 3 restoring (23 R404, R406) -/
  pre : Nat := 0
  /-- BASE of the accepted operation -/
  preArea : Nat := 0
  /-- DIE, ROW0 and COL0 of the accepted restore (23 R411) -/
  target : Nat × Nat × Nat := (0, 0, 0)
  /-- the key of the restore's writes under way at the targets' banks (23 R411) -/
  loading : Option Nat := none
  /-- HUB_TIME at which the pre-emption was accepted -/
  preTime : Nat := 0
  drone : Bool := false
  startOrder : Nat := 0
  /-- bound as a due head: the firmware pre-empts what holds its clusters (20 R372) -/
  due : Bool := false
  /-- bound from Nymtor's system queue (20 R373) -/
  sys : Bool := false
  /-- galley and trigger position of each cluster that has triggered, by its place in the partition (20 R369) -/
  trig : Tbl (Nat × Nat) := []
  /-- steps 1 to 5 of the start are done, and no token has been injected (20 R365) -/
  waiting : Bool := false
  /-- the launch's barrier objects of SCOPE 01 (10 R217) -/
  barrs : Tbl Barrier := []
  /-- start tokens: unit, node, port, value, poisoned (20 R362) -/
  starts : List (Nat × Nat × Port × Nat × Bool) := []
deriving DecidableEq, Repr

/-- A fault record on its way to the fault agent (16 R345, 22 R389). -/
structure FaultRec where
  queue : Nat
  code : Nat
  cl : Nat := 0
  unit : Nat := 0
  node : Nat := 0
  origin : Nat := 0
  sid : Nat := 0
  tag : Tag := 0
  slot : Nat := 0
  launch : Nat := 0
  time : Nat := 0
  cause : Nat := 0
deriving DecidableEq, Repr

/-- A request the firmware holds (20 R372, R374). -/
structure Request where
  queue : Nat
  kind : Nat
  cnt : Nat := 0
  words : List Nat := []
  /-- T_age periods waited, and HUB_TIME when it was queued (20 R372) -/
  age : Nat := 0
  since : Nat := 0
  serial : Nat := 0
  /-- counters that must have completed first: predecessors of a graph's node past its two (20 R371) -/
  after : List Nat := []
deriving DecidableEq, Repr

/-- A submission queue (20 R372). -/
structure SubQueue where
  level : Nat := 8
  quantum : Nat := 0
  deficit : Nat := 0
  job : Nat := 0xFFF
  sid : Nat := 0
  depth : Nat := 16
  reqs : List Request := []
deriving DecidableEq, Repr

/-- A graph (20 R371): templates (bind words and predecessor nodes), the bit address of its parameter page in its job's
space, and where the next replay's snapshot goes (log 7). -/
structure Graph where
  nodes : List (List Nat × List Nat) := []
  params : Nat := 0
  page : Nat := 0
  queue : Nat := 0
deriving DecidableEq, Repr

/-- A launch template of an object (21 R377): its bind words as the firmware completes them, its forme's ordinal, and
its parameters' defaults. -/
structure LaunchTpl where
  forme : Nat := 0
  words : List Nat := []
  params : List Nat := []
  /-- its lease items: base, length, WR (09 R197) -/
  leases : List (Nat × Nat × Bool) := []
deriving DecidableEq, Repr

/-- A global symbol of an object (21 R386). -/
structure Symbol where
  name : Nat
  weak : Bool
  body : List Byte
deriving DecidableEq, Repr

/-- A dense forme of an object: its records, its part of the configuration section, its annex, what its translator
launch writes with the root map, and the two images' pointers (21 R377 to R384). -/
structure DenseForme where
  ptr : Nat := 0
  nptr : Nat := 0
  native : Option Forme := none
  /-- root map: expanded and native places, unit × 512 + node -/
  rootMap : List (Nat × Nat) := []
  /-- words of each body in the bodies section, extensions counted -/
  lens : List Nat := []
  /-- dense records (08 R183), body by body, as the bodies section holds them -/
  bodies : List (List (BitVec 64)) := []
  /-- value names that each body's stream table and start entries define -/
  inputs : List (List Nat) := []
  /-- what each body's stream table sends out of the fabric: value name, port id (08 R183) -/
  outs : List (List (Nat × Nat)) := []
  /-- values that feed port t of each body's records: value name, which of the body's records -/
  trigs : List (List (Nat × Nat)) := []
  /-- start entries: which record of the forme, port code, PREF, VALUE (09 R197, 20 R362) -/
  starts : List (Nat × Nat × Bool × Nat) := []
  /-- everything but its node records: tables, endpoints, formats, and its bodies' spaces and nesting -/
  conf : Forme := {}
  annex : Option Forme := none
deriving DecidableEq, Repr

/-- A code object as the translator reads it (21 R377, R378). The header, the table, the signature section, the bodies'
records and the images' bits are those of host memory; the contents of the other sections are structured data (log 5). -/
structure Object where
  head : List Nat := []
  table : List (List Nat) := []
  /-- word 0 of the signature section -/
  sigWord : Nat := 0
  sigOk : Bool := false
  formes : List DenseForme := []
  symbols : List Symbol := []
  /-- names that the object refers to (21 R386) -/
  refs : List Nat := []
  /-- the places the loader gives the image sections, in units of 2048 bits (09 R199; log 29) -/
  places : List Nat := []
  /-- image sections: place in units of 2048 bits, length in bits and bits -/
  images : List (Nat × Nat × Nat) := []
  templates : List LaunchTpl := []
deriving DecidableEq, Repr

/-- An object in the code heap (21 R385). -/
structure HeapObj where
  num : Nat
  sid : Nat
  obj : Object
  /-- native image of each forme, once recorded -/
  dir : List (Option Forme) := []
  /-- the launch counter of each forme's translator launch, where one has been submitted (21 R382) -/
  trans : List (Option Nat) := []
  /-- what the object's references are bound to (21 R386) -/
  binds : List (Nat × Symbol) := []
  /-- bit addresses in the heap: the object, its directory, and the end of what is reserved for it (21 R385; log 87) -/
  ptr : Nat := 0
  dirPtr : Nat := 0
  endPtr : Nat := 0
  state : Nat := 1
  job : Nat := 0
deriving DecidableEq, Repr

/-- A submission entry's answer waiting for the completion ring (25 R423). -/
structure Completion where
  cid : Nat
  status : Nat := 0
  result : Nat := 0
deriving DecidableEq, Repr

/-- A request of a peer (25 R433). -/
structure PeerReq where
  op : Nat
  addr : Nat
  len : Nat
  opnd : Nat
  swap : Nat
  data : Nat
deriving DecidableEq, Repr

/-- A network context's progress (25 R431, R433). -/
structure NetCtx where
  tail : Nat := 0
  done : List Nat := []
  tl : Nat := 0
  stamp : Option Stamp := none
  stopped : Bool := false
  subst : Nat := 0
  /-- requests of the peer that have been issued and not carried out: A of galley 1024 at the issue, and an atomic's
  homes (04 R91, R94) -/
  peers : List (PeerReq × Nat × List Nat) := []
  /-- what the port's doorbells have posted: the D' it was told, A of galley 1024 then, and HUB_TIME (04 R94, 25 R434;
  log 47) -/
  posted : List (Nat × Nat × Nat) := []
  /-- bits of a command's data appended so far, by slot -/
  moved : Tbl Nat := []
deriving DecidableEq, Repr

/-- A queue pair of the storage port: the SID Nymtor has loaded, the status of its latest operation, and substitutions
(03 R46, R74). -/
structure StoCtx where
  sid : Nat := 0
  status : Nat := 0
  subst : Nat := 0
deriving DecidableEq, Repr

/-- A fabric die's thermal state (27 R445, R446). -/
structure Therm where
  temp : List Nat := []
  hotmax : List Nat := []
  stat : Nat := 0
  throttle : Nat := 0
  freq : Nat := 850
  tmax : Nat := 0
  /-- HUB_TIME of the latest change of the throttle level or of its timer's start (27 R446) -/
  last : Nat := 0
deriving DecidableEq, Repr

/-- An HBM stack's sensor and band (27 R447). -/
structure HbmStack where
  temp : Nat := 0
  hotmax : Nat := 0
  band : Nat := 0
deriving DecidableEq, Repr

/-- A voltage island (27 R444). -/
structure Island where
  cap : Nat := 0
  lvl : Nat := 0
  pwr : Nat := 0
  /-- levels by which the firmware has moved CAP for power above 3,200 W (27 R448) -/
  lowered : Nat := 0
deriving DecidableEq, Repr

/-- The L2 TLB and the mirror of a fabric die, or the mirror of the hub (03 R52, 04 R82). -/
structure Die where
  l2 : List TlbEnt := []
  mirror : Tbl (Nat × Nat) := []
  mirrorBad : Bool := false
  perfMirror : Nat := 0
deriving DecidableEq, Repr

/-- Who waits to append to a hub galley (04 R75, R96). -/
inductive HubApp where
  /-- a network command: context, slot -/
  | net (ctx slot : Nat)
  /-- a request of a peer -/
  | peer (sid addr : Nat)
  /-- a storage queue pair -/
  | sto (qp : Nat)
  /-- a system core or the hub itself -/
  | firm (sid va : Nat)
deriving DecidableEq, Repr

/-- The registers and tables of the hub. -/
structure Hub where
  spaceBase : Nat := 0
  spaceEn : Bool := false
  invVa : Nat := 0
  invSid : Nat := 0
  invScope : Nat := 0
  invSize : Nat := 0
  invBusy : Bool := false
  /-- the invalidation in progress: scope, SID, VA, size (03 R54) -/
  invRun : Nat × Nat × Nat × Nat := (0, 0, 0, 0)
  ptOffset : Nat := 0x1000000
  ptMs : Nat := 4
  walked : Bool := false
  drlBase : Nat := 0
  drlLost : Nat := 0
  drlR : Nat := 0
  drlW : Nat := 0
  drlSize : Nat := 0
  drlEn : Bool := false
  time : Nat := 0
  /-- model: the fraction of a nanosecond, in seventeenths -/
  frac : Nat := 0
  /-- by quadrant island: its arithmetic cycles since device reset, and, model, the seventeenths of the next one
  (16 R340, 27 R444) -/
  quads : Tbl (Nat × Nat) := []
  gals : Tbl Galley := []
  cntSel : Nat := 0
  cnts : Tbl Counter := []
  slotSel : Nat := 0
  slotErr : Nat := 0
  slotW : List Nat := [0, 0, 0, 0, 0, 0, 0, 0]
  slots : Tbl Slot := []
  commits : Nat := 0
  queues : Tbl SubQueue := []
  due : List Nat := []
  /-- the queue each level's round has reached (20 R372) -/
  rr : Tbl Nat := []
  /-- each job's space -/
  jobSids : Tbl Nat := []
  graphs : Tbl Graph := []
  /-- nodes of running replays that the firmware has not queued: predecessors past their two are not done (20 R371) -/
  nodesHeld : List Request := []
  /-- the bind record of a translator launch, as Nymtor has it, but for LCNT (20 R373, 21 R382; log 7) -/
  transTpl : List Nat := []
  /-- Nymtor's system queue, of level 6 (20 R373; log 7) -/
  sysQueue : Nat := 1023
  /-- leases and counters a job may name (20 R374) -/
  jobCnts : Tbl Nat := []
  /-- counters that serve as job counters, and each job's requests so far (16 R342, 20 R359) -/
  jobs : List Nat := []
  jobSerials : Tbl Nat := []
  tamHigh : Nat := 11
  tamLow : Nat := 7
  handover : Nat := 0
  heap : List HeapObj := []
  objNum : Tbl Nat := []
  symbols : List (Nat × Symbol) := []
  keys : List (Nat × Nat × Bool) := []
  kernelUp : Bool := false
  /-- the kernel slot that the restarting system cores enter (21 R387) -/
  restarting : Option Bool := none
  actSlot : Bool := false
  fqBase : Nat := 0
  fqEn : Bool := false
  faults : List FaultRec := []
  fenced : List Nat := []
  /-- dies that the next reset fences (22 R402) -/
  toFence : List Nat := []
  unavail : List Nat := []
  preRow : Nat := 0
  preCol : Nat := 0
  preDie : Nat := 0
  preSlot : Nat := 0
  preRes : Nat := 0
  preStat : Nat := 0
  /-- the slot of the operation under way -/
  preRun : Nat := 0
  preArea : Nat := 0
  mbxBase : Nat := 0
  mbxLog : Nat := 0
  mbxEn : Bool := false
  cqHead : Nat := 0
  sqTail : Nat := 0
  cqTail : Nat := 0
  sqHead : Nat := 0
  comps : List Completion := []
  /-- objects that the translator service has taken and not checked: job, host address, LENGTH, CID (21 R380) -/
  loads : List (Nat × Nat × Nat × Nat) := []
  /-- the oldest of them, once accepted, and the bits of its images placed so far (09 R199) -/
  placing : Option (Object × Nat) := none
  /-- bits moved of the mailbox copy at SQHEAD -/
  mbxMoved : Nat := 0
  /-- A of galley 1026 at the start of the copy read at SQHEAD (04 R94) -/
  mbxA : Option Nat := none
  /-- appenders that wait for a full hub galley: galley, who, the entries needed (04 R96) -/
  galWait : List (Nat × HubApp × Nat) := []
  netBase : Nat := 0
  net : Tbl NetCtx := []
  /-- the storage port's queue pairs (25 R435) -/
  sto : Tbl StoCtx := []
  /-- the management cores' private SRAM, 2 MiB (01 R15) -/
  mgmtSram : Memory := []
  /-- the hub TLB, the network port's and the storage port's (03 R46) -/
  hubTlb : List TlbEnt := []
  netTlb : List TlbEnt := []
  stoTlb : List TlbEnt := []
  islands : Tbl Island := []
  pwrEn : Bool := false
  pwrSet : Nat := 0
  pwrOver : Bool := false
  pwrMeas : Nat := 0
  bootStage : Nat := 0
  bootStopped : Bool := false
  /-- the kernel slot whose image has failed in this boot (27 R442) -/
  bootFail : Option Bool := none
  bootCount : Nat := 0
  measure : BitVec 256 := 0
  log : List (List Nat) := []
  hostWin : Option (Nat × Nat) := none
  /-- bind words of the drone unit bound where no queue offers one: the hum forme's (20 R373, 27 R448; log 7) -/
  drones : List (List Nat) := []
  /-- SIDs quiesced because a table was lost: their port contexts wait (03 R56) -/
  quiesced : List Nat := []
  /-- lost tables that the hub's walks have met and reported: SID, the table's primary address (03 R56) -/
  lostWalks : List (Nat × Nat) := []
  /-- leases that count against each page: SID × 2^57 + its first byte (03 R58, R62) -/
  leases : Tbl Nat := []
  /-- write-backs under way: SID, an address of the page, and, since BUSY fell, the galley positions to drain past
  (03 R72) -/
  scans : List (Nat × Nat × Option (List (Nat × Nat))) := []
  tAge : Nat := 10
deriving DecidableEq, Repr

/-! ## The machine -/

/-- Which agent moves next. Model: the machine is many agents; the agenda names their moves in order (log 1). -/
inductive Act where
  /-- a unit of a cluster fires the match its selector chooses (06 R137) -/
  | fire (c u : Nat)
  /-- a PE runs one step of an activation (08 R181) -/
  | stepEntry (c u k : Nat)
  /-- a machine step -/
  | event (i : Instr)
  /-- a request on channel 5, message k, is applied where it has arrived (10 R217, 16 R336, R344) -/
  | serve (k : Nat)
deriving DecidableEq, Repr

structure State where
  agenda : List Act
  /-- the latched operands of the firing under execution -/
  cur : Option Firing
  /-- the matching-table entry that the firing under execution has left -/
  curEnt : Option MEntry
  /-- the activation whose step is under execution: cluster and arrival number -/
  curAct : Option (Nat × Nat)
  freeCtr : Nat
  serial : Nat
  mem : Memory
  /-- poisoned sectors, with the bits rewritten since (02 R29) -/
  poison : Tbl Nat
  eccBad : List Nat
  /-- buffers of the host that mailbox entries name (25 R423) -/
  hostMem : Memory
  netMsgs : List Msg
  cls : Tbl Cluster
  dies : Tbl Die
  hub : Hub
  links : Tbl LinkMod
  therm : Tbl Therm
  hbmStacks : Tbl HbmStack
  /-- formes at their images' pointers: SID, bit address, forme. Model: the image's layout is not given (log 5) -/
  formes : List (Nat × Nat × Forme × Bool)
  /-- code objects in host memory by address, structured (log 5) -/
  objects : Tbl Object
  /-- images whose HBM copy was written, by area (23 R410) -/
  images : Tbl Image
  /-- fabric dies present, and populated bytes of LPDDR-6 and CXL memory (01, 02 R27) -/
  present : List Nat
  lpddr : Nat
  cxl : List (Nat × Nat)
deriving DecidableEq, Repr

/-- The machine right after reset: a K4-P with nothing loaded (values of the spec's register maps; logs 3, 4). -/
def State.reset : State :=
  { agenda := [], cur := none, curEnt := none, curAct := none, freeCtr := 0, serial := 0, mem := [], poison := [], eccBad := [],
    hostMem := [], netMsgs := [], cls := [], dies := [], hub := {}, links := [], therm := [], hbmStacks := [],
    formes := [], objects := [], images := [], present := [0, 1, 2, 3], lpddr := 0, cxl := [] }

end Sys2Proof.Machine
end

