-- ==== Sys2Proof/Machine/Mem.lean ====
section
/-!
DEFINITION. Physical memory by byte and by bit, the poison of sectors, and the homes (02 R27 to R33).
-/
namespace Sys2Proof.Machine

/-- What an unlisted byte reads as (log 3). -/
def Memory.unlisted : Byte := 0

/-- Addresses strictly rising from above lo, no entry equal to an unlisted byte. -/
def Memory.wfFrom : Memory → Option Nat → Bool
  | [], _ => true
  | (a, v) :: rest, lo =>
    (match lo with | none => true | some l => decide (l < a)) && !(v == Memory.unlisted) &&
      Memory.wfFrom rest (some a)

/-- The canonical form. -/
def Memory.wf (m : Memory) : Bool := Memory.wfFrom m none

/-- The byte at a physical byte address. -/
def Memory.read : Memory → Nat → Byte
  | [], _ => Memory.unlisted
  | (k, v) :: rest, a => if a < k then Memory.unlisted else if a = k then v else Memory.read rest a

/-- Put a byte in front of the later cells, unless it is what an unlisted byte reads as. -/
def Memory.cons (a : Nat) (v : Byte) (rest : Memory) : Memory :=
  if v == Memory.unlisted then rest else (a, v) :: rest

/-- Set the byte at an address, keeping the canonical form. -/
def Memory.write : Memory → Nat → Byte → Memory
  | [], a, v => Memory.cons a v []
  | (k, w) :: rest, a, v =>
    if a < k then Memory.cons a v ((k, w) :: rest)
    else if a = k then Memory.cons a v rest
    else (k, w) :: Memory.write rest a v

/-- n bytes from address a as a number, the lowest address in the lowest bits. -/
def Memory.readBytes (m : Memory) (a : Nat) : Nat → Nat
  | 0 => 0
  | n + 1 => (m.read a).toNat + 256 * Memory.readBytes m (a + 1) n

/-- Store a number's n low bytes from address a up. -/
def Memory.writeBytes (m : Memory) (a : Nat) : Nat → Nat → Memory
  | 0, _ => m
  | n + 1, v => Memory.writeBytes (m.write a (BitVec.ofNat 8 v)) (a + 1) n (v / 256)

/-- Store a list of bytes from address a up. -/
def Memory.writeList (m : Memory) (a : Nat) : List Byte → Memory
  | [] => m
  | b :: rest => Memory.writeList (m.write a b) (a + 1) rest

/-- n bytes from address a. -/
def Memory.readList (m : Memory) (a n : Nat) : List Byte := (List.range n).map (fun i => m.read (a + i))

/-- The bits [pba, pba + w) of memory; every address counts bits (02 R22, R27). -/
def Memory.readBits (m : Memory) (pba w : Nat) : Nat :=
  let lo := pba / 8
  let hi := (pba + w + 7) / 8
  m.readBytes lo (hi - lo) / 2 ^ (pba % 8) % 2 ^ w

/-- Set the bits [pba, pba + w); no other bit changes (02 R33). -/
def Memory.writeBits (m : Memory) (pba w v : Nat) : Memory :=
  let lo := pba / 8
  let n := (pba + w + 7) / 8 - lo
  m.writeBytes lo n (setBits (m.readBytes lo n) (pba % 8) w v)

/-- A 64-bit word at a physical byte address. -/
def Memory.word (m : Memory) (pa : Nat) : Nat := m.readBytes pa 8

/-- The sector of a physical bit address (02 R29). -/
def sectorOf (pba : Nat) : Nat := pba / 512

/-- A sector reads as poisoned: its poison bit is set, or it has an uncorrectable error (02 R29). -/
def State.sectorBad (s : State) (sec : Nat) : Bool := s.poison.has sec || s.eccBad.contains sec

/-- Some sector of the bits [pba, pba + w) reads as poisoned. -/
def State.bitsBad (s : State) (pba w : Nat) : Bool :=
  w ≠ 0 && (List.range (sectorOf (pba + w - 1) + 1 - sectorOf pba)).any (fun i => s.sectorBad (sectorOf pba + i))

/-- Set a sector's poison bit: no bit has been rewritten since (02 R29). -/
def State.poisonSector (s : State) (sec : Nat) : State := { s with poison := s.poison.put sec 0 }

/-- Note that a sound write rewrote bits of a bad sector; it is sound again when all 512 have been (02 R29). -/
def State.coverSector (s : State) (sec lo w : Nat) : State :=
  if !s.sectorBad sec then s
  else
    let m := setBits (s.poison.get 0 sec) lo w (2 ^ w - 1)
    if m = 2 ^ 512 - 1 then { s with poison := s.poison.del sec, eccBad := s.eccBad.filter (· != sec) }
    else { s with poison := s.poison.put sec m }

/-- The HBM stacks that exist: two for each fabric die present and not fenced (02 R27, 22 R402). -/
def State.liveDies (s : State) : List Nat := s.present.filter (fun d => !s.hub.fenced.contains d)

def State.dieLive (s : State) (d : Nat) : Bool := s.liveDies.contains d

/-- The live stacks in ascending order (03 R55). -/
def State.liveStacks (s : State) : List Nat := s.liveDies.flatMap (fun d => [2 * d, 2 * d + 1])

/-- A home: a fabric die 0 to 3, or the hub, die 4 (02 R27). None where the address is reserved or unpopulated. -/
def State.home (s : State) (pa : Nat) : Option Nat :=
  if pa < 0x8000000000 then if s.dieLive (pa / 2 ^ 37) then some (pa / 2 ^ 37) else none
  else if 0x10000000000 ≤ pa ∧ pa < 0x20000000000 then
    if pa - 0x10000000000 < s.lpddr then some 4 else none
  else if 0x80000000000 ≤ pa ∧ pa < 0x100000000000 then
    if s.cxl.any (fun w => w.1 ≤ pa && pa < w.1 + w.2) then some 4 else none
  else none

/-- The hub's home die: the lowest fabric die present and not fenced (04 R75). -/
def State.hubHome (s : State) : Nat := s.liveDies.head?.getD 0

end Sys2Proof.Machine
end

