-- ==== Sys2Proof/Machine/Ops.lean ====
section
/-!
DEFINITION. The named operations over the state: clusters and launches, registers that count, taking a fault,
messages, and sending tokens (01 R11, 06 R123 to R143, 16 R345, 20 R357, 22 R388 to R390).
-/
namespace Sys2Proof.Machine

/-! ## Clusters and launches -/

/-- MXE_FMT_A and MXE_FMT_B: the entries of the header's formats marked so (07 R164, 08 R187). -/
def Forme.fmtA (g : Forme) : Option Nat := (g.ordA.bind (nth g.fds)).map (·.toNat)
def Forme.fmtB (g : Forme) : Option Nat := (g.ordB.bind (nth g.fds)).map (·.toNat)

def State.cl (s : State) (c : Nat) : Cluster := s.cls.get {} c
def State.setCl (s : State) (c : Nat) (x : Cluster) : State := { s with cls := s.cls.put c x }
def State.modCl (s : State) (c : Nat) (f : Cluster → Cluster) : State := s.setCl c (f (s.cl c))
def State.ctx (s : State) (c : Nat) : Ctx := (s.cl c).ctx
def State.modCtx (s : State) (c : Nat) (f : Ctx → Ctx) : State := s.modCl c (fun x => { x with ctx := f x.ctx })
def State.modHub (s : State) (f : Hub → Hub) : State := { s with hub := f s.hub }
def State.die (s : State) (d : Nat) : Die := s.dies.get {} d
def State.modDie (s : State) (d : Nat) (f : Die → Die) : State := { s with dies := s.dies.put d (f (s.die d)) }

/-- A serial number no earlier object of the run bears. -/
def State.fresh (s : State) : Nat × State := (s.serial, { s with serial := s.serial + 1 })

/-- 01 R11. -/
def dieOf (c : Nat) : Nat := c / 256
def localOf (c : Nat) : Nat := c % 256
def quadOf (c : Nat) : Nat := c % 256 / 64

/-- A cluster that is present: its die is live and it is not unavailable (02 R23, 22 R401). -/
def State.present? (s : State) (c : Nat) : Bool :=
  c < 1024 && s.dieLive (dieOf c) && !s.hub.unavail.contains c

/-- Logical column and row of a local number (20 R357). -/
def gridX (l : Nat) : Nat := 4 * (l / 64) + l % 4
def gridY (l : Nat) : Nat := l % 64 / 4

/-- The local number at a column and row (20 R357). -/
def gridAt (x y : Nat) : Nat := 64 * (x / 4) + 4 * y + x % 4

/-- A word of a bind record. -/
def bindWord (w : List Nat) (k : Nat) : Nat := (nth w k).getD 0

/-- The fields of a bind record (20 R361). -/
structure Bind where
  v : Bool
  rof : Bool
  prio : Nat
  die : Nat
  row0 : Nat
  col0 : Nat
  hm1 : Nat
  wm1 : Nat
  sid : Nat
  forme : Nat
  start : Nat
  lease : Nat
  lcnt : Nat
  gcnt : Nat
  pcnt : Nat
  jcnt : Nat
  pred1 : Nat
  pred2 : Nat
  e1 : Bool
  e2 : Bool
  area : Nat
  param : Nat
deriving DecidableEq, Repr

def Bind.of (w : List Nat) : Bind :=
  let w0 := bindWord w 0; let w4 := bindWord w 4; let w5 := bindWord w 5
  { v := w0.testBit 63, rof := w0.testBit 62, prio := bits w0 61 58, die := bits w0 57 55, row0 := bits w0 54 51,
    col0 := bits w0 50 47, hm1 := bits w0 46 43, wm1 := bits w0 42 39, sid := bits w0 31 16,
    forme := bindWord w 1, start := bindWord w 2, lease := bindWord w 3,
    lcnt := bits w4 63 52, gcnt := bits w4 51 40, pcnt := bits w4 39 28, jcnt := bits w4 27 16,
    pred1 := bits w5 63 52, pred2 := bits w5 51 40, e1 := w5.testBit 39, e2 := w5.testBit 38,
    area := bindWord w 6, param := bindWord w 7 }

/-- The clusters of a partition in steal-ring order: by row, and within a row by column (20 R357). -/
def partClusters (die row0 col0 hm1 wm1 : Nat) : List Nat :=
  (List.range (hm1 + 1)).flatMap (fun r =>
    (List.range (wm1 + 1)).map (fun k => die * 256 + gridAt (col0 + k) (row0 + r)))

def State.slot (s : State) (k : Nat) : Slot := s.hub.slots.get {} k
def State.modSlot (s : State) (k : Nat) (f : Slot → Slot) : State :=
  s.modHub (fun h => { h with slots := h.slots.put k (f (s.slot k)) })

/-- The slot whose unit is on a cluster, with its entry. -/
def State.slotOf (s : State) (c : Nat) : Option (Nat × Slot) := (s.cl c).slot.map (fun k => (k, s.slot k))

def State.bindOf (s : State) (c : Nat) : Option Bind := (s.slotOf c).map (fun p => Bind.of p.2.words)

/-- The clusters of the launch on a cluster, in steal-ring order; the cluster itself where it holds no slot. -/
def State.launch (s : State) (c : Nat) : List Nat :=
  match s.slotOf c with | some (_, sl) => sl.clusters | none => [c]

def State.inLaunch (s : State) (c t : Nat) : Bool := (s.launch c).contains t

/-- Partition width, height, and the cluster's column and row in it (20 R357). -/
def State.partPos (s : State) (c : Nat) : Nat × Nat × Nat × Nat :=
  match s.bindOf c with
  | some b => (b.wm1 + 1, b.hm1 + 1, gridX (localOf c) - b.col0, gridY (localOf c) - b.row0)
  | none => (1, 1, 0, 0)

/-- The successor in the steal ring (20 R357). -/
def State.successor (s : State) (c : Nat) : Nat :=
  let l := s.launch c
  match l.findIdx? (· == c) with
  | some i => ((nth l ((i + 1) % l.length)).getD c)
  | none => c

/-- A 48-bit performance counter of a cluster counts n (02 R45). -/
def State.count (s : State) (c idx n : Nat) : State :=
  s.modCl c (fun x => { x with perf := x.perf.put idx ((x.perf.get 0 idx + n) % 2 ^ 48) })

/-- One more substitution of a poisoned sector by zeros (03 R74). -/
def State.countSubst (s : State) (c : Nat) : State :=
  s.modCtx c (fun x => { x with subst := (x.subst + 1) % 2 ^ 64 })

/-- Activity in a cluster restarts its quiet count (20 R375). -/
def State.active (s : State) (c : Nat) : State := s.modCl c (fun x => { x with quiet := 0 })

/-! ## Faults (16 R345, 22 R388 to R390) -/

namespace Code
def LOAD_ILLEGAL := 0x0001
def LOAD_PRIV := 0x0002
def LOAD_PLACE := 0x0003
def LOAD_BUDGET := 0x0004
def LOAD_CONFLICT := 0x0005
def LOAD_SIG := 0x0006
def LOAD_VERSION := 0x0007
def TAM_ILLEGAL := 0x0008
def LEASE_BAD := 0x0009
def SPACE_ILLEGAL := 0x0100
def ALIGN_FAULT := 0x0101
def BUF_RANGE := 0x0102
def LEASE_VIOLATION := 0x0103
def XLATE_FAULT := 0x0104
def CP_RECORD := 0x0105
def POISON_CONSUMED := 0x0106
def TAG_STALE := 0x0200
def TAG_ILLEGAL := 0x0201
def MATCH_DUP := 0x0202
def LANE_MISMATCH := 0x0203
def JOIN_UNDERFLOW := 0x0204
def RING_UNDERFLOW := 0x0205
def HANG := 0x0206
def ARITH_TRAP := 0x0300
def USER_TRAP := 0x0301
def FAULT_TOKEN := 0x0302
def BRK_HIT := 0x0303
def STOP_MAP := 0x0304
def MXE_ILLEGAL := 0x0400
def MXE_CKSUM := 0x0401
def CHECK_REPLAY := 0x0500
def PE_RETIRED := 0x0501
def PE_FAILED := 0x0502
def STATE_LOST := 0x0503
def GAL_LOST := 0x0504
def PTE_LOST := 0x0505
def CONTEXT_LOST := 0x0506
def HEALTH_CHANGE := 0x0507
def DIE_FAULT := 0x0508
def HBM_HOT := 0x0600
def THERM_NOTICE := 0x0601
def THERM_CRIT := 0x0602
end Code

/-- Nymtor's fault queue (22 R388). -/
def nymtorQueue : Nat := 4095

/-- The quadrant island of a cluster (01 R21). -/
def quadIsland (c : Nat) : Nat := c / 64

/-- The arithmetic cycles of a cluster's quadrant island since device reset (16 R340). -/
def State.cycles (s : State) (c : Nat) : Nat := (s.hub.quads.get (0, 0) (quadIsland c)).1

/-- The queue of the job whose unit is on a cluster; Nymtor's where the cluster holds no launch, or one of its own system
queue's (21 R382, 22 R388). -/
def State.jobQueue (s : State) (c : Nat) : Nat :=
  match s.slotOf c with | some (_, sl) => if sl.sys then nymtorQueue else (Bind.of sl.words).jcnt | none => nymtorQueue

/-- A fault record sets out for the fault agent (16 R345, 22 R389). -/
def State.pushFault (s : State) (r : FaultRec) : State :=
  s.modHub (fun h => { h with faults := h.faults ++ [{ r with time := h.time }] })

/-- The record of a fault on a cluster, its header filled from the launch (16 R345). -/
def State.record (s : State) (queue code c unit node origin : Nat) (tag : Tag) (cause : Nat) : State :=
  let b := s.bindOf c
  s.pushFault { queue := queue, code := code, cl := c, unit := unit, node := node, origin := origin,
                sid := if b.isSome then (s.cl c).sid else 0, tag := tag, slot := ((s.cl c).slot).getD 0,
                launch := (b.map (·.lcnt)).getD 0, cause := cause }

/-- A record to the job's queue. -/
def State.jobRecord (s : State) (code c unit node origin : Nat) (tag : Tag) (cause : Nat) : State :=
  s.record (s.jobQueue c) code c unit node origin tag cause

/-- Whether a cluster's unit may still act. -/
def State.unitLive (s : State) (c : Nat) : Bool :=
  match (s.cl c).stat with | .running => true | .idle => true | _ => false

/-- TAKING A FAULT: the record goes to the job's queue and the unit ends (20 R367, 22 R390). From here on no unit
of the cluster fires; UNIT_FAULT discards its tokens and cancels the other units of the launch. A unit that is
ending already ends once. -/
def State.endUnit (s : State) (code c unit node origin : Nat) (tag : Tag) (cause : Nat) : State :=
  if s.unitLive c then
    (s.jobRecord code c unit node origin tag cause).modCl c (fun x => { x with stat := .faulting })
  else s

/-- The fault of a firing (ORIGIN 0). -/
def State.fail (s : State) (f : Firing) (code : Nat) (cause : Nat := 0) : State :=
  s.endUnit code f.cl f.unit f.node 0 f.tag cause

/-- A fault that a frame table finds for a firing (ORIGIN 3). -/
def State.failFrame (s : State) (f : Firing) (code : Nat) : State := s.endUnit code f.cl f.unit 0 3 f.tag 0

/-! ## Messages (06 R141 to R143, 25 R424) -/

/-- The links from one die to another, with direction (06 R143, 25 R424). -/
def diePath (a b : Nat) : List (Nat × Bool) :=
  if a = b then []
  else if a = 4 then [(4 + b, false)]
  else if b = 4 then [(4 + a, true)]
  else if b = (a + 1) % 4 then [(a, true)]
  else if a = (b + 1) % 4 then [(b, false)]
  else [(a, true), ((a + 1) % 4, true)]

/-- A hub agent counts as cluster 1024 (25 R424). -/
def hubAgent : Nat := 1024

def dieOfAgent (c : Nat) : Nat := if c < 1024 then dieOf c else 4

/-- The cluster that an agent counts as on the links: a hub agent is cluster 1024 (25 R424). -/
def clusterNo (a : Nat) : Nat := min a 1024

/-- The crossings of a message: module (s XOR t) mod 4 of every link (25 R424). -/
def hopsOf (src dst : Nat) : List Hop :=
  (diePath (dieOfAgent src) (dieOfAgent dst)).map (fun p => (p.1, (clusterNo src ^^^ clusterNo dst) % 4, p.2))

/-- The router of a cluster, as the source unit of route-class copies (06 R142). -/
def routerUnit : Nat := 66

/-- A message sets out from a unit, or from its cluster's router. -/
def State.send (s : State) (vc src srcUnit dst dstUnit : Nat) (pay : MsgPay) (routed : Bool := false) : State :=
  let (k, s) := s.fresh
  { s with netMsgs := s.netMsgs ++ [{ id := k, vc := vc, src := src, srcUnit := if routed then routerUnit else srcUnit,
                                      dst := dst, dstUnit := dstUnit, hops := hopsOf src dst, pay := pay,
                                      slot := if src < 1024 then (s.cl src).slot else none, emitter := srcUnit }] }

def State.msg (s : State) (k : Nat) : Option Msg := s.netMsgs.find? (·.id == k)
def State.dropMsg (s : State) (k : Nat) : State := { s with netMsgs := s.netMsgs.filter (·.id != k) }

/-- A message may be taken: it has made every crossing, and none sent before it by its source to its destination
on its channel is still under way (06 R142). -/
def State.arrived (s : State) (m : Msg) : Bool :=
  m.hops.isEmpty && !m.inLink &&
    !s.netMsgs.any (fun x => x.id < m.id && x.vc == m.vc && x.src == m.src && x.srcUnit == m.srcUnit &&
      x.dst == m.dst && x.dstUnit == m.dstUnit)

/-- Messages waiting in the buffers of a die-link module's direction (25 R424). -/
def State.waitingFor (s : State) (l m : Nat) (dir : Bool) : List Msg :=
  s.netMsgs.filter (fun x => !x.inLink && x.hops.head? == some (l, m, dir))

/-- A cycle of a direction passes: each channel that has a message waiting has been refused once more, and any other's
count is over (06 R141). -/
def LinkDir.refuse (d : LinkDir) (ready : List Nat) : LinkDir :=
  { d with refused := (List.range 6).filterMap (fun v => if ready.contains v then some (v, d.refused.get 0 v + 1) else none) }

/-- The same at every module that has served a message or has one waiting (06 R141); a module in training comes up
(25 R429; log 54). -/
def State.refuseCycle (s : State) : State :=
  let used := s.links.map (·.1) ++ s.netMsgs.filterMap (fun (x : Msg) => x.hops.head?.map (fun h => 4 * h.1 + h.2.1))
  { s with links := used.foldl (fun t k =>
      let x := s.links.get {} k
      t.put k { x with
        stat := if x.stat = 1 then 2 else x.stat
        up := x.up.refuse ((s.waitingFor (k / 4) (k % 4) true).map (·.vc))
        down := x.down.refuse ((s.waitingFor (k / 4) (k % 4) false).map (·.vc)) }) s.links }

/-- A message for a unit that has ended, whether or not its cluster runs another (20 R367). -/
def State.stray (s : State) (m : Msg) : Bool :=
  (s.cl m.dst).stat != .running || (m.slot.isSome && m.slot != (s.cl m.dst).slot)

/-- A message to a cluster, and not to a home or a mirror beside it. -/
def Msg.toCluster (m : Msg) (c : Nat) : Bool :=
  m.dst == c && (match m.pay with | .memReq .. => false | .drained .. => false | .mirrorPD .. => false | _ => true)

/-! ## Requests to homes on other dies (06 R141, 25 R436)

An agent's key is its unit; 64 + k for a copy channel, 100 for line fills, 101 for atomics, 128 + port for a stream,
4096 + id for a walk. -/

/-- The t of a message to the home of a physical bit address (25 R436). -/
def State.homeT (s : State) (pba : Nat) : Nat := 256 * (s.home (pba / 8)).getD 4 + pba / 2048 % 256

/-- Whether the home lies on another die. -/
def State.farHome (s : State) (c pba : Nat) : Bool := dieOfAgent c != dieOfAgent (s.homeT pba)

/-- An agent's request to a home on another die sets out; on its own die nothing crosses a link. -/
def State.ask (s : State) (c agent id pba : Nat) : State :=
  if s.farHome c pba then s.send 0 c agent (s.homeT pba) 0 (.memReq c agent id) else s

/-- Where an agent's exchange with a home stands. -/
inductive Exchange where
  /-- the request, or the response, is under way -/
  | away
  /-- the request stands at the home: message -/
  | asked (m : Nat)
  /-- the response has arrived: message -/
  | answered (m : Nat)
  /-- nothing of it is in the fabric -/
  | idle
deriving DecidableEq, Repr

def State.exchange (s : State) (c agent id : Nat) : Exchange :=
  match s.netMsgs.find? (fun m => m.pay == .memReq c agent id) with
  | some m => if s.arrived m then .asked m.id else .away
  | none => match s.netMsgs.find? (fun m => m.pay == .memResp c agent id) with
    | some m => if s.arrived m then .answered m.id else .away
    | none => .idle

/-- A home answers: the response's t is the request's, source and destination exchanged. -/
def State.homeAnswer (s : State) (m c agent id pba : Nat) : State :=
  (s.dropMsg m).send 1 (s.homeT pba) 0 c agent (.memResp c agent id)

/-! ## Line-request entries (02 R43) -/

/-- Whose entries a unit's line requests use: 0 L0, 1 L1, 2 the copy port, 3 the others (02 R43; log 68). -/
def holderOf (unit : Nat) : Nat :=
  if unit = 32 then 0 else if unit = 33 then 1 else if unit = 38 ∨ unit = 37 then 2 else 3

/-- Entries reserved for a holder; 32 more are shared (02 R43). -/
def lineReserved (h : Nat) : Nat := if h ≤ 1 then 24 else if h = 2 then 32 else 16

/-- Entries a holder has in use. -/
def Cluster.linesOfHolder (x : Cluster) (h : Nat) : Nat :=
  (x.lines.filter (·.holder == h)).length + (x.fills.filter (·.holder == h)).length

/-- A holder may take an entry: one of its own, or one of the pool (02 R43). -/
def Cluster.lineRoom (x : Cluster) (h : Nat) : Bool :=
  decide (x.linesOfHolder h < lineReserved h) ||
    decide (([0, 1, 2, 3].map (fun k => x.linesOfHolder k - lineReserved k)).sum < 32)

/-- A name added to a list it is not in. -/
def addOnce (l : List Nat) (a : Nat) : List Nat := if l.contains a then l else l ++ [a]

/-- Whether an agent waits for an entry (02 R43). -/
def State.waitReq (s : State) (c agent : Nat) (b : Bool) : State :=
  s.modCtx c (fun x => { x with reqWait := if b then addOnce x.reqWait agent else x.reqWait.filter (· != agent) })

/-- A line has been delivered to an agent, and its entry is free. -/
def State.lineHere (s : State) (c agent l : Nat) : State :=
  s.modCl c (fun x => { x with
    lines := x.lines.filter (fun e => !(e.agent == agent && e.line == l))
    here := x.here.put agent (x.here.get [] agent ++ [l]) })

/-- One line that an agent reads: it takes an entry and sets out, or its response is taken. The second answer: some
line has found no entry free. -/
def State.fetchLine (c agent holder : Nat) (p : State × Bool) (l : Nat) : State × Bool :=
  let s := p.1
  let x := s.cl c
  if (x.here.get [] agent).contains l then p
  else if x.lines.any (fun e => e.agent == agent && e.line == l) then
    if s.farHome c (l * 2048) then
      match s.exchange c agent l with
      | .away => p
      | .idle => (s.ask c agent l (l * 2048), p.2)
      | .asked m => (s.homeAnswer m c agent l (l * 2048), p.2)
      | .answered m => ((s.dropMsg m).lineHere c agent l, p.2)
    else (s.lineHere c agent l, p.2)
  else if x.lineRoom holder then
    ((s.modCl c (fun x => { x with lines := x.lines ++ [{ holder := holder, agent := agent, line := l }] })).ask c agent l (l * 2048), p.2)
  else (s, true)

/-- One move toward having the lines an agent reads, and whether it has them all. Every line takes a line-request
entry from its issue until its response has been delivered; with none free the agent waits (02 R43). -/
def State.fetchLines (s : State) (c agent holder : Nat) (lines : List Nat) : Bool × State :=
  let have_ := (s.cl c).here.get [] agent
  if lines.all (fun l => have_.contains l) then (true, s.waitReq c agent false)
  else
    let s := s.modCl c (fun x => { x with here := x.here.put agent (have_.filter (fun k => lines.contains k)) })
    let r := lines.foldl (State.fetchLine c agent holder) (s, false)
    (false, r.1.waitReq c agent r.2)

/-- The lines of physical pieces. -/
def linesOf (l : List (Nat × Nat × Bool)) : List Nat :=
  (l.flatMap (fun p => (List.range ((p.1 % 2048 + p.2.1 + 2047) / 2048)).map (fun i => p.1 / 2048 + i))).eraseDups

/-! ## Tags and frames (06 R125, R126) -/

def tagDie (t : Tag) : Nat := bits t.toNat 31 29
def tagFrame (t : Tag) : Nat := bits t.toNat 28 8
def tagOwner (t : Tag) : Nat := bits t.toNat 28 21
def tagSlot (t : Tag) : Nat := bits t.toNat 20 8
def tagIter (t : Tag) : Nat := bits t.toNat 7 0

/-- The cluster that owns a tag (06 R125). -/
def tagCluster (t : Tag) : Nat := tagDie t * 256 + tagOwner t

def mkTag (c slot iter : Nat) : Tag :=
  BitVec.ofNat 32 (dieOf c * 2 ^ 29 + localOf c * 2 ^ 21 + slot * 2 ^ 8 + iter)

/-- The root tag of a cluster (06 R127). -/
def rootTag (c : Nat) : Tag := mkTag c 0 0

def withIter (t : Tag) (i : Nat) : Tag := BitVec.ofNat 32 (t.toNat / 256 * 256 + i)

/-- AUX of a frame's tag: die [23:21] and frame [20:0] (06 R123). -/
def auxOf (t : Tag) : BitVec 24 := BitVec.ofNat 24 (tagDie t * 2 ^ 21 + tagFrame t)

/-- The tag (AUX.die, AUX.frame, 0) of `:first` (06 R128). -/
def auxTag (x : BitVec 24) : Tag := BitVec.ofNat 32 (x.toNat / 2 ^ 21 * 2 ^ 29 + x.toNat % 2 ^ 21 * 2 ^ 8)

/-- The frame a tag names, in its owner's table. -/
def State.frame (s : State) (t : Tag) : Option Frame :=
  if tagDie t < 4 then (s.ctx (tagCluster t)).frames.find (tagSlot t) else none

def State.setFrame (s : State) (t : Tag) (f : Frame) : State :=
  s.modCtx (tagCluster t) (fun x => { x with frames := x.frames.put (tagSlot t) f })

/-! ## Building tokens (06 R124, 10 R206) -/

/-- A new scalar in a container of 2^cl2 bits. -/
def scalarTok (cl2 : Nat) (v : Nat) (tag : Tag) : Token := { tag := tag, cl2 := cl2, pay := v % 2 ^ 2 ^ cl2 }

def scalar32 (v : Nat) (tag : Tag) : Token := scalarTok 5 v tag
def scalar64 (v : Nat) (tag : Tag) : Token := scalarTok 6 v tag

/-- The operands of a firing from port a up. -/
def Firing.ops (f : Firing) : List Token := [f.a, f.b, f.c, f.t].filterMap id

/-- OV and OIDX of the lowest-port operand that has one (03 R64). -/
def Firing.oidx (f : Firing) : Bool × Nat :=
  match f.ops.find? (·.ov) with | some t => (true, t.oidx) | none => (false, 0)

/-- A token made or forwarded by a firing carries its outer index. -/
def Firing.stamp (f : Firing) (t : Token) : Token := { t with ov := f.oidx.1, oidx := f.oidx.2 }

/-- Forward an operand under a tag (10 R206). -/
def Firing.forward (f : Firing) (t : Token) (tag : Tag) : Token :=
  f.stamp { t with tag := tag, scale := 0x7F00 }

/-- A new scalar of a firing, under its tag. -/
def Firing.new64 (f : Firing) (v : Nat) : Token := f.stamp (scalar64 v f.tag)
def Firing.new32 (f : Firing) (v : Nat) : Token := f.stamp (scalar32 v f.tag)

/-- A bubble of an outer-index range (03 R64). -/
def bubbleTok (lo hi port : Nat) (tag : Tag) : Token :=
  { tag := tag, kind := .bubble, gl2 := 0, cl2 := 0, pay := lo % 2 ^ 32 + hi % 2 ^ 32 * 2 ^ 32 + port % 256 * 2 ^ 64 }

def Token.olo (t : Token) : Nat := bits t.pay 31 0
def Token.ohi (t : Token) : Nat := bits t.pay 63 32
def Token.bport (t : Token) : Nat := bits t.pay 71 64

/-- The bubble operands of a firing. -/
def Firing.bubbles (f : Firing) : List Token := f.ops.filter (·.kind == .bubble)

def Firing.hasBubble (f : Firing) : Bool := !f.bubbles.isEmpty

/-- The bubble a firing sends: the hull of its bubble operands' ranges, PORT of the lowest (03 R65). -/
def Firing.bubble (f : Firing) (tag : Tag) : Token :=
  match f.bubbles with
  | [] => bubbleTok 0 0 0 tag
  | b :: rest =>
    f.stamp (bubbleTok (rest.foldl (fun m t => min m t.olo) b.olo) (rest.foldl (fun m t => max m t.ohi) b.ohi)
      b.bport tag)

/-- A bubble in place of a token: the token's tag, AUX, BPOS and EOD, the bubble's range and no lanes (03 R65; log 18). -/
def Firing.asBubble (f : Firing) (t : Token) : Token :=
  { t with kind := .bubble, gl2 := 0, cl2 := 0, pmask := 0, scale := 0x7F00, pay := (f.bubble t.tag).pay }

/-- What a node that computes nothing sends: a token, or a bubble in its place. -/
def Firing.out (f : Firing) (t : Token) : Token := if f.hasBubble then f.asBubble t else t

/-! ## Sending tokens (06 R128, R139, R140, 08 R167, R168) -/

/-- One delivery that a destination asks for. -/
inductive Delivery where
  | tok (src : Nat) (dst : Place) (top : Nat) (t : Token)
  /-- a route-class copy: the router sends it (06 R142) -/
  | routed (src : Nat) (dst : Place) (top : Nat) (t : Token)
  | fault (t : Token)
deriving DecidableEq, Repr

/-- An endpoint descriptor's fields (06 R146). -/
structure Ep where
  fd : BitVec 32
  gl2 : Nat
  burst : Nat
  scm : Nat
  depth : Nat
  out : Bool
  unit : Nat
  dest : BitVec 24
  scale : BitVec 16
deriving DecidableEq, Repr

def Ep.of (w : EpWords) : Ep :=
  let w0 := bindWord w 0; let w1 := bindWord w 1
  { fd := BitVec.ofNat 32 (bits w0 63 32), gl2 := bits w0 31 29, burst := bits w0 28 23 + 1, scm := bits w0 22 21,
    depth := bits w0 20 15 + 1, out := w0.testBit 14, unit := bits w0 13 8, dest := BitVec.ofNat 24 (bits w1 63 40),
    scale := BitVec.ofNat 16 (bits w1 15 0) }

def State.ep (s : State) (c port : Nat) : Option Ep := ((s.cl c).forme.eps.find port).map Ep.of

def portOfNat (n : Nat) : Port := Port.ofCode (BitVec.ofNat 2 n)

/-- The target clusters of a route entry (06 R140). -/
def State.targets (s : State) (c : Nat) (e : BitVec 256) : List Nat :=
  let m := bits e.toNat 255 252
  let arg := bits e.toNat 251 242
  let (w, h, x, y) := s.partPos c
  let part := s.launch c
  let row (k : Nat) := (s.partPos k).2.2.2
  let col (k : Nat) := (s.partPos k).2.2.1
  if m = 0 then [c]
  else if m = 1 then
    let tx := ((x : Int) + sext (bits arg 9 5) 5) % (w : Int)
    let ty := ((y : Int) + sext (bits arg 4 0) 5) % (h : Int)
    part.filter (fun k => col k = tx.toNat && row k = ty.toNat)
  else if m = 2 then part.filter (fun k => row k = y)
  else if m = 3 then part.filter (fun k => col k = x)
  else if m = 4 then part
  else if m = 5 then [arg]
  else [s.successor c]

/-- The used slots of a route entry: UNIT, NODE, PORT, TOP (06 R139). -/
def routeSlots (e : BitVec 256) : List (Nat × Nat × Nat × Nat) :=
  (List.range 8).filterMap (fun k =>
    if (bits e.toNat 241 234).testBit k then
      let v := bits e.toNat (20 * k + 19) (20 * k)
      some (bits v 19 14, bits v 13 5, bits v 4 3, bits v 2 0)
    else none)

/-- What a destination field asks for, from cluster c; the error is a fault code (06 R128, R139, 08 R168). -/
def State.expand (s : State) : Nat → Nat → Dest → Token → Except Nat (List Delivery)
  | 0, _, _, _ => .error Code.TAG_STALE
  | fuel + 1, c, d, t =>
    match d with
    | .sink => .ok []
    | .local_ u n p top => .ok [.tok c (.node c u.toNat n.toNat p) top.toNat t]
    | .route k p top =>
      let e := (s.cl c).forme.routes.get 0 k.toNat
      .ok ((s.targets c e).flatMap (fun tc => (routeSlots e).map (fun r =>
        .routed c (.node tc r.1 r.2.1 (if p = 0 then portOfNat r.2.2.1 else Port.ofCode p))
          (if top = 0 then r.2.2.2 else top.toNat) t)))
    | .stream p => .ok [.tok c (.stream c p.toNat) 0 t]
    | .fault => .ok [.fault t]
    | .ret =>
      match s.frame t.tag with
      | none => .error Code.TAG_STALE
      | some fr =>
        match fr.retlink, fr.parent with
        | some l, some p =>
          match Dest.ofBits l with
          | some d' => s.expand fuel (tagCluster t.tag) d' { t with tag := p }
          | none => .error Code.TAG_STALE
        | _, _ => .error Code.TAG_STALE

/-- The frame owner that must apply a tag-op: the owner of T, or for `:first` of AUX's frame (06 R128). -/
def topTag (top : Nat) (t : Token) : Tag := if top = 3 then auxTag t.aux else t.tag

/-- A tag-op whose owner is no present cluster of the launch ends the emitting unit (06 R128). -/
def State.topError (s : State) (top : Nat) (t : Token) (c : Nat) : Option Nat :=
  if top = 0 then none
  else
    let g := topTag top t
    if 4 ≤ tagDie g ∨ !s.present? (tagCluster g) ∨ !s.inLaunch c (tagCluster g) then some Code.TAG_ILLEGAL
    else none

def Place.cluster : Place → Nat
  | .node c _ _ _ => c
  | .stream c _ => c

/-- The unit at a place: the node's, or the one that serves the stream port. -/
def State.placeUnit (s : State) : Place → Nat
  | .node _ u _ _ => u
  | .stream c p => ((s.ep c p).map (·.unit)).getD 0

/-- One token leaves unit u: to its place on channel 2, or to the frame owner on channel 3 (06 R128, R141). -/
def State.sendTok (s : State) (u src : Nat) (dst : Place) (top : Nat) (t : Token) (routed : Bool) : State :=
  if top = 0 then s.send 2 src u dst.cluster (s.placeUnit dst) (.token dst 0 t) routed
  else s.send 3 src u (tagCluster (topTag top t)) 64 (.token dst top t) routed

/-- A delivery leaves unit u. -/
def State.launchTok (s : State) (u : Nat) : Delivery → State
  | .fault _ => s
  | .tok src dst top t => s.sendTok u src dst top t false
  | .routed src dst top t => s.sendTok u src dst top t true

/-- The tag-op that a delivery asks for, where it cannot be sent. -/
def State.deliveryError (s : State) (c : Nat) : Delivery → Option Nat
  | .tok _ _ top t => s.topError top t c
  | .routed _ _ top t => s.topError top t c
  | .fault _ => none

/-- A token sent to the fault port: a record with the tag and the low 128 payload bits (08 R168). -/
def State.faultTok (s : State) (f : Firing) (t : Token) : State :=
  s.record (s.jobQueue f.cl) Code.FAULT_TOKEN f.cl f.unit f.node 0 t.tag (t.pay % 2 ^ 128)

/-- Every delivery of a list of destinations and tokens, or the first error. -/
def State.expandAll (s : State) (c : Nat) : List (Dest × Token) → Except Nat (List Delivery)
  | [] => .ok []
  | (d, t) :: rest => do
    let l ← s.expand 1025 c d t
    match l.findSome? (s.deliveryError c) with
    | some e => .error e
    | none =>
      let r ← s.expandAll c rest
      .ok (l ++ r)

/-- The tokens of one firing leave its unit; an error ends the unit and nothing leaves (06 R128). -/
def State.emit (s : State) (f : Firing) (outs : List (Dest × Token)) : State :=
  match s.expandAll f.cl outs with
  | .error e => s.fail f e
  | .ok l => l.foldl (fun s x => match x with | .fault t => s.faultTok f t | _ => s.launchTok f.unit x) s

/-- Send one token to both DA and DB (08 R167). -/
def State.emitBoth (s : State) (f : Firing) (d : Dests) (t : Token) : State := s.emit f [(d.da, t), (d.db, t)]

/-- A bubble goes to every destination (03 R65). -/
def State.emitBubble (s : State) (f : Firing) (d : Dests) : State := s.emitBoth f d (f.bubble f.tag)

/-! ## Frame operations (06 R126 to R130) -/

/-- The lowest free entry of a frame table. -/
def lowestFrame (l : Tbl Frame) : Option Nat := (List.range 1024).find? (fun k => !l.has k)

/-- Put a new frame into an entry: AGE is the allocation counter, OCC {0}, NEWEST 0 (06 R126, R149). -/
def Ctx.allocFrame (x : Ctx) (slot : Nat) (fr : Frame) : Ctx :=
  let l := x.frames.put slot { fr with age := x.allocCtr, occ := 1, newest := 0, pend := 0 }
  { x with frames := l, allocCtr := (x.allocCtr + 1) % 2 ^ 64, framesHigh := max x.framesHigh l.length }

/-- Free a frame: sequence and wave entries of its tags go, and a join pointer is left for the task unit
(06 R129, 10 R228, 12 R265, 13 R276). -/
def State.freeFrame (s : State) (t : Tag) : State :=
  match s.frame t with
  | none => s
  | some fr => s.modCtx (tagCluster t) (fun x =>
      { x with
        frames := x.frames.del (tagSlot t)
        freed := true
        seqs := x.seqs.filter (fun e => e.frame != t.toNat / 256)
        waves := x.waves.map (fun p => (p.1, p.2.filter (fun e => e.tag.toNat / 256 != t.toNat / 256)))
        waveNotes := x.waveNotes.filter (fun n => n.tag.toNat / 256 != t.toNat / 256)
        joins := if fr.join = 0 then x.joins else x.joins ++ [fr.join] })

/-- After a frame operation the frame is freed if OCC is empty and PEND is 0 (06 R129). -/
def State.settleFrame (s : State) (t : Tag) (fr : Frame) : State :=
  let s := s.setFrame t fr
  if fr.occ = 0 ∧ fr.pend = 0 then s.freeFrame t else s

end Sys2Proof.Machine
end

