-- ==== Sys2Proof/Machine/Ports.lean ====
section
/-!
DEFINITION. The Ports and Class columns of the opcode map (08 R176, R177).
-/
namespace Sys2Proof.Machine

/-- Which of ports a, b and c an opcode matches (08 R177). -/
structure Ports where
  a : Bool
  b : Bool
  c : Bool
deriving DecidableEq, Repr

/-- The matched ports; a literal b is not matched (08 R171). MERGE lists both ports and fires on either alone. -/
def portsOf : Instr → Ports
  | .mov _ => ⟨true, false, false⟩
  | .const_ _ _ _ => ⟨false, false, false⟩
  | .steer _ => ⟨true, true, false⟩
  | .select _ => ⟨true, true, true⟩
  | .merge _ => ⟨true, true, false⟩
  | .gate _ => ⟨true, true, false⟩
  | .sync2 _ => ⟨true, true, false⟩
  | .sync3 _ => ⟨true, true, true⟩
  | .loopin _ _ => ⟨true, false, false⟩
  | .iend _ => ⟨true, false, false⟩
  | .loopout _ => ⟨true, false, false⟩
  | .talloc _ _ => ⟨true, false, false⟩
  | .tfree _ => ⟨true, false, false⟩
  | .call _ _ => ⟨true, false, false⟩
  | .ret_ _ => ⟨true, false, false⟩
  | .tagget _ => ⟨true, false, false⟩
  | .tagset _ => ⟨true, true, false⟩
  | .iter _ => ⟨true, false, false⟩
  | .wave _ => ⟨true, false, false⟩
  | .waveMarker _ => ⟨false, false, false⟩
  | .step_ _ _ => ⟨true, false, false⟩
  | .stepSnop => ⟨false, false, false⟩
  | .stepLoop _ _ _ _ => ⟨false, false, false⟩
  | .stepSetx _ _ => ⟨false, false, false⟩
  | .stepAddx _ _ => ⟨false, false, false⟩
  | .stepEmit _ _ _ _ _ => ⟨false, false, false⟩
  | .mxseqPatch _ _ _ _ _ => ⟨false, false, false⟩
  | .stepOpn _ => ⟨false, false, false⟩
  | .stepJmp _ => ⟨false, false, false⟩
  | .stepDone => ⟨false, false, false⟩
  | .barr _ _ => ⟨true, false, false⟩
  | .barrGenerationComplete _ _ => ⟨false, false, false⟩
  | .trigger _ => ⟨true, false, false⟩
  | .done _ => ⟨true, false, false⟩
  | .ckpt _ _ => ⟨true, false, false⟩
  | .fork _ _ => ⟨true, true, false⟩
  | .join _ => ⟨true, false, false⟩
  | .park _ _ _ => ⟨true, true, false⟩
  | .parkWake _ _ => ⟨false, false, false⟩
  | .resume _ => ⟨true, false, false⟩
  | .taskResume _ => ⟨false, false, false⟩
  | .frameJoin _ => ⟨false, false, false⟩
  | .stealRequest _ => ⟨false, false, false⟩
  | .stealServe _ => ⟨false, false, false⟩
  | .add _ b _ => ⟨true, b == .port, false⟩
  | .sub _ b _ => ⟨true, b == .port, false⟩
  | .mul _ b _ => ⟨true, b == .port, false⟩
  | .mulh _ b _ => ⟨true, b == .port, false⟩
  | .div _ b _ => ⟨true, b == .port, false⟩
  | .rem _ b _ => ⟨true, b == .port, false⟩
  | .min_ _ b _ => ⟨true, b == .port, false⟩
  | .max_ _ b _ => ⟨true, b == .port, false⟩
  | .cmp _ _ b _ => ⟨true, b == .port, false⟩
  | .and_ b _ => ⟨true, b == .port, false⟩
  | .or_ b _ => ⟨true, b == .port, false⟩
  | .xor b _ => ⟨true, b == .port, false⟩
  | .andn b _ => ⟨true, b == .port, false⟩
  | .rotl b _ => ⟨true, b == .port, false⟩
  | .rotr b _ => ⟨true, b == .port, false⟩
  | .shl _ b _ => ⟨true, b == .port, false⟩
  | .shr _ b _ => ⟨true, b == .port, false⟩
  | .neg _ => ⟨true, false, false⟩
  | .abs _ => ⟨true, false, false⟩
  | .not_ _ => ⟨true, false, false⟩
  | .clz _ => ⟨true, false, false⟩
  | .ctz _ => ⟨true, false, false⟩
  | .popc _ => ⟨true, false, false⟩
  | .adds _ b _ => ⟨true, b == .port, false⟩
  | .subs _ b _ => ⟨true, b == .port, false⟩
  | .muls _ b _ => ⟨true, b == .port, false⟩
  | .shls _ b _ => ⟨true, b == .port, false⟩
  | .abss _ => ⟨true, false, false⟩
  | .clamp _ _ => ⟨true, true, true⟩
  | .shrr _ _ b _ => ⟨true, b == .port, false⟩
  | .rquant _ _ _ => ⟨true, true, false⟩
  | .bfx _ _ _ => ⟨true, false, false⟩
  | .bfi _ _ => ⟨true, true, false⟩
  | .brev _ => ⟨true, false, false⟩
  | .sext _ _ => ⟨true, false, false⟩
  | .zext _ _ => ⟨true, false, false⟩
  | .padd _ _ => ⟨true, true, false⟩
  | .psub _ _ => ⟨true, true, false⟩
  | .paln _ _ => ⟨true, false, false⟩
  | .pchk _ _ => ⟨true, false, false⟩
  | .pcvt _ _ => ⟨true, false, false⟩
  | .pspc .get _ => ⟨true, false, false⟩
  | .pspc (.set _) _ => ⟨true, true, false⟩
  | .fadd _ _ b _ => ⟨true, b == .port, false⟩
  | .fsub _ _ b _ => ⟨true, b == .port, false⟩
  | .fmul _ _ b _ => ⟨true, b == .port, false⟩
  | .fdiv _ _ b _ => ⟨true, b == .port, false⟩
  | .fsclb _ _ b _ => ⟨true, b == .port, false⟩
  | .fma _ _ _ => ⟨true, true, true⟩
  | .fnma _ _ _ => ⟨true, true, true⟩
  | .fsqrt _ _ _ => ⟨true, false, false⟩
  | .frsq _ _ _ => ⟨true, false, false⟩
  | .frcp _ _ _ => ⟨true, false, false⟩
  | .frint _ _ _ => ⟨true, false, false⟩
  | .fmin _ b _ => ⟨true, b == .port, false⟩
  | .fmax _ b _ => ⟨true, b == .port, false⟩
  | .fminm _ b _ => ⟨true, b == .port, false⟩
  | .fmaxm _ b _ => ⟨true, b == .port, false⟩
  | .fabs _ _ => ⟨true, false, false⟩
  | .fneg _ _ => ⟨true, false, false⟩
  | .fclass _ _ => ⟨true, false, false⟩
  | .fcpys _ b _ => ⟨true, b == .port, false⟩
  | .fcmp _ _ b _ => ⟨true, b == .port, false⟩
  | .cvtff _ _ _ _ _ => ⟨true, false, false⟩
  | .cvtfi _ _ _ _ => ⟨true, false, false⟩
  | .cvtif _ _ _ _ => ⟨true, false, false⟩
  | .fexp2 _ _ _ => ⟨true, false, false⟩
  | .fexpe _ _ _ => ⟨true, false, false⟩
  | .flog2 _ _ _ => ⟨true, false, false⟩
  | .ftanh _ _ _ => ⟨true, false, false⟩
  | .fsig _ _ _ => ⟨true, false, false⟩
  | .fsinp _ _ _ => ⟨true, false, false⟩
  | .fcosp _ _ _ => ⟨true, false, false⟩
  | .sclmax _ _ => ⟨true, false, false⟩
  | .sclget _ => ⟨true, false, false⟩
  | .sclset b _ => ⟨true, b == .port, false⟩
  | .vctx _ _ _ => ⟨true, false, false⟩
  | .vpack _ => ⟨true, true, false⟩
  | .vunpack _ => ⟨true, false, false⟩
  | .vsplat _ _ _ => ⟨true, false, false⟩
  | .vperm _ => ⟨true, true, false⟩
  | .vext _ _ => ⟨true, false, false⟩
  | .vins _ _ => ⟨true, true, false⟩
  | .vsel _ => ⟨true, true, true⟩
  | .vredadd _ _ => ⟨true, false, false⟩
  | .vredmin _ _ => ⟨true, false, false⟩
  | .vredmax _ _ => ⟨true, false, false⟩
  | .vscan _ _ => ⟨true, false, false⟩
  | .red _ _ => ⟨true, false, false⟩
  | .scan _ _ => ⟨true, false, false⟩
  | .argmax _ _ => ⟨true, false, false⟩
  | .argmin _ _ => ⟨true, false, false⟩
  | .sortk _ _ _ _ => ⟨true, false, false⟩
  | .chain _ _ => ⟨true, false, false⟩
  | .eod _ _ => ⟨true, false, false⟩
  | .cntr _ _ => ⟨true, false, false⟩
  | .rng _ => ⟨true, true, false⟩
  | .rngf _ => ⟨true, true, false⟩
  | .ld _ _ _ _ => ⟨true, false, false⟩
  | .ldv _ _ _ _ => ⟨true, false, false⟩
  | .ldx _ _ _ _ => ⟨true, false, false⟩
  | .loadDataReturn _ _ => ⟨false, false, false⟩
  | .viewCacheFill _ _ => ⟨false, false, false⟩
  | .pref _ => ⟨true, false, false⟩
  | .ldb _ _ => ⟨true, false, false⟩
  | .st _ _ _ => ⟨true, true, false⟩
  | .stv _ _ _ => ⟨true, true, false⟩
  | .stx _ _ _ => ⟨true, true, false⟩
  | .stb _ _ => ⟨true, false, false⟩
  | .strmgo _ _ => ⟨true, false, false⟩
  | .streamTokenEmit _ _ => ⟨false, false, false⟩
  | .streamTokenAccept _ _ => ⟨false, false, false⟩
  | .streamEnd _ _ => ⟨false, false, false⟩
  | .strmend _ _ => ⟨true, false, false⟩
  | .strmst _ _ => ⟨true, false, false⟩
  | .atom _ _ _ _ => ⟨true, true, false⟩
  | .atomf _ _ _ _ => ⟨true, true, false⟩
  | .acas _ _ _ => ⟨true, true, true⟩
  | .atomicHomeExec _ _ => ⟨false, false, false⟩
  | .atomicReturn _ _ => ⟨false, false, false⟩
  | .rel _ _ _ => ⟨true, false, false⟩
  | .relScopeReached _ _ => ⟨false, false, false⟩
  | .acq _ _ => ⟨true, true, false⟩
  | .acqComplete _ _ => ⟨false, false, false⟩
  | .gpos _ _ => ⟨true, false, false⟩
  | .fence _ _ => ⟨true, false, false⟩
  | .fencePerformed _ _ => ⟨false, false, false⟩
  | .qpush _ => ⟨true, true, false⟩
  | .qpop _ => ⟨true, false, false⟩
  | .qpopComplete _ _ => ⟨false, false, false⟩
  | .remoteAbufAccess _ => ⟨false, false, false⟩
  | .mxcmd _ _ => ⟨true, true, true⟩
  | .mxseq _ _ => ⟨true, false, false⟩
  | .mxexec _ => ⟨true, false, false⟩
  | .mmul _ => ⟨false, false, false⟩
  | .mzero _ => ⟨false, false, false⟩
  | .mnop _ => ⟨false, false, false⟩
  | .mxeGroup _ _ => ⟨false, false, false⟩
  | .mxeRetire _ _ => ⟨false, false, false⟩
  | .mxin _ _ _ => ⟨true, true, false⟩
  | .mxout _ _ => ⟨true, true, false⟩
  | .mxchk _ => ⟨true, false, false⟩
  | .mxwait _ => ⟨true, false, false⟩
  | .ticketRetired _ _ => ⟨false, false, false⟩
  | .mxtl _ => ⟨true, false, false⟩
  | .cpgo _ _ => ⟨true, false, false⟩
  | .cpstat _ _ => ⟨true, false, false⟩
  | .tlread _ _ => ⟨true, false, false⟩
  | .tlwait _ _ => ⟨true, true, false⟩
  | .wtany _ => ⟨true, false, false⟩
  | .wtall _ => ⟨true, false, false⟩
  | .wtff _ => ⟨true, false, false⟩
  | .tagclr _ => ⟨true, false, false⟩
  | .rawait _ => ⟨true, false, false⟩
  | .rsrel _ => ⟨true, false, false⟩
  | .rapeek _ => ⟨true, false, false⟩
  | .waitComplete _ _ => ⟨false, false, false⟩
  | .trap _ _ _ => ⟨true, false, false⟩
  | .flags _ => ⟨true, false, false⟩
  | .flclr _ => ⟨true, false, false⟩
  | .perf _ _ => ⟨true, false, false⟩
  | .cycl _ => ⟨true, false, false⟩
  | .subcnt _ => ⟨true, false, false⟩
  | .sysq _ _ => ⟨true, true, false⟩
  | .sysqRequest _ => ⟨false, false, false⟩
  | .brk _ _ => ⟨true, false, false⟩
  | .ident _ _ => ⟨true, false, false⟩
  | .sysrd _ => ⟨true, false, false⟩
  | .syswr _ => ⟨true, true, false⟩
  | .tokenArrive _ => ⟨false, false, false⟩
  | .overflowRefill _ _ => ⟨false, false, false⟩
  | .matchPromote _ _ => ⟨false, false, false⟩
  | .tagOpApply _ => ⟨false, false, false⟩
  | .heldTokenGrant _ _ _ => ⟨false, false, false⟩
  | .frameAllocWake _ _ => ⟨false, false, false⟩
  | .vcStarvationPriority _ _ => ⟨false, false, false⟩
  | .walkComplete _ _ => ⟨false, false, false⟩
  | .pteLost _ _ => ⟨false, false, false⟩
  | .quiesceSharedSids _ _ => ⟨false, false, false⟩
  | .tlbInvPage _ _ _ => ⟨false, false, false⟩
  | .tlbInvSid _ => ⟨false, false, false⟩
  | .tlbInvAll => ⟨false, false, false⟩
  | .tlbInvDone => ⟨false, false, false⟩
  | .dirtyBitUpdate _ _ => ⟨false, false, false⟩
  | .writeBackScan _ _ => ⟨false, false, false⟩
  | .writeBackComplete _ _ => ⟨false, false, false⟩
  | .leaseGranted _ => ⟨false, false, false⟩
  | .leaseRelease _ => ⟨false, false, false⟩
  | .repairPassStart _ => ⟨false, false, false⟩
  | .drainEntry _ => ⟨false, false, false⟩
  | .compactorFold _ _ => ⟨false, false, false⟩
  | .galLost _ => ⟨false, false, false⟩
  | .mirrorUpdate _ _ => ⟨false, false, false⟩
  | .galleyFullResume _ => ⟨false, false, false⟩
  | .vcInvalAll _ => ⟨false, false, false⟩
  | .vcInvalDone _ => ⟨false, false, false⟩
  | .chHeadWrite _ _ _ => ⟨false, false, false⟩
  | .recordFetch _ _ => ⟨false, false, false⟩
  | .ringSlotClaim _ _ => ⟨false, false, false⟩
  | .copyMove _ _ => ⟨false, false, false⟩
  | .recordRetire _ _ => ⟨false, false, false⟩
  | .clReadyClear _ _ => ⟨false, false, false⟩
  | .ringEnable _ _ _ => ⟨false, false, false⟩
  | .ringDisable _ _ => ⟨false, false, false⟩
  | .peModeWrite _ _ _ => ⟨false, false, false⟩
  | .peXenWrite _ _ _ => ⟨false, false, false⟩
  | .peFlagsClear _ _ _ => ⟨false, false, false⟩
  | .cntArm _ _ _ _ => ⟨false, false, false⟩
  | .cntAdd _ _ => ⟨false, false, false⟩
  | .cntCancel _ => ⟨false, false, false⟩
  | .cntFree _ => ⟨false, false, false⟩
  | .cntSignal _ => ⟨false, false, false⟩
  | .slotCommit => ⟨false, false, false⟩
  | .dispatchStart _ => ⟨false, false, false⟩
  | .unitEnd _ => ⟨false, false, false⟩
  | .unitFault _ => ⟨false, false, false⟩
  | .faultRecordWrite _ => ⟨false, false, false⟩
  | .graphReplay _ => ⟨false, false, false⟩
  | .queueBind => ⟨false, false, false⟩
  | .queueAge _ => ⟨false, false, false⟩
  | .droneBind => ⟨false, false, false⟩
  | .hang _ => ⟨false, false, false⟩
  | .objectLoad _ => ⟨false, false, false⟩
  | .translationRecord _ _ => ⟨false, false, false⟩
  | .nativeSwap _ => ⟨false, false, false⟩
  | .kernelRestart _ => ⟨false, false, false⟩
  | .checkReplay _ _ _ => ⟨false, false, false⟩
  | .peRetired _ _ _ => ⟨false, false, false⟩
  | .stateLost _ _ _ _ => ⟨false, false, false⟩
  | .trapStop _ => ⟨false, false, false⟩
  | .stopMap _ => ⟨false, false, false⟩
  | .clusterRemap _ => ⟨false, false, false⟩
  | .mirrorRebuild _ => ⟨false, false, false⟩
  | .dieFault _ => ⟨false, false, false⟩
  | .preempt _ => ⟨false, false, false⟩
  | .preemptForceHalt _ => ⟨false, false, false⟩
  | .contextSwap _ => ⟨false, false, false⟩
  | .liveRangeSave _ => ⟨false, false, false⟩
  | .restore _ _ => ⟨false, false, false⟩
  | .snapshot _ => ⟨false, false, false⟩
  | .halt _ => ⟨false, false, false⟩
  | .resumeHalt _ => ⟨false, false, false⟩
  | .haltComplete _ => ⟨false, false, false⟩
  | .mbxDoorbell _ _ => ⟨false, false, false⟩
  | .mbxLoadObject => ⟨false, false, false⟩
  | .mbxLaunch => ⟨false, false, false⟩
  | .mbxCancel => ⟨false, false, false⟩
  | .mbxCopyToProcess => ⟨false, false, false⟩
  | .mbxCopyToHost => ⟨false, false, false⟩
  | .mbxAttest => ⟨false, false, false⟩
  | .mbxCompletionPost => ⟨false, false, false⟩
  | .flitSend _ _ _ => ⟨false, false, false⟩
  | .flitReceive _ _ _ _ => ⟨false, false, false⟩
  | .nakReplay _ _ _ => ⟨false, false, false⟩
  | .controlFlit _ _ _ => ⟨false, false, false⟩
  | .laneFailure _ _ _ _ => ⟨false, false, false⟩
  | .netDoorbell _ => ⟨false, false, false⟩
  | .put _ _ _ _ => ⟨false, false, false⟩
  | .get _ _ _ _ => ⟨false, false, false⟩
  | .cas _ _ _ _ => ⟨false, false, false⟩
  | .raddI32 _ _ _ _ => ⟨false, false, false⟩
  | .raddF32 _ _ _ _ => ⟨false, false, false⟩
  | .netComplete _ => ⟨false, false, false⟩
  | .netTimeout _ _ => ⟨false, false, false⟩
  | .storageReadComplete _ _ _ => ⟨false, false, false⟩
  | .deviceReset _ => ⟨false, false, false⟩
  | .bootStage _ _ _ _ _ _ => ⟨false, false, false⟩
  | .thermSample _ _ => ⟨false, false, false⟩
  | .throttleStepUp _ => ⟨false, false, false⟩
  | .throttleStepDown _ => ⟨false, false, false⟩
  | .thermCrit _ => ⟨false, false, false⟩
  | .hbmBandChange _ _ => ⟨false, false, false⟩
  | .pwrEvaluate _ => ⟨false, false, false⟩
  | .islandLevelChange _ => ⟨false, false, false⟩
  | .registerWrite _ _ _ => ⟨false, false, false⟩
  | .netFadd _ _ _ _ => ⟨false, false, false⟩
  | .peerRequest _ _ _ _ _ _ _ => ⟨false, false, false⟩
  | .netContextRestart _ => ⟨false, false, false⟩
  | .hdmWindowStore _ _ => ⟨false, false, false⟩
  | .aBufferBankPriority _ _ _ => ⟨false, false, false⟩
  | .systemCoreStore _ _ _ _ => ⟨false, false, false⟩

/-- The units of a placement class (08 R176). -/
inductive Class where
  | a_ | c_ | l_ | ls_ | lsc_ | m_ | p_ | pls_ | s_ | t_ | none_
deriving DecidableEq, Repr

def Class.admits : Class → Nat → Bool
  | .a_, _ => true
  | .c_, u => decide (u = 38)
  | .l_, u => (u = 32 || u = 33)
  | .ls_, u => (u = 32 || u = 33) || (u = 34 || u = 35)
  | .lsc_, u => (u = 32 || u = 33) || (u = 34 || u = 35) || decide (u = 38)
  | .m_, u => decide (u = 36)
  | .p_, u => decide (u < 32)
  | .pls_, u => decide (u < 32) || (u = 32 || u = 33) || (u = 34 || u = 35)
  | .s_, u => (u = 34 || u = 35)
  | .t_, u => decide (u = 37)
  | .none_, _ => false

/-- The placement class of an opcode (08 R177). -/
def classOf : Instr → Class
  | .mov _ => .a_
  | .const_ _ _ _ => .pls_
  | .steer _ => .pls_
  | .select _ => .pls_
  | .merge _ => .pls_
  | .gate _ => .a_
  | .sync2 _ => .a_
  | .sync3 _ => .pls_
  | .loopin _ _ => .pls_
  | .iend _ => .a_
  | .loopout _ => .pls_
  | .talloc _ _ => .pls_
  | .tfree _ => .pls_
  | .call _ _ => .pls_
  | .ret_ _ => .pls_
  | .tagget _ => .pls_
  | .tagset _ => .pls_
  | .iter _ => .pls_
  | .wave _ => .pls_
  | .waveMarker _ => .none_
  | .step_ _ _ => .p_
  | .stepSnop => .none_
  | .stepLoop _ _ _ _ => .none_
  | .stepSetx _ _ => .none_
  | .stepAddx _ _ => .none_
  | .stepEmit _ _ _ _ _ => .none_
  | .mxseqPatch _ _ _ _ _ => .none_
  | .stepOpn _ => .none_
  | .stepJmp _ => .none_
  | .stepDone => .none_
  | .barr _ _ => .pls_
  | .barrGenerationComplete _ _ => .none_
  | .trigger _ => .pls_
  | .done _ => .a_
  | .ckpt _ _ => .pls_
  | .fork _ _ => .t_
  | .join _ => .t_
  | .park _ _ _ => .t_
  | .parkWake _ _ => .none_
  | .resume _ => .t_
  | .taskResume _ => .none_
  | .frameJoin _ => .none_
  | .stealRequest _ => .none_
  | .stealServe _ => .none_
  | .add _ _ _ => .pls_
  | .sub _ _ _ => .pls_
  | .mul _ _ _ => .pls_
  | .mulh _ _ _ => .pls_
  | .div _ _ _ => .pls_
  | .rem _ _ _ => .pls_
  | .min_ _ _ _ => .pls_
  | .max_ _ _ _ => .pls_
  | .cmp _ _ _ _ => .pls_
  | .and_ _ _ => .pls_
  | .or_ _ _ => .pls_
  | .xor _ _ => .pls_
  | .andn _ _ => .pls_
  | .rotl _ _ => .pls_
  | .rotr _ _ => .pls_
  | .shl _ _ _ => .pls_
  | .shr _ _ _ => .pls_
  | .neg _ => .pls_
  | .abs _ => .pls_
  | .not_ _ => .pls_
  | .clz _ => .pls_
  | .ctz _ => .pls_
  | .popc _ => .pls_
  | .adds _ _ _ => .pls_
  | .subs _ _ _ => .pls_
  | .muls _ _ _ => .pls_
  | .shls _ _ _ => .pls_
  | .abss _ => .pls_
  | .clamp _ _ => .pls_
  | .shrr _ _ _ _ => .pls_
  | .rquant _ _ _ => .pls_
  | .bfx _ _ _ => .pls_
  | .bfi _ _ => .pls_
  | .brev _ => .pls_
  | .sext _ _ => .pls_
  | .zext _ _ => .pls_
  | .padd _ _ => .pls_
  | .psub _ _ => .pls_
  | .paln _ _ => .pls_
  | .pchk _ _ => .pls_
  | .pcvt _ _ => .pls_
  | .pspc _ _ => .pls_
  | .fadd _ _ _ _ => .p_
  | .fsub _ _ _ _ => .p_
  | .fmul _ _ _ _ => .p_
  | .fdiv _ _ _ _ => .p_
  | .fsclb _ _ _ _ => .p_
  | .fma _ _ _ => .p_
  | .fnma _ _ _ => .p_
  | .fsqrt _ _ _ => .p_
  | .frsq _ _ _ => .p_
  | .frcp _ _ _ => .p_
  | .frint _ _ _ => .p_
  | .fmin _ _ _ => .p_
  | .fmax _ _ _ => .p_
  | .fminm _ _ _ => .p_
  | .fmaxm _ _ _ => .p_
  | .fabs _ _ => .p_
  | .fneg _ _ => .p_
  | .fclass _ _ => .p_
  | .fcpys _ _ _ => .p_
  | .fcmp _ _ _ _ => .p_
  | .cvtff _ _ _ _ _ => .p_
  | .cvtfi _ _ _ _ => .p_
  | .cvtif _ _ _ _ => .p_
  | .fexp2 _ _ _ => .p_
  | .fexpe _ _ _ => .p_
  | .flog2 _ _ _ => .p_
  | .ftanh _ _ _ => .p_
  | .fsig _ _ _ => .p_
  | .fsinp _ _ _ => .p_
  | .fcosp _ _ _ => .p_
  | .sclmax _ _ => .p_
  | .sclget _ => .p_
  | .sclset _ _ => .p_
  | .vctx _ _ _ => .p_
  | .vpack _ => .p_
  | .vunpack _ => .p_
  | .vsplat _ _ _ => .p_
  | .vperm _ => .p_
  | .vext _ _ => .p_
  | .vins _ _ => .p_
  | .vsel _ => .p_
  | .vredadd _ _ => .p_
  | .vredmin _ _ => .p_
  | .vredmax _ _ => .p_
  | .vscan _ _ => .p_
  | .red _ _ => .p_
  | .scan _ _ => .p_
  | .argmax _ _ => .p_
  | .argmin _ _ => .p_
  | .sortk _ _ _ _ => .p_
  | .chain _ _ => .p_
  | .eod _ _ => .p_
  | .cntr _ _ => .p_
  | .rng _ => .p_
  | .rngf _ => .p_
  | .ld _ _ _ _ => .ls_
  | .ldv _ _ _ _ => .ls_
  | .ldx _ _ _ _ => .ls_
  | .loadDataReturn _ _ => .none_
  | .viewCacheFill _ _ => .none_
  | .pref _ => .l_
  | .ldb _ _ => .l_
  | .st _ _ _ => .s_
  | .stv _ _ _ => .s_
  | .stx _ _ _ => .s_
  | .stb _ _ => .s_
  | .strmgo _ _ => .lsc_
  | .streamTokenEmit _ _ => .none_
  | .streamTokenAccept _ _ => .none_
  | .streamEnd _ _ => .none_
  | .strmend _ _ => .lsc_
  | .strmst _ _ => .lsc_
  | .atom _ _ _ _ => .ls_
  | .atomf _ _ _ _ => .ls_
  | .acas _ _ _ => .ls_
  | .atomicHomeExec _ _ => .none_
  | .atomicReturn _ _ => .none_
  | .rel _ _ _ => .pls_
  | .relScopeReached _ _ => .none_
  | .acq _ _ => .pls_
  | .acqComplete _ _ => .none_
  | .gpos _ _ => .pls_
  | .fence _ _ => .pls_
  | .fencePerformed _ _ => .none_
  | .qpush _ => .pls_
  | .qpop _ => .pls_
  | .qpopComplete _ _ => .none_
  | .remoteAbufAccess _ => .none_
  | .mxcmd _ _ => .p_
  | .mxseq _ _ => .p_
  | .mxexec _ => .m_
  | .mmul _ => .none_
  | .mzero _ => .none_
  | .mnop _ => .none_
  | .mxeGroup _ _ => .none_
  | .mxeRetire _ _ => .none_
  | .mxin _ _ _ => .m_
  | .mxout _ _ => .m_
  | .mxchk _ => .m_
  | .mxwait _ => .pls_
  | .ticketRetired _ _ => .none_
  | .mxtl _ => .pls_
  | .cpgo _ _ => .c_
  | .cpstat _ _ => .c_
  | .tlread _ _ => .pls_
  | .tlwait _ _ => .pls_
  | .wtany _ => .pls_
  | .wtall _ => .pls_
  | .wtff _ => .pls_
  | .tagclr _ => .pls_
  | .rawait _ => .pls_
  | .rsrel _ => .pls_
  | .rapeek _ => .pls_
  | .waitComplete _ _ => .none_
  | .trap _ _ _ => .pls_
  | .flags _ => .pls_
  | .flclr _ => .pls_
  | .perf _ _ => .pls_
  | .cycl _ => .pls_
  | .subcnt _ => .pls_
  | .sysq _ _ => .pls_
  | .sysqRequest _ => .none_
  | .brk _ _ => .a_
  | .ident _ _ => .pls_
  | .sysrd _ => .ls_
  | .syswr _ => .s_
  | .tokenArrive _ => .none_
  | .overflowRefill _ _ => .none_
  | .matchPromote _ _ => .none_
  | .tagOpApply _ => .none_
  | .heldTokenGrant _ _ _ => .none_
  | .frameAllocWake _ _ => .none_
  | .vcStarvationPriority _ _ => .none_
  | .walkComplete _ _ => .none_
  | .pteLost _ _ => .none_
  | .quiesceSharedSids _ _ => .none_
  | .tlbInvPage _ _ _ => .none_
  | .tlbInvSid _ => .none_
  | .tlbInvAll => .none_
  | .tlbInvDone => .none_
  | .dirtyBitUpdate _ _ => .none_
  | .writeBackScan _ _ => .none_
  | .writeBackComplete _ _ => .none_
  | .leaseGranted _ => .none_
  | .leaseRelease _ => .none_
  | .repairPassStart _ => .none_
  | .drainEntry _ => .none_
  | .compactorFold _ _ => .none_
  | .galLost _ => .none_
  | .mirrorUpdate _ _ => .none_
  | .galleyFullResume _ => .none_
  | .vcInvalAll _ => .none_
  | .vcInvalDone _ => .none_
  | .chHeadWrite _ _ _ => .none_
  | .recordFetch _ _ => .none_
  | .ringSlotClaim _ _ => .none_
  | .copyMove _ _ => .none_
  | .recordRetire _ _ => .none_
  | .clReadyClear _ _ => .none_
  | .ringEnable _ _ _ => .none_
  | .ringDisable _ _ => .none_
  | .peModeWrite _ _ _ => .none_
  | .peXenWrite _ _ _ => .none_
  | .peFlagsClear _ _ _ => .none_
  | .cntArm _ _ _ _ => .none_
  | .cntAdd _ _ => .none_
  | .cntCancel _ => .none_
  | .cntFree _ => .none_
  | .cntSignal _ => .none_
  | .slotCommit => .none_
  | .dispatchStart _ => .none_
  | .unitEnd _ => .none_
  | .unitFault _ => .none_
  | .faultRecordWrite _ => .none_
  | .graphReplay _ => .none_
  | .queueBind => .none_
  | .queueAge _ => .none_
  | .droneBind => .none_
  | .hang _ => .none_
  | .objectLoad _ => .none_
  | .translationRecord _ _ => .none_
  | .nativeSwap _ => .none_
  | .kernelRestart _ => .none_
  | .checkReplay _ _ _ => .none_
  | .peRetired _ _ _ => .none_
  | .stateLost _ _ _ _ => .none_
  | .trapStop _ => .none_
  | .stopMap _ => .none_
  | .clusterRemap _ => .none_
  | .mirrorRebuild _ => .none_
  | .dieFault _ => .none_
  | .preempt _ => .none_
  | .preemptForceHalt _ => .none_
  | .contextSwap _ => .none_
  | .liveRangeSave _ => .none_
  | .restore _ _ => .none_
  | .snapshot _ => .none_
  | .halt _ => .none_
  | .resumeHalt _ => .none_
  | .haltComplete _ => .none_
  | .mbxDoorbell _ _ => .none_
  | .mbxLoadObject => .none_
  | .mbxLaunch => .none_
  | .mbxCancel => .none_
  | .mbxCopyToProcess => .none_
  | .mbxCopyToHost => .none_
  | .mbxAttest => .none_
  | .mbxCompletionPost => .none_
  | .flitSend _ _ _ => .none_
  | .flitReceive _ _ _ _ => .none_
  | .nakReplay _ _ _ => .none_
  | .controlFlit _ _ _ => .none_
  | .laneFailure _ _ _ _ => .none_
  | .netDoorbell _ => .none_
  | .put _ _ _ _ => .none_
  | .get _ _ _ _ => .none_
  | .cas _ _ _ _ => .none_
  | .raddI32 _ _ _ _ => .none_
  | .raddF32 _ _ _ _ => .none_
  | .netComplete _ => .none_
  | .netTimeout _ _ => .none_
  | .storageReadComplete _ _ _ => .none_
  | .deviceReset _ => .none_
  | .bootStage _ _ _ _ _ _ => .none_
  | .thermSample _ _ => .none_
  | .throttleStepUp _ => .none_
  | .throttleStepDown _ => .none_
  | .thermCrit _ => .none_
  | .hbmBandChange _ _ => .none_
  | .pwrEvaluate _ => .none_
  | .islandLevelChange _ => .none_
  | .registerWrite _ _ _ => .none_
  | .netFadd _ _ _ _ => .none_
  | .peerRequest _ _ _ _ _ _ _ => .none_
  | .netContextRestart _ => .none_
  | .hdmWindowStore _ _ => .none_
  | .aBufferBankPriority _ _ _ => .none_
  | .systemCoreStore _ _ _ _ => .none_

/-- A privileged opcode (08 R177). -/
def privileged : Instr → Bool
  | .sysrd _ => true
  | .syswr _ => true
  | _ => false

end Sys2Proof.Machine
end

