-- ==== Sys2Proof/Machine/Match.lean ====
section
/-!
DEFINITION. Matching, the overflow store, and the choice of what fires (06 R131 to R138).
-/
namespace Sys2Proof.Machine

/-- The instruction of a unit's node, as its record decodes (08 R166). -/
def Cluster.instr (x : Cluster) (u n : Nat) : Option Instr :=
  match x.forme.nodes.find (u * 512 + n) with
  | some w => (match decodeNode (NodeWord.ofBits w) with | .ok i => some i | .error _ => none)
  | none => none

def Firing.port (f : Firing) : Port → Option Token
  | .a => f.a | .b => f.b | .c => f.c | .t => f.t

def Firing.setPort (f : Firing) (p : Port) (t : Token) : Firing :=
  match p with
  | .a => { f with a := some t } | .b => { f with b := some t }
  | .c => { f with c := some t } | .t => { f with t := some t }

/-- How many tokens an entry holds. -/
def Firing.tokens (f : Firing) : Nat := ([f.a, f.b, f.c, f.t].filter (·.isSome)).length

def isMerge : Option Instr → Bool
  | some (.merge _) => true
  | _ => false

def isMxexec : Option Instr → Bool
  | some (.mxexec _) => true
  | _ => false

/-- The sequence nodes (12 R265). -/
def isSeq : Instr → Bool
  | .red .. => true | .scan .. => true | .argmax .. => true | .argmin .. => true | .sortk .. => true
  | .cntr .. => true | _ => false

def isSeqNode : Option Instr → Bool
  | some i => isSeq i
  | none => false

/-- The sequence entry of a node and a tag's frame. -/
def Ctx.seqOf (x : Ctx) (u n : Nat) (t : Tag) : Option SeqEnt :=
  x.seqs.find? (fun e => e.unit == u && e.node == n && e.frame == t.toNat / 256)

/-- The cursor a sequence node waits for: 0 before an entry is open (12 R265). -/
def Ctx.cursor (x : Ctx) (u n : Nat) (t : Tag) : Nat :=
  match x.seqOf u n t with | some e => e.count % e.n | none => 0

/-- Every matched port holds a token; MERGE is complete with either (06 R131, 10 R209). -/
def Cluster.complete (x : Cluster) (f : Firing) : Bool :=
  match x.instr f.unit f.node with
  | none => true
  | some i =>
    let p := portsOf i
    if isMerge (some i) then f.a.isSome || f.b.isSome
    else (!p.a || f.a.isSome) && (!p.b || f.b.isSome) && (!p.c || f.c.isSome) &&
      (!((x.forme.tPorts.contains (f.unit * 512 + f.node)) || (p == ⟨false, false, false⟩)) || f.t.isSome)

/-- Entries of a unit's matching table: 32 for a compute PE, 16 for the others (06 R131). -/
def tableSize (u : Nat) : Nat := if u < 32 then 32 else 16

/-- A waiting firing keeps its tokens in its matching-table entry (10 R217, 16 R330). -/
def holdsEntry : Waiting → Bool
  | .barr .. => true | .wait => true | .acquiring .. => true | .sysq .. => true | .ticket .. => true | .trigger .. => true
  | .frame => true | .task => true | _ => false

/-- Waits of 16 R330. -/
def isWait : Instr → Bool
  | .tlwait .. => true | .wtany .. => true | .wtall .. => true | .wtff .. => true | .rawait .. => true
  | .sysq .. => true | _ => false

/-- The same for a firing: a BARR or a wait whose request is under way keeps its entry too (10 R217, 16 R330, R336). -/
def Pend.inEntry (p : Pend) : Bool :=
  holdsEntry p.why || (match p.why, p.instr with
    | .request _, .barr .. => true
    | .request _, i => isWait i
    | _, _ => false)

/-- A waiting firing holds the matching-table entry of a node and a tag, with a token on a port. -/
def Pend.holds (p : Pend) (u n : Nat) (t : Tag) (q : Port) : Bool :=
  p.inEntry && p.fir.unit == u && p.fir.node == n && p.fir.tag == t && (p.fir.port q).isSome

/-- A store whose pieces a full ring holds back (04 R96). -/
def isAppend : Waiting → Bool
  | .append .. => true | _ => false

/-- Entries of a unit's table in use: matches, waiting firings and activations (06 R131, 08 R181, 16 R330). -/
def Ctx.tableUsed (x : Ctx) (u : Nat) : Nat :=
  (x.matches_.filter (fun e => e.inTable && e.fir.unit == u)).length +
    (x.pend.filter (fun p => p.fir.unit == u && p.inEntry)).length +
    (x.acts.filter (fun a => a.fir.unit == u)).length

/-- Records of the overflow store that hold tokens (06 R132, R149). -/
def Ctx.ovfUsed (x : Ctx) : Nat :=
  (x.matches_.filter (!·.inTable)).foldl (fun n e => n + e.fir.tokens) 0 + x.held.length

/-- The highest USED since CL_OVF.HIGH was last written (06 R149). -/
def Ctx.noteOvf (x : Ctx) : Ctx := { x with ovfHigh := max x.ovfHigh x.ovfUsed }

/-- Put an entry in place of the one with its arrival number. -/
def setEntry (l : List MEntry) (e : MEntry) : List MEntry := l.map (fun x => if x.seq = e.seq then e else x)

/-- Tokens that wait at a port in arrival order, exempt from MATCH_DUP: a sequence node's members, and control tokens
at an MXEXEC's port a (12 R265, 15 R320). -/
def queues (i : Option Instr) (p : Port) (t : Token) : Bool :=
  isSeqNode i || (isMxexec i && t.kind == .control && p == .a)

/-- The entry that an arriving token meets: one that lacks it, or one that has its port already (06 R131). A MERGE's
tokens join no entry of the other port (10 R209). -/
def Ctx.meets (x : Ctx) (i : Option Instr) (u n : Nat) (p : Port) (t : Token) : Option MEntry :=
  let l := x.matches_.filter (fun e => e.fir.unit == u && e.fir.node == n && e.fir.tag == t.tag)
  if isMerge i then l.find? (fun e => (e.fir.port p).isSome)
  else match l.find? (fun e => (e.fir.port p).isNone) with
    | some e => some e
    | none => if queues i p t then none else l.head?

/-- An activation holds the matching-table entry of its node and tag until it ends (08 R181). -/
def Activation.holds (a : Activation) (u n : Nat) (t : Tag) (q : Port) : Bool :=
  a.fir.unit == u && a.fir.node == n && a.fir.tag == t && (a.fir.port q).isSome

/-- A replay has performances left: the unit accepts and sends no token (22 R393). -/
def Cluster.inReplay (x : Cluster) (u : Nat) : Bool := (x.replaying.get (0, 0) u).1 != 0

/-- A token arrives at a node: it joins or opens an entry, spills, or ends the unit (06 R131 to R133). The entries of
waiting firings and of activations count. None: no record of the reservation is free, or the unit replays, and the token stays in its
link buffer. -/
def State.arrive (s : State) (c u n : Nat) (p : Port) (t : Token) : Option State :=
  let x := s.cl c
  let i := x.instr u n
  if x.inReplay u then none
  else if x.ctx.acts.any (fun a => a.holds u n t.tag p) then some (s.endUnit Code.MATCH_DUP c u n 0 t.tag 0)
  else match x.ctx.pend.find? (fun q => q.holds u n t.tag p && !queues i p t) with
  | some q => some ((s.modCtx c (fun k => { k with pend := k.pend.filter (·.id != q.id) })).endUnit
      Code.MATCH_DUP c u n 0 t.tag 0)
  | none => match x.ctx.meets i u n p t with
  | some e =>
    if (e.fir.port p).isSome then
      some ((s.modCtx c (fun k => { k with matches_ := k.matches_.filter (·.seq != e.seq) })).endUnit
        Code.MATCH_DUP c u n 0 t.tag 0)
    else if !e.inTable && x.ctx.ovfUsed ≥ x.ctx.resv then none
    else
      let s := if e.inTable then s else s.count c 0x0E3 1
      some (s.modCtx c (fun k =>
        ({ k with matches_ := setEntry k.matches_ { e with fir := e.fir.setPort p t } } : Ctx).noteOvf))
  | none =>
    let room := decide (x.ctx.tableUsed u < tableSize u)
    if !room && x.ctx.ovfUsed ≥ x.ctx.resv then none
    else
      let (k, s) := s.fresh
      let f : Firing := ({ cl := c, unit := u, node := n, tag := t.tag, seq := k } : Firing).setPort p t
      let s := if room then s else s.count c 0x0E3 1
      some (s.modCtx c (fun y =>
        ({ y with matches_ := y.matches_ ++ [({ seq := k, fir := f, inTable := room } : MEntry)] } : Ctx).noteOvf))

/-! ## What may fire -/

/-- The wave literal of a wave member (13 R275). -/
def waveOf : Instr → Option WaveLit
  | .ld _ _ w _ => some w
  | .ldv _ _ w _ => some w
  | .st _ w _ => some w
  | .stv _ w _ => some w
  | .atom _ _ w _ => some w
  | .atomf _ _ w _ => some w
  | .acas _ w _ => some w
  | .rel _ w _ => some w
  | .acq w _ => some w
  | .fence w _ => some w
  | _ => none

/-- The tile whose copy of the wave table decides: the member's own, or S0's for a compute PE (13 R275). -/
def waveTile (u : Nat) : Nat := if 32 ≤ u ∧ u ≤ 35 then u else 34

/-- A tile's copy of the wave table. -/
def Ctx.waveCopy (x : Ctx) (tile : Nat) : List WaveEnt := x.waves.get [] tile

/-- The wave entry a member continues (13 R276). -/
def waveEntry (l : List WaveEnt) (w : WaveLit) (t : Tag) : Option WaveEnt :=
  if w.pw then l.find? (fun e => e.tag == t && !e.wsw && e.wsucc == w.own.toNat)
  else l.find? (fun e => e.tag == t && e.wown == w.pred.toNat)

def waveOpens (w : WaveLit) : Bool := !w.pw && w.pred == 0
def waveLast (w : WaveLit) : Bool := !w.sw && w.succ.toNat == 1023

/-- An entry of the 64 is free: those of the tile's copy, and those that its copy takes next cycle, are in use. -/
def Ctx.waveRoom (x : Ctx) (tile : Nat) : Bool :=
  decide ((x.waveCopy tile).length + (x.waveNotes.filter (fun n => n.tile != tile && n.old.isNone)).length < 64)

/-- A member may be performed, on a tile's copy: eligible, and with a free entry where it must take one (13 R276). -/
def Ctx.waveReady (x : Ctx) (tile : Nat) (w : WaveLit) (t : Tag) : Bool :=
  if waveOpens w then waveLast w || x.waveRoom tile else (waveEntry (x.waveCopy tile) w t).isSome

/-- What a member's performance changes in the table: the entry that goes and the one that comes, which keeps the moment
at which its wave opened (13 R276). -/
def waveChange (l : List WaveEnt) (w : WaveLit) (t : Tag) (now : Nat) : Option (Option WaveEnt × Option WaveEnt) :=
  let e (n : Nat) : WaveEnt := { tag := t, wown := w.own.toNat, wsucc := w.succ.toNat, wsw := w.sw, born := n }
  if waveOpens w then (if waveLast w then none else some (none, some (e now)))
  else match waveEntry l w t with
    | none => none
    | some o => some (some o, if waveLast w then none else some (e o.born))

/-- A change made in one copy; where the old entry has been discarded, nothing comes. -/
def waveApply (l : List WaveEnt) : Option WaveEnt × Option WaveEnt → List WaveEnt
  | (none, none) => l
  | (none, some e) => l ++ [e]
  | (some o, none) => l.filter (· != o)
  | (some o, some e) => l.map (fun x => if x == o then e else x)

/-- A member is performed at a tile: its copy changes at once, the other three in the next cycle (13 R275, R276). -/
def Ctx.wavePerform (x : Ctx) (tile : Nat) (w : WaveLit) (t : Tag) (now : Nat) : Ctx :=
  match waveChange (x.waveCopy tile) w t now with
  | none => x
  | some p => { x with waves := x.waves.put tile (waveApply (x.waveCopy tile) p)
                       waveNotes := x.waveNotes ++ [{ tile := tile, tag := t, old := p.1, new := p.2 }] }

/-- The cycle passes: the changes of one copy reach the others (13 R275). -/
def Ctx.waveSpread (x : Ctx) : Ctx :=
  if x.waveNotes.isEmpty then x
  else { x with
    waves := [32, 33, 34, 35].map (fun tile => (tile, x.waveNotes.foldl (fun l n =>
      if n.tile = tile ∨ n.not.contains tile then l else waveApply l (n.old, n.new)) (x.waveCopy tile)))
    waveNotes := [] }

/-- A wave of a tag opened before a marker for the tag left its WAVE. -/
def WaveEnt.older (e : WaveEnt) (t : Tag) (mark : Nat) : Bool := e.tag == t && decide (e.born ≤ mark)

/-- A tile discards the ordering state it holds for a tag, of the waves that opened before the WAVE whose marker has come:
a later wave's entry, which another tile's change may bring before the marker, stays (10 R215, 13 R275). -/
def Ctx.waveDiscard (x : Ctx) (tile : Nat) (t : Tag) (mark : Nat) : Ctx :=
  let gone (e : Option WaveEnt) : Bool := match e with | some e => e.older t mark | none => false
  { x with waves := x.waves.put tile ((x.waveCopy tile).filter (fun e => !e.older t mark))
           waveNotes := x.waveNotes.map (fun (n : WaveNote) =>
             if gone n.old || gone n.new then { n with not := tile :: n.not } else n) }

def isLoad : Instr → Bool
  | .ld .. => true | .ldv .. => true | .ldx .. => true | _ => false
def isStore : Instr → Bool
  | .st .. => true | .stv .. => true | .stx .. => true | _ => false
def isAtomic : Instr → Bool
  | .atom .. => true | .atomf .. => true | .acas .. => true | _ => false
def isList : Instr → Bool
  | .step_ .. => true | .mxseq .. => true | _ => false
/-- Taken by the MXE node one at a time in arrival order (15 R305). -/
def isAccept : Instr → Bool
  | .mxexec .. => true | .mxin .. => true | .mxout .. => true | _ => false
/-- The endpoint of a stream instruction that needs its port free (13 R283, R290). -/
def streamPort : Instr → Option Nat
  | .strmgo n _ => some n.toNat
  | .ldb n _ => some n.toNat
  | .stb n _ => some n.toNat
  | _ => none

/-- Galley position D: the first entry not folded (04 R81). -/
def Galley.d (g : Galley) : Nat := match g.ents with | [] => g.a | e :: _ => e.pos

def Ctx.port (x : Ctx) (p : Nat) : StrPort := x.ports.get {} p

/-- The command slot an accepted command would take (15 R302, R323). -/
def acceptSlot (i : Instr) (f : Firing) : Nat :=
  match i with
  | .mxexec _ => match f.a with | some t => bits t.pay 63 56 | none => 0
  | _ => match f.a with | some t => bits t.pay 7 0 | none => 0

/-- The unit that serves a stream port. -/
def Cluster.portUnit (x : Cluster) (p : Nat) : Option Nat := (x.forme.eps.find p).map (fun w => (Ep.of w).unit)

/-- The unit that makes a firing's stores: its own, or S0 for a QPUSH of a compute PE; none where it stores nothing. -/
def storer (i : Instr) (f : Firing) : Option Nat :=
  match i with
  | .qpush _ => some (if f.unit < 32 then 34 else f.unit)
  | _ => if isStore i then some f.unit else none

/-- A storer holds a store that missed its translation, or that a full ring holds, and those after it (03 R53,
04 R78): the arrival number is that of the store that asks. -/
def Cluster.storeHeld (x : Cluster) (u seq : Nat) : Bool :=
  x.ctx.pend.any (fun p => isAppend p.why && storer p.instr p.fir == some u) ||
    x.ctx.matches_.any (fun e => e.missed && e.seq != seq && (match x.instr e.fir.unit e.fir.node with
      | some j => storer j e.fir == some u | none => false))

/-- A stream of the unit holds a token that missed its translation, or that a full ring holds. -/
def Cluster.streamHeld (x : Cluster) (u : Nat) : Bool :=
  x.ctx.ports.any (fun p => x.portUnit p.1 == some u && (match p.2.stream with | some y => y.missed | none => false))

/-- Loads and atomics, which STALL holds (02 R44). -/
def isFetch (i : Instr) : Bool := isLoad i || isAtomic i

/-- A tile that STALL holds: a load or an atomic of it has been issued, or waits for its walk, and its data or value
has not left, or a stream of it has a line request or a walk outstanding (02 R44). -/
def Cluster.tileStalled (x : Cluster) (u : Nat) : Bool :=
  x.forme.stall && (x.ctx.pend.any (fun p => p.fir.unit == u && isFetch p.instr) ||
    x.ctx.matches_.any (fun e => e.fir.unit == u && e.held.isSome && (match x.instr u e.fir.node with
      | some j => isFetch j | none => false)) ||
    x.ctx.ports.any (fun p => x.portUnit p.1 == some u && (match p.2.stream with
      | some y => y.issued.isSome || y.missed | none => false)))

/-- A stream runs on an endpoint that channel 3 serves (13 R288). -/
def Cluster.serving (x : Cluster) : Bool := x.ctx.ports.any (fun p => p.2.stream.isSome && x.portUnit p.1 == some 38)

/-- LDB and STB wait at a frozen endpoint (22 R397). -/
def isBlock : Instr → Bool
  | .ldb .. => true | .stb .. => true | _ => false

/-- Why a complete match must still wait: its place in a sequence, its wave, its unit's wait entries, activations, ports, tables, or a
stalled tile (02 R44, 03 R53, 08 R181, 10 R222, 12 R265, 13 R276, R283, 15 R305, 16 R330). -/
def Cluster.blocked (x : Cluster) (i : Instr) (f : Firing) : Bool :=
  let k := x.ctx
  let bub := f.hasBubble
  let waves (j : Instr) (g : Firing) : Bool := match waveOf j with
    | some w => !k.waveReady (waveTile g.unit) w g.tag | none => false
  let earlier (p : Instr → Firing → Bool) : Bool := k.matches_.any (fun e => decide (e.seq < f.seq) &&
    e.fir.unit == f.unit && x.complete e.fir && !e.fir.hasBubble &&
    (match x.instr e.fir.unit e.fir.node with | some j => p j e.fir | none => false))
  let slow := isFetch i && x.forme.stall && !bub &&
    (x.tileStalled f.unit || earlier (fun j g => isFetch j && !waves j g))
  let order := !bub && (match storer i f with
    | some u => x.storeHeld u f.seq || x.streamHeld u | none => false)
  let waits := isWait i && !bub &&
    decide (8 ≤ (k.pend.filter (fun p => p.fir.unit == f.unit && isWait p.instr)).length)
  let lists := isList i && !bub && decide (4 ≤ (k.acts.filter (fun a => a.fir.unit == f.unit)).length)
  let ports := match streamPort i with
    | some p => !bub && ((k.port p).stream.isSome || (x.frozenPorts && isBlock i) ||
        (x.portUnit p == some 38 && ((Tbl.get ({} : Channel) k.chans 3).busy || x.serving)))
    | none => false
  let tasks := match i with
    | .fork .. => !bub && decide (1088 ≤ k.deque.length)
    | .resume _ => !bub && decide (1088 ≤ k.deque.length)
    | .park .. => !bub && decide (32 ≤ k.parked.length)
    | _ => false
  let accept := isAccept i && !bub && (k.mxCmds.any (fun m => m.slot == acceptSlot i f) ||
    earlier (fun j _ => isAccept j))
  let member := isSeq i && ((tagCluster f.tag == f.cl && bits f.tag.toNat 7 0 != k.cursor f.unit f.node f.tag) ||
    k.matches_.any (fun e => decide (e.seq < f.seq) && e.fir.unit == f.unit && e.fir.node == f.node && e.fir.tag == f.tag))
  member || waves i f || slow || order || waits || lists || ports || tasks || accept

/-- The ready matches of a unit (06 R137). -/
def Cluster.ready (x : Cluster) (u : Nat) : List MEntry :=
  x.ctx.matches_.filter (fun e => e.inTable && e.fir.unit == u && e.held.isNone && x.complete e.fir &&
    (match x.instr u e.fir.node with | some i => !x.blocked i e.fir | none => true))

/-- The activations of a unit, each as a ready match of its node under the trigger's tag (08 R181). -/
def Ctx.stepMatches (x : Ctx) (u : Nat) : List MEntry :=
  (x.acts.filter (fun a => a.fir.unit == u)).map (fun a =>
    { seq := a.seq, fir := a.fir, age := a.age, promoted := a.promoted })

/-- The rank of a match that is not promoted: frame age, iteration order, round robin (06 R137). -/
def State.rank (s : State) (c : Nat) (e : MEntry) : List Nat :=
  let t := e.fir.tag
  let last := (s.ctx c).lastNode.get 511 e.fir.unit
  let rr := (e.fir.node + 1023 - last) % 512
  match s.frame t with
  | none => [1, 0, 0, rr, e.seq]
  | some fr => [0, fr.age, (tagIter t + 2 * fr.n - fr.newest - 1) % fr.n, rr, e.seq]

/-- Lexicographic order of ranks. -/
def rankLt : List Nat → List Nat → Bool
  | [], _ => false
  | _ :: _, [] => false
  | a :: l, b :: m => if a < b then true else if b < a then false else rankLt l m

def bestBy {α : Type} (key : α → List Nat) : List α → Option α
  | [] => none
  | x :: rest => match bestBy key rest with
    | none => some x
    | some y => if rankLt (key y) (key x) then some y else some x

/-- The match a selector chooses of a list: promoted ones longest-waiting first, then by rank (06 R137). -/
def State.pick (s : State) (c : Nat) (l : List MEntry) : Option MEntry :=
  match l.filter (·.promoted) with
  | [] => bestBy (s.rank c) l
  | p => bestBy (fun e => [2 ^ 64 - e.age, e.seq]) p

def Ctx.ring (x : Ctx) (r : Nat) : Ring := x.rings.get {} r
def Ring.full (r : Ring) : Bool := decide (2 ^ r.log2n ≤ r.claim - r.rslot)

/-- A QPUSH that finds its queue full, or a QPOP that finds nothing filled past the cursor, waits in its entry
(13 R296, R297). -/
def State.queueWaits (s : State) (c : Nat) (e : MEntry) : Bool :=
  let r := match e.fir.a with
    | some t => (s.ctx (bits t.pay 59 50)).ring (bits t.pay 3 0)
    | none => {}
  if e.fir.hasBubble || e.claim.isSome || !r.en || !r.mode then false
  else match (s.cl c).instr e.fir.unit e.fir.node with
    | some (.qpush _) => r.full
    | some (.qpop _) => r.popc == r.wslot
    | _ => false

/-- Replays of a unit within the last 2^24 cycles. -/
def Cluster.recent (x : Cluster) (u now : Nat) : List Nat :=
  (x.replays.get [] u).filter (fun t => decide (now < t + 2 ^ 24))

/-- A compute PE has passed its 16th replay within 2^24 cycles: at its next firing boundary it is retired (22 R393). -/
def State.wornOut (s : State) (c u : Nat) : Bool :=
  decide (u < 32) && !(s.cl c).replaying.has u && decide (16 ≤ ((s.cl c).recent u (s.cycles c)).length)

/-- What a unit's selector would choose, among its ready matches and its activations' steps: nothing else during a replay,
and after it the firing whose mismatch began it (06 R137, 08 R181, 22 R393). -/
def State.nextOf (s : State) (c u : Nat) : Option MEntry :=
  let l := ((s.cl c).ready u).filter (fun e => !s.queueWaits c e) ++ (s.ctx c).stepMatches u
  match (s.cl c).replaying.find u with
  | none => s.pick c l
  | some (0, k) => (match l.find? (·.seq == k) with | some e => some e | none => s.pick c l)
  | some (_, _) => none

/-- What a unit's selector chooses: a PE that is to be retired fires nothing more. -/
def State.choose (s : State) (c u : Nat) : Option MEntry := if s.wornOut c u then none else s.nextOf c u

/-- An activation's arrival number. -/
def Ctx.isAct (x : Ctx) (u seq : Nat) : Bool := x.acts.any (fun a => a.fir.unit == u && a.seq == seq)

/-- The match a unit's selector chooses, where it is not a step's turn. -/
def State.select (s : State) (c u : Nat) : Option MEntry :=
  (s.choose c u).bind (fun e => if (s.ctx c).isAct u e.seq then none else some e)

/-- Firing is stopped: the unit has ended, or the cluster is halted or halting (20 R367, 23 R406, R413). -/
def Cluster.stopped (x : Cluster) : Bool :=
  (match x.stat with | .running => false | .idle => false | _ => true) ||
  (match x.halt with | .run => false | .stepping => decide (x.stepLeft = 0) | _ => true) || x.savedWait

/-- A unit may start a firing; a replay, and the firing it ends with, come before a halt takes effect (22 R394). -/
def Cluster.mayFire (x : Cluster) (u : Nat) : Bool :=
  (match x.stat with | .running => true | .idle => true | _ => false) && (x.replaying.has u || !x.stopped)

/-- A unit's history takes a firing (22 R393). -/
def Cluster.note (x : Cluster) (u : Nat) (f : Firing) : Cluster :=
  { x with hist := x.hist.put u (((x.hist.get [] u) ++ [({ fir := f, sig := Config.signature f.seq } : HistEnt)]).drop
      ((x.hist.get [] u).length - 7)) }

/-- A match that the selector has chosen fires: it is no wait that takes its entry (16 R330). -/
def firesNow (i : Option Instr) (f : Firing) : Bool :=
  match i with | some i => !isWait i || f.hasBubble | none => true

/-- The match leaves its table and becomes the latched firing; the unit's history takes it (22 R393). A wait has not
fired: it only gives up the slot (16 R330). -/
def State.latch (s : State) (c u : Nat) (e : MEntry) : State :=
  let s := s.modCl c (fun x =>
    let fires := firesNow (x.instr u e.fir.node) e.fir
    let y := { x with
      ctx := { x.ctx with matches_ := x.ctx.matches_.filter (·.seq != e.seq),
                          lastNode := x.ctx.lastNode.put u e.fir.node }
      stepLeft := if fires then x.stepLeft - 1 else x.stepLeft
      quiet := if fires then 0 else x.quiet
      replaying := x.replaying.del u }
    if fires then y.note u e.fir else y)
  { s with cur := some e.fir, curEnt := some e }

/-- The entry that a match goes back to: its age and its promotion go on (06 R137). -/
def State.entryOf (s : State) (f : Firing) : MEntry :=
  match s.curEnt with
  | some e => if e.seq = f.seq then e else { seq := f.seq, fir := f }
  | none => { seq := f.seq, fir := f }

/-- Put the latched match back, held for a walk or a dirty-bit update (03 R53, R71). -/
def State.rehold (s : State) (f : Firing) (why : Option Nat) : State :=
  s.modCtx f.cl (fun x => { x with matches_ := x.matches_ ++
    [{ s.entryOf f with fir := f, held := why, missed := why.isSome }] })

/-- Add a pending firing; its id is new. -/
def State.pendNew (s : State) (f : Firing) (i : Instr) (w : Waiting) : State :=
  let (k, s) := s.fresh
  s.modCtx f.cl (fun x => { x with pend := x.pend ++ [{ id := k, fir := f, instr := i, why := w }] })

/-- The same for an atomic, whose request sets out for its home. -/
def State.pendAsk (s : State) (f : Firing) (i : Instr) (w : Waiting) (pba : Nat) : State :=
  (s.pendNew f i w).ask f.cl 101 s.serial pba

def State.pend (s : State) (c k : Nat) : Option Pend := (s.ctx c).pend.find? (·.id == k)
def State.pendDel (s : State) (c k : Nat) : State :=
  s.modCtx c (fun x => { x with pend := x.pend.filter (·.id != k) })
def State.pendSet (s : State) (c k : Nat) (w : Waiting) : State :=
  s.modCtx c (fun x => { x with pend := x.pend.map (fun (p : Pend) => if p.id = k then { p with why := w } else p) })

/-- The wave member has been performed: its cluster's tables change (13 R276, R277). -/
def State.waveDone (s : State) (f : Firing) (w : WaveLit) : State :=
  s.modCtx f.cl (fun x => x.wavePerform (waveTile f.unit) w f.tag s.serial)

end Sys2Proof.Machine
end

