-- ==== Sys2Proof/Machine/Galley.lean ====
section
/-!
DEFINITION. The galleys: appending, the ring, segment summaries, releases, mirrors, draining and folding, and the
view cache's part in them (02 R40 to R42, 04 R75 to R98).
-/
namespace Sys2Proof.Machine

/-- Entry slots of a ring (04 R76). -/
def ringN : Nat := 209715

/-- A galley by number: a cluster's, or the hub's 1024 to 1026 (04 R75). -/
def State.gal (s : State) (g : Nat) : Galley :=
  if g < 1024 then (s.cl g).gal else s.hub.gals.get {} (g - 1024)

def State.modGal (s : State) (g : Nat) (f : Galley → Galley) : State :=
  if g < 1024 then s.modCl g (fun x => { x with gal := f x.gal })
  else s.modHub (fun h => { h with gals := h.gals.put (g - 1024) (f (h.gals.get {} (g - 1024))) })

/-- Physical byte address of a ring's slot for a position (04 R76). -/
def Galley.slotPa (g : Galley) (pos : Nat) : Nat := g.base * 4096 + pos % ringN * 80

/-- Physical byte address of a segment's summary slot (04 R79, R83). -/
def Galley.sumPa (g : Galley) (k : Nat) : Nat := g.base * 4096 + 2 ^ 24 + k % 64 * 512

/-- The 640 bits of an entry (04 R77). -/
def GEnt.bits (e : GEnt) : Nat :=
  (if e.poison then 2 ^ 63 else 0) + e.kind * 2 ^ 61 + e.source * 2 ^ 57 + e.pba % 2 ^ 47 +
    2 ^ 64 * ((e.len - 1) * 2 ^ 55 + e.sid * 2 ^ 32 + e.pos % 2 ^ 32) + 2 ^ 128 * (e.data % 2 ^ e.len)

/-- The 4096 bits of a summary (04 R83). -/
def Summary.bits (x : Summary) (k : Nat) : Nat :=
  let l := x.pages.take 64
  k % 2 ^ 64 + 2 ^ 64 * ((if x.ovr then 2 ^ 63 else 0) + l.length) +
    2 ^ 128 * ((l.zipIdx).foldl (fun n p => n + p.1 % 2 ^ 23 * 2 ^ (32 * p.2)) 0)

/-- Add a 2 MiB page to a summary (04 R83). -/
def Summary.add (x : Summary) (page : Nat) : Summary :=
  if x.pages.contains page then x
  else if 64 ≤ x.pages.length then { x with ovr := true }
  else { x with pages := x.pages ++ [page] }

/-- Write the open segment's summary to its slot (04 R83). -/
def State.writeSummary (s : State) (g : Nat) : State :=
  let y := s.gal g
  let k := (y.a - 1) / 4096
  { s with mem := s.mem.writeBytes (y.sumPa k) 512 (y.seg.bits k) }

/-- Merge an entry into a view-cache line that holds its bits (02 R41, 04 R80). -/
def VLine.merge (l : VLine) (line : Nat) (e : GEnt) : VLine :=
  if e.kind ≠ 2 ∧ e.pba / 2048 = line then
    { l with data := setBits l.data (e.pba % 2048) e.len e.data,
             poison := if e.poison then l.poison ||| 2 ^ (e.pba % 2048 / 512) else l.poison }
  else l

/-- The appended entry is merged into the cluster's view cache in the same cycle (02 R41). -/
def State.mergeVc (s : State) (g : Nat) (e : GEnt) : State :=
  if g < 1024 ∧ e.kind ≠ 2 then
    match (s.cl g).vc.find (e.pba / 2048) with
    | some l => s.modCl g (fun x => { x with vc := x.vc.put (e.pba / 2048) (l.merge (e.pba / 2048) e) })
    | none => s
  else s

/-- Whose launch holds a cluster: slot, fault queue, SID, launch counter (04 R98). -/
def State.ownerOf (s : State) (c : Nat) : Option (Nat × Nat × Nat × Nat) :=
  (s.slotOf c).map (fun p => let b := Bind.of p.2.words; (p.1, b.jcnt, b.sid, b.lcnt))

/-- Append one entry: its position is A (04 R76 to R78, R83). -/
def State.append1 (s : State) (g : Nat) (e : GEnt) : State :=
  let y := s.gal g
  let e := { e with pos := y.a, data := if e.poison then 0 else e.data % 2 ^ e.len,
                     owner := if g < 1024 then s.ownerOf g else none }
  let s := { s with mem := s.mem.writeBytes (y.slotPa y.a) 80 e.bits }
  let s := s.modGal g (fun y => { y with
    a := y.a + 1, ents := y.ents ++ [e],
    seg := if e.kind = 2 then y.seg else y.seg.add (e.pba / 8 / 2 ^ 21) })
  let s := s.mergeVc g e
  if (s.gal g).a % 4096 = 0 then (s.writeSummary g).modGal g (fun y => { y with seg := {} }) else s

/-- A write cut at every sector boundary: pba, length, data (04 R78). -/
def cutSectors : Nat → Nat → Nat → Nat → List (Nat × Nat × Nat)
  | 0, _, _, _ => []
  | fuel + 1, pba, len, data =>
    if len = 0 then []
    else
      let n := min len (512 - pba % 512)
      (pba, n, data % 2 ^ n) :: cutSectors fuel (pba + n) (len - n) (data / 2 ^ n)

/-- How many entries a list of writes makes. -/
def piecesCut (l : List (Nat × Nat × Nat × Bool)) : List (Nat × Nat × Nat × Bool) :=
  l.flatMap (fun p => (cutSectors (p.2.1 / 512 + 2) p.1 p.2.1 p.2.2.1).map (fun q => (q.1, q.2.1, q.2.2, p.2.2.2)))

/-- The ring has room for n more entries (04 R96). -/
def State.galRoom (s : State) (g n : Nat) : Bool := decide ((s.gal g).a - (s.gal g).d + n ≤ ringN)

/-- The place of an appender among those of one cycle: S0, S1, copy channels 0 to 3, the marker of an ACQ (04 R78). -/
def appPlace (source : Nat) : Nat := if source = 4 then 0 else if source = 5 then 1 else if source < 4 then 2 + source else 6

/-- An appender may append n entries: the ring has room for them, and no appender before it waits (04 R78, R96). -/
def State.mayAppend (s : State) (c place n : Nat) : Bool :=
  s.galRoom c n && !(s.ctx c).appWait.any (fun p => decide (p % 8 < place % 8))

/-- Whether an appender waits on a full ring (04 R96). -/
def State.waitApp (s : State) (c place : Nat) (b : Bool) : State :=
  s.modCtx c (fun x => { x with appWait := if b then addOnce x.appWait place else x.appWait.filter (· != place) })

/-- Append translated writes in order, each cut at sectors (04 R78). -/
def State.appendAll (s : State) (g kind source sid : Nat) (l : List (Nat × Nat × Nat × Bool)) : State :=
  (piecesCut l).foldl (fun s p => s.append1 g
    { pos := 0, poison := p.2.2.2, kind := kind, source := source, pba := p.1, len := p.2.1, sid := sid,
      data := p.2.2.1 }) s

/-- P := A, after the open segment's summary has been written (04 R82, R83). -/
def State.release (s : State) (g : Nat) : State :=
  let y := s.gal g
  if y.p < y.a then
    (if y.a % 4096 = 0 then s else s.writeSummary g).modGal g (fun y => { y with p := y.a })
  else s

/-- The mirror of a die, or of the hub (die 4), holds P and D of a galley (04 R82). -/
def State.mirror (s : State) (d g : Nat) : Nat × Nat := ((s.die d).mirror).get (0, 0) g

/-- A change to a galley reaches one mirror (04 R82). -/
def State.mirrorUpdate (s : State) (d g : Nat) : State :=
  s.modDie d (fun x => { x with mirror := x.mirror.put g ((s.gal g).p, (s.gal g).d) })

/-- A release's guarantee for a scope (04 R82). -/
def State.relHolds (s : State) (c : Nat) (scope : RelScope) (pos : Nat) : Bool :=
  match scope with
  | .cluster => decide (pos ≤ (s.gal c).p)
  | .die => decide (pos ≤ (s.mirror (dieOfAgent c) c).1)
  | .package => (4 :: s.liveDies).all (fun d => decide (pos ≤ (s.mirror d c).1))
  | .system => (4 :: s.liveDies).all (fun d => decide (pos ≤ (s.mirror d c).1)) && decide (pos ≤ (s.gal c).d)

/-- A package-scope release that an engine or the hub makes: P := A, and every mirror holds it (04 R82, R92, R97). -/
def State.releasePkg (s : State) (g : Nat) : State :=
  (4 :: s.liveDies).foldl (fun s d => s.mirrorUpdate d g) (s.release g)

/-- The undrained own entries below a bound, oldest first (04 R80). -/
def Galley.below (g : Galley) (bound : Nat) : List GEnt := g.ents.filter (fun e => decide (e.pos < bound))

/-- The bits [pba, pba + w) of a base image merged with own entries below a bound, and whether a sector they touch
reads as poisoned (04 R80, 13 R274). -/
def State.readMerged (s : State) (g pba w bound : Nat) : Nat × Bool :=
  let base := s.mem.readBits pba w
  let bad := s.bitsBad pba w
  ((s.gal g).below bound).foldl (fun p e =>
    if e.kind = 2 then p
    else
      let lo := max pba e.pba; let hi := min (pba + w) (e.pba + e.len)
      let v := if lo < hi then setBits p.1 (lo - pba) (hi - lo) (e.data / 2 ^ (lo - e.pba)) else p.1
      let inSec := decide (sectorOf pba ≤ sectorOf e.pba ∧ sectorOf e.pba ≤ sectorOf (pba + w - 1))
      (v, p.2 || (e.poison && inSec && w ≠ 0))) (base, bad)

/-! ## Draining and folding -/

/-- The next entry for the drain engine (04 R81). -/
def Galley.nextDrain (g : Galley) : Option GEnt := g.ents.find? (!·.sent)

/-- The entry's sectors in the ring: its first 128 bits, or its data words (04 R98). -/
def State.entryBad (s : State) (g : Nat) (pos : Nat) : Bool × Bool :=
  let pa := (s.gal g).slotPa pos
  (s.eccBad.contains (pa * 8 / 512) || s.eccBad.contains ((pa * 8 + 127) / 512),
   s.bitsBad (pa * 8 + 128) 512)

def Galley.drop (g : Galley) (pos : Nat) : Galley := { g with ents := g.ents.filter (·.pos != pos) }

/-- The aligned 64-bit words of its sector that an entry touches (02 R33). -/
def GEnt.words (e : GEnt) : List Nat :=
  (List.range 8).filter (fun i => decide (e.pba % 512 < 64 * i + 64) && decide (64 * i < e.pba % 512 + e.len))

/-- Those still to be folded. -/
def GEnt.left (e : GEnt) : List Nat := e.words.filter (fun i => !e.folded.testBit i)

/-- The bits of an entry in one aligned 64-bit word: physical address, length, data. -/
def GEnt.piece (e : GEnt) (i : Nat) : Nat × Nat × Nat :=
  let base := e.pba / 512 * 512 + 64 * i
  let lo := max e.pba base
  let hi := min (e.pba + e.len) (base + 64)
  (lo, hi - lo, e.data / 2 ^ (lo - e.pba) % 2 ^ (hi - lo))

/-- The compactor writes one aligned 64-bit word of an entry into the base image, and its poison into the sector
(02 R29, R33, 04 R81). -/
def State.fold (s : State) (e : GEnt) (i : Nat) : State :=
  let p := e.piece i
  let s := { s with mem := s.mem.writeBits p.1 p.2.1 p.2.2 }
  if e.poison then s.poisonSector (sectorOf e.pba) else s.coverSector (sectorOf e.pba) (p.1 % 512) p.2.1

/-- The entry after a word of it has been folded; it goes with its last one. -/
def Galley.foldNote (g : Galley) (pos i : Nat) : Galley :=
  let l := g.ents.map (fun (e : GEnt) => if e.pos = pos then { e with folded := e.folded ||| 2 ^ i } else e)
  { g with ents := l.filter (fun e => e.pos != pos || !e.left.isEmpty) }

/-- What a stream's appends wait under. -/
def appStream (source port : Nat) : Nat := appPlace source + 8 * (1 + port)

/-- What a QPUSH's append waits under, by its arrival number. -/
def appPush (source seq : Nat) : Nat := appPlace source + 8 * (512 + seq)

/-- A read that has been issued and has not its data yet must not see an own write at or above its bound: it takes what
it would read before the fold. A load that waits for the galley has no snapshot yet (04 R80, 13 R279). -/
def State.captureBefore (s : State) (c : Nat) (e : GEnt) : State :=
  let cap (snap : Nat) (p : Piece) : Piece :=
    if p.got.isNone && decide (snap ≤ e.pos) && decide (p.pba < e.pba + e.len) && decide (e.pba < p.pba + p.len) then
      { p with got := some (s.readMerged c p.pba p.len snap) }
    else p
  s.modCtx c (fun x => { x with
    pend := x.pend.map (fun (p : Pend) => match p.why with
      | .load w l sg snap false ps => { p with why := .load w l sg snap false (ps.map (cap snap)) }
      | .qpop o r k st (some at_) rd ps => { p with why := .qpop o r k st (some at_) rd (ps.map (cap at_)) }
      | _ => p)
    ports := x.ports.map (fun (q : Nat × StrPort) => (q.1, { q.2 with stream := q.2.stream.map (fun (y : Stream) =>
      match y.issued with
      | some k => { y with reads := (y.reads.1.map (cap k), y.reads.2.map (cap k)) }
      | none => y) })) })

/-- An access that has been translated and has neither its data nor its entry. -/
def Waiting.inFlight : Waiting → Bool
  | .load _ _ _ _ _ ps => ps.any (·.got.isNone)
  | .atomic _ _ _ none => true
  | .join _ _ _ none => true
  | .append _ _ _ => true
  | .qpop _ _ _ _ _ _ ps => ps.any (·.got.isNone)
  | _ => false

def Cluster.inFlight (x : Cluster) : Bool :=
  x.ctx.pend.any (fun p => p.why.inFlight) ||
  x.ctx.ports.any (fun p => match p.2.stream with
    | some t => !t.held.isEmpty || (t.issued.isSome && !(t.reads.1.isEmpty && t.reads.2.isEmpty))
    | none => false) ||
  x.ctx.chans.any (fun p => match p.2.rec_ with | some r => !r.held.isEmpty | none => false)

/-- CL_SID takes a space; the accesses in flight were translated under the old one (03 R54). -/
def Cluster.setSid (x : Cluster) (sid : Nat) : Cluster :=
  { x with oldSids := if x.inFlight && x.sid != sid then x.sid :: x.oldSids.erase x.sid else x.oldSids, sid := sid }

/-- An atomic of the galley's owner, issued but not executed, holds folds at or above its A at its own home; the peers'
atomics hold those of galley 1024 (04 R91). -/
def State.atomicHolds (s : State) (g pos home : Nat) : Bool :=
  if 1024 ≤ g then g == 1024 && s.hub.net.any (fun p => p.2.peers.any (fun q => decide (q.2.1 ≤ pos) && q.2.2.contains home))
  else (s.ctx g).pend.any (fun p => match p.why with
    | .atomic a pba _ none => decide (a ≤ pos) && s.home (pba / 8) == some home
    | .join a pba _ none => decide (a ≤ pos) && s.home (pba / 8) == some home
    | _ => false)

/-! ## The view cache -/

/-- Lines of a set, at most 8 (02 R40). -/
def vcSet (l : Tbl VLine) (line : Nat) : Tbl VLine := l.filter (fun p => p.1 % 128 = line % 128)

/-- The least recently used line of a set. -/
def lruLine (l : Tbl VLine) : Option Nat :=
  (bestBy (fun (p : Nat × VLine) => [p.2.use]) l).map (·.1)

/-- Install a line, replacing the least recently used of a full set (02 R40; log 12). -/
def Cluster.install (x : Cluster) (line : Nat) (v : VLine) : Cluster :=
  let l := if (vcSet x.vc line).length < 8 ∨ x.vc.has line then x.vc
    else match lruLine (vcSet x.vc line) with | some k => x.vc.del k | none => x.vc
  { x with vc := l.put line v }

/-- Drop the lines of a 2 MiB page; a fill in flight there is reissued (04 R84). -/
def Cluster.invalPage (x : Cluster) (page : Nat) : Cluster :=
  { x with vc := x.vc.filter (fun p => p.1 / 8192 != page),
           fills := x.fills.map (fun f => if f.line / 8192 = page then { f with reissue := true } else f) }

/-- Full invalidation (02 R42). -/
def Cluster.invalAll (x : Cluster) : Cluster :=
  { x with vc := [], fills := x.fills.map (fun f => { f with reissue := true }) }

/-- Before the first start token, and before a restored context fires (04 R86). -/
def State.clearViews (s : State) (c : Nat) : State :=
  s.modCl c (fun x => { x.invalAll with acqs := [] })

/-! ## Acquiring (04 R84, R85) -/

/-- A summary read from its slot: SEG, OVER, pages. -/
def State.readSummary (s : State) (g k : Nat) : Nat × Bool × List Nat :=
  let pa := (s.gal g).sumPa k
  let w1 := s.mem.word (pa + 8)
  (s.mem.word pa, w1.testBit 63,
   (List.range (min 64 (bits w1 6 0))).map (fun j => s.mem.readBytes (pa + 16 + 4 * j) 4 % 2 ^ 23))

/-- The pages one acquire from a to q invalidates; none: a full invalidation (04 R84). -/
def State.acqPages (s : State) (g a q : Nat) : Option (List Nat) :=
  if q ≤ a then some []
  else
    let k0 := a / 4096; let k1 := (q - 1) / 4096
    if 64 < k1 - k0 + 1 then none
    else
      let ss := (List.range (k1 - k0 + 1)).map (fun i => (k0 + i, s.readSummary g (k0 + i)))
      if ss.any (fun p => p.2.1 ≠ p.1 || p.2.2.1) then none
      else
        let l := (ss.flatMap (fun p => p.2.2.2)).eraseDups
        if 64 < l.length then none else some l

def acqPos (l : List AcqEnt) (g : Nat) : Option Nat := (l.find? (·.gal == g)).map (·.pos)

/-- Set an acquire-table entry, most recent first; 64 are kept (04 R84). -/
def acqSet (l : List AcqEnt) (g q : Nat) : List AcqEnt :=
  let p := max q ((acqPos l g).getD 0)
  ({ gal := g, pos := p } :: l.filter (·.gal != g)).take 64

/-- Perform one named galley's invalidation and table update; the result says what was invalidated (04 R84). -/
def State.acquireOne (s : State) (c g q : Nat) : State × List Nat × Bool × Bool :=
  let x := s.cl c
  match acqPos x.acqs g with
  | none =>
    ((s.modCl c (fun x => { x.invalAll with acqs := acqSet x.acqs g q })).modGal c
      (fun y => { y with fullinv := (y.fullinv + 1) % 2 ^ 48 }), [], true, true)
  | some a =>
    if q ≤ a then (s.modCl c (fun x => { x with acqs := acqSet x.acqs g a }), [], false, false)
    else match s.acqPages g a q with
      | some l => (s.modCl c (fun x => { (l.foldl Cluster.invalPage x) with acqs := acqSet x.acqs g q }), l, false, true)
      | none =>
        ((s.modCl c (fun x => { x.invalAll with acqs := acqSet x.acqs g q })).modGal c
          (fun y => { y with fullinv := (y.fullinv + 1) % 2 ^ 48 }), [], true, true)

/-- The marker of an acquire that advanced an entry: the pages it invalidated, or OVER after a full invalidation, join
the summary (04 R85). -/
def State.marker (s : State) (c : Nat) (pages : List Nat) (full : Bool) : State :=
  (s.modGal c (fun y => { y with seg :=
    let g := pages.foldl Summary.add y.seg
    { g with ovr := g.ovr || full } })).append1 c { pos := 0, kind := 2, source := 6, sid := (s.cl c).sid }

/-- Steps 2 and 3 of several galleys in order, with what they invalidated together (04 R84). -/
def State.acquireAll (s : State) (c : Nat) (l : List (Nat × Nat)) : State × List Nat × Bool × Bool :=
  l.foldl (fun (p : State × List Nat × Bool × Bool) e =>
    let q := p.1.acquireOne c e.1 e.2
    (q.1, p.2.1 ++ q.2.1, p.2.2.1 || q.2.2.1, p.2.2.2 || q.2.2.2)) (s, [], false, false)

/-- Perform an acquire of several galleys and append its marker when it advanced an entry (04 R84, R85). -/
def State.acquire (s : State) (c : Nat) (l : List (Nat × Nat)) : State :=
  let r := s.acquireAll c l
  if r.2.2.2 then (r.1.marker c r.2.1 r.2.2.1).waitApp c 6 false else r.1

/-- The mirror a cluster reads shows both P and D at q or above for every named galley (04 R84 step 1); while it is
being rebuilt nothing is seen (22 R402). -/
def State.acqSeen (s : State) (c : Nat) (l : List (Nat × Nat)) : Bool :=
  !(s.die (dieOf c)).mirrorBad && l.all (fun e => decide (e.2 ≤ (s.mirror (dieOf c) e.1).1) &&
    decide (e.2 ≤ (s.mirror (dieOf c) e.1).2))

/-- The same, where an own stamp needs no wait (16 R334). -/
def State.acqReady (s : State) (c : Nat) (l : List (Nat × Nat)) : Bool :=
  !(s.die (dieOf c)).mirrorBad && l.all (fun e => e.1 == c ||
    (decide (e.2 ≤ (s.mirror (dieOf c) e.1).1) && decide (e.2 ≤ (s.mirror (dieOf c) e.1).2)))

/-- An acquire of these positions advances an entry of the table, so it appends a marker (04 R85). -/
def State.acqAdvances (s : State) (c : Nat) (l : List (Nat × Nat)) : Bool :=
  l.any (fun e => match acqPos (s.cl c).acqs e.1 with | some a => decide (a < e.2) | none => true)

/-- The marker of an acquire can be appended, where there is one (04 R96). -/
def State.markerRoom (s : State) (c : Nat) (l : List (Nat × Nat)) : Bool := !s.acqAdvances c l || s.mayAppend c 6 1

/-- An acquire whose positions are seen and whose marker finds no room waits as an appender (04 R96). -/
def State.acqWait (s : State) (c : Nat) (seen : Bool) (l : List (Nat × Nat)) : State :=
  if seen && !s.markerRoom c l then s.waitApp c 6 true else s

/-- Galleys named twice are taken to the higher position (13 R294, 16 R334). -/
def mergeStamps : List (Nat × Nat) → List (Nat × Nat)
  | [] => []
  | (g, q) :: rest =>
    let r := mergeStamps rest
    match r.find? (·.1 == g) with
    | some (_, p) => r.map (fun e => if e.1 = g then (g, max p q) else e)
    | none => (g, q) :: r

end Sys2Proof.Machine
end

