-- ==== Sys2Proof/Machine/Xlate.lean ====
section
/-!
DEFINITION. Leases, TLBs, the page walk with its mirrors, and dirty bits (03 R46 to R74).
-/
namespace Sys2Proof.Machine

/-! ## Leases (03 R57, R60) -/

/-- Used slots of a lease descriptor's 32 words: BASE, LEN, WR. -/
def leaseSlots (w : List Nat) : List (Nat × Nat × Bool) :=
  (List.range 16).filterMap (fun j =>
    let b := bindWord w (2 * j); let l := bindWord w (2 * j + 1)
    if l.testBit 63 then some (bits b 59 0, bits l 59 0, l.testBit 62) else none)

/-- The lowest bit of [a, e) that the ranges do not cover; none where they cover it. -/
def uncovered (l : List (Nat × Nat × Bool)) : Nat → Nat → Nat → Option Nat
  | 0, a, e => if a < e then some a else none
  | fuel + 1, a, e =>
    if e ≤ a then none
    else match l.find? (fun r => decide (r.1 ≤ a) && decide (a < r.1 + r.2.1)) with
      | some r => uncovered l fuel (r.1 + r.2.1) e
      | none => some a

def covered (l : List (Nat × Nat × Bool)) (a e : Nat) : Bool := (uncovered l (l.length + 1) a e).isNone

/-- The lease check of an access of w bits at a: reads must lie in the union; writes and atomics in WR slots that no
read-only slot overlaps (03 R60). -/
def leaseOk (l : List (Nat × Nat × Bool)) (kind : AccKind) (a w : Nat) : Bool :=
  match kind with
  | .read => covered l a (a + w)
  | _ => covered (l.filter (·.2.2)) a (a + w) &&
      !l.any (fun r => !r.2.2 && decide (r.1 < a + w) && decide (a < r.1 + r.2.1))

/-- The lease of the launch on a cluster. -/
def State.leaseOf (s : State) (c : Nat) : List (Nat × Nat × Bool) :=
  match s.slotOf c with | some (_, sl) => sl.lease | none => []

def accCode : AccKind → Nat
  | .read => 0 | .write => 1 | .atomic => 2

/-- Cause data of LEASE_VIOLATION (03 R60). -/
def leaseCause (kind : AccKind) (a w : Nat) : Nat := a % 2 ^ 60 + w % 2 ^ 16 * 2 ^ 64 + accCode kind * 2 ^ 80

/-! ## TLBs (03 R52) -/

/-- Low address bits a page size maps: 16, 21 or 30 byte bits (03 R50). -/
def pageBits (size : Nat) : Nat := if size = 0 then 16 else if size = 1 then 21 else 30

def TlbEnt.hits (e : TlbEnt) (sid va : Nat) : Bool :=
  e.sid == sid && e.page == va / 8 / 2 ^ pageBits e.size

def TlbEnt.pba (e : TlbEnt) (va : Nat) : Nat :=
  (e.frame * 2 ^ 16 + va / 8 % 2 ^ pageBits e.size) * 8 + va % 8

def TlbEnt.allows (e : TlbEnt) (kind : AccKind) (user : Bool) : Bool :=
  (match kind with | .read => e.rd | .write => e.wr | .atomic => e.rd && e.wr) && (!user || e.user)

/-- Most recently used first: an entry goes to the front when it is filled and whenever it hits; the L1 holds 384
(03 R52; log 12). -/
def tlbPut (n : Nat) (l : List TlbEnt) (e : TlbEnt) : List TlbEnt :=
  (e :: l.filter (fun x => !(x.sid == e.sid && x.page == e.page && x.size == e.size))).take n

/-- 4,096 sets of 4 ways: the new entry goes first, and the fifth entry of its set goes (03 R52; log 12). -/
def l2Put (l : List TlbEnt) (e : TlbEnt) : List TlbEnt :=
  let key (x : TlbEnt) := Config.l2Hash x.sid (x.page * 2 ^ pageBits x.size / 2 ^ 21 % 2 ^ 32) % 4096
  let rest := l.filter (fun x => !(x.sid == e.sid && x.page == e.page && x.size == e.size))
  if rest.length < 4 then e :: rest
  else match (rest.filter (fun x => key x == key e)).drop 3 with
    | [] => e :: rest
    | old :: _ => e :: rest.filter (· != old)

/-- What the L1, then the L2, hold for an address. -/
def State.tlbFind (s : State) (c sid va : Nat) : Option TlbEnt :=
  (s.cl c).tlb.find? (fun e => e.hits sid va)
def State.l2Find (s : State) (c sid va : Nat) : Option TlbEnt :=
  ((s.die (dieOf c)).l2).find? (fun e => e.hits sid va)

/-- An access uses the entries that translate its parts: each becomes the most recent of its TLB, and one that the L1
lacked is filled from the L2 (03 R52; log 12). -/
def State.tlbTouch (s : State) (c va : Nat) : State :=
  let sid := (s.cl c).sid
  match s.tlbFind c sid va with
  | some e => s.modCl c (fun x => { x with tlb := tlbPut 384 x.tlb e })
  | none => match s.l2Find c sid va with
    | some e => (s.modDie (dieOf c) (fun d => { d with l2 := l2Put d.l2 e })).modCl c (fun x => { x with tlb := tlbPut 384 x.tlb e })
    | none => s

/-! ## The page walk (03 R48 to R51, R55, R56) -/

/-- A table's mirror (03 R55); none where it would lie at no memory. -/
def State.mirrorOf (s : State) (p : Nat) : Option Nat :=
  if p < 0x8000000000 then
    let l := s.liveStacks
    match l.findIdx? (· == p / 2 ^ 36) with
    | some i => (nth l ((i + s.hub.ptMs) % l.length)).map (fun k => k * 2 ^ 36 + p % 2 ^ 36)
    | none => none
  else
    let q := (p + s.hub.ptOffset * 4096) % 2 ^ 44
    if (s.home q).isSome then some q else none

/-- ReadTable: the primary copy, or the mirror where the primary's sector is bad; none where both are (03 R56). -/
def State.readTable (s : State) (p : Nat) : Option (Nat × Bool) :=
  if !s.sectorBad (p * 8 / 512) then some (s.mem.word p, false)
  else match s.mirrorOf p with
    | some q => if !s.sectorBad (q * 8 / 512) then some (s.mem.word q, true) else none
    | none => none

/-- What a walk ends in. -/
inductive WalkRes where
  /-- the leaf, its entry's address, level, and how often a mirror served -/
  | leaf (e ptr lvl mirrors : Nat)
  | fault (cause mirrors : Nat)
  /-- both copies of a table are bad: its primary address (03 R56) -/
  | lost (table mirrors : Nat)
deriving DecidableEq, Repr

/-- The reserved fields of a space entry, a leaf and a non-leaf entry (03 R47, R49). -/
def spaceRsv (e : Nat) : Bool := bits e 63 44 ≠ 0 || bits e 7 1 ≠ 0
def leafRsv (e : Nat) : Bool := bits e 58 48 ≠ 0 || bits e 15 8 ≠ 0 || bits e 2 2 ≠ 0
def nodeRsv (e : Nat) : Bool := bits e 63 44 ≠ 0 || bits e 11 2 ≠ 0

/-- ReadTable through a walk cache: a cached entry is read from no table (03 R52). -/
def State.readVia (s : State) (cache : List (Nat × Nat)) (p : Nat) : Option (Nat × Bool) :=
  match cache.find? (·.1 == p) with
  | some q => some (q.2, false)
  | none => s.readTable p

/-- The levels below the space entry: level n reads the entry at an index of its table; the cache holds levels 4 to 2
(03 R50, R52). -/
def State.walkLevels (s : State) (cache : List (Nat × Nat)) (b : Nat) : Nat → Nat → Nat → Nat → WalkRes
  | 0, _, _, m => .fault 2 m
  | n + 1, t, idx, m =>
    let p := t + 8 * idx
    match s.readVia cache p with
    | none => .lost t m
    | some (e, mir) =>
      let m := if mir then m + 1 else m
      if e % 2 = 1 ∧ (if e.testBit 1 then leafRsv e else nodeRsv e) then .fault 5 m
      else if e % 2 = 0 then .fault 1 m
      else if e.testBit 1 then .leaf e p n m
      else if n = 0 then .fault 2 m
      else s.walkLevels cache b n (bits e 43 12 * 4096) (bits b (16 + 9 * (n - 1) + 8) (16 + 9 * (n - 1))) m

/-- The walk of R50 up to the leaf, through a walk cache. -/
def State.walkVia (s : State) (cache : List (Nat × Nat)) (sid va : Nat) : WalkRes :=
  let b := va / 8
  if !s.hub.spaceEn || sid = 0 then .fault 0 0
  else match s.readVia cache (s.hub.spaceBase * 2 ^ 20 + 8 * sid) with
    | none => .lost (s.hub.spaceBase * 2 ^ 20) 0
    | some (e, mir) =>
      let m := if mir then 1 else 0
      if spaceRsv e then .fault 5 m
      else if e % 2 = 0 then .fault 0 m
      else s.walkLevels cache b 5 (bits e 43 8 * 256) (bits b 56 52) m

/-- The walk from the tables alone. -/
def State.walk (s : State) (sid va : Nat) : WalkRes := s.walkVia [] sid va

/-- The table entries that the levels of a walk come to, in order: level, physical byte address, entry. -/
def State.walkPath (s : State) (cache : List (Nat × Nat)) (b : Nat) : Nat → Nat → Nat → List (Nat × Nat × Nat)
  | 0, _, _ => []
  | n + 1, t, idx =>
    let p := t + 8 * idx
    match s.readVia cache p with
    | some (e, _) => (n, p, e) :: (if e % 4 = 1 ∧ n ≠ 0 then
        s.walkPath cache b n (bits e 43 12 * 4096) (bits b (16 + 9 * (n - 1) + 8) (16 + 9 * (n - 1))) else [])
    | none => [(n, p, 0)]

/-- The entries a walk comes to, the space entry first as level 5. -/
def State.walkEntries (s : State) (cache : List (Nat × Nat)) (sid va : Nat) : List (Nat × Nat × Nat) :=
  let b := va / 8
  if !s.hub.spaceEn || sid = 0 then []
  else
    let p := s.hub.spaceBase * 2 ^ 20 + 8 * sid
    match s.readVia cache p with
    | some (e, _) => (5, p, e) :: (if e % 2 = 1 then s.walkPath cache b 5 (bits e 43 8 * 256) (bits b 56 52) else [])
    | none => [(5, p, 0)]

/-- The table entries that a walk reads: those its cache does not hold. -/
def State.walkReads (s : State) (cache : List (Nat × Nat)) (sid va : Nat) : List Nat :=
  ((s.walkEntries cache sid va).map (·.2.1)).filter (fun p => !cache.any (·.1 == p))

/-- The walk cache after a walk: the space entry and the level-4 to level-2 entries it used come first; 32 are kept
(03 R52; log 12). -/
def State.walkCached (s : State) (cache : List (Nat × Nat)) (sid va : Nat) : List (Nat × Nat) :=
  (((s.walkEntries cache sid va).filter (fun e => decide (2 ≤ e.1) && e.2.2 % 4 == 1)).foldl (fun l e =>
    (e.2.1, e.2.2) :: l.filter (fun q => q.1 != e.2.1)) cache).take 32

/-- The TLB entry of a leaf, or the fault cause (03 R50, R51). -/
def State.leafEnt (s : State) (sid va e lvl : Nat) (kind : AccKind) (user : Bool) : Except Nat TlbEnt :=
  let sz := bits e 7 6
  let ob := pageBits sz
  if !((lvl = 0 && sz ≤ 1) || (lvl = 1 && sz = 2)) then .error 2
  else if bits e 43 16 % 2 ^ (ob - 16) ≠ 0 then .error 2
  else
    let t : TlbEnt := { sid := sid, page := va / 8 / 2 ^ ob, size := sz, frame := bits e 43 16, rd := e.testBit 3,
                        wr := e.testBit 4, user := e.testBit 5, et := e.testBit 63, cp := e.testBit 61,
                        dirty := e.testBit 60 }
    if !t.allows kind user then .error 3
    else if (s.home (t.pba va / 8)).isNone then .error 4
    else .ok t

/-- Set bits of a table entry, in both copies (03 R50, R71). -/
def State.updatePte (s : State) (p : Nat) (f : Nat → Nat) : State :=
  let v := f (((s.readTable p).map (·.1)).getD (s.mem.word p))
  let s := { s with mem := s.mem.writeBytes p 8 v }
  match s.mirrorOf p with
  | some q => { s with mem := s.mem.writeBytes q 8 v }
  | none => s

/-- The first walk since reset, however it ends, fixes HUB_PT_MIRROR (03 R55). -/
def State.noteWalk (s : State) : State := s.modHub (fun h => { h with walked := true })

/-- A walk's result for an access, its ACC update made. -/
def State.translateVia (s : State) (cache : List (Nat × Nat)) (sid va : Nat) (kind : AccKind) (user : Bool) :
    State × Except Nat TlbEnt × Option Nat × Nat :=
  let r := s.walkVia cache sid va
  let s := s.noteWalk
  match r with
  | .lost p m => (s, .error 5, some p, m)
  | .fault k m => (s, .error k, none, m)
  | .leaf e p lvl m =>
    match s.leafEnt sid va e lvl kind user with
    | .error k => (s, .error k, none, m)
    | .ok t =>
      let s := if e.testBit 59 then s else s.updatePte p (fun v => if v.testBit 59 then v else v + 2 ^ 59)
      (s, .ok t, none, m)

/-- The same from the tables alone: the walks of the hub. -/
def State.translate (s : State) (sid va : Nat) (kind : AccKind) (user : Bool) : State × Except Nat TlbEnt × Option Nat × Nat :=
  s.translateVia [] sid va kind user

/-! ## Translating a cluster's access (03 R53) -/

/-- The 64 KiB-aligned parts of [va, va + w): address and length (02 R31). -/
def pageParts : Nat → Nat → Nat → List (Nat × Nat)
  | 0, _, _ => []
  | fuel + 1, va, w =>
    if w = 0 then []
    else
      let n := min w (2 ^ 19 - va % 2 ^ 19)
      (va, n) :: pageParts fuel (va + n) (w - n)

/-- Where an access stands with its translation. -/
inductive Xlat where
  /-- physical pieces: pba, length, ET -/
  | ok (l : List (Nat × Nat × Bool))
  /-- the first address whose translation misses -/
  | miss (va : Nat)
  /-- a page to be marked dirty first -/
  | dirty (va : Nat)
  | fault (cause va : Nat)
deriving DecidableEq, Repr

/-- Whether a forme is a user forme. -/
def State.userForme (s : State) (c : Nat) : Bool := !(s.cl c).forme.priv

/-- Translate the parts of an access through the TLBs; an L2 hit is waited for and is a hit here (03 R53). -/
def State.xlatParts (s : State) (c : Nat) (kind : AccKind) : List (Nat × Nat) → Xlat
  | [] => .ok []
  | (va, n) :: rest =>
    let sid := (s.cl c).sid
    match (match s.tlbFind c sid va with | some e => some e | none => s.l2Find c sid va) with
    | none => .miss va
    | some e =>
      if !e.allows kind (s.userForme c) then .fault 3 va
      else if kind ≠ .read ∧ (!e.dirty ∨ e.cp) then .dirty va
      else match s.xlatParts c kind rest with
        | .ok l => .ok ((e.pba va, n, e.et) :: l)
        | r => r

def State.xlat (s : State) (c : Nat) (kind : AccKind) (va w : Nat) : Xlat :=
  s.xlatParts c kind (pageParts (w / 2 ^ 19 + 2) va w)

/-- Two addresses of a space lie in one page: in 64 KiB, or in the page of the leaf that the first one has. -/
def State.samePage (s : State) (cache : List (Nat × Nat)) (sid a b : Nat) : Bool :=
  a / 2 ^ 19 == b / 2 ^ 19 || (match s.walkVia cache sid a with
    | .leaf e _ _ _ => a / 8 / 2 ^ pageBits (bits e 7 6) == b / 8 / 2 ^ pageBits (bits e 7 6)
    | _ => false)

/-- Start a walk, merged with one for the same page under way; the answer is its id (03 R52). An access merged with a
walk retries when that ends, and its own permission is checked then. -/
def State.startWalk (s : State) (c va : Nat) (kind : AccKind) (f : Firing) (ch : Option Nat) : Nat × State :=
  let sid := (s.cl c).sid
  match (s.cl c).walks.find? (fun w => w.sid == sid && s.samePage (s.cl c).walkCache sid w.va va) with
  | some w => (w.id, s)
  | none =>
    let (k, s) := s.fresh
    (k, s.modCl c (fun x => { x with walks := x.walks ++ [({ id := k, sid := sid, va := va, kind := kind, fir := f,
                                                             chan := ch } : Walk)] }))

/-- Ask for a page's dirty bits to be updated at the home; the answer is the request's id (03 R71). -/
def State.startDirty (s : State) (c va : Nat) : Nat × State :=
  let sid := (s.cl c).sid
  match (s.cl c).dirties.find? (fun w => w.sid == sid && w.va / 2 ^ 19 == va / 2 ^ 19) with
  | some w => (w.id, s)
  | none =>
    let (k, s) := s.fresh
    (k, s.modCl c (fun x => { x with dirties := x.dirties ++ [({ id := k, sid := sid, va := va } : Dirty)] }))

end Sys2Proof.Machine
end

