-- ==== Sys2Proof/Machine/Access.lean ====
section
/-!
DEFINITION. Pointers and their checks, the typed buffers, and accesses by the edge tiles (02 R22 to R39, 13 R273).
-/
namespace Sys2Proof.Machine

/-! ## Pointers (02 R22, R25) -/

def ptrTag (p : Nat) : Nat := bits p 63 60
def ptrOff (p : Nat) : Nat := bits p 59 0
/-- Cluster of a tag 0x5 or 0x7 pointer. -/
def ptrCluster (p : Nat) : Nat := bits p 59 50
def ptrBufOff (p : Nat) : Nat := bits p 22 0

/-- The whole arithmetic field of a pointer into a buffer: what pointer arithmetic has carried past 23 bits counts, so
that no offset wraps (02 R26, 11 R247). -/
def ptrBufAll (p : Nat) : Nat := if ptrTag p = 7 then bits p 49 0 else bits p 59 0

/-- Fields of a pointer that must be zero are not, or a system pointer names a reserved BLOCK (02 R25 cause 4). -/
def ptrZero (p : Nat) : Bool :=
  let t := ptrTag p
  if t = 1 ∨ t = 2 then bits p 59 23 ≠ 0
  else if t = 3 then bits p 59 22 ≠ 0 || bits p 4 0 ≠ 0
  else if t = 4 then bits p 59 8 ≠ 0
  else if t = 5 then bits p 49 4 ≠ 0
  else if t = 6 then bits p 59 52 ≠ 0 || bits p 37 18 ≠ 0 || bits p 5 0 ≠ 0 || 2 < bits p 51 48 ||
    (bits p 51 48 = 1 && bits p 47 41 ≠ 0) || (bits p 51 48 = 2 && bits p 47 38 ≠ 0)
  else if t = 7 then bits p 49 23 ≠ 0
  else false

/-- The first cause of R25 that applies to a pointer under a use that accepts the listed tags. -/
def State.ptrCause (s : State) (c : Nat) (tags : List Nat) (p : Nat) : Option Nat :=
  let t := ptrTag p
  if t = 0xF then some 0
  else if 8 ≤ t then some 1
  else if ptrZero p then some 4
  else if (t = 5 ∨ t = 7) ∧ (!s.present? (ptrCluster p) ∨ !s.inLaunch c (ptrCluster p)) then some 5
  else if t = 6 ∧ !(s.cl c).forme.priv then some 3
  else if !tags.contains t then some 2
  else none

/-! ## The typed buffers (02 R26, R34 to R37) -/

/-- The bits [off, off + w) of a buffer held in 256-bit words. -/
def bufRead (b : Tbl Nat) (off w : Nat) : Nat :=
  let k := off / 256
  let n := (off + w + 255) / 256 - k
  (List.range n).foldr (fun i acc => b.get 0 (k + i) + 2 ^ 256 * acc) 0 / 2 ^ (off % 256) % 2 ^ w

/-- Set the bits [off, off + w); each word is a read-merge-write (02 R36). -/
def bufWriteFrom (b : Tbl Nat) : Nat → Nat → Nat → Nat → Tbl Nat
  | 0, _, _, _ => b
  | fuel + 1, off, w, v =>
    if w = 0 then b
    else
      let n := min w (256 - off % 256)
      bufWriteFrom (b.put (off / 256) (setBits (b.get 0 (off / 256)) (off % 256) n v)) fuel (off + n) (w - n) (v / 2 ^ n)

def bufWrite (b : Tbl Nat) (off w v : Nat) : Tbl Nat := bufWriteFrom b (w / 256 + 2) off w v

/-- The value a store holds at a word or entry: a C-store entry with its TY and PZ bits (23 R410). -/
def Cluster.stored (x : Cluster) (store k : Nat) : Nat :=
  if store = 0 then x.abuf.get 0 k
  else if store = 1 then x.wbuf.get 0 k
  else
    let e := x.cstore.get {} k
    e.code + (if e.ty then 2 ^ 32 else 0) + (if e.pz then 2 ^ 33 else 0)

/-- A word or entry carries the pending mark of a live-range save (23 R409). -/
def Cluster.marked (x : Cluster) (store k : Nat) : Bool :=
  x.marks.any (fun m => m.1 == store && decide (m.2.1 ≤ k) && decide (k ≤ m.2.2))

/-- A write to a word that a live-range save has still to read waits until the save has read it (23 R409). -/
def Cluster.saveFirst (x : Cluster) (store k : Nat) : Cluster :=
  match x.shadow with
  | none => x
  | some im =>
    if x.marked store k && !im.saved.any (fun e => e.1 == store && e.2.1 == k) then
      { x with shadow := some { im with saved := im.saved ++ [(store, k, x.stored store k)] } }
    else x

/-- The words [off, off + w) of a buffer. -/
def wordsOf (off w : Nat) : List Nat :=
  if w = 0 then [] else (List.range ((off + w - 1) / 256 + 1 - off / 256)).map (· + off / 256)

def Cluster.abufSet (x : Cluster) (off w v : Nat) : Cluster :=
  let x := (wordsOf off w).foldl (fun x k => x.saveFirst 0 k) x
  { x with abuf := bufWrite x.abuf off w v }

def Cluster.wbufSet (x : Cluster) (off w v : Nat) : Cluster :=
  let x := (wordsOf off w).foldl (fun x k => x.saveFirst 1 k) x
  { x with wbuf := bufWrite x.wbuf off w v }

def Cluster.cstoreSet (x : Cluster) (k : Nat) (e : CEnt) : Cluster :=
  let x := x.saveFirst 2 k
  { x with cstore := x.cstore.put k e }

def State.abufRead (s : State) (c off w : Nat) : Nat := bufRead (s.cl c).abuf off w
def State.abufWrite (s : State) (c off w v : Nat) : State := s.modCl c (fun x => x.abufSet off w v)

/-- Past the end of the 2^23-bit buffer (02 R26). -/
def bufRange (off w : Nat) : Bool := decide (2 ^ 23 < off + w)

/-! ## Lanes of tokens (06 R124, 07 R155) -/

def Token.cont (t : Token) : Nat := 2 ^ t.cl2
def Token.grant (t : Token) : Nat := 2 ^ t.gl2
/-- The container bits of a lane. -/
def Token.lane (t : Token) (j : Nat) : Nat := t.pay / 2 ^ (t.cont * j) % 2 ^ t.cont
def Token.poisoned (t : Token) (j : Nat) : Bool := t.pmask.testBit j
/-- The low w bits of lane 0. -/
def Token.low (t : Token) (w : Nat) : Nat := t.lane 0 % 2 ^ w

/-- A payload built of lanes of c bits. -/
def packLanes (c : Nat) : List Nat → Nat
  | [] => 0
  | x :: rest => x % 2 ^ c + 2 ^ c * packLanes c rest

/-- A mask with bit j set where the j-th element is true. -/
def maskOf : List Bool → Nat
  | [] => 0
  | b :: rest => (if b then 1 else 0) + 2 * maskOf rest

/-- log2 of the lane container of a width (07 R155). -/
def contOf (w : Nat) : Nat := Fd.contL2 w

/-- A code of w bits widened into its container: sign copies or zeros (07 R155). -/
def widen (sg : Bool) (w cl2 v : Nat) : Nat := if sg then zextInt (sext v w) (2 ^ cl2) else v % 2 ^ w

/-- log2 of the number of lanes of a vector access: min(32, 256 / c) (13 R278). -/
def vecL2 (cl2 : Nat) : Nat := min 5 (8 - cl2)

/-! ## Checking an access (13 R273) -/

/-- What the checks before translation find. -/
inductive Checked where
  | ok (tag off : Nat)
  | bad (code cause : Nat)
deriving DecidableEq, Repr

/-- Space, alignment, buffer range and lease, in the order of R273, for w bits at p. -/
def State.check (s : State) (c : Nat) (tags : List Nat) (kind : AccKind) (p w : Nat) (misaligned : Bool) : Checked :=
  match s.ptrCause c tags p with
  | some k => .bad Code.SPACE_ILLEGAL k
  | none =>
    let t := ptrTag p
    if misaligned then .bad Code.ALIGN_FAULT 0
    else if (t = 1 ∨ t = 7) ∧ bufRange (ptrBufOff p) w then .bad Code.BUF_RANGE 0
    else if t = 0 ∧ !leaseOk (s.leaseOf c) kind (ptrOff p) w then
      .bad Code.LEASE_VIOLATION (leaseCause kind (ptrOff p) w)
    else .ok t (ptrOff p)

/-- The pointer operand of port a: lane 0 in a 64-bit container, not poisoned (13 R273). The error is a fault code. -/
def ptrOperand (t : Option Token) : Except Nat Nat :=
  match t with
  | none => .error Code.LANE_MISMATCH
  | some t =>
    if t.kind ≠ .data ∨ t.cl2 ≠ 6 then .error Code.LANE_MISMATCH
    else if t.poisoned 0 then .error Code.POISON_CONSUMED
    else .ok (t.lane 0)

/-- A pointer's arithmetic field moved by a displacement, other bits kept (11 R247). -/
def ptrAdd (p : Nat) (d : Int) : Nat :=
  let w := if ptrTag p = 5 ∨ ptrTag p = 7 then 50 else 60
  setBits p 0 w (zextInt (((bits p (w - 1) 0 : Nat) : Int) + d) w)

end Sys2Proof.Machine
end

