-- ==== Sys2Proof/Machine/RegRead.lean ====
section
/-!
DEFINITION. Reading system registers (00 R5, 02 R23, R45, and the register maps of each chapter).
-/
namespace Sys2Proof.Machine

def Ctx.chan (x : Ctx) (k : Nat) : Channel := x.chans.get {} k
def Ctx.peReg (x : Ctx) (u : Nat) : PeReg := x.pe.get {} u
def State.modChan (s : State) (c k : Nat) (f : Channel → Channel) : State :=
  s.modCtx c (fun x => { x with chans := x.chans.put k (f (x.chan k)) })
def State.modRing (s : State) (c r : Nat) (f : Ring → Ring) : State :=
  s.modCtx c (fun x => { x with rings := x.rings.put r (f (x.ring r)) })
def State.modPe (s : State) (c u : Nat) (f : PeReg → PeReg) : State :=
  s.modCtx c (fun x => { x with pe := x.pe.put u (f (x.peReg u)) })

def bn (b : Bool) (k : Nat) : Nat := if b then 2 ^ k else 0

/-- CH_STAT (05 R101). -/
def Channel.stat (h : Channel) : Nat :=
  bn h.busy 63 + bn h.frozen 62 + bn h.waiting 61 + h.lastStat % 256 * 2 ^ 48 + h.retired % 2 ^ 48

/-- CL_RING_CFG (05 R114). -/
def Ring.cfg (r : Ring) : Nat := r.slot % 2 ^ 25 * 2 ^ 16 + r.log2n % 16 * 2 ^ 12 + bn r.mode 2 + bn r.en 0

/-- CL_REPAIR (03 R67). -/
def Ctx.repairReg (x : Ctx) : Nat :=
  bn x.skipAll 33 + bn x.repair 32 + (x.skip0.length + x.skip1.length) % 2 ^ 32

/-- CL_FRAMES and CL_OVF (06 R149). -/
def Ctx.framesReg (x : Ctx) : Nat := x.framesHigh % 2 ^ 11 * 2 ^ 32 + x.frames.length % 2 ^ 11
def Ctx.ovfReg (x : Ctx) : Nat :=
  x.ovfHigh % 2 ^ 12 * 2 ^ 36 + x.ovfUsed % 2 ^ 12 * 2 ^ 24 + x.resv % 2 ^ 12 * 2 ^ 12

/-- Frames in use from resumptions, and CL_TASK (10 R222, R231). -/
def Ctx.activeTasks (x : Ctx) : Nat := (x.frames.filter (fun p => p.2.resumed)).length
def Ctx.taskReg (x : Ctx) : Nat := x.parked.length * 2 ^ 32 + x.deque.length * 2 ^ 16 + x.activeTasks % 16

/-- MXE_STAT (15 R327). -/
def isArrayOp : MxOp → Bool
  | .mmul _ => true | .mzero _ => true | _ => false
def isOutOp : MxOp → Bool
  | .mxout .. => true | _ => false
def isInOp : MxOp → Bool
  | .mxin .. => true | _ => false
def Ctx.mxStat (x : Ctx) : Nat :=
  let arr := x.mxCmds.find? (fun m => m.started && !m.done && isArrayOp m.op)
  x.mxCmds.length * 2 ^ 32 + ((arr.map (·.slot)).getD 0) * 2 ^ 16 +
    bn (x.mxCmds.any (fun m => m.started && !m.done && isOutOp m.op)) 1 + bn arr.isSome 0

/-- CL_HALT (23 R413). -/
def haltCode : HaltStat → Nat
  | .run => 0 | .halting => 1 | .halted => 2 | .stepping => 3
def Cluster.haltReg (x : Cluster) : Nat := haltCode x.halt * 2 ^ 62 + x.stepN % 2 ^ 16 * 2 ^ 32 + bn x.haltMode 2

/-- CL_HEALTH (22 R398). -/
def Cluster.healthReg (x : Cluster) : Nat := x.sp1 * 2 ^ 14 + x.sp0 * 2 ^ 8 + x.sites * 2 ^ 4 + x.health

/-- A galley's registers by index from 0x060 (04 R79). -/
def Galley.reg (g : Galley) (k : Nat) : Nat :=
  if k = 0 then g.a % 2 ^ 64 else if k = 1 then g.p % 2 ^ 64 else if k = 2 then g.d % 2 ^ 64
  else if k = 3 then g.base % 2 ^ 32 * 2 ^ 12 else if k = 4 then g.stall else if k = 5 then g.fullinv else 0

/-- A counter kept under its own index in `perf`. -/
def perfReg (n : Nat) : Bool :=
  [0x040, 0x041, 0x042, 0x043, 0x052, 0x0E2, 0x0E3, 0x0E4, 0x0F1, 0x0FC, 0x0FD, 0x196, 0x197].contains n

/-- A cluster register (BLOCK 0). -/
def Cluster.reg (x : Cluster) (n : Nat) : Nat :=
  let k := x.ctx
  if perfReg n then x.perf.get 0 n
  else if n = 0x044 then bn x.vcBusy 1
  else if n = 0x050 then x.sid
  else if n = 0x051 then k.subst
  else if n = 0x053 then k.repairReg
  else if 0x060 ≤ n ∧ n ≤ 0x065 then x.gal.reg (n - 0x060)
  else if 0x070 ≤ n ∧ n ≤ 0x07F then
    let h := k.chan ((n - 0x070) / 4)
    let j := (n - 0x070) % 4
    if j = 0 then h.head.toNat else if j = 1 then h.stat else if j = 2 then h.tl % 2 ^ 64 else h.cur.toNat
  else if n = 0x080 then k.ready
  else if 0x0A0 ≤ n ∧ n ≤ 0x0DF then
    let r := k.ring ((n - 0x0A0) / 4)
    let j := (n - 0x0A0) % 4
    if j = 0 then r.base.toNat else if j = 1 then r.cfg
    else if j = 2 then r.wslot % 2 ^ 32 * 2 ^ 32 + r.rslot % 2 ^ 32 else r.claim % 2 ^ 32
  else if n = 0x0E0 then k.framesReg
  else if n = 0x0E1 then k.ovfReg
  else if n = 0x0F0 then k.taskReg
  else if n = 0x0F9 then x.brk
  else if n = 0x0FA then x.quietLimit
  else if n = 0x0FB then x.healthReg
  else if n = 0x0FF then x.haltReg
  else if 0x100 ≤ n ∧ n < 0x100 + 4 * 36 then
    let p := k.peReg ((n - 0x100) / 4)
    let j := (n - 0x100) % 4
    if j = 0 then p.mode else if j = 1 then p.xen else if j = 2 then p.flags else 0
  else if n = 0x190 then k.mxStat
  else if n = 0x191 then (x.forme.fmtA.getD 0) * 2 ^ 32 + x.forme.fmtB.getD 0
  else if 0x192 ≤ n ∧ n ≤ 0x195 then x.mxTl.get 0 (n - 0x192) % 2 ^ 64
  else 0

/-- A cluster register; CL_CYCLE is its island's count. -/
def State.clReg (s : State) (c n : Nat) : Nat := if n = 0x0F8 then s.cycles c else (s.cl c).reg n

/-- HUB_CNT_STATE (20 R358). -/
def Counter.reg (c : Counter) : Nat :=
  c.status * 2 ^ 61 + bn c.flt 60 + bn c.pv 59 + c.parent % 2 ^ 12 * 2 ^ 47 + c.remain % 2 ^ 23 * 2 ^ 24 + bn c.ln 23 +
    bn c.err 22 + c.trigLeft % 2 ^ 11

def State.counter (s : State) (n : Nat) : Counter := s.hub.cnts.get {} n

/-- Clusters whose health state is DEGRADED, and those with a spare in use or on a spare site (22 R401). -/
def State.degraded (s : State) : Nat := (s.cls.filter (fun p => p.2.health == 2 && !s.hub.unavail.contains p.1)).length
def State.spared (s : State) : Nat :=
  (s.cls.filter (fun p => p.2.sp0 != 0x3F || p.2.sp1 != 0x3F || p.2.site != 0)).length

/-- HUB_HEALTH (22 R401). -/
def State.healthReg (s : State) : Nat :=
  let un := s.hub.unavail.length
  let st := if !s.hub.fenced.isEmpty || un ≠ 0 then 3 else if s.degraded ≠ 0 then 2 else if s.spared ≠ 0 then 1 else 0
  st * 2 ^ 62 + (s.hub.fenced.foldl (fun n d => n ||| 2 ^ d) 0) * 2 ^ 53 + un * 2 ^ 42 + s.degraded * 2 ^ 31 +
    s.spared * 2 ^ 20

/-- HUB_UNAVAILk (22 R401). -/
def State.unavailReg (s : State) (k : Nat) : Nat :=
  s.hub.unavail.foldl (fun n c => if c / 64 = k then n ||| 2 ^ (c % 64) else n) 0

def State.linkMod (s : State) (l m : Nat) : LinkMod := s.links.get {} (4 * l + m)

/-- The direction of a link that sets out from its lower-numbered die: of link 3, which joins dies 3 and 0, it is down;
of links 4 to 7, the fabric die's (25 R424, 26 R436). -/
def lowDir (l : Nat) : Bool := l != 3

/-- HUB_LINK_STAT, HUB_LINK_ERR and HUB_LINK_RPL of link l's module (25 R429): the module's end on the lower-numbered die
sends one direction and receives the other; the counters count at both ends (26 R436). -/
def LinkMod.reg (x : LinkMod) (l k : Nat) : Nat :=
  let tx := if lowDir l then x.up else x.down
  let rx := if lowDir l then x.down else x.up
  if k = 0 then x.stat * 2 ^ 62 + x.width * 2 ^ 55 + x.repaired * 2 ^ 51 + tx.txseq % 4096 * 2 ^ 32 +
    rx.rxexp % 4096 * 2 ^ 20 + tx.heldF.length * 2 ^ 11
  else if k = 1 then (x.up.err + x.down.err) % 2 ^ 48
  else if k = 2 then (x.up.rpl + x.down.rpl) % 2 ^ 48
  else 0

def State.thermOf (s : State) (d : Nat) : Therm := s.therm.get {} d
def State.stackOf (s : State) (k : Nat) : HbmStack := s.hbmStacks.get {} k
def State.island (s : State) (i : Nat) : Island := s.hub.islands.get {} i

/-- The set has an island: those of the dies present, and the hub's (01 R21). -/
def State.islandThere (s : State) (i : Nat) : Bool :=
  decide (20 ≤ i) || s.present.contains (if i < 16 then i / 4 else i - 16)

/-- A hub register (BLOCK 2). -/
def State.hubReg (s : State) (n : Nat) : Nat :=
  let h := s.hub
  if n = 0x100 then h.invVa
  else if n = 0x101 then bn h.invBusy 63 + h.invSid * 2 ^ 8 + h.invScope * 2 ^ 4 + h.invSize * 2 ^ 2
  else if n = 0x102 then h.ptOffset * 2 ^ 12 + h.ptMs
  else if n = 0x103 then h.spaceBase * 2 ^ 20 + bn h.spaceEn 0
  else if n = 0x104 then h.drlBase * 2 ^ 12
  else if n = 0x105 then h.drlLost % 2 ^ 16 * 2 ^ 48 + h.drlR % 2 ^ 17 * 2 ^ 31 + h.drlW % 2 ^ 17 * 2 ^ 14 +
    h.drlSize * 2 + bn h.drlEn 0
  else if n = 0x110 then h.time
  else if n = 0x120 then h.cntSel
  else if n = 0x121 then (s.counter h.cntSel).reg
  else if n = 0x124 then h.slotSel
  else if n = 0x125 then (s.slot h.slotSel).state * 2 ^ 62 + h.slotErr * 2 ^ 8
  else if 0x128 ≤ n ∧ n ≤ 0x12F then bindWord h.slotW (n - 0x128)
  else if n = 0x130 then h.tamHigh * 2 ^ 8 + h.tamLow
  else if n = 0x131 then h.handover * 2 ^ 12
  else if n = 0x132 then s.healthReg
  else if n = 0x134 then h.fqBase * 2 ^ 12 + bn h.fqEn 0
  else if n = 0x138 then h.preStat * 2 ^ 62 + h.preRes * 2 ^ 48 + h.preDie * 2 ^ 32 + h.preRow * 2 ^ 28 +
    h.preCol * 2 ^ 24 + h.preSlot * 2 ^ 8
  else if n = 0x139 then h.preArea * 2 ^ 12
  else if 0x140 ≤ n ∧ n < 0x158 then (h.gals.get ({} : Galley) ((n - 0x140) / 8)).reg ((n - 0x140) % 8)
  else if n = 0x160 then h.mbxBase * 2 ^ 12 + h.mbxLog * 2 ^ 8 + bn h.mbxEn 0
  else if n = 0x161 then h.cqHead % 2 ^ 32 * 2 ^ 32 + h.sqTail % 2 ^ 32
  else if n = 0x162 then h.cqTail % 2 ^ 32 * 2 ^ 32 + h.sqHead % 2 ^ 32
  else if n = 0x163 then h.netBase * 2 ^ 12
  else if 0x170 ≤ n ∧ n ≤ 0x17F then s.unavailReg (n - 0x170)
  else if 0x180 ≤ n ∧ n < 0x200 then (s.linkMod ((n - 0x180) / 16) ((n - 0x180) % 16 / 4)).reg ((n - 0x180) / 16) ((n - 0x180) % 4)
  else if 0x200 ≤ n ∧ n < 0x240 then
    let t := s.thermOf ((n - 0x200) / 16)
    bindWord t.hotmax ((n - 0x200) % 16) * 2 ^ 16 + bindWord t.temp ((n - 0x200) % 16)
  else if 0x240 ≤ n ∧ n < 0x244 then
    let t := s.thermOf (n - 0x240)
    t.stat * 2 ^ 62 + t.freq * 2 ^ 52 + t.tmax
  else if 0x248 ≤ n ∧ n < 0x250 then (s.stackOf (n - 0x248)).hotmax * 2 ^ 16 + (s.stackOf (n - 0x248)).temp
  else if n = 0x250 then bn h.pwrEn 63 + h.pwrSet
  else if n = 0x251 then bn h.pwrOver 63 + h.pwrMeas
  else if 0x260 ≤ n ∧ n < 0x278 then
    let i := s.island (n - 0x260)
    i.cap * 2 ^ 52 + i.lvl * 2 ^ 48 + i.pwr
  else 0

/-- The register a system-space pointer names (02 R23). -/
def regOfPtr (p : Nat) : RegAddr :=
  { block := bits p 51 48, unit := bits p 47 38, index := bits p 17 6 }

/-- A read of a system register; a place that names none reads zero (00 R5, 02 R23, 16 R344). -/
def State.regRead (s : State) (r : RegAddr) : Nat :=
  if r.block = 0 then if s.present? r.unit then s.clReg r.unit r.index else 0
  else if r.block = 1 then
    if s.dieLive (r.unit % 8) ∧ r.index = 0x020 then (s.die (r.unit % 8)).perfMirror else 0
  else if r.block = 2 then s.hubReg r.index
  else 0

end Sys2Proof.Machine
end

