-- ==== Sys2Proof/Machine/Operands.lean ====
section
/-!
DEFINITION. Operand forms of the computing instructions: lanes read from ports and literals, and the results built of
lanes (06 R124, R145, 08 R171, 11 R233, R234, 12 R252, R253).
-/
namespace Sys2Proof.Machine

/-- A lane reader: the code at a lane, and whether it is poisoned. -/
abbrev Src := Nat → Nat × Bool

def Token.src (t : Token) : Src := fun j => (t.lane j, t.poisoned j)

/-- A literal supplies every lane and is never poisoned (08 R171, 11 R234). -/
def litSrc (v : Nat) : Src := fun _ => (v, false)

/-- The operand latched at a port; an empty token where the match holds none. -/
def Firing.opA (f : Firing) : Token := f.a.getD {}
def Firing.opB (f : Firing) : Token := f.b.getD {}
def Firing.opC (f : Firing) : Token := f.c.getD {}

def Token.g (t : Token) : Nat := 2 ^ t.gl2

/-- Two operands of one grant and one container (06 R145). -/
def Token.same (t u : Token) : Bool := t.gl2 == u.gl2 && t.cl2 == u.cl2

/-- The result of one lane: its code, its poison, and what the computation raised. -/
structure Lane where
  code : Nat := 0
  bad : Bool := false
  flags : Nat := 0
  force : Bool := false
deriving DecidableEq, Repr

/-- A poisoned lane holds code zero and sets no flag (11 R234, 12 R253). -/
def Lane.poisoned : Lane := { bad := true }

def Lane.ofRounded (r : Rounded) : Lane := { code := r.code, flags := r.flags, force := r.force }

def lanes1 (g : Nat) (a : Src) (fn : Nat → Lane) : List Lane :=
  (List.range g).map (fun j => if (a j).2 then Lane.poisoned else fn (a j).1)

def lanes2 (g : Nat) (a b : Src) (fn : Nat → Nat → Lane) : List Lane :=
  (List.range g).map (fun j => if (a j).2 || (b j).2 then Lane.poisoned else fn (a j).1 (b j).1)

def lanes3 (g : Nat) (a b c : Src) (fn : Nat → Nat → Nat → Lane) : List Lane :=
  (List.range g).map (fun j =>
    if (a j).2 || (b j).2 || (c j).2 then Lane.poisoned else fn (a j).1 (b j).1 (c j).1)

/-- What a computation raised over its lanes (07 R160). -/
def orFlags (l : List Lane) : Nat := l.foldl (fun n x => n ||| x.flags) 0
def anyForce (l : List Lane) : Bool := l.any (·.force)

/-- A lane that set an enabled flag or called ForceTrap is sent poisoned with code zero (22 R396). -/
def Lane.sent (pe : PeReg) (x : Lane) : Nat × Bool :=
  if x.bad || x.force || (x.flags &&& pe.xen) ≠ 0 then (0, true) else (x.code, false)

/-- A token of lanes under the firing's tag: SCALE 0x7F00, OV and OIDX of R64 (10 R206, 11 R233). -/
def Firing.laneTok (f : Firing) (gl2 cl2 : Nat) (l : List (Nat × Bool)) : Token :=
  f.stamp { tag := f.tag, gl2 := gl2, cl2 := cl2, pmask := maskOf (l.map (·.2)),
            pay := packLanes (2 ^ cl2) (l.map (·.1)) }

/-- What a computing node makes: the tokens for DA and for DB, in order, and what it raised. -/
structure Made where
  toA : List Token := []
  toB : List Token := []
  flags : Nat := 0
  force : Bool := false
deriving DecidableEq, Repr

/-- What a computation ends in: its results, or a fault that ends the unit. -/
inductive Comp where
  | made (m : Made)
  | ends (code cause : Nat)
deriving DecidableEq, Repr

/-- The lane-wise result of a node, sent to DA and DB. -/
def Comp.lanes (pe : PeReg) (f : Firing) (gl2 cl2 : Nat) (l : List Lane) : Comp :=
  let t := f.laneTok gl2 cl2 (l.map (Lane.sent pe))
  .made { toA := [t], toB := [t], flags := orFlags l, force := anyForce l }

/-- One token to DA and DB. -/
def Comp.both (t : Token) : Comp := .made { toA := [t], toB := [t] }

/-- A node that computes: what it makes of its unit's registers and its operands. -/
abbrev Computes := PeReg → Firing → Comp

def laneMismatch : Comp := .ends Code.LANE_MISMATCH 0

/-! ## Integer operand forms (11 R233) -/

/-- The literal of port b in a lane of c bits, and as a shift amount: Sext under SG or form Z, else Zext. -/
def litLane (sx : Bool) (v : BitVec 32) (c : Nat) : Nat :=
  if sx then zextInt (Sys2Proof.sext v.toNat 32) c else v.toNat % 2 ^ c

/-- An exact integer result reduced to c bits. -/
def Lane.int (c : Nat) (v : Int) (flags : Nat := 0) : Lane := { code := zextInt v c, flags := flags }

/-- A lane read as an integer. -/
def laneInt (sg : Bool) (c v : Nat) : Int := if sg then Sys2Proof.sext v c else ((v % 2 ^ c : Nat) : Int)

/-- One operand, lane-wise: f of c and the lane's code. -/
def int1 (fn : Nat → Nat → Lane) : Computes := fun pe f =>
  let a := f.opA
  Comp.lanes pe f a.gl2 a.cl2 (lanes1 a.g a.src (fn a.cont))

/-- Two operands, lane-wise: f of c, x, y and k, with x and y read under SG (11 R233). sx says how a literal is
extended: SG, or true for the MOD form Z. -/
def int2 (sg sx : Bool) (b : BSrc) (fn : Nat → Int → Int → Nat → Lane) : Computes := fun pe f =>
  let a := f.opA
  let c := a.cont
  match b with
  | .lit v =>
    Comp.lanes pe f a.gl2 a.cl2 (lanes1 a.g a.src (fun x =>
      fn c (laneInt sg c x) (laneInt sg c (litLane sx v c)) v.toNat))
  | .port =>
    if !a.same f.opB then laneMismatch
    else Comp.lanes pe f a.gl2 a.cl2 (lanes2 a.g a.src f.opB.src (fun x y =>
      fn c (laneInt sg c x) (laneInt sg c y) y))

/-! ## Float operand forms (12 R252, R253) -/

/-- The code a literal gives a float lane: an FP64 lane's is an FP32 code widened exactly (12 R252). -/
def floatLit (cls : FCls) (v : BitVec 32) : Nat :=
  match cls with
  | .f64 => (round (laneFmt .f64) .rne (decode (laneFmt .f32) v.toNat)).code
  | .f32 => v.toNat
  | _ => v.toNat % 2 ^ 16

/-- Lane codes of two float operands. -/
def flt2 (cls : FCls) (b : BSrc) (fn : Nat → Nat → Lane) : Computes := fun pe f =>
  let a := f.opA
  if a.cl2 ≠ laneCl2 cls then laneMismatch
  else match b with
  | .lit v => Comp.lanes pe f a.gl2 a.cl2 (lanes1 a.g a.src (fun x => fn x (floatLit cls v)))
  | .port =>
    if !a.same f.opB then laneMismatch
    else Comp.lanes pe f a.gl2 a.cl2 (lanes2 a.g a.src f.opB.src fn)

def flt1 (cls : FCls) (fn : Nat → Lane) : Computes := fun pe f =>
  let a := f.opA
  if a.cl2 ≠ laneCl2 cls then laneMismatch
  else Comp.lanes pe f a.gl2 a.cl2 (lanes1 a.g a.src fn)

def flt3 (cls : FCls) (fn : Nat → Nat → Nat → Lane) : Computes := fun pe f =>
  let a := f.opA
  if a.cl2 ≠ laneCl2 cls ∨ !a.same f.opB ∨ !a.same f.opC then laneMismatch
  else Comp.lanes pe f a.gl2 a.cl2 (lanes3 a.g a.src f.opB.src f.opC.src fn)

end Sys2Proof.Machine
end

