-- ==== Sys2Proof/Machine/Flags.lean ====
section
/-!
DEFINITION. What a computing firing does to the machine: the sticky flags of its unit, the arithmetic trap, and the
tokens it sends (07 R158 to R160, 22 R396).
-/
namespace Sys2Proof.Machine

/-- The firing under execution. -/
def State.firing (s : State) : Firing := s.cur.getD {}

/-- PE_MODE, PE_XEN and PE_FLAGS of a firing's unit. -/
def State.peOf (s : State) (f : Firing) : PeReg := (s.ctx f.cl).peReg f.unit

/-- Set sticky flags (07 R160). -/
def State.setFlags (s : State) (f : Firing) (flags : Nat) : State :=
  if flags = 0 then s else s.modPe f.cl f.unit (fun p => { p with flags := p.flags ||| flags, now := p.now ||| flags })

/-- Cause data of ARITH_TRAP (07 R160). -/
def trapCause (flags xen : Nat) (force : Bool) : Nat := flags + 2 ^ 7 * (flags &&& xen) + bn force 14

/-- The launch's first ARITH_TRAP under trap=stop stops it (22 R397). -/
def State.noteTrap (s : State) (c : Nat) : State :=
  if (s.cl c).forme.trapStop then
    match (s.cl c).slot with
    | some k => s.modSlot k (fun x => { x with trapStop := true })
    | none => s
  else s

/-- A firing's flags are set, and it raises at most one ARITH_TRAP (07 R160). -/
def State.raise (s : State) (f : Firing) (flags : Nat) (force : Bool) : State :=
  let pe := s.peOf f
  let s := s.setFlags f flags
  if force || (flags &&& pe.xen) ≠ 0 then
    (s.jobRecord Code.ARITH_TRAP f.cl f.unit f.node 0 f.tag (trapCause flags pe.xen force)).noteTrap f.cl
  else s

/-- The tokens a node makes, with the destination each goes to. -/
def Made.outs (m : Made) (d : Dests) : List (Dest × Token) := m.toA.map (d.da, ·) ++ m.toB.map (d.db, ·)

/-- A node's result: flags and trap, then its tokens; or the fault that ends its unit. -/
def State.finish (s : State) (f : Firing) (d : Dests) : Comp → State
  | .ends code cause => s.fail f code cause
  | .made m => (s.raise f m.flags m.force).emit f (m.outs d)

/-- A computing node fires: on a bubble it sends a bubble and computes nothing (03 R65). -/
def State.compute (s : State) (d : Dests) (g : Computes) : State :=
  let f := s.firing
  if f.hasBubble then s.emitBubble f d else s.finish f d (g (s.peOf f) f)

end Sys2Proof.Machine
end

