-- ==== Sys2Proof/Machine/IntOps.lean ====
section
/-!
DEFINITION. Integer, bit-field and bit-pointer instructions: groups 001 and 010 (11 R233 to R251).
Each meaning is a computation of lanes (its V definition) performed by the shared operation `State.compute`.
-/
namespace Sys2Proof.Machine

/-- u rotated left by m, below c (11 R236). -/
def rotLeft (c u m : Nat) : Nat := u * 2 ^ m % 2 ^ c ||| u / 2 ^ (c - m)

/-- A condition holds between two integers (11 R238). -/
def condHolds (k : Cond) (x y : Int) : Bool :=
  match k with
  | .eq => x = y | .ne => x ≠ y | .lt => x < y | .le => x ≤ y | .gt => y < x | .ge => y ≤ x

/-- CMP: all ones where the condition holds, else 0 (11 R238). -/
def cmpV (sg : Bool) (cond : Cond) (b : BSrc) : Computes :=
  int2 sg sg b (fun c x y _ => Lane.int c (if condHolds cond x y then -1 else 0))

def execCmp (sg : Bool) (cond : Cond) (b : BSrc) (d : Dests) (s : State) : Host.Outcome State Fault Refusal :=
  .next (s.compute d (cmpV sg cond b))

/-- ADD: x + y (11 R236). -/
def addV (sg : Bool) (b : BSrc) : Computes :=
  int2 sg sg b (fun c x y _ => Lane.int c (x + y))

def execAdd (sg : Bool) (b : BSrc) (d : Dests) (s : State) : Host.Outcome State Fault Refusal :=
  .next (s.compute d (addV sg b))

/-- SUB: x − y (11 R236). -/
def subV (sg : Bool) (b : BSrc) : Computes :=
  int2 sg sg b (fun c x y _ => Lane.int c (x - y))

def execSub (sg : Bool) (b : BSrc) (d : Dests) (s : State) : Host.Outcome State Fault Refusal :=
  .next (s.compute d (subV sg b))

/-- MUL: x × y (11 R236). -/
def mulV (sg : Bool) (b : BSrc) : Computes :=
  int2 sg sg b (fun c x y _ => Lane.int c (x * y))

def execMul (sg : Bool) (b : BSrc) (d : Dests) (s : State) : Host.Outcome State Fault Refusal :=
  .next (s.compute d (mulV sg b))

/-- MULH: (x × y) >> c (11 R236). -/
def mulhV (sg : Bool) (b : BSrc) : Computes :=
  int2 sg sg b (fun c x y _ => Lane.int c (shrInt (x * y) c))

def execMulh (sg : Bool) (b : BSrc) (d : Dests) (s : State) : Host.Outcome State Fault Refusal :=
  .next (s.compute d (mulhV sg b))

/-- DIV: the truncated quotient; −1 with DZ on a zero divisor (11 R237). -/
def divV (sg : Bool) (b : BSrc) : Computes :=
  int2 sg sg b (fun c x y _ => if y = 0 then Lane.int c (-1) Flag.DZ else Lane.int c (x.tdiv y))

def execDiv (sg : Bool) (b : BSrc) (d : Dests) (s : State) : Host.Outcome State Fault Refusal :=
  .next (s.compute d (divV sg b))

/-- REM: x − y × q; x with DZ on a zero divisor (11 R237). -/
def remV (sg : Bool) (b : BSrc) : Computes :=
  int2 sg sg b (fun c x y _ => if y = 0 then Lane.int c x Flag.DZ else Lane.int c (x.tmod y))

def execRem (sg : Bool) (b : BSrc) (d : Dests) (s : State) : Host.Outcome State Fault Refusal :=
  .next (s.compute d (remV sg b))

/-- MIN under SG (11 R236). -/
def minV (sg : Bool) (b : BSrc) : Computes :=
  int2 sg sg b (fun c x y _ => Lane.int c (min x y))

def execMin (sg : Bool) (b : BSrc) (d : Dests) (s : State) : Host.Outcome State Fault Refusal :=
  .next (s.compute d (minV sg b))

/-- MAX under SG (11 R236). -/
def maxV (sg : Bool) (b : BSrc) : Computes :=
  int2 sg sg b (fun c x y _ => Lane.int c (max x y))

def execMax (sg : Bool) (b : BSrc) (d : Dests) (s : State) : Host.Outcome State Fault Refusal :=
  .next (s.compute d (maxV sg b))

/-- AND (11 R236). -/
def andV (b : BSrc) : Computes :=
  int2 false true b (fun c x y _ => Lane.int c (x.toNat &&& y.toNat : Nat))

def execAnd (b : BSrc) (d : Dests) (s : State) : Host.Outcome State Fault Refusal :=
  .next (s.compute d (andV b))

/-- OR (11 R236). -/
def orV (b : BSrc) : Computes :=
  int2 false true b (fun c x y _ => Lane.int c (x.toNat ||| y.toNat : Nat))

def execOr (b : BSrc) (d : Dests) (s : State) : Host.Outcome State Fault Refusal :=
  .next (s.compute d (orV b))

/-- XOR (11 R236). -/
def xorV (b : BSrc) : Computes :=
  int2 false true b (fun c x y _ => Lane.int c (x.toNat ^^^ y.toNat : Nat))

def execXor (b : BSrc) (d : Dests) (s : State) : Host.Outcome State Fault Refusal :=
  .next (s.compute d (xorV b))

/-- ANDN: a AND NOT b (11 R236). -/
def andnV (b : BSrc) : Computes :=
  int2 false true b (fun c x y _ => Lane.int c (x.toNat &&& (2 ^ c - 1 - y.toNat) : Nat))

def execAndn (b : BSrc) (d : Dests) (s : State) : Host.Outcome State Fault Refusal :=
  .next (s.compute d (andnV b))

/-- ROTL by k mod c (11 R236). -/
def rotlV (b : BSrc) : Computes :=
  int2 false true b (fun c x _ k => Lane.int c (rotLeft c x.toNat (k % c) : Nat))

def execRotl (b : BSrc) (d : Dests) (s : State) : Host.Outcome State Fault Refusal :=
  .next (s.compute d (rotlV b))

/-- ROTR by k mod c (11 R236). -/
def rotrV (b : BSrc) : Computes :=
  int2 false true b (fun c x _ k => Lane.int c (rotLeft c x.toNat ((c - k % c) % c) : Nat))

def execRotr (b : BSrc) (d : Dests) (s : State) : Host.Outcome State Fault Refusal :=
  .next (s.compute d (rotrV b))

/-- SHL: x × 2^k; an amount of c or more gives 0 (11 R236). -/
def shlV (sg : Bool) (b : BSrc) : Computes :=
  int2 sg sg b (fun c x _ k => if c ≤ k then Lane.int c 0 else Lane.int c (x * ((2 ^ k : Nat) : Int)))

def execShl (sg : Bool) (b : BSrc) (d : Dests) (s : State) : Host.Outcome State Fault Refusal :=
  .next (s.compute d (shlV sg b))

/-- SHR: x >> k, with the floor deciding amounts at and above c (11 R236). -/
def shrV (sg : Bool) (b : BSrc) : Computes :=
  int2 sg sg b (fun c x _ k => Lane.int c (shrInt x (min k 64)))

def execShr (sg : Bool) (b : BSrc) (d : Dests) (s : State) : Host.Outcome State Fault Refusal :=
  .next (s.compute d (shrV sg b))

/-- NEG (11 R239). -/
def negV : Computes := int1 (fun c a => Lane.int c (-(Sys2Proof.sext a c)))

def execNeg (d : Dests) (s : State) : Host.Outcome State Fault Refusal :=
  .next (s.compute d negV)

/-- ABS: |s|, reduced to c bits (11 R239). -/
def absV : Computes := int1 (fun c a => Lane.int c ((Sys2Proof.sext a c).natAbs : Nat))

def execAbs (d : Dests) (s : State) : Host.Outcome State Fault Refusal :=
  .next (s.compute d absV)

/-- NOT (11 R239). -/
def notV : Computes := int1 (fun c a => Lane.int c (2 ^ c - 1 - a % 2 ^ c : Nat))

def execNot (d : Dests) (s : State) : Host.Outcome State Fault Refusal :=
  .next (s.compute d notV)

/-- CLZ (11 R239). -/
def clzV : Computes := int1 (fun c a => Lane.int c ((if a % 2 ^ c = 0 then c else c - 1 - Nat.log2 (a % 2 ^ c)) : Nat))

def execClz (d : Dests) (s : State) : Host.Outcome State Fault Refusal :=
  .next (s.compute d clzV)

/-- CTZ (11 R239). -/
def ctzV : Computes := int1 (fun c a => Lane.int c ((lowestBit a c).getD c : Nat))

def execCtz (d : Dests) (s : State) : Host.Outcome State Fault Refusal :=
  .next (s.compute d ctzV)

/-- POPC (11 R239). -/
def popcV : Computes := int1 (fun c a => Lane.int c (((List.range c).filter (fun i => a.testBit i)).length : Nat))

def execPopc (d : Dests) (s : State) : Host.Outcome State Fault Refusal :=
  .next (s.compute d popcV)

/-! ## Saturating forms (11 R240, R241) -/

/-- Sat to the lane's range under SG, with SAT where it changes the value. -/
def satLane (sg : Bool) (c : Nat) (v : Int) : Lane :=
  let lo : Int := if sg then -((2 ^ (c - 1) : Nat) : Int) else 0
  let hi : Int := if sg then ((2 ^ (c - 1) : Nat) : Int) - 1 else ((2 ^ c : Nat) : Int) - 1
  let r := Sys2Proof.sat v lo hi
  Lane.int c r (fl (r ≠ v) Flag.SAT)

/-- ADDS (11 R240). -/
def addsV (sg : Bool) (b : BSrc) : Computes :=
  int2 sg sg b (fun c x y _ => satLane sg c (x + y))

def execAdds (sg : Bool) (b : BSrc) (d : Dests) (s : State) : Host.Outcome State Fault Refusal :=
  .next (s.compute d (addsV sg b))

/-- SUBS (11 R240). -/
def subsV (sg : Bool) (b : BSrc) : Computes :=
  int2 sg sg b (fun c x y _ => satLane sg c (x - y))

def execSubs (sg : Bool) (b : BSrc) (d : Dests) (s : State) : Host.Outcome State Fault Refusal :=
  .next (s.compute d (subsV sg b))

/-- MULS (11 R240). -/
def mulsV (sg : Bool) (b : BSrc) : Computes :=
  int2 sg sg b (fun c x y _ => satLane sg c (x * y))

def execMuls (sg : Bool) (b : BSrc) (d : Dests) (s : State) : Host.Outcome State Fault Refusal :=
  .next (s.compute d (mulsV sg b))

/-- SHLS: x × 2^k; an amount above 64 leaves the range as 64 does (11 R240). -/
def shlsV (sg : Bool) (b : BSrc) : Computes :=
  int2 sg sg b (fun c x _ k => satLane sg c (x * ((2 ^ min k 64 : Nat) : Int)))

def execShls (sg : Bool) (b : BSrc) (d : Dests) (s : State) : Host.Outcome State Fault Refusal :=
  .next (s.compute d (shlsV sg b))

/-- ABSS: |Sext(a, c)| in the signed range (11 R240). -/
def abssV : Computes := int1 (fun c a => satLane true c ((Sys2Proof.sext a c).natAbs : Nat))

def execAbss (d : Dests) (s : State) : Host.Outcome State Fault Refusal :=
  .next (s.compute d abssV)

/-- CLAMP: min(max(x, lo), hi) under SG (11 R241). -/
def clampV (sg : Bool) : Computes := fun pe f =>
  let a := f.opA
  let c := a.cont
  if !a.same f.opB || !a.same f.opC then laneMismatch
  else Comp.lanes pe f a.gl2 a.cl2 (lanes3 a.g a.src f.opB.src f.opC.src (fun p q r =>
    let x := laneInt sg c p
    let v := min (max x (laneInt sg c q)) (laneInt sg c r)
    Lane.int c v (fl (v ≠ x) Flag.SAT)))

def execClamp (sg : Bool) (d : Dests) (s : State) : Host.Outcome State Fault Refusal :=
  .next (s.compute d (clampV sg))

/-! ## Rounding shift and requantisation (11 R242 to R244) -/

/-- x / 2^k rounded to nearest, ties by the variant (11 R242). -/
def shiftRound (tie : TieMode) (x : Int) (k : Nat) : Int :=
  if k = 0 then x
  else
    let q := shrInt x k
    let r := x - q * ((2 ^ k : Nat) : Int)
    let half : Int := ((2 ^ (k - 1) : Nat) : Int)
    if r < half then q
    else if half < r then q + 1
    else match tie with
      | .up => q + 1
      | .even => if q % 2 = 0 then q else q + 1
      | .away => if x < 0 then q else q + 1

/-- SHRR: an amount above 66 gives 0 for every lane value, as 66 does (11 R242). -/
def shrrV (sg : Bool) (tie : TieMode) (b : BSrc) : Computes :=
  int2 sg sg b (fun c x _ k => Lane.int c (shiftRound tie x (min k 66)))

def execShrr (sg : Bool) (tie : TieMode) (b : BSrc) (d : Dests) (s : State) : Host.Outcome State Fault Refusal :=
  .next (s.compute d (shrrV sg tie b))

/-- RQUANT of an accumulator and a multiplier, as a w-bit code in its container (11 R244). -/
def rquantInt (sg : Bool) (l : RqLit) (a m : Int) : Lane :=
  let w := l.ow.toNat
  let z := Sys2Proof.sext l.zp.toNat 8
  let sh := l.s.toNat
  let qmin : Int := if sg then -((2 ^ (w - 1) : Nat) : Int) else 0
  let qmax : Int := if sg then ((2 ^ (w - 1) : Nat) : Int) - 1 else ((2 ^ w : Nat) : Int) - 1
  let t := shrInt (a * m + (if 1 ≤ sh then ((2 ^ (sh - 1) : Nat) : Int) else 0)) sh
  let v := Sys2Proof.sat t (qmin - z) (qmax - z)
  { code := zextInt (v + z) (if sg then 2 ^ contOf w else w), flags := fl (v ≠ t) Flag.SAT }

/-- One lane of RQUANT. -/
def rquantLane (sg : Bool) (l : RqLit) (a m : Nat) : Lane :=
  rquantInt sg l (Sys2Proof.sext a 32) (Sys2Proof.sext m 32)

/-- RQUANT (11 R243, R244). -/
def rquantV (sg : Bool) (l : RqLit) : Computes := fun pe f =>
  let a := f.opA
  if a.cl2 ≠ 5 ∨ !a.same f.opB then laneMismatch
  else Comp.lanes pe f a.gl2 (contOf l.ow.toNat) (lanes2 a.g a.src f.opB.src (rquantLane sg l))

def execRquant (sg : Bool) (l : RqLit) (d : Dests) (s : State) : Host.Outcome State Fault Refusal :=
  .next (s.compute d (rquantV sg l))

/-! ## Bit fields and extension (11 R245, R246) -/

/-- BFX (11 R245). -/
def bfxV (sg : Bool) (l : FieldLit) : Computes := int1 (fun c a =>
  let n := l.lenm1.toNat + 1
  let g := a % 2 ^ c / 2 ^ l.pos.toNat % 2 ^ n
  Lane.int c (laneInt sg n g))

def execBfx (sg : Bool) (l : FieldLit) (d : Dests) (s : State) : Host.Outcome State Fault Refusal :=
  .next (s.compute d (bfxV sg l))

/-- BFI: b may have any container, with a's grant (11 R245). -/
def bfiV (l : FieldLit) : Computes := fun pe f =>
  let a := f.opA
  let c := a.cont
  let n := l.lenm1.toNat + 1
  let p := l.pos.toNat
  let m := (2 ^ n - 1) * 2 ^ p % 2 ^ c
  if a.gl2 ≠ f.opB.gl2 then laneMismatch
  else Comp.lanes pe f a.gl2 a.cl2 (lanes2 a.g a.src f.opB.src (fun x y =>
    { code := (x &&& (2 ^ c - 1 - m)) ||| (y % 2 ^ c % 2 ^ n * 2 ^ p % 2 ^ c) }))

def execBfi (l : FieldLit) (d : Dests) (s : State) : Host.Outcome State Fault Refusal :=
  .next (s.compute d (bfiV l))

/-- BREV: bit i of the result is bit c − 1 − i (11 R246). -/
def brevV : Computes := int1 (fun c a =>
  { code := maskOf ((List.range c).map (fun i => a.testBit (c - 1 - i))) })

def execBrev (d : Dests) (s : State) : Host.Outcome State Fault Refusal := .next (s.compute d brevV)

/-- SEXT (11 R246). -/
def sextV (wm1 : BitVec 6) : Computes := int1 (fun c a =>
  if c ≤ wm1.toNat + 1 then { code := a } else Lane.int c (Sys2Proof.sext a (wm1.toNat + 1)))

def execSext (wm1 : BitVec 6) (d : Dests) (s : State) : Host.Outcome State Fault Refusal :=
  .next (s.compute d (sextV wm1))

/-- ZEXT (11 R246). -/
def zextV (wm1 : BitVec 6) : Computes := int1 (fun c a => { code := a % 2 ^ (wm1.toNat + 1) % 2 ^ c })

def execZext (wm1 : BitVec 6) (d : Dests) (s : State) : Host.Outcome State Fault Refusal :=
  .next (s.compute d (zextV wm1))

/-! ## Bit pointers (11 R247 to R251) -/

/-- Width of a pointer's arithmetic field F (11 R247). -/
def ptrFieldW (p : Nat) : Nat := if ptrTag p = 5 ∨ ptrTag p = 7 then 50 else 60
def ptrField (p : Nat) : Nat := p % 2 ^ ptrFieldW p

/-- A pointer with its arithmetic field replaced; the bits above it are kept (11 R247). -/
def ptrWith (p v : Nat) : Nat := setBits p 0 (ptrFieldW p) v

/-- A pointer instruction on port a alone: 64-bit containers, or LANE_MISMATCH (11 R247). -/
def ptr1 (fn : Nat → Lane) : Computes := fun pe f =>
  let a := f.opA
  if a.cl2 ≠ 6 then laneMismatch else Comp.lanes pe f a.gl2 6 (lanes1 a.g a.src fn)

/-- PADD: F + i × EW, wrapping in the field (11 R248). -/
def paddV (n : BitVec 16) : Computes := fun pe f =>
  let a := f.opA
  let b := f.opB
  if a.cl2 ≠ 6 ∨ a.gl2 ≠ b.gl2 then laneMismatch
  else Comp.lanes pe f a.gl2 6 (lanes2 a.g a.src b.src (fun p i =>
    { code := ptrAdd p (Sys2Proof.sext i b.cont * n.toNat) }))

def execPadd (n : BitVec 16) (d : Dests) (s : State) : Host.Outcome State Fault Refusal :=
  .next (s.compute d (paddV n))

/-- The first unpoisoned lane of a grant for which a check answers a fault code and cause value; the record names the
lane in bits [15:8] of its cause data (11 R248, R250). -/
def firstBad (g : Nat) (chk : Nat → Option (Nat × Nat)) : Option (Nat × Nat) :=
  (List.range g).findSome? (fun j => (chk j).map (fun r => (r.1, r.2 + 256 * j)))

/-- PSUB: pointers that differ in a kept bit end the unit (11 R248). -/
def psubV (n : BitVec 16) : Computes := fun pe f =>
  let a := f.opA
  let b := f.opB
  if a.cl2 ≠ 6 ∨ !a.same b then laneMismatch
  else match firstBad a.g (fun j =>
      if a.poisoned j || b.poisoned j then none
      else if a.lane j / 2 ^ ptrFieldW (a.lane j) ≠ b.lane j / 2 ^ ptrFieldW (a.lane j) then
        some (Code.SPACE_ILLEGAL, 2)
      else none) with
    | some r => .ends r.1 r.2
    | none => Comp.lanes pe f a.gl2 6 (lanes2 a.g a.src b.src (fun p q =>
        Lane.int 64 (((ptrField p : Int) - ptrField q) / (n.toNat : Int))))

def execPsub (n : BitVec 16) (d : Dests) (s : State) : Host.Outcome State Fault Refusal :=
  .next (s.compute d (psubV n))

/-- PALN: F − (F mod AL) (11 R249). -/
def palnV (n : BitVec 16) : Computes :=
  ptr1 (fun p => { code := ptrWith p (ptrField p - ptrField p % n.toNat) })

def execPaln (n : BitVec 16) (d : Dests) (s : State) : Host.Outcome State Fault Refusal :=
  .next (s.compute d (palnV n))

/-- The alignment class of an access of w bits: 0 natural, 1 packed, 2 unaligned (02 R30). -/
def alignClass (w off : Nat) : Nat :=
  if off % 2 ^ contOf w = 0 then 0 else if (w = 3 ∨ w = 5 ∨ w = 6 ∨ w = 7) ∧ off % w = 0 then 1 else 2

/-- PCHK (11 R249). -/
def pchkV (n : BitVec 7) : Computes :=
  ptr1 (fun p =>
    let x := bn (decide (512 < ptrField p % 512 + n.toNat)) 2
    { code := alignClass n.toNat (ptrField p) + x })

def execPchk (n : BitVec 7) (d : Dests) (s : State) : Host.Outcome State Fault Refusal :=
  .next (s.compute d (pchkV n))

/-- PCVT between bit pointers and byte addresses (11 R250). -/
def pcvtV (toByte : Bool) : Computes := fun pe f =>
  let a := f.opA
  if a.cl2 ≠ 6 then laneMismatch
  else match firstBad a.g (fun j =>
      let p := a.lane j
      if a.poisoned j then none
      else if toByte then
        (if ptrTag p ≠ 0 then some (Code.SPACE_ILLEGAL, 2)
         else if ptrField p % 8 ≠ 0 then some (Code.ALIGN_FAULT, 0) else none)
      else if 2 ^ 57 ≤ p then some (Code.SPACE_ILLEGAL, 4) else none) with
    | some r => .ends r.1 r.2
    | none => Comp.lanes pe f a.gl2 6 (lanes1 a.g a.src (fun p =>
        { code := if toByte then ptrField p / 8 else p * 8 }))

def execPcvt (toByte : Bool) (d : Dests) (s : State) : Host.Outcome State Fault Refusal :=
  .next (s.compute d (pcvtV toByte))

/-- PSPC: read or replace the space tag (11 R251). -/
def pspcV (sel : PspcSel) : Computes := fun pe f =>
  let a := f.opA
  let b := f.opB
  match sel with
  | .get => ptr1 (fun p => { code := ptrTag p }) pe f
  | .set tag =>
    let t := tag.toNat
    let o (p : Nat) := if ptrTag p = 5 ∨ ptrTag p = 7 then p % 2 ^ 50 else p % 2 ^ 60
    if a.cl2 ≠ 6 ∨ a.gl2 ≠ b.gl2 then laneMismatch
    else if t = 5 ∨ t = 7 then
      Comp.lanes pe f a.gl2 6 (lanes2 a.g a.src b.src (fun p q =>
        { code := t * 2 ^ 60 + q % 2 ^ 10 * 2 ^ 50 + o p % 2 ^ 50 }))
    else Comp.lanes pe f a.gl2 6 (lanes1 a.g a.src (fun p => { code := t * 2 ^ 60 + o p }))

def execPspc (sel : PspcSel) (d : Dests) (s : State) : Host.Outcome State Fault Refusal :=
  .next (s.compute d (pspcV sel))

end Sys2Proof.Machine
end

