-- ==== Sys2Proof/Machine/Special.lean ====
section
/-!
DEFINITION. The special functions of 12 R259. Each is the exact function value rounded once: the value is enclosed
between two fractions, and the enclosure is narrowed until both ends round to one code with one set of flags (log 14).
A value that is exactly a number of a format is found first, so the enclosed ones never are.
-/
namespace Sys2Proof.Machine

/-- A value of the reals: exact, or with a magnitude strictly between two fractions. -/
inductive Real_ where
  | exact (x : ExtNum)
  | between (neg : Bool) (lo hi : Nat × Nat)
deriving DecidableEq, Repr

/-- e^r − 1 terms at precision p: the sum of T, T·r/1, T·r²/2 and so on, from term k. -/
def expTerms (p r : Nat) : Nat → Nat → Nat → Nat
  | 0, _, _ => 0
  | fuel + 1, k, t => if t = 0 then 0 else t + expTerms p r fuel (k + 1) (t * r / 2 ^ p / (k + 1))

/-- 2^p · e^(r / 2^p) for r below 2^p, within p units. -/
def expFix (p r : Nat) : Nat := expTerms p r (p + 8) 0 (2 ^ p)

/-- 2^p · atanh(z / 2^p) for z at most 2^p / 3, within p units. -/
def atanhTerms (p z2 : Nat) : Nat → Nat → Nat → Nat
  | 0, _, _ => 0
  | fuel + 1, k, t => if t = 0 then 0 else t / (2 * k + 1) + atanhTerms p z2 fuel (k + 1) (t * z2 / 2 ^ p)
def atanhFix (p z : Nat) : Nat := atanhTerms p (z * z / 2 ^ p) (p + 8) 0 z

/-- 2^p · ln 2, within 4p units. -/
def ln2Fix (p : Nat) : Nat := 2 * atanhFix p (2 ^ p / 3)

/-- 2^p · arctan(1 / m), within 2p units. -/
def atanTerms (m2 : Nat) : Nat → Nat → Nat → Int
  | 0, _, _ => 0
  | fuel + 1, k, t =>
    if t = 0 then 0
    else (if k % 2 = 0 then ((t / (2 * k + 1) : Nat) : Int) else -((t / (2 * k + 1) : Nat) : Int)) +
      atanTerms m2 fuel (k + 1) (t / m2)
/-- 2^p · π by Machin's formula, within 64p units. -/
def piFix (p : Nat) : Nat := (16 * atanTerms 25 (p + 8) 0 (2 ^ p / 5) - 4 * atanTerms 57121 (p + 8) 0 (2 ^ p / 239)).toNat

/-- 2^p · sin(y / 2^p) for y at most 2 · 2^p, within 4p units. -/
def sinTerms (p y2 : Nat) : Nat → Nat → Nat → Int
  | 0, _, _ => 0
  | fuel + 1, k, t =>
    if t = 0 then 0
    else (if k % 2 = 0 then (t : Int) else -(t : Int)) +
      sinTerms p y2 fuel (k + 1) (t * y2 / 2 ^ p / ((2 * k + 2) * (2 * k + 3)))
def sinFix (p y : Nat) : Nat := (sinTerms p (y * y / 2 ^ p) (p + 8) 0 y).toNat

/-- The units by which every fixed-point value of this file may be off. -/
def slack (p : Nat) : Nat := 256 * (p + 16)

/-- n / d in units of 2^−p, rounded down. -/
def fix (p n d : Nat) : Nat := n * 2 ^ p / d

/-- The enclosure of a fixed-point value. -/
def around (p : Nat) (neg : Bool) (v : Nat) : Real_ := .between neg (v - slack p, 2 ^ p) (v + slack p, 2 ^ p)

/-- |x| below 2^−64: one linear bound settles every rounding. -/
def isSmall (n d : Nat) : Bool := decide (n * 2 ^ 64 < d)

/-- 2^k × e^r for e^r within [a − slack, a + slack] units of 2^−p. -/
def expScaled (p : Nat) (k : Int) (a : Nat) : (Nat × Nat) × (Nat × Nat) :=
  let s := scaled 1 k
  (((a - slack p) * s.1, 2 ^ p * s.2), ((a + slack p) * s.1, 2 ^ p * s.2))

/-- The bounds of e^(±n/d), |x| not small and at most 2000, at precision p. -/
def expBounds (p : Nat) (neg : Bool) (n d : Nat) : (Nat × Nat) × (Nat × Nat) :=
  let q := p + 16
  let y : Int := if neg then -((fix q n d : Nat) : Int) else (fix q n d : Nat)
  let l := ln2Fix q
  let k := y / (l : Int)
  expScaled p k (expFix p ((y - k * l).toNat / 2 ^ 16))

/-- Limit |x| to 2000: past it every format has overflowed or every result is below its least number. -/
def clampMag (n d : Nat) : Nat × Nat := if n ≤ 2000 * d then (n, d) else (2000, 1)

def realExp (p : Nat) (neg : Bool) (n d : Nat) : Real_ :=
  let x := clampMag n d
  if x.1 = 0 then .exact (.fin false 1 1)
  else if isSmall x.1 x.2 then
    if neg then .between false (x.2 - x.1, x.2) (2 * x.2 - x.1, 2 * x.2)
    else .between false (x.2 + x.1, x.2) (x.2 + 2 * x.1, x.2)
  else let b := expBounds p neg x.1 x.2; .between false b.1 b.2

def realExp2 (p : Nat) (neg : Bool) (n d : Nat) : Real_ :=
  let x := clampMag n d
  let v : Int := if neg then -(x.1 : Int) else x.1
  let k := v / (x.2 : Int)
  let r := (v - k * x.2).toNat
  if r = 0 then .exact (.fin false (scaled 1 k).1 (scaled 1 k).2)
  else if isSmall x.1 x.2 then
    if neg then .between false (x.2 - x.1, x.2) (2 * x.2 - x.1, 2 * x.2)
    else .between false (2 * x.2 + x.1, 2 * x.2) (x.2 + x.1, x.2)
  else
    let b := expScaled p k (expFix p (fix p r x.2 * ln2Fix p / 2 ^ p))
    .between false b.1 b.2

/-- log2 of n / d, not zero. -/
def realLog2 (p n d : Nat) : Real_ :=
  let k := floorLog2 n d
  let s := scaled 1 k
  let a := n * s.2
  let b := d * s.1
  if a = b then .exact (ExtNum.ofInt k)
  else
    let f := 2 * atanhFix p (fix p (a - b) (a + b)) * 2 ^ p / ln2Fix p
    let v : Int := k * ((2 ^ p : Nat) : Int) + f
    around p (v < 0) v.natAbs

def realTanh (p : Nat) (neg : Bool) (n d : Nat) : Real_ :=
  if n = 0 then .exact (.fin neg 0 1)
  else if isSmall n d then
    .between neg (n * (2 * d * d - 2 * n * n), 2 * d * d * d) (n * (4 * d * d - n * n), 4 * d * d * d)
  else if 64 * d < n then .between neg (2 ^ 90 - 1, 2 ^ 90) (2 ^ 4000 - 1, 2 ^ 4000)
  else
    let b := expBounds (p + 140) false (2 * n) d
    .between neg (b.1.1 - b.1.2, b.1.1 + b.1.2) (b.2.1 - b.2.2, b.2.1 + b.2.2)

def realSig (p : Nat) (neg : Bool) (n d : Nat) : Real_ :=
  let x := clampMag n d
  if x.1 = 0 then .exact (.fin false 1 2)
  else if isSmall x.1 x.2 then
    if neg then .between false (4 * x.2 - 2 * x.1, 8 * x.2) (8 * x.2 - x.1, 16 * x.2)
    else .between false (8 * x.2 + x.1, 16 * x.2) (2 * x.2 + x.1, 4 * x.2)
  else if !neg && decide (64 * x.2 < x.1) then .between false (2 ^ 90 - 1, 2 ^ 90) (2 ^ 4000 - 1, 2 ^ 4000)
  else
    let b := expBounds p neg x.1 x.2
    .between false (b.1.1, b.1.1 + b.1.2) (b.2.1, b.2.1 + b.2.2)

/-- sin(π n/d) for n/d strictly between 0 and 1/2. -/
def sinBounds (p : Nat) (neg : Bool) (n d : Nat) : Real_ :=
  if isSmall n d then
    let c := piFix p
    .between neg (n * (c - slack p) * (2 ^ 120 - 1), d * 2 ^ p * 2 ^ 120) (n * (c + slack p), d * 2 ^ p)
  else around p neg (sinFix p (fix p n d * piFix p / 2 ^ p))

def realSinPi (p : Nat) (neg : Bool) (n d : Nat) : Real_ :=
  let m := n % (2 * d)
  let neg' := neg != decide (d < m)
  let r := if d < m then m - d else m
  let r := if d < 2 * r then d - r else r
  if r = 0 then .exact (.fin neg 0 1)
  else if 2 * r = d then .exact (.fin neg' 1 1)
  else sinBounds p neg' r d

def realCosPi (p : Nat) (n d : Nat) : Real_ :=
  let m := n % (2 * d)
  let c := if d < m then 2 * d - m else m
  if c = 0 then .exact (.fin false 1 1)
  else if c = d then .exact (.fin true 1 1)
  else if 2 * c = d then .exact (.fin false 0 1)
  else if isSmall c d then .between false (2 ^ 120 - 1, 2 ^ 120) (2 ^ 4000 - 1, 2 ^ 4000)
  else if 2 * c < d then sinBounds p false (d - 2 * c) (2 * d)
  else sinBounds p true (2 * c - d) (2 * d)

/-- Round a real: both ends of the enclosure, at each precision in turn, until they agree. -/
def roundReal (f : Fmt) (rm : RMode) (g : Nat → Real_) : List Nat → Rounded
  | [] => { code := 0 }
  | p :: rest =>
    match g p with
    | .exact x => round f rm x
    | .between neg lo hi =>
      let a := round f rm (.fin neg lo.1 lo.2)
      let b := round f rm (.fin neg hi.1 hi.2)
      if a = b ∨ rest.isEmpty then b else roundReal f rm g rest

/-- The precisions tried. -/
def precisions : List Nat := [160, 320, 640, 1280, 2560]

/-- The seven special functions. -/
inductive Fn where
  | exp2 | expe | log2 | tanh | sig | sinp | cosp
deriving DecidableEq, Repr

/-- A special function of a lane's number, rounded, with the special values of 12 R259. -/
def special (fn : Fn) (f : Fmt) (rm : RMode) (x : ExtNum) : Rounded :=
  let inv : Rounded := { code := f.nanCode, flags := Flag.INV }
  match x with
  | .nan s => round f rm (.nan s)
  | .inf s => (match fn with
    | .exp2 => round f rm (if s then .fin false 0 1 else .inf false)
    | .expe => round f rm (if s then .fin false 0 1 else .inf false)
    | .log2 => if s then inv else round f rm (.inf false)
    | .tanh => round f rm (.fin s 1 1)
    | .sig => round f rm (if s then .fin false 0 1 else .fin false 1 1)
    | .sinp => inv
    | .cosp => inv)
  | .fin s n d => (match fn with
    | .exp2 => roundReal f rm (fun p => realExp2 p s n d) precisions
    | .expe => roundReal f rm (fun p => realExp p s n d) precisions
    | .log2 =>
      if n = 0 then { code := f.infCode true, flags := Flag.DZ }
      else if s then inv
      else roundReal f rm (fun p => realLog2 p n d) precisions
    | .tanh => roundReal f rm (fun p => realTanh p s n d) precisions
    | .sig => roundReal f rm (fun p => realSig p s n d) precisions
    | .sinp => roundReal f rm (fun p => realSinPi p s n d) precisions
    | .cosp => roundReal f rm (fun p => realCosPi p n d) precisions)

end Sys2Proof.Machine
end

