-- ==== Sys2Proof/Machine/Float.lean ====
section
/-!
DEFINITION. Floating-point instructions: group 011 and the special functions of group 100 (12 R252 to R256, R259).
Each meaning is a computation of lanes (its V definition) performed by the shared operation `State.compute`.
-/
namespace Sys2Proof.Machine

/-- A lane's number under LaneFD. -/
def fnum (cls : FCls) (x : Nat) : ExtNum := decode (laneFmt cls) x

/-- An operation's exact result and flags, rounded once (12 R253). -/
def fltOut (cls : FCls) (rm : RMode) (r : ExtNum × Nat) : Lane :=
  let o := round (laneFmt cls) rm r.1
  { code := o.code, flags := o.flags ||| r.2, force := o.force }

/-- FRINT of a number: INX where the result differs, and no other flag (12 R255). -/
def frintLane (cls : FCls) (rm : RMode) (x : ExtNum) : Lane :=
  match x with
  | .fin neg n d =>
    let q := roundMag neg n d 0 rm
    { code := (round (laneFmt cls) .rne (.fin neg q 1)).code, flags := fl (q * d ≠ n) Flag.INX }
  | v => { code := (round (laneFmt cls) .rne v).code }

/-! ## Codes compared as numbers (12 R256) -/

/-- The weight of a class's sign bit. -/
def signVal (cls : FCls) : Nat := 2 ^ (2 ^ laneCl2 cls - 1)

def codeNan (cls : FCls) (x : Nat) : Bool := (fnum cls x).isNan

/-- x below y for codes that are not NaN, with −0 below +0. -/
def codeLess (cls : FCls) (x y : Nat) : Bool :=
  let p := fnum cls x
  let q := fnum cls y
  if p.isZero && q.isZero then p.neg && !q.neg else ExtNum.lt p q

/-- |x| below |y| for codes that are not NaN. -/
def lessMag (cls : FCls) (x y : Nat) : Bool := ExtNum.ltMag (fnum cls x) (fnum cls y)

/-- One of two operands' own codes: a NaN yields to the other, two give the canonical NaN, else x where it wins. -/
def pick (wins : Nat → Nat → Bool) (cls : FCls) (x y : Nat) : Nat :=
  if codeNan cls x then (if codeNan cls y then (laneFmt cls).nanCode else y)
  else if codeNan cls y then x
  else if wins x y then x else y

/-- The bit FCLASS sets (12 R256). -/
def classBit (cls : FCls) (x : Nat) : Nat :=
  let f := laneFmt cls
  let sub := decide (x / 2 ^ f.m % 2 ^ f.e = 0)
  match fnum cls x with
  | .nan _ => 8
  | .inf s => if s then 0 else 7
  | .fin s n _ =>
    if n = 0 then (if s then 3 else 4)
    else if sub then (if s then 2 else 5) else (if s then 1 else 6)

/-- FCMP of two codes: EQ and NE are unordered, the others ordered and INV with a NaN (12 R256). -/
def fcmpLane (cond : Cond) (cls : FCls) (x y : Nat) : Lane :=
  let p := fnum cls x
  let q := fnum cls y
  let ones := signVal cls * 2 - 1
  if p.isNan || q.isNan then
    { code := if cond = .ne then ones else 0, flags := fl (cond ≠ .eq ∧ cond ≠ .ne) Flag.INV }
  else
    let lt := ExtNum.lt p q
    let gt := ExtNum.lt q p
    let r := match cond with
      | .eq => !lt && !gt | .ne => lt || gt | .lt => lt | .le => !gt | .gt => gt | .ge => !lt
    { code := if r then ones else 0 }

def fcmpV (cond : Cond) (cls : FCls) (b : BSrc) : Computes := flt2 cls b (fcmpLane cond cls)

def execFcmp (cond : Cond) (cls : FCls) (b : BSrc) (d : Dests) (s : State) : Host.Outcome State Fault Refusal :=
  .next (s.compute d (fcmpV cond cls b))

/-- FSCLB: x × 2^n; b is an integer of its own container with a's grant, a literal Sext(LIT, 32) (12 R255). -/
def fsclbV (rm : RMode) (cls : FCls) (b : BSrc) : Computes := fun pe f =>
  let m := resolveRm rm pe.mode
  let a := f.opA
  let go (n : Int) (x : Nat) : Lane := fltOut cls m (ExtNum.mulPow2 (fnum cls x) n, 0)
  if a.cl2 ≠ laneCl2 cls then laneMismatch
  else match b with
  | .lit v => Comp.lanes pe f a.gl2 a.cl2 (lanes1 a.g a.src (go (Sys2Proof.sext v.toNat 32)))
  | .port =>
    if a.gl2 ≠ f.opB.gl2 then laneMismatch
    else Comp.lanes pe f a.gl2 a.cl2 (lanes2 a.g a.src f.opB.src (fun x y => go (Sys2Proof.sext y f.opB.cont) x))

def execFsclb (rm : RMode) (cls : FCls) (b : BSrc) (d : Dests) (s : State) :
    Host.Outcome State Fault Refusal := .next (s.compute d (fsclbV rm cls b))

/-- FADD: x + y (12 R255). -/
def faddV (rm : RMode) (cls : FCls) (b : BSrc) : Computes := fun pe f =>
  let m := resolveRm rm pe.mode
  flt2 cls b (fun x y => fltOut cls m (ExtNum.add (fnum cls x) (fnum cls y) m)) pe f

def execFadd (rm : RMode) (cls : FCls) (b : BSrc) (d : Dests) (s : State) :
    Host.Outcome State Fault Refusal := .next (s.compute d (faddV rm cls b))

/-- FSUB: x − y (12 R255). -/
def fsubV (rm : RMode) (cls : FCls) (b : BSrc) : Computes := fun pe f =>
  let m := resolveRm rm pe.mode
  flt2 cls b (fun x y => fltOut cls m (ExtNum.sub (fnum cls x) (fnum cls y) m)) pe f

def execFsub (rm : RMode) (cls : FCls) (b : BSrc) (d : Dests) (s : State) :
    Host.Outcome State Fault Refusal := .next (s.compute d (fsubV rm cls b))

/-- FMUL: x × y (12 R255). -/
def fmulV (rm : RMode) (cls : FCls) (b : BSrc) : Computes := fun pe f =>
  let m := resolveRm rm pe.mode
  flt2 cls b (fun x y => fltOut cls m (ExtNum.mul (fnum cls x) (fnum cls y))) pe f

def execFmul (rm : RMode) (cls : FCls) (b : BSrc) (d : Dests) (s : State) :
    Host.Outcome State Fault Refusal := .next (s.compute d (fmulV rm cls b))

/-- FDIV: x / y (12 R255). -/
def fdivV (rm : RMode) (cls : FCls) (b : BSrc) : Computes := fun pe f =>
  let m := resolveRm rm pe.mode
  flt2 cls b (fun x y => fltOut cls m (ExtNum.div (fnum cls x) (fnum cls y))) pe f

def execFdiv (rm : RMode) (cls : FCls) (b : BSrc) (d : Dests) (s : State) :
    Host.Outcome State Fault Refusal := .next (s.compute d (fdivV rm cls b))

/-- FMA: x × y + z (12 R255). -/
def fmaV (rm : RMode) (cls : FCls) : Computes := fun pe f =>
  let m := resolveRm rm pe.mode
  flt3 cls (fun x y z => fltOut cls m (ExtNum.fma (fnum cls x) (fnum cls y) (fnum cls z) m)) pe f

def execFma (rm : RMode) (cls : FCls) (d : Dests) (s : State) :
    Host.Outcome State Fault Refusal := .next (s.compute d (fmaV rm cls))

/-- FNMA: −(x × y) + z (12 R255). -/
def fnmaV (rm : RMode) (cls : FCls) : Computes := fun pe f =>
  let m := resolveRm rm pe.mode
  flt3 cls (fun x y z => fltOut cls m (ExtNum.fma (fnum cls x).flip (fnum cls y) (fnum cls z) m)) pe f

def execFnma (rm : RMode) (cls : FCls) (d : Dests) (s : State) :
    Host.Outcome State Fault Refusal := .next (s.compute d (fnmaV rm cls))

/-- FSQRT: √x (12 R255). -/
def fsqrtV (rm : RMode) (cls : FCls) : Computes := fun pe f =>
  let m := resolveRm rm pe.mode
  flt1 cls (fun x => fltOut cls m (ExtNum.sqrt (fnum cls x))) pe f

def execFsqrt (rm : RMode) (cls : FCls) (d : Dests) (s : State) :
    Host.Outcome State Fault Refusal := .next (s.compute d (fsqrtV rm cls))

/-- FRSQ: 1/√x (12 R255). -/
def frsqV (rm : RMode) (cls : FCls) : Computes := fun pe f =>
  let m := resolveRm rm pe.mode
  flt1 cls (fun x => fltOut cls m (ExtNum.rsqrt (fnum cls x))) pe f

def execFrsq (rm : RMode) (cls : FCls) (d : Dests) (s : State) :
    Host.Outcome State Fault Refusal := .next (s.compute d (frsqV rm cls))

/-- FRCP: 1/x (12 R255). -/
def frcpV (rm : RMode) (cls : FCls) : Computes := fun pe f =>
  let m := resolveRm rm pe.mode
  flt1 cls (fun x => fltOut cls m (ExtNum.recip (fnum cls x))) pe f

def execFrcp (rm : RMode) (cls : FCls) (d : Dests) (s : State) :
    Host.Outcome State Fault Refusal := .next (s.compute d (frcpV rm cls))

/-- FRINT: RoundMultiple(x, 1, mode) (12 R255). -/
def frintV (rm : RMode) (cls : FCls) : Computes := fun pe f =>
  let m := resolveRm rm pe.mode
  flt1 cls (fun x => frintLane cls m (fnum cls x)) pe f

def execFrint (rm : RMode) (cls : FCls) (d : Dests) (s : State) :
    Host.Outcome State Fault Refusal := .next (s.compute d (frintV rm cls))

/-- FEXP2: 2^x (12 R259). -/
def fexp2V (rm : RMode) (cls : FCls) : Computes := fun pe f =>
  let m := resolveRm rm pe.mode
  flt1 cls (fun x => Lane.ofRounded (special .exp2 (laneFmt cls) m (fnum cls x))) pe f

def execFexp2 (rm : RMode) (cls : FCls) (d : Dests) (s : State) :
    Host.Outcome State Fault Refusal := .next (s.compute d (fexp2V rm cls))

/-- FEXPE: e^x (12 R259). -/
def fexpeV (rm : RMode) (cls : FCls) : Computes := fun pe f =>
  let m := resolveRm rm pe.mode
  flt1 cls (fun x => Lane.ofRounded (special .expe (laneFmt cls) m (fnum cls x))) pe f

def execFexpe (rm : RMode) (cls : FCls) (d : Dests) (s : State) :
    Host.Outcome State Fault Refusal := .next (s.compute d (fexpeV rm cls))

/-- FLOG2: log2 x (12 R259). -/
def flog2V (rm : RMode) (cls : FCls) : Computes := fun pe f =>
  let m := resolveRm rm pe.mode
  flt1 cls (fun x => Lane.ofRounded (special .log2 (laneFmt cls) m (fnum cls x))) pe f

def execFlog2 (rm : RMode) (cls : FCls) (d : Dests) (s : State) :
    Host.Outcome State Fault Refusal := .next (s.compute d (flog2V rm cls))

/-- FTANH: tanh x (12 R259). -/
def ftanhV (rm : RMode) (cls : FCls) : Computes := fun pe f =>
  let m := resolveRm rm pe.mode
  flt1 cls (fun x => Lane.ofRounded (special .tanh (laneFmt cls) m (fnum cls x))) pe f

def execFtanh (rm : RMode) (cls : FCls) (d : Dests) (s : State) :
    Host.Outcome State Fault Refusal := .next (s.compute d (ftanhV rm cls))

/-- FSIG: 1 / (1 + e^−x) (12 R259). -/
def fsigV (rm : RMode) (cls : FCls) : Computes := fun pe f =>
  let m := resolveRm rm pe.mode
  flt1 cls (fun x => Lane.ofRounded (special .sig (laneFmt cls) m (fnum cls x))) pe f

def execFsig (rm : RMode) (cls : FCls) (d : Dests) (s : State) :
    Host.Outcome State Fault Refusal := .next (s.compute d (fsigV rm cls))

/-- FSINP: sin(πx) (12 R259). -/
def fsinpV (rm : RMode) (cls : FCls) : Computes := fun pe f =>
  let m := resolveRm rm pe.mode
  flt1 cls (fun x => Lane.ofRounded (special .sinp (laneFmt cls) m (fnum cls x))) pe f

def execFsinp (rm : RMode) (cls : FCls) (d : Dests) (s : State) :
    Host.Outcome State Fault Refusal := .next (s.compute d (fsinpV rm cls))

/-- FCOSP: cos(πx) (12 R259). -/
def fcospV (rm : RMode) (cls : FCls) : Computes := fun pe f =>
  let m := resolveRm rm pe.mode
  flt1 cls (fun x => Lane.ofRounded (special .cosp (laneFmt cls) m (fnum cls x))) pe f

def execFcosp (rm : RMode) (cls : FCls) (d : Dests) (s : State) :
    Host.Outcome State Fault Refusal := .next (s.compute d (fcospV rm cls))

/-- FMIN: the lesser, with −0 below +0; a NaN yields to a number (12 R256). -/
def fminV (cls : FCls) (b : BSrc) : Computes := flt2 cls b (fun x y => { code := pick (fun p q => !codeLess cls q p) cls x y })

def execFmin (cls : FCls) (b : BSrc) (d : Dests) (s : State) : Host.Outcome State Fault Refusal :=
  .next (s.compute d (fminV cls b))

/-- FMAX: the greater, with −0 below +0; a NaN yields to a number (12 R256). -/
def fmaxV (cls : FCls) (b : BSrc) : Computes := flt2 cls b (fun x y => { code := pick (fun p q => !codeLess cls p q) cls x y })

def execFmax (cls : FCls) (b : BSrc) (d : Dests) (s : State) : Host.Outcome State Fault Refusal :=
  .next (s.compute d (fmaxV cls b))

/-- FMINM: the lesser magnitude; equal magnitudes as FMIN, NaN as FMIN (log 16) (12 R256). -/
def fminmV (cls : FCls) (b : BSrc) : Computes := flt2 cls b (fun x y => { code := pick (fun p q => lessMag cls p q || (!lessMag cls q p && !codeLess cls q p)) cls x y })

def execFminm (cls : FCls) (b : BSrc) (d : Dests) (s : State) : Host.Outcome State Fault Refusal :=
  .next (s.compute d (fminmV cls b))

/-- FMAXM: the greater magnitude; equal magnitudes as FMAX, NaN as FMAX (log 16) (12 R256). -/
def fmaxmV (cls : FCls) (b : BSrc) : Computes := flt2 cls b (fun x y => { code := pick (fun p q => lessMag cls q p || (!lessMag cls p q && !codeLess cls p q)) cls x y })

def execFmaxm (cls : FCls) (b : BSrc) (d : Dests) (s : State) : Host.Outcome State Fault Refusal :=
  .next (s.compute d (fmaxmV cls b))

/-- FABS: the sign bit cleared (12 R256). -/
def fabsV (cls : FCls) : Computes := flt1 cls (fun x => { code := x % signVal cls })

def execFabs (cls : FCls) (d : Dests) (s : State) : Host.Outcome State Fault Refusal :=
  .next (s.compute d (fabsV cls))

/-- FNEG: the sign bit inverted (12 R256). -/
def fnegV (cls : FCls) : Computes := flt1 cls (fun x => { code := x ^^^ signVal cls })

def execFneg (cls : FCls) (d : Dests) (s : State) : Host.Outcome State Fault Refusal :=
  .next (s.compute d (fnegV cls))

/-- FCLASS: a mask with one bit set (12 R256). -/
def fclassV (cls : FCls) : Computes := flt1 cls (fun x => { code := 2 ^ classBit cls x })

def execFclass (cls : FCls) (d : Dests) (s : State) : Host.Outcome State Fault Refusal :=
  .next (s.compute d (fclassV cls))

/-- FCPYS: a's code with b's sign bit (12 R256). -/
def fcpysV (cls : FCls) (b : BSrc) : Computes := flt2 cls b (fun x y => { code := x % signVal cls + y / signVal cls % 2 * signVal cls })

def execFcpys (cls : FCls) (b : BSrc) (d : Dests) (s : State) : Host.Outcome State Fault Refusal :=
  .next (s.compute d (fcpysV cls b))

end Sys2Proof.Machine
end

