-- ==== Sys2Proof/Machine/Convert.lean ====
section
/-!
DEFINITION. Conversions and block scales: the rest of group 100 (07 R163, 12 R257, R258, R260, R261).
-/
namespace Sys2Proof.Machine

/-- A number times a block scale that is neither zero nor invalid. -/
def ExtNum.timesScale (x : ExtNum) (s : BitVec 16) : ExtNum :=
  match x with
  | .fin neg n d => .fin neg (n * (scaleVal s).1) (d * (scaleVal s).2)
  | v => v

/-- One lane converted from format x to format y with the token's scale, placed in y's container (07 R155, R163). -/
def convLane (x y : Fmt) (rm : RMode) (s : BitVec 16) (code : Nat) : Lane :=
  let put (r : Rounded) : Nat := widen (y.cls = 1) y.w (contOf y.w) r.code
  let v := decode x code
  if scaleInvalid s then Lane.poisoned
  else if scaleZero s then { code := put (round y rm (.fin v.neg 0 1)) }
  else
    let r := round y rm (v.timesScale s)
    { code := put r, flags := r.flags, force := r.force }

/-- The conversions' operand form: containers checked, grant kept, 256 bits at most (12 R257). -/
def convert (rm : RMode) (x y : BitVec 32) : Computes := fun pe f =>
  let a := f.opA
  let cx := contOf (Fd.codeWidth x)
  let cy := contOf (Fd.codeWidth y)
  if a.cl2 ≠ cx ∨ 256 < a.g * 2 ^ cy then laneMismatch
  else Comp.lanes pe f a.gl2 cy
    (lanes1 a.g a.src (convLane (Fmt.of x) (Fmt.of y) (resolveRm rm pe.mode) a.scale))

/-- CVTFF: from the stored format to the lane class, or back with DIR 1 (12 R257). -/
def cvtffV (toFd : Bool) (rm : RMode) (cls : FCls) (fd : BitVec 32) : Computes :=
  if toFd then convert rm (laneFd cls) fd else convert rm fd (laneFd cls)

def execCvtff (toFd : Bool) (rm : RMode) (cls : FCls) (fd : BitVec 32) (d : Dests) (s : State) :
    Host.Outcome State Fault Refusal := .next (s.compute d (cvtffV toFd rm cls fd))

/-- CVTFI: float lanes to an integer format (12 R258). -/
def cvtfiV (rm : RMode) (cls : FCls) (fd : BitVec 32) : Computes := convert rm (laneFd cls) fd

def execCvtfi (rm : RMode) (cls : FCls) (fd : BitVec 32) (d : Dests) (s : State) :
    Host.Outcome State Fault Refusal := .next (s.compute d (cvtfiV rm cls fd))

/-- CVTIF: integer codes to float lanes (12 R258). -/
def cvtifV (rm : RMode) (cls : FCls) (fd : BitVec 32) : Computes := convert rm fd (laneFd cls)

def execCvtif (rm : RMode) (cls : FCls) (fd : BitVec 32) (d : Dests) (s : State) :
    Host.Outcome State Fault Refusal := .next (s.compute d (cvtifV rm cls fd))

/-- The greatest magnitude of a format: maxfin, the top of an integer range, or 1 (12 R260). -/
def Fmt.top (f : Fmt) : Nat × Nat :=
  if f.cls = 0 then (2 ^ f.w - 1, 1)
  else if f.cls = 1 then (2 ^ (f.w - 1) - 1, 1)
  else if f.cls = 7 then (1, 1)
  else f.mag f.maxfin.1 f.maxfin.2

/-- The largest of some magnitudes. -/
def maxFrac : List (Nat × Nat) → Nat × Nat
  | [] => (0, 1)
  | x :: rest => let m := maxFrac rest; if m.1 * x.2 < x.1 * m.2 then x else m

/-- The scale SCLMAX makes of the unpoisoned lanes (12 R260). -/
def sclmaxLane (fd : BitVec 32) (l : List Nat) : Lane :=
  let v := l.map (fnum .f32)
  if l.isEmpty then Lane.poisoned
  else if v.any (fun x => x.isNan || x.isInf) then { code := 0xFF00, flags := Flag.INV }
  else
    let m := maxFrac (v.map (fun x => match x with | .fin _ n d => (n, d) | _ => (0, 1)))
    let t := (Fmt.of fd).top
    if t.1 = 0 then { code := Config.scaleOverZero m.1 m.2 % 2 ^ 16 }
    else Lane.ofRounded (encodeScale (.fin false (m.1 * t.2) (m.2 * t.1)))

/-- SCLMAX (12 R260). -/
def sclmaxV (fd : BitVec 32) : Computes := fun pe f =>
  let a := f.opA
  if a.cl2 ≠ 5 then laneMismatch
  else Comp.lanes pe f 0 4
    [sclmaxLane fd (((List.range a.g).filter (fun j => !a.poisoned j)).map a.lane)]

def execSclmax (fd : BitVec 32) (d : Dests) (s : State) : Host.Outcome State Fault Refusal :=
  .next (s.compute d (sclmaxV fd))

/-- SCLGET: the block scale as a new scalar (12 R261). -/
def sclgetV : Computes := fun _ f => Comp.both (f.stamp (scalarTok 4 f.opA.scale.toNat f.tag))

def execSclget (d : Dests) (s : State) : Host.Outcome State Fault Refusal := .next (s.compute d sclgetV)

/-- Every lane of a token poisoned. -/
def allLanes (t : Token) : Nat := 2 ^ t.g - 1

/-- SCLSET: a forwarded with a new scale; an invalid scale poisons every lane (12 R261). -/
def sclsetV (b : BSrc) : Computes := fun _ f =>
  let go (v : Nat) : Comp :=
    let t := f.forward f.opA f.tag
    let sc := BitVec.ofNat 16 v
    Comp.both { t with scale := sc, pmask := if scaleInvalid sc then allLanes t else t.pmask }
  match b with
  | .lit v => go v.toNat
  | .port => if f.opB.poisoned 0 then .ends Code.POISON_CONSUMED 0 else go (f.opB.lane 0)

def execSclset (b : BSrc) (d : Dests) (s : State) : Host.Outcome State Fault Refusal :=
  .next (s.compute d (sclsetV b))

end Sys2Proof.Machine
end

