-- ==== Sys2Proof/Machine/Lanes.lean ====
section
/-!
DEFINITION. Colours, lane moves, in-token reductions, EOD and random numbers: the part of group 101 that keeps no
state (12 R262 to R264, R270, R272).
-/
namespace Sys2Proof.Machine

/-- The largest grant p ≤ q with p × 2^cl2 ≤ 256, as its log2 (06 R144). -/
def grantL2 (q cl2 : Nat) : Nat := min (Nat.log2 q) (8 - cl2)

/-- VCTX: a's payload re-read under a colour, and the grant (12 R262). -/
def vctxV (qm1 : BitVec 5) (cl2 : BitVec 3) : Computes := fun _ f =>
  let a := f.opA
  let c := cl2.toNat
  let gl2 := grantL2 (qm1.toNat + 1) c
  let pbits := (List.range a.g).foldl (fun n i =>
    if a.poisoned i then n ||| (2 ^ a.cont - 1) * 2 ^ (a.cont * i) else n) 0
  let pm := maskOf ((List.range (2 ^ gl2)).map (fun j => decide (pbits / 2 ^ (2 ^ c * j) % 2 ^ 2 ^ c ≠ 0)))
  let t := f.forward a f.tag
  .made { toA := [{ t with gl2 := gl2, cl2 := c, pmask := pm, pay := a.pay % 2 ^ (2 ^ gl2 * 2 ^ c) }],
          toB := [f.new32 (2 ^ gl2)] }

def execVctx (qm1 : BitVec 5) (cl2 : BitVec 3) (d : Dests) (s : State) : Host.Outcome State Fault Refusal :=
  .next (s.compute d (vctxV qm1 cl2))

/-- Lanes moved with their codes and poison (12 R263). -/
def Token.lanes (t : Token) : List (Nat × Bool) := (List.range t.g).map t.src

/-- VPACK (12 R263). 64 lanes fit no header (06 R123; log 15). -/
def vpackV : Computes := fun _ f =>
  let a := f.opA
  if !a.same f.opB || decide (256 < 2 * a.g * a.cont) || a.gl2 == 5 then laneMismatch
  else Comp.both (f.laneTok (a.gl2 + 1) a.cl2 (a.lanes ++ f.opB.lanes))

def execVpack (d : Dests) (s : State) : Host.Outcome State Fault Refusal := .next (s.compute d vpackV)

/-- VUNPACK: one half to DA, the other to DB (12 R263). -/
def vunpackV : Computes := fun _ f =>
  let a := f.opA
  if a.gl2 = 0 then laneMismatch
  else .made { toA := [f.laneTok (a.gl2 - 1) a.cl2 (a.lanes.take (a.g / 2))],
               toB := [f.laneTok (a.gl2 - 1) a.cl2 (a.lanes.drop (a.g / 2))] }

def execVunpack (d : Dests) (s : State) : Host.Outcome State Fault Refusal := .next (s.compute d vunpackV)

/-- VSPLAT (12 R263). -/
def vsplatV (gl2 : BitVec 3) (lane : BitVec 5) : Computes := fun _ f =>
  let a := f.opA
  if 256 < 2 ^ gl2.toNat * a.cont ∨ a.g ≤ lane.toNat then laneMismatch
  else Comp.both (f.laneTok gl2.toNat a.cl2 (List.replicate (2 ^ gl2.toNat) (a.src lane.toNat)))

def execVsplat (gl2 : BitVec 3) (lane : BitVec 5) (d : Dests) (s : State) : Host.Outcome State Fault Refusal :=
  .next (s.compute d (vsplatV gl2 lane))

/-- VPERM: a poisoned index lane poisons the output lane, whose code is then zero (12 R263; log 22). -/
def vpermV : Computes := fun _ f =>
  let a := f.opA
  let b := f.opB
  if a.gl2 ≠ b.gl2 then laneMismatch
  else Comp.both (f.laneTok a.gl2 a.cl2 ((List.range a.g).map (fun j =>
    if b.poisoned j then (0, true) else a.src (b.lane j % 2 ^ 5 % a.g))))

def execVperm (d : Dests) (s : State) : Host.Outcome State Fault Refusal := .next (s.compute d vpermV)

/-- VEXT (12 R263). -/
def vextV (lane : BitVec 5) : Computes := fun _ f =>
  let a := f.opA
  if a.g ≤ lane.toNat then laneMismatch else Comp.both (f.laneTok 0 a.cl2 [a.src lane.toNat])

def execVext (lane : BitVec 5) (d : Dests) (s : State) : Host.Outcome State Fault Refusal :=
  .next (s.compute d (vextV lane))

/-- VINS (12 R263). -/
def vinsV (lane : BitVec 5) : Computes := fun _ f =>
  let a := f.opA
  let b := f.opB
  if a.g ≤ lane.toNat ∨ a.cl2 ≠ b.cl2 then laneMismatch
  else Comp.both (f.laneTok a.gl2 a.cl2 ((List.range a.g).map (fun j =>
    if j = lane.toNat then b.src 0 else a.src j)))

def execVins (lane : BitVec 5) (d : Dests) (s : State) : Host.Outcome State Fault Refusal :=
  .next (s.compute d (vinsV lane))

/-- VSEL: a poisoned mask lane poisons the output lane, whose code is then zero (12 R263; log 22). -/
def vselV : Computes := fun _ f =>
  let a := f.opA
  let b := f.opB
  let c := f.opC
  if !b.same c || a.gl2 != b.gl2 then laneMismatch
  else Comp.both (f.laneTok b.gl2 b.cl2 ((List.range b.g).map (fun j =>
    if a.poisoned j then (0, true) else if a.lane j ≠ 0 then b.src j else c.src j)))

def execVsel (d : Dests) (s : State) : Host.Outcome State Fault Refusal := .next (s.compute d vselV)

/-! ## In-token reductions (12 R264) -/

/-- Round(x + y) of two codes of a lane class. -/
def addCodes (cls : FCls) (rm : RMode) (x y : Nat) : Lane :=
  fltOut cls rm (ExtNum.add (fnum cls x) (fnum cls y) rm)

/-- Neighbouring codes added in pairs; the flags of every step. -/
def pairSums (cls : FCls) (rm : RMode) : List Nat → List Nat × Nat
  | x :: y :: rest =>
    let s := addCodes cls rm x y
    let r := pairSums cls rm rest
    (s.code :: r.1, s.flags ||| r.2)
  | l => (l, 0)

/-- The fixed tree of VREDADD, level by level. -/
def treeSum (cls : FCls) (rm : RMode) : Nat → List Nat → Nat → Lane
  | 0, l, fs => { code := l.headD 0, flags := fs }
  | n + 1, l, fs =>
    let r := pairSums cls rm l
    treeSum cls rm n r.1 (fs ||| r.2)

/-- An element type is an integer one, or its container is that of the float class. -/
def tyFits (ty : ElemTy) (cl2 : Nat) : Bool :=
  match ty with
  | .flt _ cls => cl2 == laneCl2 cls
  | _ => true

/-- An integer lane under its type (11 R233). -/
def tyInt (ty : ElemTy) (c v : Nat) : Int :=
  match ty with
  | .sgn => Sys2Proof.sext v c
  | _ => ((v % 2 ^ c : Nat) : Int)

/-- VREDADD (12 R264). -/
def vredaddV (ty : ElemTy) : Computes := fun pe f =>
  let a := f.opA
  let l := a.lanes
  if !tyFits ty a.cl2 then laneMismatch
  else match ty with
    | .flt rm cls =>
      Comp.lanes pe f 0 a.cl2 [if l.any (·.2) then Lane.poisoned
        else treeSum cls (resolveRm rm pe.mode) a.gl2 (l.map (·.1)) 0]
    | ty =>
      Comp.lanes pe f 0 6 [if l.any (·.2) then Lane.poisoned
        else Lane.int 64 (l.foldl (fun n x => n + tyInt ty a.cont x.1) 0)]

def execVredadd (ty : ElemTy) (d : Dests) (s : State) : Host.Outcome State Fault Refusal :=
  .next (s.compute d (vredaddV ty))

/-- The lesser or greater of two codes under a type; floats as FMIN and FMAX order them (12 R264). -/
def tyPick (ty : ElemTy) (big : Bool) (c x y : Nat) : Nat :=
  match ty with
  | .flt _ cls => if big then pick (fun p q => !codeLess cls p q) cls x y
                  else pick (fun p q => !codeLess cls q p) cls x y
  | ty => if big then (if tyInt ty c x < tyInt ty c y then y else x)
          else (if tyInt ty c y < tyInt ty c x then y else x)

/-- The least or greatest lane as a scalar. -/
def tokenPick (ty : ElemTy) (big : Bool) : Computes := fun pe f =>
  let a := f.opA
  let l := a.lanes
  if !tyFits ty a.cl2 then laneMismatch
  else Comp.lanes pe f 0 a.cl2 [if l.any (·.2) then Lane.poisoned
    else match l.map (·.1) with
      | [] => {}
      | x :: rest => { code := rest.foldl (tyPick ty big a.cont) x }]

/-- VREDMIN (12 R264). -/
def vredminV (ty : ElemTy) : Computes := tokenPick ty false

def execVredmin (ty : ElemTy) (d : Dests) (s : State) : Host.Outcome State Fault Refusal :=
  .next (s.compute d (vredminV ty))

/-- VREDMAX (12 R264). -/
def vredmaxV (ty : ElemTy) : Computes := tokenPick ty true

def execVredmax (ty : ElemTy) (d : Dests) (s : State) : Host.Outcome State Fault Refusal :=
  .next (s.compute d (vredmaxV ty))

/-- Round(x + y) or (x + y) mod 2^c of two codes under a type. -/
def tyAdd (ty : ElemTy) (mode c x y : Nat) : Lane :=
  match ty with
  | .flt rm cls => addCodes cls (resolveRm rm mode) x y
  | _ => { code := (x + y) % 2 ^ c }

/-- Running sums from a first code; every lane from the first poisoned one on is poisoned. -/
def scanFrom (ty : ElemTy) (mode c : Nat) : Nat → List (Nat × Bool) → List Lane
  | _, [] => []
  | x, (y, bad) :: rest =>
    if bad then Lane.poisoned :: rest.map (fun _ => Lane.poisoned)
    else let r := tyAdd ty mode c x y; r :: scanFrom ty mode c r.code rest

/-- VSCAN (12 R264). -/
def vscanV (ty : ElemTy) : Computes := fun pe f =>
  let a := f.opA
  if !tyFits ty a.cl2 then laneMismatch
  else Comp.lanes pe f a.gl2 a.cl2 (match a.lanes with
    | [] => []
    | (x, bad) :: rest =>
      if bad then Lane.poisoned :: rest.map (fun _ => Lane.poisoned)
      else ({ code := x } : Lane) :: scanFrom ty pe.mode a.cont x rest)

def execVscan (ty : ElemTy) (d : Dests) (s : State) : Host.Outcome State Fault Refusal :=
  .next (s.compute d (vscanV ty))

/-! ## EOD and random numbers (12 R270, R272) -/

/-- EOD forwards a with its level set; a bubble is marked too (12 R270). -/
def eodV (n : BitVec 2) : Computes := fun _ f => Comp.both { f.forward f.opA f.tag with eod := n.toNat }

def execEod (n : BitVec 2) (d : Dests) (s : State) : Host.Outcome State Fault Refusal :=
  .next (let f := s.firing
         s.emitBoth f d (f.out { f.forward f.opA f.tag with eod := n.toNat }))

/-- One mixing round (12 R272). -/
def rngRound (x : Nat) : Nat :=
  let x := x ^^^ (x / 2 ^ 32)
  let x := x * 0xB4C53A976E1D29F3 % 2 ^ 64
  x ^^^ (x / 2 ^ 29)

/-- The random 32-bit integer of a key and a counter (12 R272). -/
def rngLow (k c : Nat) : Nat :=
  rngRound (rngRound (rngRound (c ^^^ (k * 0x9E3779B97F4A7C15 % 2 ^ 64)))) % 2 ^ 32

/-- The form of RNG and RNGF. -/
def rngForm (fn : Nat → Nat → Nat) : Computes := fun pe f =>
  let a := f.opA
  let b := f.opB
  if a.cl2 ≠ 6 ∨ b.cl2 ≠ 6 then laneMismatch
  else Comp.lanes pe f a.gl2 5 (lanes2 a.g a.src (fun _ => b.src 0) (fun c k => { code := fn k c }))

/-- RNG (12 R272). -/
def rngV : Computes := rngForm rngLow

def execRng (d : Dests) (s : State) : Host.Outcome State Fault Refusal := .next (s.compute d rngV)

/-- RNGF: (low >> 8) × 2^−24 as FP32 (12 R272). -/
def rngfV : Computes :=
  rngForm (fun k c => (round (laneFmt .f32) .rne (.fin false (rngLow k c / 2 ^ 8) (2 ^ 24))).code)

def execRngf (d : Dests) (s : State) : Host.Outcome State Fault Refusal := .next (s.compute d rngfV)

end Sys2Proof.Machine
end

