-- ==== Sys2Proof/Machine/Banks.lean ====
section
/-!
DEFINITION. The banks of the A-buffer: which bank holds a word, whom a bank serves, and accesses as requests of the
banks they touch (02 R34 to R36, R39).
-/
namespace Sys2Proof.Machine

/-- The bank of an A-buffer offset (02 R34). -/
def bankOf (off : Nat) : Nat := off / 256 % 32

/-- A unit's place in the order in which a bank serves its requesters (02 R35). -/
def bankPlace (unit : Nat) : Nat :=
  if unit = 34 then 3 else if unit = 35 then 4 else if unit = 32 then 5 else if unit = 33 then 6 else if unit = 38 then 7 else 8

/-- The requester an A-buffer bank serves: those refused in 16 consecutive cycles first, else all, in the fixed order
0 to 8 (02 R35). -/
def bankServes (refused : Nat → Nat) (reqs : List Nat) : Option Nat :=
  match (List.range 9).find? (fun r => reqs.contains r && decide (16 ≤ refused r)) with
  | some r => some r
  | none => (List.range 9).find? (fun r => reqs.contains r)

/-- An access cut at the boundaries of 256-bit words: offset, bits, data (02 R36). -/
def cutWords : Nat → Nat → Nat → Nat → List (Nat × Nat × Nat)
  | 0, _, _, _ => []
  | fuel + 1, off, w, v =>
    if w = 0 then []
    else
      let n := min w (256 - off % 256)
      (off, n, v % 2 ^ n) :: cutWords fuel (off + n) (w - n) (v / 2 ^ n)

/-- An access asks its banks, each for one word (02 R34). -/
def State.bankAsk (s : State) (c key who off w : Nat) (store : Option Nat) : State :=
  s.modCl c (fun x => { x with banks := x.banks ++ (cutWords (w / 256 + 2) off w (store.getD 0)).map (fun p =>
    ({ key := key, who := who, off := p.1, w := p.2.1, store := store.map (fun _ => p.2.2) } : BankReq)) })

/-- Every bank has served an access, in a cycle that is over. -/
def Cluster.bankDone (x : Cluster) (key : Nat) : Bool := x.banks.all (fun q => q.key != key || q.done)

/-- What the reads of an access returned. -/
def Cluster.bankValue (x : Cluster) (key : Nat) : Nat :=
  (x.banks.filter (·.key == key)).foldr (fun q acc => q.got.getD 0 % 2 ^ q.w + 2 ^ q.w * acc) 0

def State.bankDrop (s : State) (c key : Nat) : State :=
  s.modCl c (fun x => { x with banks := x.banks.filter (·.key != key) })

/-- The requests that wait for a bank, oldest first; a write to a word that a live-range save has still to read waits
apart, and is not counted (23 R409). -/
def Cluster.bankWaiting (x : Cluster) (bank : Nat) : List BankReq :=
  x.banks.filter (fun q => q.got.isNone && bankOf q.off == bank && !(q.store.isSome && x.marked 0 (q.off / 256)))

/-- The key of the live-range save's read under way. -/
def Cluster.saveKey (x : Cluster) : Option Nat := x.shadow.bind (·.reading)

/-- The request that a bank serves now: it accepts nothing while it is busy (02 R34, R35). A live-range save goes
ahead of every other request of the copy port (23 R409). -/
def Cluster.bankNext (x : Cluster) (bank : Nat) : Option BankReq :=
  if x.bankBusy.has bank then none
  else
    let l := x.bankWaiting bank
    (bankServes (fun r => x.bankRefused.get 0 (bank * 16 + r)) (l.map (·.who))).bind (fun r =>
      match l.find? (fun q => q.who == r && some q.key == x.saveKey) with
      | some q => some q
      | none => l.find? (·.who == r))

/-- A bank performs a request: one read, one write of a whole word, or one read-merge-write, which takes two cycles
(02 R34). -/
def Cluster.bankPerform (x : Cluster) (bank : Nat) (q : BankReq) : Cluster :=
  let v := match q.store with | some _ => 0 | none => bufRead x.abuf q.off q.w
  let y := match q.store with | some d => x.abufSet q.off q.w d | none => x
  { y with
    banks := x.banks.map (fun (p : BankReq) => if p = q then { p with got := some v } else p)
    bankBusy := x.bankBusy.put bank (if q.store.isSome && decide (q.w < 256) then 2 else 1, q.who)
    bankRefused := x.bankRefused.put (bank * 16 + q.who) 0 }

/-- The requesters that a bank refuses in the cycle that passes: it is busy, and not with them (02 R35). -/
def Cluster.bankRefuses (x : Cluster) (bank who : Nat) : List Nat :=
  (((x.bankWaiting bank).map (·.who)).eraseDups).filter (· != who)

/-- A cycle of the banks passes: refusals are counted, a bank comes nearer to being free, and what the banks have served
in the cycle can be used (02 R34, R35, R45). -/
def Cluster.bankCycle (x : Cluster) : Cluster :=
  let refused := x.bankBusy.flatMap (fun b => (x.bankRefuses b.1 b.2.2).map (fun r => b.1 * 16 + r))
  { x with
    banks := x.banks.map (fun (q : BankReq) => { q with done := q.got.isSome })
    bankRefused := refused.foldl (fun t k => t.put k (t.get 0 k + 1)) x.bankRefused
    bankBusy := x.bankBusy.filterMap (fun b => if 1 < b.2.1 then some (b.1, (b.2.1 - 1, 9)) else none)
    perf := if refused.isEmpty then x.perf else x.perf.put 0x040 ((x.perf.get 0 0x040 + refused.length) % 2 ^ 48) }

/-! ## Another cluster's A-buffer, and the own (02 R39) -/

/-- An access of a unit to the A-buffer of a cluster: its own banks are asked, another's by a message of channel 0. -/
def State.bufAsk (s : State) (c unit owner key off w : Nat) (store : Option Nat) : State :=
  if owner = c then s.bankAsk c key (bankPlace unit) off w store
  else s.send 0 c unit owner 65 (.abuf owner off w store (c, key))

/-- The value of an access that a key names, once it is there: from the own banks, or from another cluster's answer. -/
def State.bufGot (s : State) (c owner key : Nat) : Option (Nat × State) :=
  if owner = c then
    if (s.cl c).bankDone key then some ((s.cl c).bankValue key, s.bankDrop c key) else none
  else s.netMsgs.findSome? (fun m => match m.pay with
    | .abufVal c' k v => if c' = c ∧ k = key ∧ s.arrived m then some (v, s.dropMsg m.id) else none
    | _ => none)

/-- A bank access with a key is still to be served, or a message of that key is on its way to another cluster's banks. -/
def State.bufPending (s : State) (c key : Nat) : Bool :=
  (s.cl c).banks.any (fun q => q.key == key && !q.done) ||
    s.netMsgs.any (fun m => match m.pay with | .abuf _ _ _ _ q => q == (c, key) | _ => false)

/-- What waits for the reads of a key: an operand read of the MXE, a copy record, a stream's token and its scale, or a
live-range save. -/
def Cluster.wants (x : Cluster) (key : Nat) : Bool :=
  x.saveKey == some key || x.ctx.mxCmds.any (fun m => m.key == some key) ||
    x.ctx.chans.any (fun p => match p.2.rec_ with | some r => r.key == some key | none => false) ||
    x.ctx.ports.any (fun p => match p.2.stream with
      | some y => y.issued == some key || y.issued.map (· + 1) == some key
      | none => false)

/-- No earlier access of the unit to that cluster's A-buffer is under way: accesses are applied in issue order (02 R39). -/
def State.bufClear (s : State) (c unit owner : Nat) : Bool :=
  if owner = c then !(s.cl c).banks.any (fun q => q.who == bankPlace unit)
  else !s.netMsgs.any (fun m => m.vc == 0 && m.src == c && m.srcUnit == unit && m.dst == owner && m.dstUnit == 65)

end Sys2Proof.Machine
end

