-- ==== Sys2Proof/Machine/Control.lean ====
section
/-!
DEFINITION. Steering, frames and tags, waves, and the launch-level points BARR, TRIGGER, DONE and CKPT
(10 R206 to R220), with the machine steps that carry them out (06 R126 to R133, R137).
-/
namespace Sys2Proof.Machine

/-! ## Steering (10 R209) -/

/-- MOV forwards a (10 R209). -/
def execMov (d : Dests) (s : State) : Host.Outcome State Fault Refusal :=
  let f := s.firing
  .next (s.emitBoth f d (f.out (f.forward f.opA f.tag)))

/-- CONST: a literal scalar in a 64-bit container; a token made from a literal carries no outer index
(03 R64, 10 R210). -/
def execConst (sg : Bool) (k : BitVec 32) (d : Dests) (s : State) : Host.Outcome State Fault Refusal :=
  let f := s.firing
  let v := if sg then zextInt (Sys2Proof.sext k.toNat 32) 64 else k.toNat
  .next (s.emitBoth f d (if f.hasBubble then f.bubble f.tag else scalar64 v f.tag))

/-- A control operand's choice: none where lane 0 is poisoned (10 R207). -/
def control (t : Token) : Option Bool := if t.poisoned 0 then none else some (decide (t.lane 0 ≠ 0))

/-- STEER (10 R207, R209). -/
def execSteer (d : Dests) (s : State) : Host.Outcome State Fault Refusal :=
  let f := s.firing
  let a := f.forward f.opA f.tag
  .next (if f.hasBubble then s.emitBoth f d (f.asBubble a)
    else match control f.opB with
      | none => s.emitBoth f d { a with pmask := 2 ^ a.g - 1 }
      | some true => s.emit f [(d.da, a)]
      | some false => s.emit f [(d.db, a)])

/-- SELECT (10 R207, R209). -/
def execSelect (d : Dests) (s : State) : Host.Outcome State Fault Refusal :=
  let f := s.firing
  let b := f.forward f.opB f.tag
  .next (if f.hasBubble then s.emitBoth f d (f.asBubble b)
    else if !f.opB.same f.opC then s.fail f Code.LANE_MISMATCH
    else match control f.opA with
      | none => s.emitBoth f d { b with pmask := 2 ^ b.g - 1, pay := 0 }
      | some true => s.emitBoth f d b
      | some false => s.emitBoth f d (f.forward f.opC f.tag))

/-- MERGE forwards the token that fired it (10 R209). -/
def execMerge (d : Dests) (s : State) : Host.Outcome State Fault Refusal :=
  let f := s.firing
  let t := match f.a with | some t => t | none => f.opB
  .next (s.emitBoth f d (f.out (f.forward t f.tag)))

/-- GATE forwards a; b is consumed unread (10 R209). -/
def execGate (d : Dests) (s : State) : Host.Outcome State Fault Refusal :=
  let f := s.firing
  .next (s.emitBoth f d (f.out (f.forward f.opA f.tag)))

/-- SYNC2: a to DA, b to DB (10 R209). -/
def execSync2 (d : Dests) (s : State) : Host.Outcome State Fault Refusal :=
  let f := s.firing
  .next (s.emit f [(d.da, f.out (f.forward f.opA f.tag)), (d.db, f.out (f.forward f.opB f.tag))])

/-- SYNC3: a to DA, b to DB; c is consumed unread (10 R209). -/
def execSync3 (d : Dests) (s : State) : Host.Outcome State Fault Refusal :=
  let f := s.firing
  .next (s.emit f [(d.da, f.out (f.forward f.opA f.tag)), (d.db, f.out (f.forward f.opB f.tag))])

/-! ## Frames (10 R211 to R213) -/

/-- The return link and the outputs an allocation sends under its new tag (10 R212). -/
inductive AllocOp where
  | loopin | talloc | call
deriving DecidableEq, Repr

/-- Allocate the lowest free entry and send the outputs; the firing waits where none is free (06 R126, 10 R212). -/
def State.allocate (s : State) (f : Firing) (op : AllocOp) (nm1 : Nat) (d : Dests) (slot : Nat) : State :=
  let fr : Frame := { n := nm1 + 1, parent := some f.tag,
                      retlink := match op with | .call => some d.db.toBits | _ => none }
  let s := s.modCtx f.cl (fun x => x.allocFrame slot fr)
  let new := mkTag f.cl slot 0
  let sc := { f.new32 new.toNat with aux := auxOf new }
  match op with
  | .loopin => s.emit f [(d.da, f.out (f.forward f.opA new)), (d.db, f.out sc)]
  | .talloc => s.emitBoth f d (f.out sc)
  | .call => s.emit f [(d.da, f.out (f.forward f.opA new))]

/-- A frame operation's request sets out for the frame's owner on channel 3; its firing completes when the owner has
applied it (10 R208). A tag without an owner in the launch names no frame in use (log 69). -/
def State.frameAsk (s : State) (i : Instr) (owner : Tag) : State :=
  let f := s.firing
  let c := tagCluster owner
  if 4 ≤ tagDie owner ∨ !s.present? c ∨ !s.inLaunch f.cl c then s.failFrame f Code.TAG_STALE
  else (s.pendNew f i (.request none)).send 3 f.cl f.unit c 64 (.frameReq f.cl s.serial)

def execLoopin (nm1 : BitVec 8) (d : Dests) (s : State) : Host.Outcome State Fault Refusal :=
  .next (s.frameAsk (.loopin nm1 d) (rootTag s.firing.cl))

def execTalloc (nm1 : BitVec 8) (d : Dests) (s : State) : Host.Outcome State Fault Refusal :=
  .next (s.frameAsk (.talloc nm1 d) (rootTag s.firing.cl))

def execCall (nm1 : BitVec 8) (d : Dests) (s : State) : Host.Outcome State Fault Refusal :=
  .next (s.frameAsk (.call nm1 d) (rootTag s.firing.cl))

/-- IEND frees the iteration slot of its tag; it sends nothing (06 R129, 10 R213). -/
def execIend (d : Dests) (s : State) : Host.Outcome State Fault Refusal :=
  .next (s.frameAsk (.iend d) s.firing.tag)

/-- LOOPOUT sends a under PARENT (10 R213). -/
def execLoopout (d : Dests) (s : State) : Host.Outcome State Fault Refusal :=
  .next (s.frameAsk (.loopout d) s.firing.tag)

/-- The tag whose frame TFREE frees. -/
def tfreeTag (f : Firing) : Tag := BitVec.ofNat 32 (f.opA.lane 0)

/-- TFREE frees the frame lane 0 names; a bubble frees nothing (10 R207, R213). -/
def execTfree (d : Dests) (s : State) : Host.Outcome State Fault Refusal :=
  let f := s.firing
  .next (if f.hasBubble then s.emitBoth f d (f.asBubble (f.forward f.opA f.tag))
    else if f.opA.poisoned 0 then s.fail f Code.POISON_CONSUMED
    else s.frameAsk (.tfree d) (tfreeTag f))

/-- RET sends a to the frame's return link under PARENT (10 R213). -/
def execRet (d : Dests) (s : State) : Host.Outcome State Fault Refusal :=
  .next (s.frameAsk (.ret_ d) s.firing.tag)

/-- The allocation that an instruction makes. -/
def allocOf : Instr → Option (AllocOp × Nat × Dests)
  | .loopin n d => some (.loopin, n.toNat, d)
  | .talloc n d => some (.talloc, n.toNat, d)
  | .call n d => some (.call, n.toNat, d)
  | _ => none

/-- A group's token, or the fault port's record where its node is not loaded in that unit or its port not matched
(10 R228). -/
def State.sendGroup (s : State) (c slot : Nat) (r : TaskRec) (g : Nat) : State :=
  let e := r.entry.toNat
  let u := bits e 21 16; let n := bits e 15 7 + g; let p := portOfNat (bits e 6 5)
  let t : Token :=
    { tag := mkTag c slot 0, gl2 := 2, cl2 := 6, pmask := (if g = 0 then r.pmask else 0) ||| bits r.poison (4 * g + 3) (4 * g),
      pay := packLanes 64 ((List.range 4).map (fun k => (nth r.live (4 * g + k)).getD 0)) }
  let ok := match if n < 512 then (s.cl c).instr u n else none with
    | none => false
    | some i =>
      let q := portsOf i
      (match p with | .a => q.a | .b => q.b | .c => q.c | .t => (s.cl c).forme.tPorts.contains (u * 512 + n))
  if ok then s.send 2 c 37 c u (.token (.node c u n p) 0 t)
  else s.faultTok { cl := c, unit := 37, tag := t.tag } t

/-- An allocation takes a free entry: an instruction's frame, or the frame of the record that the task unit resumes, whose
groups' tokens leave (10 R211 to R213, R228). -/
def State.frameGive (s : State) (p : Pend) (slot : Nat) : State :=
  let c := p.fir.cl
  let s := s.pendDel c p.id
  match allocOf p.instr, (s.ctx c).resuming with
  | some (op, n, d), _ => s.allocate p.fir op n d slot
  | none, some r =>
    let fr : Frame := { n := r.nm1 + 1, parent := some (rootTag c), retlink := none, join := r.join, resumed := true }
    (List.range (r.ngm1 + 1)).foldl (fun s g => s.sendGroup c slot r g)
      (s.modCtx c (fun x => { x.allocFrame slot fr with resuming := none }))
  | none, none => s

/-- An allocation that has reached the table waits behind those that reached it before (06 R126). -/
def State.frameWait (s : State) (p : Pend) : State :=
  s.modCtx p.fir.cl (fun x => { x with pend := x.pend.filter (·.id != p.id) ++ [{ p with why := .frame }] })

/-- The owner applies an allocation: it proceeds where an entry is free and no earlier allocation waits (06 R126). -/
def State.allocApply (s : State) (p : Pend) : State :=
  let x := s.ctx p.fir.cl
  match lowestFrame x.frames with
  | some k => if x.pend.any (fun p => p.why == .frame) then s.frameWait p else s.frameGive p k
  | none => s.frameWait p

/-- The owner applies an IEND (06 R129). -/
def State.iendApply (s : State) (f : Firing) : State :=
  match s.frame f.tag with
  | none => s.failFrame f Code.TAG_STALE
  | some fr =>
    let i := tagIter f.tag
    if fr.occ.testBit i then s.settleFrame f.tag { fr with occ := fr.occ - 2 ^ i }
    else s.failFrame f Code.TAG_STALE

/-- The owner applies a LOOPOUT (10 R213). -/
def State.loopoutApply (s : State) (f : Firing) (d : Dests) : State :=
  match (s.frame f.tag).bind (·.parent) with
  | none => s.failFrame f Code.TAG_STALE
  | some p => s.emitBoth f d (f.out (f.forward f.opA p))

/-- The owner applies a TFREE (10 R213). -/
def State.tfreeApply (s : State) (f : Firing) (d : Dests) : State :=
  match s.frame (tfreeTag f) with
  | none => s.failFrame f Code.TAG_STALE
  | some fr =>
    if fr.parent.isNone ∨ fr.pend ≠ 0 then s.failFrame f Code.TAG_STALE
    else (s.freeFrame (tfreeTag f)).emitBoth f d (f.forward f.opA f.tag)

/-- The owner applies a RET (10 R213). -/
def State.retApply (s : State) (f : Firing) : State :=
  match s.frame f.tag with
  | none => s.failFrame f Code.TAG_STALE
  | some fr =>
    if fr.parent.isNone ∨ fr.retlink.isNone then s.failFrame f Code.TAG_STALE
    else s.emit f [(.ret, f.out (f.forward f.opA f.tag))]

/-- The owner applies a frame operation, and its firing completes (10 R208). -/
def State.frameApply (s : State) (p : Pend) : State :=
  let t := s.pendDel p.fir.cl p.id
  match p.instr with
  | .iend _ => t.iendApply p.fir
  | .loopout d => t.loopoutApply p.fir d
  | .tfree d => t.tfreeApply p.fir d
  | .ret_ _ => t.retApply p.fir
  | _ => s.allocApply p

/-- A waiting allocation proceeds once an entry is free, the earliest first (06 R126). -/
def execFrameAllocWake (c k : Nat) (s : State) : Host.Outcome State Fault Refusal :=
  let x := s.ctx c
  .next (match lowestFrame x.frames, x.pend.find? (fun p => p.why == .frame) with
    | some slot, some p =>
      if p.id = k then s.frameGive p slot else s
    | _, _ => s)

/-! ## Tags (10 R214) -/

def execTagget (d : Dests) (s : State) : Host.Outcome State Fault Refusal :=
  let f := s.firing
  .next (s.emitBoth f d (f.out (f.new32 f.tag.toNat)))

/-- TAGSET: a bubble on b sends its bubble with tag T; so does a bubble on a whose b is poisoned, since a bubble
outranks poison (03 R65). -/
def execTagset (d : Dests) (s : State) : Host.Outcome State Fault Refusal :=
  let f := s.firing
  let b := f.opB
  let go (t : Tag) : State := s.emitBoth f d (f.out { f.forward f.opA t with aux := 0 })
  .next (if b.kind = .bubble ∨ (f.hasBubble ∧ b.poisoned 0) then go f.tag
    else if b.poisoned 0 then s.fail f Code.POISON_CONSUMED
    else
      let t : Tag := BitVec.ofNat 32 (b.lane 0)
      if 4 ≤ tagDie t then s.fail f Code.TAG_ILLEGAL else go t)

def execIter (d : Dests) (s : State) : Host.Outcome State Fault Refusal :=
  let f := s.firing
  .next (s.emitBoth f d (f.out (f.new32 (tagIter f.tag))))

/-! ## Waves (10 R215) -/

/-- WAVE: a marker to each edge tile, then a (10 R215). A bubble sends them too: they order tags (log 31). -/
def execWave (d : Dests) (s : State) : Host.Outcome State Fault Refusal :=
  let f := s.firing
  let s := [32, 33, 34, 35].foldl (fun s u => s.send 2 f.cl f.unit f.cl u (.waveMark f.cl u f.tag)) s
  .next (s.emitBoth f d (f.out (f.forward f.opA f.tag)))

/-- A tile takes a wave-start marker (10 R215). -/
def execWaveMarker (k : Nat) (s : State) : Host.Outcome State Fault Refusal :=
  .next (match s.msg k with
    | some m =>
      (match m.pay with
      | .waveMark c u t =>
        if s.arrived m then
          if s.stray m then s.dropMsg k
          else (s.dropMsg k).modCtx c (fun x => x.waveDiscard (waveTile u) t k)
        else s
      | _ => s)
    | none => s)

/-! ## Launch-level points (10 R217 to R220) -/

/-- Where the counts of SCOPE 01 are kept: the partition's lowest-numbered cluster (10 R217). -/
def State.barrHome (s : State) (c : Nat) : Nat := (s.launch c).foldl min c

/-- A barrier object of a cluster's launch: its cluster's own, or the launch's. -/
def State.barrier (s : State) (c : Nat) (part : Bool) (id : Nat) : Barrier :=
  if part then
    match s.slotOf c with
    | some (_, sl) => sl.barrs.get {} id
    | none => (s.ctx c).barriers.get {} id
  else (s.ctx c).barriers.get {} id

def State.setBarrier (s : State) (c : Nat) (part : Bool) (id : Nat) (b : Barrier) : State :=
  match part, s.slotOf c with
  | true, some (k, _) => s.modSlot k (fun x => { x with barrs := x.barrs.put id b })
  | _, _ => s.modCtx c (fun x => { x with barriers := x.barriers.put id b })

/-- Under what an object keeps a cluster's arrivals: its place in the partition. -/
def State.barrKey (s : State) (c : Nat) (part : Bool) : Nat := if part then (s.launch c).idxOf c else 0

/-- An arrival of a cluster is counted; the answer is its generation (10 R217). -/
def State.barrCount (s : State) (c : Nat) (l : BarrLit) : Nat × State :=
  let b := s.barrier c l.part l.id.toNat
  let n := b.counts.get 0 (s.barrKey c l.part)
  (n / (l.arrm1.toNat + 1),
   s.setBarrier c l.part l.id.toNat { b with counts := b.counts.put (s.barrKey c l.part) (n + 1) })

/-- BARR counts an arrival and keeps its token; SCOPE 01 counts it on channel 5 at the partition's lowest-numbered
cluster (10 R217). -/
def execBarr (l : BarrLit) (d : Dests) (s : State) : Host.Outcome State Fault Refusal :=
  let f := s.firing
  .next (if l.part then
      (s.pendNew f (.barr l d) (.request none)).send 5 f.cl f.unit (s.barrHome f.cl) 67 (.request f.cl s.serial)
    else
      let r := s.barrCount f.cl l
      r.2.pendNew f (.barr l d) (.barr l.id.toNat r.1))

/-- The literal of the BARR that waits at an object. -/
def Ctx.barrLit (x : Ctx) (id : Nat) : Option BarrLit :=
  x.pend.findSome? (fun p => match p.instr with | .barr l _ => if l.id.toNat = id then some l else none | _ => none)

/-- The tokens of a generation leave one cluster, in order of arrival. -/
def State.barrRelease (s : State) (c id gen : Nat) : State :=
  (s.ctx c).pend.foldl (fun s p =>
    if p.why = .barr id gen then
      match p.instr with
      | .barr _ d => (s.pendDel c p.id).emitBoth p.fir d (p.fir.out (p.fir.forward p.fir.opA p.fir.tag))
      | _ => s
    else s) s

/-- A generation completes: every cluster in scope has counted its arrivals (10 R217). -/
def execBarrGenerationComplete (c id : Nat) (s : State) : Host.Outcome State Fault Refusal :=
  .next (match (s.ctx c).barrLit id with
    | none => s
    | some l =>
      let scope := if l.part then s.launch c else [c]
      let b := s.barrier c l.part id
      if scope.all (fun k => decide ((b.gen + 1) * (l.arrm1.toNat + 1) ≤ b.counts.get 0 (s.barrKey k l.part))) then
        let s := s.setBarrier c l.part id { b with gen := b.gen + 1 }
        scope.foldl (fun s k => s.barrRelease k id b.gen) s
      else s)

/-- A trigger position is recorded and the launch's trigger count signalled (10 R218, 20 R369). -/
def State.countTrigger (s : State) (c : Nat) : State :=
  let s := s.modCtx c (fun x => { x with trigPos := some (s.gal c).p })
  match s.slotOf c with
  | some (k, sl) => s.send 5 c 0 hubAgent 0 (.trig (Bind.of sl.words).lcnt k (sl.clusters.idxOf c) c (s.gal c).p)
  | none => s

/-- A cluster's skip lists hold a range (03 R67). -/
def Ctx.skips (x : Ctx) : Bool := x.skipAll || !x.skip0.isEmpty || !x.skip1.isEmpty

/-- The operands of a firing carry an outer index that the repair pass repairs (03 R68). -/
def Ctx.listed (x : Ctx) (f : Firing) : Bool :=
  f.ops.any (fun t => t.ov && (x.skipAll ||
    (x.skip0 ++ x.skip1).any (fun r => decide (r.1 ≤ t.oidx) && decide (t.oidx ≤ r.2))))

/-- A node with a memory, queue, copy or system action acts as on a bubble: an operand is one, or the repair pass
runs and no operand carries a listed outer index (03 R65, R68). -/
def State.idleAction (s : State) (f : Firing) : Bool :=
  f.hasBubble || ((s.ctx f.cl).repair && !(s.ctx f.cl).listed f)

/-- What such a node sends in the repair pass: a bubble of the operands' outer index (03 R68; log 20). -/
def Firing.passBubble (f : Firing) (t : Token) : Token :=
  if f.hasBubble then f.asBubble t
  else { f.stamp t with kind := .bubble, gl2 := 0, cl2 := 0, pmask := 0, scale := 0x7F00,
                        pay := f.oidx.2 % 2 ^ 32 + f.oidx.2 % 2 ^ 32 * 2 ^ 32 }

/-- TRIGGER: the first data firing releases, records its position and signals; the token leaves once the package
guarantee holds. With skip lists not empty it is held (03 R69, 10 R218). -/
def execTrigger (d : Dests) (s : State) : Host.Outcome State Fault Refusal :=
  let f := s.firing
  let x := s.ctx f.cl
  let a := f.forward f.opA f.tag
  .next (if s.idleAction f then s.emitBoth f d (f.passBubble a)
    else if x.trigFired then s.emitBoth f d a
    else
      let s := s.modCtx f.cl (fun x => { x with trigFired := true })
      if x.skips then s.pendNew f (.trigger d) (.trigger none)
      else
        let s := (s.release f.cl).countTrigger f.cl
        s.pendNew f (.trigger d) (.trigger (some { gal := f.cl, pos := (s.gal f.cl).p })))

/-- DONE records the exit value once and sends nothing (10 R219). -/
def execDone (_ : Dests) (s : State) : Host.Outcome State Fault Refusal :=
  let f := s.firing
  let v := if f.hasBubble || f.opA.poisoned 0 then 0xFFFFFFFF else f.opA.lane 0 % 2 ^ 32
  .next (s.modCtx f.cl (fun x => { x with exitVal := match x.exitVal with | some w => some w | none => some v }))

/-- CKPT forwards a; the first after a pre-emption request selects its entry and halts the cluster (10 R220). -/
def execCkpt (n : BitVec 8) (d : Dests) (s : State) : Host.Outcome State Fault Refusal :=
  let f := s.firing
  let s' := s.emitBoth f d (f.out (f.forward f.opA f.tag))
  .next (if (s.cl f.cl).preReq && (s.cl f.cl).ckSel.isNone then
      s'.modCl f.cl (fun x => { x with ckSel := some n.toNat, halt := .halting })
    else s')

/-! ## Tokens on their way (06 R128, R130 to R132, R137) -/

/-- A frame table's refusal of a tag-op ends the emitting unit (06 R128; ORIGIN 3 of 16 R345). -/
def State.topFail (s : State) (m : Msg) (t : Token) (code : Nat) : State :=
  (s.dropMsg m.id).endUnit code m.src m.emitter 0 3 t.tag 0

/-- The token goes on to its destination, its tag-op applied (06 R128). -/
def State.topForward (s : State) (m : Msg) (dst : Place) (t : Token) (tag : Tag) : State :=
  (s.dropMsg m.id).send 2 m.dst 64 dst.cluster (s.placeUnit dst) (.token dst 0 { t with tag := tag, aux := 0 })

/-- A held token of a frame waits for a slot that is free: its grant comes first (06 R130). -/
def State.grantDue (s : State) (t : Tag) (fr : Frame) : Bool :=
  (s.ctx (tagCluster t)).held.any (fun h => h.frame == tagSlot t && !fr.occ.testBit h.slot)

/-- `:next` of a token (06 R128, R130). A token to be held that finds no record of the reservation free stays in its
link buffer (06 R133). -/
def State.topNext (s : State) (m : Msg) (dst : Place) (t : Token) : State :=
  match s.frame t.tag with
  | none => s.topFail m t Code.TAG_STALE
  | some fr =>
    let i := (tagIter t.tag + 1) % fr.n
    if s.grantDue t.tag fr then s
    else if tagIter t.tag ≠ fr.newest then s.topForward m dst t (withIter t.tag i)
    else if fr.occ.testBit i then
      if (s.ctx m.dst).ovfUsed ≥ (s.ctx m.dst).resv then s else
      let (k, s) := s.fresh
      let s := s.setFrame t.tag { fr with pend := fr.pend + 1 }
      (s.dropMsg m.id).modCtx m.dst (fun x =>
        ({ x with held := x.held ++ [{ seq := k, frame := tagSlot t.tag, slot := i, dst := dst, tok := t }] } : Ctx).noteOvf)
    else (s.setFrame t.tag { fr with occ := fr.occ + 2 ^ i, newest := i }).topForward m dst t (withIter t.tag i)

/-- The frame owner applies a token's tag-op, or a firing's frame operation, in order of arrival (06 R128, 10 R208). -/
def execTagOpApply (k : Nat) (s : State) : Host.Outcome State Fault Refusal :=
  .next (match s.msg k with
    | none => s
    | some m =>
      if !s.arrived m then s
      else if s.stray m then (match m.pay with
        | .token .. => s.dropMsg k
        | .frameReq c j => (match s.pend c j with
          | some p => ((s.dropMsg k).pendDel c j).failFrame p.fir Code.TAG_STALE
          | none => s.dropMsg k)
        | _ => s)
      else match m.pay with
        | .frameReq c j =>
          (match s.pend c j with
          | some p => (s.dropMsg k).frameApply p
          | none => s.dropMsg k)
        | .token dst top t =>
          if top = 1 then s.topNext m dst t
          else if top = 2 then
            (match (s.frame t.tag).bind (·.parent) with
            | none => s.topFail m t Code.TAG_STALE
            | some p => s.topForward m dst t p)
          else if top = 3 then
            (match s.frame (auxTag t.aux) with
            | none => s.topFail m t Code.TAG_STALE
            | some fr => if fr.occ.testBit 0 then s.topForward m dst t (auxTag t.aux) else s.topFail m t Code.TAG_STALE)
          else s
        | _ => s)

/-- A freed slot is granted to the tokens held for it, in the order they were held (06 R130). -/
def execHeldTokenGrant (c fr slot : Nat) (s : State) : Host.Outcome State Fault Refusal :=
  let t := mkTag c fr slot
  let l := (s.ctx c).held.filter (fun h => h.frame == fr && h.slot == slot)
  .next (match s.frame t with
    | none => s
    | some e =>
      if l.isEmpty || e.occ.testBit slot then s
      else
        let s := s.setFrame t { e with occ := e.occ + 2 ^ slot, newest := slot, pend := e.pend - l.length }
        let s := s.modCtx c (fun x => { x with held := x.held.filter (fun h => !(h.frame == fr && h.slot == slot)) })
        l.foldl (fun s h => s.send 2 c 64 h.dst.cluster (s.placeUnit h.dst)
          (.token h.dst 0 { h.tok with tag := withIter h.tok.tag slot, aux := 0 })) s)

/-- A token waits at a stream port (06 R147). -/
def State.portPush (s : State) (c p : Nat) (t : PortTok) : State :=
  s.modCtx c (fun x => { x with ports := x.ports.put p { x.port p with queue := (x.port p).queue ++ [t] } })

/-- A message brings its token to its unit; a token for a unit that has ended is discarded (06 R131, 20 R367). -/
def execTokenArrive (k : Nat) (s : State) : Host.Outcome State Fault Refusal :=
  .next (match s.msg k with
    | none => s
    | some m =>
      if !s.arrived m then s
      else if s.stray m then
        (match m.pay with | .token _ 0 _ => s.dropMsg k | .portTok .. => s.dropMsg k | _ => s)
      else match m.pay with
        | .token (.node c u n p) 0 t =>
          (match s.arrive c u n p t with | some s' => s'.dropMsg k | none => s)
        | .token (.stream c p) 0 t => (s.dropMsg k).portPush c p { tok := t }
        | .portTok c p t => (s.dropMsg k).portPush c p t
        | _ => s)

/-- The spilled entry that goes back first: complete ones before incomplete, the oldest of a kind first (06 R132). -/
def Cluster.refill (x : Cluster) (u : Nat) : Option MEntry :=
  let l := x.ctx.matches_.filter (fun e => !e.inTable && e.fir.unit == u)
  match l.filter (fun e => x.complete e.fir) with
  | e :: rest => some (rest.foldl (fun a b => if b.seq < a.seq then b else a) e)
  | [] => match l with
    | e :: rest => some (rest.foldl (fun a b => if b.seq < a.seq then b else a) e)
    | [] => none

/-- A freed table entry is refilled from the overflow store (06 R132). -/
def execOverflowRefill (c u : Nat) (s : State) : Host.Outcome State Fault Refusal :=
  let x := s.cl c
  .next (if x.ctx.tableUsed u < tableSize u then
      match x.refill u with
      | some e => s.modCtx c (fun y => { y with matches_ := setEntry y.matches_ { e with inTable := true } })
      | none => s
    else s)

/-- A match complete for 1,024 cycles is promoted; so is an activation whose step has waited as long (06 R137, 08 R181). -/
def execMatchPromote (c k : Nat) (s : State) : Host.Outcome State Fault Refusal :=
  .next (match (s.ctx c).matches_.find? (·.seq == k) with
    | some e =>
      if 1024 ≤ e.age ∧ !e.promoted then
        (s.count c 0x0E4 1).modCtx c (fun y => { y with matches_ := setEntry y.matches_ { e with promoted := true } })
      else s
    | none =>
      if (s.ctx c).acts.any (fun a => a.seq == k && decide (1024 ≤ a.age) && !a.promoted) then
        (s.count c 0x0E4 1).modCtx c (fun y => { y with
          acts := y.acts.map (fun (a : Activation) => if a.seq = k then { a with promoted := true } else a) })
      else s)

end Sys2Proof.Machine
end

