-- ==== Sys2Proof/Machine/MemOps.lean ====
section
/-!
DEFINITION. The operations that memory instructions share: a checked and translated access, loads and their data,
stores and their appends, remote A-buffer accesses, skip lists, and ring objects (02 R36 to R44, 03 R60, R67, R74,
04 R78, R80, R96, 05 R116, 13 R273 to R280).
-/
namespace Sys2Proof.Machine

/-! ## Skip lists (03 R67) -/

/-- Add a range to a skip list, merged with the ranges it meets. -/
def mergeRange (l : List (Nat × Nat)) (lo hi : Nat) : List (Nat × Nat) :=
  let meets (r : Nat × Nat) : Bool := decide (r.1 ≤ hi + 1) && decide (lo ≤ r.2 + 1)
  let m := l.filter meets
  l.filter (fun r => !meets r) ++ [(m.foldl (fun n r => min n r.1) lo, m.foldl (fun n r => max n r.2) hi)]

/-- A storer lists a range; one that does not fit sets ALL (03 R67). Unit 35 is S1; the copy port lists with S0. -/
def Ctx.skipAdd (x : Ctx) (unit lo hi : Nat) : Ctx :=
  let l := mergeRange (if unit = 35 then x.skip1 else x.skip0) lo hi
  if 64 < l.length then { x with skipAll := true }
  else if unit = 35 then { x with skip1 := l } else { x with skip0 := l }

/-- The bubble operands of a storer's firing are listed; in the repair pass nothing is recorded (03 R67, R68). -/
def State.addSkips (s : State) (f : Firing) : State :=
  if (s.ctx f.cl).repair then s
  else f.bubbles.foldl (fun s b => s.modCtx f.cl (fun x => x.skipAdd f.unit b.olo b.ohi)) s

/-! ## A checked access (13 R273) -/

/-- Cause data of XLATE_FAULT: the cause and the faulting va, at bits the spec does not give (03 R51; log 21). -/
def xlateCause (cause va : Nat) : Nat := Config.cause Code.XLATE_FAULT [cause, va]

/-- The TLB entries of an access's parts have been used (03 R52). -/
def State.tlbUse (s : State) (c va w : Nat) : State :=
  (pageParts (w / 2 ^ 19 + 2) va w).foldl (fun s p => s.tlbTouch c p.1) s

/-- Check an access and translate it; it goes on with its space tag, offset and physical pieces. A failed check ends
the unit; a miss or a clean page holds the firing for its walk or dirty-bit update (03 R53, R71, 13 R273). -/
def State.access (s : State) (f : Firing) (tags : List Nat) (kind : AccKind) (p w : Nat) (misaligned : Bool)
    (go : Nat → Nat → List (Nat × Nat × Bool) → State) : State :=
  match s.check f.cl tags kind p w misaligned with
  | .bad code cause => s.fail f code cause
  | .ok tag off =>
    if tag ≠ 0 then go tag off []
    else match s.xlat f.cl kind off w with
      | .ok l => (go tag off l).tlbUse f.cl off w
      | .miss va => let r := s.startWalk f.cl va kind f none; r.2.rehold f (some r.1)
      | .dirty va => let r := s.startDirty f.cl va; r.2.rehold f (some r.1)
      | .fault cause va => s.fail f Code.XLATE_FAULT (xlateCause cause va)

/-- The wave member a firing is has been performed. -/
def State.waveIf (s : State) (f : Firing) (i : Instr) : State :=
  match waveOf i with | some w => s.waveDone f w | none => s

/-- A wave member that opens a wave needs a free entry at the moment it is performed (13 R276). -/
def State.waveFree (s : State) (f : Firing) (i : Instr) : Bool :=
  match waveOf i with
  | some w => !waveOpens w || waveLast w || (s.ctx f.cl).waveRoom (waveTile f.unit)
  | none => true

/-- The firing as performed by S0 on a compute PE's behalf: its outputs leave S0 (13 R275). -/
def Firing.atS0 (f : Firing) : Firing := if f.unit < 32 then { f with unit := 34 } else f

/-! ## Loads (13 R274, R278, R279) -/

/-- Width, lanes, sign extension, displacement and destinations of a load. -/
def loadShape : Instr → Option (Nat × Nat × Bool × Int × Dests)
  | .ld sg wm1 _ d => some (wm1.toNat + 1, 1, sg, 0, d)
  | .ldv sg wm1 _ d => some (wm1.toNat + 1, 2 ^ vecL2 (contOf (wm1.toNat + 1)), sg, 0, d)
  | .ldx sg wm1 k d => some (wm1.toNat + 1, 1, sg, Sys2Proof.sext k.toNat 32, d)
  | _ => none

/-- Physical pieces of an access, cut at sectors (02 R31). -/
def loadPieces (l : List (Nat × Nat × Bool)) : List Piece :=
  l.flatMap (fun p => (cutSectors (p.2.1 / 512 + 2) p.1 p.2.1 0).map (fun q => ({ pba := q.1, len := q.2.1, et := p.2.2 } : Piece)))

/-- What a sector's bits deliver: data, poison, and whether zeros were substituted (03 R74). -/
def Piece.deliver (p : Piece) : Nat × Bool × Bool :=
  match p.got with
  | none => (0, false, false)
  | some (v, bad) => if bad then (if p.et then (0, false, true) else (v, true, false)) else (v, false, false)

/-- The bits an access delivers, the poisoned ranges among them, and whether anything was substituted. -/
def gather : List Piece → Nat → Nat × List (Nat × Nat) × Bool
  | [], _ => (0, [], false)
  | p :: rest, o =>
    let r := gather rest (o + p.len)
    let q := p.deliver
    (q.1 % 2 ^ p.len + 2 ^ p.len * r.1, (if q.2.1 then (o, p.len) :: r.2.1 else r.2.1), q.2.2 || r.2.2)

/-- Bits [lo, lo + w) meet a poisoned range. -/
def meetsBad (bad : List (Nat × Nat)) (lo w : Nat) : Bool :=
  bad.any (fun r => decide (r.1 < lo + w) && decide (lo < r.1 + r.2))

/-- The token of loaded lanes of w bits: codes widened, a poisoned lane's code zero (07 R155, 13 R274, R278). -/
def Firing.loaded (f : Firing) (w lanes : Nat) (sg : Bool) (v : Nat) (bad : List (Nat × Nat)) : Token :=
  let cl2 := contOf w
  f.laneTok (Nat.log2 lanes) cl2 ((List.range lanes).map (fun j =>
    if meetsBad bad (j * w) w then (0, true) else (widen sg w cl2 (v / 2 ^ (j * w)), false)))

/-- A holder may take n entries at once: what is left of its own, and the pool (02 R43). -/
def Cluster.lineRooms (x : Cluster) (h n : Nat) : Bool :=
  n == 0 || decide (n - (lineReserved h - x.linesOfHolder h) +
    ([0, 1, 2, 3].map (fun k => x.linesOfHolder k - lineReserved k)).sum ≤ 32)

/-- The lines of a list that are not in flight as fills. -/
def Cluster.newFills (x : Cluster) (lines : List Nat) : List Nat :=
  (lines.eraseDups).filter (fun l => !x.fills.any (·.line == l))

/-- A line request for each line not in flight, charged to a holder (02 R41, R43). -/
def State.addFills (s : State) (c holder : Nat) (lines : List Nat) : State :=
  let new := (s.cl c).newFills lines
  new.foldl (fun s l => s.ask c 100 l (l * 2048)) (s.modCl c (fun x => { x with
    fills := x.fills ++ new.map (fun l => ({ line := l, sid := x.sid, holder := holder } : Fill)) }))

/-- Request the line of a bit address, as a load that misses would: a line that is present asks nothing, and with no
entry free the request waits (02 R43, 13 R281). -/
def State.prefLine (s : State) (c holder off : Nat) : State :=
  match s.xlat c .read off 1 with
  | .ok [(pba, _, _)] =>
    let s := s.tlbUse c off 1
    if (s.cl c).vc.has (pba / 2048) then s
    else if (s.cl c).lineRooms holder ((s.cl c).newFills [pba / 2048]).length then s.addFills c holder [pba / 2048]
    else s.modCl c (fun x => { x with prefWait := x.prefWait ++ [(holder, pba / 2048)] })
  | _ => s

/-- The prefetches that wait for an entry are tried again, the oldest first. -/
def State.prefRetry (s : State) (c : Nat) : State :=
  (s.cl c).prefWait.foldl (fun s p =>
    if (s.cl c).vc.has p.2 then s
    else if (s.cl c).lineRooms p.1 ((s.cl c).newFills [p.2]).length then s.addFills c p.1 [p.2]
    else s.modCl c (fun x => { x with prefWait := x.prefWait ++ [p] })) (s.modCl c (fun x => { x with prefWait := [] }))

/-- A piece served by the view cache in the cycle of its probe (02 R41, R42). -/
def Cluster.probe (x : Cluster) (p : Piece) : Piece :=
  if x.vcBusy then p
  else match x.vc.find (p.pba / 2048) with
    | some l => { p with got := some (l.data / 2 ^ (p.pba % 2048) % 2 ^ p.len, l.poison.testBit (p.pba % 2048 / 512)) }
    | none => p

/-- A use of a line, for its replacement (02 R40; log 12). -/
def State.useLine (s : State) (c line : Nat) : State :=
  match (s.cl c).vc.find line with
  | some l => s.modCl c (fun x => { x with vc := x.vc.put line { l with use := s.serial } })
  | none => s

/-- The lines of pieces that have no data. -/
def missing (ps : List Piece) : List Nat := (ps.filter (·.got.isNone)).map (·.pba / 2048)

/-- A load's pieces are probed and what misses is requested; the load counts as served by the view cache where every
piece was, and else as one that filled it, also where some of its lines hit or are in flight already (02 R41, R45;
log 70). -/
def State.loadProbe (s : State) (c holder : Nat) (ps : List Piece) : State × List Piece :=
  let qs := ps.map (s.cl c).probe
  let s := qs.foldl (fun s p => s.useLine c (p.pba / 2048)) s
  ((s.count c (if (missing qs).isEmpty then 0x042 else 0x043) 1).addFills c holder (missing qs), qs)

/-- Entries for what a load's probe misses are free (02 R43). -/
def State.loadRoom (s : State) (c holder : Nat) (ps : List Piece) : Bool :=
  (s.cl c).lineRooms holder ((s.cl c).newFills (missing (ps.map (s.cl c).probe))).length

/-- Issue a load of process memory: probe, request what misses, take the snapshot of A (13 R277, R279). While more than
1,024 entries are not folded it waits for its probe, and its snapshot is taken then (04 R80); with no line-request entry free it waits, and is counted
(02 R43). -/
def State.loadIssue (s : State) (f : Firing) (i : Instr) (w lanes : Nat) (sg : Bool) (l : List (Nat × Nat × Bool)) :
    State :=
  let x := s.cl f.cl
  let h := holderOf f.unit
  let ps := loadPieces l
  if decide (x.gal.a - x.gal.d > 1024) then s.pendNew f i (.load w lanes sg x.gal.a true ps)
  else if !s.loadRoom f.cl h ps then (s.waitReq f.cl f.unit true).rehold f none
  else
    let r := (s.waitReq f.cl f.unit false).loadProbe f.cl h ps
    (r.1.waveIf f i).pendNew f i (.load w lanes sg x.gal.a false r.2)

/-- An access of the own A-buffer asks its banks; the firing waits until they have served it (02 R34, R35). -/
def State.bankFire (s : State) (f : Firing) (i : Instr) (off w : Nat) (store : Option Nat) : State :=
  (s.pendNew f i .banks).bankAsk f.cl s.serial (bankPlace f.unit) off w store

/-- A load fires (13 R278). A register answers at once; the own A-buffer's banks and another cluster's are asked. -/
def State.loadFire (s : State) (i : Instr) : State :=
  let f := s.firing
  match loadShape i with
  | none => s
  | some (w, lanes, sg, disp, d) =>
    if s.idleAction f then (s.waveIf f i).emitBoth f d (f.passBubble { tag := f.tag })
    else match ptrOperand f.a with
      | .error code => s.fail f code
      | .ok p0 =>
        let p := ptrAdd p0 disp
        s.access f [0, 1, 7, 6] .read p (w * lanes) (ptrTag p = 6 && w * lanes ≠ 64) (fun tag off l =>
          if tag = 0 then s.loadIssue f i w lanes sg l
          else if tag = 1 then s.bankFire f i off (w * lanes) none
          else if tag = 6 then (s.waveIf f i).emitBoth f d (f.loaded w lanes sg (s.regRead (regOfPtr p)) [])
          else
            (s.pendNew f i .remote).send 0 f.cl f.unit (ptrCluster p) 65
              (.abuf (ptrCluster p) (ptrBufOff p) (w * lanes) none (f.cl, s.serial)))

/-- What pieces deliver, merged with own entries below a bound where they have not been captured (04 R80). -/
def State.readPieces (s : State) (c bound : Nat) (ps : List Piece) : Nat × List (Nat × Nat) × Bool :=
  gather (ps.map (fun p => if p.got.isSome then p else { p with got := some (s.readMerged c p.pba p.len bound) })) 0

/-- What the base image at the home delivers of translated pieces (04 R94). -/
def State.readBase (s : State) (l : List (Nat × Nat × Bool)) : Nat × List (Nat × Nat) × Bool :=
  gather ((loadPieces l).map (fun p => { p with got := some (s.mem.readBits p.pba p.len, s.bitsBad p.pba p.len) })) 0

/-- The same, merged with the cluster's own entries below a bound (04 R80, 13 R279). -/
def State.readOwn (s : State) (c bound : Nat) (l : List (Nat × Nat × Bool)) : Nat × List (Nat × Nat) × Bool :=
  s.readPieces c bound (loadPieces l)

/-- A read of the cluster issued at a position waits while more than 1,024 entries below it are not folded (04 R80). -/
def State.readLag (s : State) (c issued : Nat) : Bool := decide ((s.gal c).d + 1024 < issued)

/-- One substitution counts for an access that met it (03 R74). -/
def State.substIf (s : State) (c : Nat) (b : Bool) : State := if b then s.countSubst c else s

/-! ## Stores (04 R78, 13 R278) -/

/-- A stretch of an access's bits: offset, length, data, poison. -/
abbrev Run := Nat × Nat × Nat × Bool

/-- Lanes of w bits from an offset, one run for each stretch of equal poison (13 R278). -/
def laneRuns (w : Nat) : List (Nat × Bool) → Nat → List Run
  | [], _ => []
  | (v, b) :: rest, o =>
    match laneRuns w rest (o + w) with
    | (_, n, dat, b') :: more =>
      if b = b' then (o, w + n, (if b then 0 else v % 2 ^ w) + 2 ^ w * dat, b) :: more
      else (o, w, (if b then 0 else v % 2 ^ w), b) :: (o + w, n, dat, b') :: more
    | [] => [(o, w, (if b then 0 else v % 2 ^ w), b)]

/-- Runs laid over the physical pieces of their access. -/
def overlay : List (Nat × Nat × Bool) → Nat → List Run → List (Nat × Nat × Nat × Bool)
  | [], _, _ => []
  | (pba, n, _) :: rest, o, runs =>
    runs.filterMap (fun r =>
      let lo := max o r.1; let hi := min (o + n) (r.1 + r.2.1)
      if lo < hi then some (pba + (lo - o), hi - lo, r.2.2.1 / 2 ^ (lo - r.1) % 2 ^ (hi - lo), r.2.2.2) else none) ++
    overlay rest (o + n) runs

/-- The bits of runs as one number. -/
def runBits (l : List Run) : Nat := l.foldl (fun n r => n + r.2.2.1 % 2 ^ r.2.1 * 2 ^ r.1) 0

/-- Width, vector form, displacement and destinations of a store. -/
def storeShape : Instr → Option (Nat × Bool × Int × Dests)
  | .st wm1 _ d => some (wm1.toNat + 1, false, 0, d)
  | .stv wm1 _ d => some (wm1.toNat + 1, true, 0, d)
  | .stx wm1 k d => some (wm1.toNat + 1, false, Sys2Proof.sext k.toNat 32, d)
  | _ => none

/-- The destinations of a firing that sends a onward. -/
def State.sendA (s : State) (f : Firing) (d : Dests) : State := s.emitBoth f d (f.forward f.opA f.tag)

/-- A store has been performed: its wave goes on and a leaves (13 R277, R278). -/
def State.storeDone (s : State) (f : Firing) (i : Instr) : State :=
  match storeShape i with
  | some (_, _, _, d) => (s.waveIf f i).sendA f d
  | none => s

/-- SOURCE of an edge tile's entry: 4 for S0, 5 for S1 (04 R77). -/
def storeSource (u : Nat) : Nat := if u = 35 then 5 else 4

/-- A store's pieces take consecutive positions (04 R78) and it has been performed; none: a full ring, an appender
before it, or a full wave table holds it back (04 R96, 13 R276). -/
def State.storePerform (s : State) (f : Firing) (i : Instr) (sid : Nat) (l : List (Nat × Nat × Nat × Bool)) : Option State :=
  let src := storeSource f.unit
  if s.mayAppend f.cl (appPlace src) (piecesCut l).length && s.waveFree f i then
    some (((s.appendAll f.cl 0 src sid l).waitApp f.cl (appPlace src) false).storeDone f i)
  else none

/-- Append a store's pieces, or wait with them (04 R96). -/
def State.storeAppend (s : State) (f : Firing) (i : Instr) (l : List (Nat × Nat × Nat × Bool)) : State :=
  let sid := (s.cl f.cl).sid
  match s.storePerform f i sid l with
  | some s => s
  | none =>
    let place := appPlace (storeSource f.unit)
    (s.waitApp f.cl place (!s.mayAppend f.cl place (piecesCut l).length)).pendNew f i (.append l sid (storeSource f.unit))

/-- A lane of b fits a store: at least w bits, or exactly the container of w (13 R278). -/
def storeFits (vec : Bool) (w : Nat) (b : Token) : Bool := if vec then b.cl2 == contOf w else decide (w ≤ b.cont)

/-- The lanes a store writes. -/
def storeLanes (vec : Bool) (b : Token) : List (Nat × Bool) :=
  (List.range (if vec then b.g else 1)).map (fun j => b.src j)

/-- Operand checks of a store, then its runs and pointer (13 R273, R278; log 32). -/
def storeOperands (i : Instr) (f : Firing) : Except Nat (Nat × List Run) :=
  match storeShape i, f.b with
  | some (w, vec, disp, _), some b =>
    (match ptrOperand f.a with
    | .error code => .error code
    | .ok p => if storeFits vec w b then .ok (ptrAdd p disp, laneRuns w (storeLanes vec b) 0) else .error Code.LANE_MISMATCH)
  | _, _ => .error Code.LANE_MISMATCH

/-! ## Rings (05 R116, R117) -/

/-- WSLOT advances over the filled slots in claim order (05 R116). -/
def Ring.advance : Nat → Ring → Ring
  | 0, r => r
  | n + 1, r => if r.wslot < r.claim ∧ r.filled.has r.wslot then Ring.advance n { r with wslot := r.wslot + 1 } else r

/-- Mark a claimed slot filled with its stamp. -/
def Ring.fill (r : Ring) (slot : Nat) (st : Option Stamp) : Ring :=
  Ring.advance 1025 { r with filled := r.filled.put slot st }

/-- RSLOT advances by one; the slot's stamp goes. -/
def Ring.pass (r : Ring) : Ring := { r with rslot := r.rslot + 1, filled := r.filled.del r.rslot }

/-- RSLOT advances over released slots in claim order (13 R297). -/
def Ring.settle : Nat → Ring → Ring
  | 0, r => r
  | n + 1, r =>
    if r.released.contains r.rslot then
      Ring.settle n { r.pass with released := r.released.filter (· != r.rslot) }
    else r

/-- A pop releases its slot. -/
def Ring.release (r : Ring) (slot : Nat) : Ring := Ring.settle 1025 { r with released := r.released ++ [slot] }

/-- The pointer of a slot (05 R116, 13 R296). -/
def Ring.slotPtr (r : Ring) (slot : Nat) : Nat := ptrAdd r.base.toNat ((slot % 2 ^ r.log2n * r.slot : Nat) : Int)

/-- A ring handle's owner and number. -/
def handleRing (p : Nat) : Nat × Nat := (ptrCluster p, p % 16)

def State.ringOf (s : State) (p : Nat) : Ring := (s.ctx (handleRing p).1).ring (handleRing p).2

end Sys2Proof.Machine
end

