-- ==== Sys2Proof/Machine/Objects.lean ====
section
/-!
DEFINITION. Completion objects: timelines, copy tags, network contexts and filled ring slots, with the stamps they
hold (04 R92, 05 R112, R113, R116, R118, 15 R307, 23 R408, 25 R431).
-/
namespace Sys2Proof.Machine

/-! ## Network contexts (25 R431) -/

def State.netPa (s : State) (ctx : Nat) : Nat := s.hub.netBase * 4096 + 64 * ctx
def State.netWord (s : State) (ctx w : Nat) : Nat := s.mem.word (s.netPa ctx + 8 * w)
def State.netSid (s : State) (ctx : Nat) : Nat := bits (s.netWord ctx 0) 47 32
def State.netCtx (s : State) (ctx : Nat) : NetCtx := s.hub.net.get {} ctx
def State.modNet (s : State) (ctx : Nat) (f : NetCtx → NetCtx) : State :=
  s.modHub (fun h => { h with net := h.net.put ctx (f (s.netCtx ctx)) })

/-- A context in use that is bound to a cluster's space (16 R333). -/
def State.netBound (s : State) (c ctx : Nat) : Bool :=
  decide (ctx < 1024) && (s.netWord ctx 0).testBit 63 && s.netSid ctx == (s.cl c).sid

/-! ## Timelines (05 R118, 15 R307, 23 R408) -/

/-- VIEW of a channel's timeline: CH_TL less the context's bias. -/
def State.chView (s : State) (c k : Nat) : Nat :=
  zextInt (((((s.ctx c).chan k).tl : Nat) : Int) - (((s.ctx c).tlBias.get 0 k : Nat) : Int)) 64

def State.mxView (s : State) (c k : Nat) : Nat :=
  zextInt ((((s.cl c).mxTl.get 0 k : Nat) : Int) - (((s.ctx c).mxBias.get 0 k : Nat) : Int)) 64

/-- The value of the timeline a selector names, and the stamp it holds (16 R333). -/
def State.timeline (s : State) (c : Nat) : TlSel → Nat × Option Stamp
  | .ch k => (s.chView c k.toNat, ((s.ctx c).chan k.toNat).stamp)
  | .mx k => (s.mxView c k.toNat, none)
  | .net k => ((s.netCtx k.toNat).tl, (s.netCtx k.toNat).stamp)

/-! ## Copy tags (05 R112, R113) -/

/-- What a retirement makes of a tag: its bit is set, and it holds the stamp of R113. -/
def stampInto (bit : Bool) (old new : Option Stamp) : Option Stamp :=
  match bit, old, new with
  | false, _, q => q
  | true, o, none => o
  | true, none, q => q
  | true, some p, some q => some { gal := q.gal, pos := max p.pos q.pos }

/-- Hold a tag's stamp, or none. -/
def putStamp (t : Tbl Stamp) (tag : Nat) : Option Stamp → Tbl Stamp
  | some q => t.put tag q
  | none => t.del tag

/-- Clear tags and their stamps; what retirements of the same cycle have set comes after it (05 R112, 16 R335). -/
def Ctx.clearTags (x : Ctx) (m : Nat) : Ctx :=
  let late := x.setNow.filter (fun p => m.testBit p.1)
  { x with ready := late.foldl (fun n p => n ||| 2 ^ p.1) (x.ready - (x.ready &&& m))
           tagStamps := late.foldl (fun t p => putStamp t p.1 p.2) (x.tagStamps.filter (fun p => !m.testBit p.1))
           clrNow := x.clrNow ||| m }

/-- A retirement may set a tag: not while it holds another galley's stamp (05 R113). -/
def Ctx.tagFree (x : Ctx) (tag : Nat) (st : Option Stamp) : Bool :=
  !x.ready.testBit tag || (match x.tagStamps.find tag, st with
    | some p, some q => p.gal == q.gal
    | _, _ => true)

/-- A retirement sets a tag (05 R113). -/
def Ctx.setTag (x : Ctx) (tag : Nat) (st : Option Stamp) : Ctx :=
  { x with ready := x.ready ||| 2 ^ tag
           tagStamps := putStamp x.tagStamps tag (stampInto (x.ready.testBit tag) (x.tagStamps.find tag) st)
           setNow := x.setNow.put tag (stampInto (x.setNow.has tag) (x.setNow.get none tag) st) }

/-- A cycle of the copy tags passes (16 R335). -/
def Ctx.tagCycle (x : Ctx) : Ctx := { x with setNow := [], clrNow := 0 }

/-- The stamps of the tags in a mask. -/
def Ctx.stampsOf (x : Ctx) (m : Nat) : List Stamp :=
  (x.tagStamps.filter (fun p => m.testBit p.1)).map (·.2)

/-- An ACQ of stamps: each distinct galley but the own, to its highest position (10 R230, 16 R334). -/
def acqOf (c : Nat) (l : List Stamp) : List (Nat × Nat) :=
  mergeStamps ((l.filter (fun q => q.gal != c)).map (fun q => (q.gal, q.pos)))

/-- Such an acquire can be performed: every mirror position has been reached, and its marker has room (04 R84). -/
def State.stampsSeen (s : State) (c : Nat) (l : List Stamp) : Bool :=
  let a := acqOf c l
  a.isEmpty || (s.acqReady c a && s.markerRoom c a)

def State.acquireStamps (s : State) (c : Nat) (l : List Stamp) : State :=
  let a := acqOf c l
  if a.isEmpty then s else s.acquire c a

end Sys2Proof.Machine
end

