-- ==== Sys2Proof/Machine/RegOps.lean ====
section
/-!
DEFINITION. The operations that system registers start, and the hub's own operations that instructions share:
channel starts, rings, counters, slots, cancel, halts, pre-emption requests, invalidation, and hub stores
(03 R46, R54, R71, 05 R102, R112, R114, 20 R358 to R363, 23 R404, R405, R413).
-/
namespace Sys2Proof.Machine

/-! ## Copy channels and rings -/

/-- A write of CH_HEAD, with the result CPGO reports: 1 started, 2 nothing starts, 0 refused (05 R102, 16 R331). -/
def State.chHead (s : State) (c k v : Nat) : State × Nat :=
  let x := s.ctx c
  let h := x.chan k
  if h.busy || h.frozen || (k == 3 && (s.cl c).serving) then (s.modChan c k (fun h => { h with lastStat := 4 }), 0)
  else if v = 0 then (s, 2)
  else
    (s.modChan c k (fun h =>
      { h with busy := true, head := BitVec.ofNat 64 v, cur := 0, rec_ := none, issueA := (s.gal c).a,
               waiting := decide ((s.gal c).d < (s.gal c).a) }), 1)

/-- A W1C write of CL_READY clears bits with their stamps (05 R112). -/
def State.readyClear (s : State) (c m : Nat) : State := s.modCtx c (fun x => x.clearTags m)

/-- A CL_RING_CFG write with EN = 1: ignored while the ring is enabled, or where the values do not fit (05 R114). -/
def State.ringEnable (s : State) (c r cfg : Nat) : State :=
  s.modRing c r (fun g =>
    if g.en || bits cfg 40 16 = 0 || 10 < bits cfg 15 12 || 1 < ptrTag g.base.toNat then g
    else { g with slot := bits cfg 40 16, log2n := bits cfg 15 12, mode := cfg.testBit 2, en := true })

/-- Writing EN := 0 resets the pointers and drops the slot stamps (05 R114); the other fields are written only while
EN = 0. -/
def State.ringDisable (s : State) (c r cfg : Nat) : State :=
  s.modRing c r (fun g =>
    if g.en then { g with en := false, wslot := 0, rslot := 0, claim := 0, popc := 0, filled := [], released := [] }
    else { g with slot := bits cfg 40 16, log2n := bits cfg 15 12, mode := cfg.testBit 2 })

def State.ringCfg (s : State) (c r cfg : Nat) : State :=
  if cfg.testBit 0 then s.ringEnable c r cfg else s.ringDisable c r cfg

/-- CL_RING_BASE is writable only while EN = 0 (05 R114). -/
def State.ringBase (s : State) (c r v : Nat) : State :=
  s.modRing c r (fun g => if g.en then g else { g with base := BitVec.ofNat 64 v })

/-! ## Checked units (07 R159) -/

/-- A cluster holds a loaded forme. -/
def Cluster.loaded (x : Cluster) : Bool := x.slot.isSome

def State.peMode (s : State) (c u v : Nat) : State :=
  if (s.cl c).loaded || 4 < v % 8 then s else s.modPe c u (fun p => { p with mode := v % 8 })

def State.peXen (s : State) (c u v : Nat) : State :=
  if (s.cl c).loaded then s else s.modPe c u (fun p => { p with xen := v % 128 })

/-- A write of one bits clears flags; those that a firing of the same cycle has set remain (07 R160). -/
def State.peFlagsClear (s : State) (c u v : Nat) : State :=
  s.modPe c u (fun p => { p with flags := (p.flags - (p.flags &&& (v % 128))) ||| p.now })

/-- A firing of the unit itself clears its flags: what its firings before have set, they set in earlier slots. -/
def State.peFlagsDrop (s : State) (c u v : Nat) : State :=
  s.modPe c u (fun p => { p with flags := p.flags - (p.flags &&& (v % 128)), now := p.now - (p.now &&& (v % 128)) })

/-! ## Halts (23 R413) -/

/-- A halt starts while the cluster runs, in a mode (true: HALT_FREEZE). -/
def State.haltStart (s : State) (c : Nat) (freeze : Bool) : State :=
  s.modCl c (fun x => match x.halt with
    | .run => { x with halt := .halting, haltAs := freeze, brkMark := true }
    | .stepping => { x with halt := .halting, haltAs := freeze, stepLeft := 0, brkMark := true }
    | _ => { x with brkMark := true })

/-- A pre-emption, not a debugger, has halted the cluster or is halting it (23 R406). -/
def Cluster.preHalt (x : Cluster) : Bool :=
  x.preReq && (match x.halt with | .run => false | .stepping => false | _ => true)

/-- A critical halt is in force and some die's TMAX has not fallen below 100 °C: nothing resumes (27 R446). -/
def State.critHold (s : State) : Bool :=
  s.therm.any (fun p => p.2.stat == 3) && s.therm.any (fun p => decide (800 ≤ sext p.2.tmax 12))

/-- RESUME of a halted cluster: frozen channels fetch CH_HEAD, endpoints unfreeze, the quiet count restarts
(05 R121, 22 R397, 23 R413). -/
def State.resume (s : State) (c : Nat) : State :=
  let a := (s.gal c).a
  if s.critHold || !s.hub.toFence.isEmpty then s else s.modCl c (fun x => match x.halt with
    | .halted =>
      { x with
        halt := if x.stepN = 0 then .run else .stepping
        stepLeft := x.stepN
        brkMark := false
        quiet := 0
        frozenPorts := false
        ctx := { x.ctx with chans := x.ctx.chans.map (fun (p : Nat × Channel) =>
          (p.1, if p.2.frozen then { p.2 with frozen := false, issueA := a } else p.2)) } }
    | _ => x)

/-- A write of CL_HALT (23 R413). -/
def State.haltWrite (s : State) (c v : Nat) : State :=
  let s := s.modCl c (fun x => { x with stepN := bits v 47 32, haltMode := v.testBit 2 })
  match (s.cl c).halt with
  | .run => if v.testBit 0 then s.haltStart c (v.testBit 2) else s
  | .halted => if v.testBit 1 then s.resume c else s
  | _ => s

/-! ## The view cache (02 R42) -/

/-- A full invalidation starts; the lines go at once, and loads that arrive meanwhile miss. -/
def State.vcInval (s : State) (c : Nat) : State :=
  s.modCl c (fun x => if x.vcBusy then x else { x.invalAll with vcBusy := true })

/-! ## Invalidation of translations (03 R54) -/

/-- A TLB entry lies in the scope of an invalidation: scope, SID, VA, size. -/
def TlbEnt.inScope (e : TlbEnt) (r : Nat × Nat × Nat × Nat) : Bool :=
  let (scope, sid, va, size) := r
  if scope = 0 then e.sid == sid && e.size == size && e.page == va / 8 / 2 ^ pageBits size
  else if scope = 1 then e.sid == sid
  else true

/-- Drop every matching entry, in every TLB; the walk caches, whose entries name no page, go whole, and walks in
progress start again (03 R54). -/
def State.dropTlb (s : State) (r : Nat × Nat × Nat × Nat) : State :=
  let f (l : List TlbEnt) : List TlbEnt := l.filter (fun e => !e.inScope r)
  { s with
    cls := s.cls.map (fun (p : Nat × Cluster) => (p.1, { p.2 with
      tlb := f p.2.tlb, walkCache := [], here := p.2.walks.foldl (fun t w => t.del (4096 + w.id)) p.2.here }))
    dies := s.dies.map (fun (p : Nat × Die) => (p.1, { p.2 with l2 := f p.2.l2 }))
    hub := { s.hub with hubTlb := f s.hub.hubTlb, netTlb := f s.hub.netTlb, stoTlb := f s.hub.stoTlb } }

/-- GO: with SCOPE 11 or while BUSY it has no effect. -/
def State.tlbGo (s : State) (scope sid va size : Nat) : State :=
  if s.hub.invBusy || 2 < scope then s
  else (s.dropTlb (scope, sid, va, size)).modHub (fun h => { h with invBusy := true, invRun := (scope, sid, va, size) })

/-! ## Lost tables (03 R56) -/

/-- Cause data of PTE_LOST: the table's primary address, at bits the spec does not give (03 R56; log 21). -/
def lostCause (table : Nat) : Nat := Config.cause Code.PTE_LOST [table]

/-- The clusters on which a launch of a SID runs. -/
def State.clustersOf (s : State) (sid : Nat) : List Nat :=
  (s.cls.filter (fun p => p.2.sid == sid && p.2.slot.isSome && p.2.stat != .saved)).map (·.1)

/-- A cluster halts as under HALT_DRAIN, unless a halt already holds it. -/
def State.quiesceCl (s : State) (c : Nat) : State :=
  match (s.cl c).halt with
  | .run => (s.haltStart c false).modCl c (fun x => { x with quiesced := true })
  | .stepping => (s.haltStart c false).modCl c (fun x => { x with quiesced := true })
  | _ => s

/-- One cluster of each job. -/
def State.oneOfJob (s : State) (l : List Nat) : List Nat :=
  l.foldl (fun r c => if r.any (fun d => s.jobQueue d == s.jobQueue c) then r else r ++ [c]) []

/-- Quiesce a SID: its clusters and port contexts halt, and each job gets a record (03 R56). -/
def State.quiesceSid (s : State) (pa sid : Nat) : State :=
  if s.hub.quiesced.contains sid then s
  else
    let cs := s.clustersOf sid
    let s := cs.foldl (fun s c => s.quiesceCl c) s
    let s := s.modHub (fun h => { h with quiesced := h.quiesced ++ [sid] })
    (s.oneOfJob cs).foldl (fun s c => s.jobRecord Code.PTE_LOST c 0 0 4 0 (lostCause pa)) s

/-! ## Hub translation and stores (03 R46, R71, 20 R368) -/

/-- Beside the causes of XLATE_FAULT: the access has met a lost table, and waits (03 R56). -/
def hubWaits : Nat := 8

/-- A walk of the hub meets a lost table: it is reported once, its space is quiesced, and the walk waits (03 R56). -/
def State.hubLost (s : State) (sid table : Nat) : State :=
  if s.hub.lostWalks.contains (sid, table) then s
  else ((s.modHub (fun h => { h with lostWalks := h.lostWalks ++ [(sid, table)] })).pushFault
    { queue := nymtorQueue, code := Code.PTE_LOST, origin := 4, sid := sid, cause := lostCause table }).quiesceSid table sid

/-- The hub's TLBs: 0 the system cores', 1 the network port's, 2 the storage port's. -/
def Hub.tlb (h : Hub) (t : Nat) : List TlbEnt := if t = 0 then h.hubTlb else if t = 1 then h.netTlb else h.stoTlb

def Hub.setTlb (h : Hub) (t : Nat) (l : List TlbEnt) : Hub :=
  if t = 0 then { h with hubTlb := l } else if t = 1 then { h with netTlb := l } else { h with stoTlb := l }

/-- The leaf of a page is marked dirty and not clean-pending in both copies (03 R71). -/
def State.markDirty (s : State) (sid va : Nat) : State :=
  match s.walk sid va with
  | .leaf _ p _ _ => s.updatePte p (fun v => setBits (setBits v 60 1 1) 61 1 0)
  | _ => s

/-- Translate one address for a hub agent: its TLB, then a walk; a write marks the page dirty first (03 R46, R71). -/
def State.hubXlat (s : State) (t sid va : Nat) (kind : AccKind) : State × Except Nat TlbEnt :=
  let r : State × Except Nat TlbEnt := match (s.hub.tlb t).find? (fun e => e.hits sid va) with
    | some e => (s, if e.allows kind false then .ok e else .error 3)
    | none =>
      match s.translate sid va kind false with
      | (s, .error _, some p, _) => (s.hubLost sid p, .error hubWaits)
      | (s, e, _, _) => (s, e)
  match r with
  | (s, .error k) => (s, .error k)
  | (s, .ok e) =>
    let clean := kind ≠ .read ∧ (!e.dirty ∨ e.cp)
    let e' := if clean then { e with dirty := true, cp := false } else e
    let s := if clean then s.markDirty sid va else s
    (s.modHub (fun h => h.setTlb t (tlbPut 1024 (h.tlb t) e')), .ok e')

/-- The physical pieces of an access by a hub agent; the error is a cause of XLATE_FAULT. -/
def State.hubParts (s : State) (t sid : Nat) (kind : AccKind) :
    List (Nat × Nat) → State × Except Nat (List (Nat × Nat × Bool))
  | [] => (s, .ok [])
  | (va, n) :: rest =>
    match s.hubXlat t sid va kind with
    | (s, .error k) => (s, .error k)
    | (s, .ok e) =>
      match State.hubParts s t sid kind rest with
      | (s, .ok l) => (s, .ok ((e.pba va, n, e.et) :: l))
      | r => r

def State.hubPieces (s : State) (t sid : Nat) (kind : AccKind) (va w : Nat) :
    State × Except Nat (List (Nat × Nat × Bool)) :=
  s.hubParts t sid kind (pageParts (w / 2 ^ 19 + 2) va w)

/-- A hub agent stores runs of an access through a hub galley, SOURCE 7 (04 R77). None: the ring is full, or a table is
lost, and the store waits. A page that does not translate takes no store. -/
def State.hubStore (s : State) (t g sid va w : Nat) (runs : List Run) : Option State :=
  match s.hubPieces t sid .write va w with
  | (s, .error k) => if k = hubWaits then none else some s
  | (s, .ok l) =>
    let ps := overlay l 0 runs
    if s.galRoom g (piecesCut ps).length then some (s.appendAll g 0 7 sid ps) else none

/-- A hub galley's appender waits for room (04 R96). -/
def State.hubWait (s : State) (g : Nat) (who : HubApp) (n : Nat) : State :=
  s.modHub (fun h => { h with galWait := h.galWait.filter (fun p => p.1 != g || p.2.1 != who) ++ [(g, who, n)] })

/-- What a store of a hub agent that waits has found: a lost table is reported, once (03 R56), and a full ring makes it a
waiting appender (04 R96). -/
def State.hubStuck (s : State) (t sid va w : Nat) (who : HubApp := .firm sid va) : State :=
  match s.hubPieces t sid .write va w with
  | (s', .error k) => if k = hubWaits then s' else s
  | (_, .ok l) => s.hubWait (if t = 0 then 1026 else 1023 + t) who (piecesCut (overlay l 0 [(0, w, 0, false)])).length

/-- The hub galleys' cycle: GAL_STALL counts each appender that still has no room (04 R96). -/
def State.hubStall (s : State) : State :=
  let l := s.hub.galWait.filter (fun p => !s.galRoom p.1 p.2.2)
  l.foldl (fun (s : State) (p : Nat × HubApp × Nat) => s.modGal p.1 (fun y => { y with stall := (y.stall + 1) % 2 ^ 48 }))
    (s.modHub (fun h => { h with galWait := l }))

/-- A hub agent's copy read of process memory: data, poisoned ranges, substitution (04 R94). -/
def State.hubRead (s : State) (t sid va w : Nat) : State × Except Nat (Nat × List (Nat × Nat) × Bool) :=
  match s.hubPieces t sid .read va w with
  | (s, .error k) => (s, .error k)
  | (s, .ok l) => (s, .ok (s.readBase l))

/-! ## Completion counters (20 R358 to R360, R370) -/

def State.modCnt (s : State) (n : Nat) (f : Counter → Counter) : State :=
  s.modHub (fun h => { h with cnts := h.cnts.put n (f (h.cnts.get {} n)) })

/-- ARM on a free counter (20 R358); counter 4095 is never armed. -/
def State.cntArm (s : State) (n : Nat) (pv : Bool) (parent arg : Nat) : State :=
  if n < 4095 ∧ (s.counter n).status = 0 then
    s.modCnt n (fun c => { c with status := 1, remain := arg, pv := pv, parent := parent, flt := false, ln := false,
                                  trigLeft := 0, err := false })
  else s

/-- ADD on an armed counter (20 R358). -/
def State.cntAdd (s : State) (n arg : Nat) : State :=
  if (s.counter n).status = 1 then
    s.modCnt n (fun c => if c.remain + arg ≤ 2 ^ 23 - 1 then { c with remain := c.remain + arg, err := false }
      else { c with err := true })
  else s

/-- FREE of a completed counter (20 R358); a job counter that is freed is its job's no longer. -/
def State.cntFree (s : State) (n : Nat) : State :=
  if (s.counter n).status = 2 ∨ (s.counter n).status = 3 ∨ (s.counter n).status = 4 then
    (s.modCnt n (fun c => { c with status := 0 })).modHub (fun h => { h with jobs := h.jobs.filter (· != n) })
  else s

/-- PARENT of a launch counter: GCNT, or PCNT, or JCNT (20 R365). -/
def Bind.parent (b : Bind) : Nat := if b.gcnt ≠ 0xFFF then b.gcnt else if b.pcnt ≠ 0xFFF then b.pcnt else b.jcnt

/-- A launch counter armed by dispatch (20 R365 step 1). -/
def State.armLaunch (s : State) (b : Bind) (n : Nat) : State :=
  s.modCnt b.lcnt (fun c => { c with status := 1, remain := n, pv := true, parent := b.parent, flt := false, ln := true,
                                     trigLeft := n, err := false, trigs := [] })

/-- A lease is counted against its pages, or no longer (03 R58, R61). -/
def Hub.countLeases (h : Hub) (pages : List Nat) (add : Bool) : Hub :=
  { h with leases := pages.foldl (fun t p =>
      let n := t.get 0 p
      if add then t.put p (n + 1) else if n ≤ 1 then t.del p else t.put p (n - 1)) h.leases }

/-- A slot is freed: nothing of its launch remains but its trigger positions, and its lease has ended. -/
def State.dropSlot (s : State) (k : Nat) : State :=
  ((s.modHub (fun h => h.countLeases (s.slot k).pages false)).modCnt (Bind.of (s.slot k).words).lcnt
    (fun c => { c with trigs := (s.slot k).trig.map (·.2) })).modSlot k (fun _ => {})

/-- A predecessor counter satisfied early: a launch counter every cluster of which has triggered (20 R369). -/
def Counter.early (c : Counter) : Bool := c.ln && c.trigLeft == 0

/-- A bound slot that a failed predecessor frees: ROF = 0, and not satisfied by an earlier trigger (20 R370). -/
def State.freedBy (s : State) (n k : Nat) : Bool :=
  let sl := s.slot k
  let b := Bind.of sl.words
  let c := s.counter n
  sl.state == 1 && !b.rof &&
    ((b.pred1 == n && !(b.e1 && c.early)) || (b.pred2 == n && !(b.e2 && c.early)))

/-- Slots of the table. -/
def slotRange : List Nat := List.range 256

/-- Key of a cluster's entry in the positions of a launch's end: its place in the partition, and its galley. -/
def endKey (idx c : Nat) : Nat := 2048 * idx + c
def endGal (k : Nat) : Nat := k % 2048
def Slot.ended (sl : Slot) (idx : Nat) : Bool := sl.endA.any (fun p => p.1 / 2048 == idx)

/-- A counter that serves as a job's: a bind record, a queue or Nymtor's table of spaces names it so (20 R359, R361). -/
def Hub.isJob (h : Hub) (n : Nat) : Bool :=
  n != 0xFFF && (h.jobs.contains n || h.jobSids.has n || h.queues.any (fun p => p.2.job == n))

/-- A signal to a counter; at zero it completes, signals its parent, posts a job's completion, and frees the bound
slots that a failed predecessor frees (20 R359, R360, R370). -/
def State.signal : Nat → State → Nat → Bool → State
  | 0, s, _, _ => s
  | fuel + 1, s, n, flt =>
    let c := s.counter n
    if c.status ≠ 1 ∧ c.status ≠ 5 then s
    else
      let c := { c with remain := c.remain - 1, flt := c.flt || flt }
      if c.remain ≠ 0 then s.modCnt n (fun _ => c)
      else
        let st := if c.status = 5 then 4 else if c.flt then 3 else 2
        let s := s.modCnt n (fun _ => { c with status := st })
        let s := if s.hub.isJob n then
            s.modHub (fun h => { h with comps := h.comps ++ [({ cid := 0xFFFFFFFF, status := 0, result := n } : Completion)] })
          else s
        let s := if c.pv then State.signal fuel s c.parent (decide (st ≠ 2)) else s
        if st = 2 then s
        else slotRange.foldl (fun s k =>
          if s.freedBy n k then
            let sl := s.slot k
            let b := Bind.of sl.words
            let s := (s.dropSlot k).armLaunch b sl.clusters.length
            sl.clusters.foldl (fun s _ => State.signal fuel s b.lcnt true) s
          else s) s

/-- Levels of counters and successors that one signal can pass through. -/
def signalFuel : Nat := 8192

def State.cntSignal (s : State) (n : Nat) (flt : Bool) : State := State.signal signalFuel s n flt

/-- A bound slot is freed: its launch counter is armed and signalled once for each cluster (20 R360). -/
def State.freeBound (s : State) (k : Nat) : State :=
  let sl := s.slot k
  let b := Bind.of sl.words
  let s := (s.dropSlot k).armLaunch b sl.clusters.length
  sl.clusters.foldl (fun s _ => s.cntSignal b.lcnt true) s

/-- A slot's image leaves a shadow store. -/
def Cluster.dropImage (x : Cluster) (k : Nat) : Cluster :=
  match x.shadow with
  | some im => if im.slot = k then { x with shadow := none, marks := [] } else x
  | none => x

/-- An operation of HUB_PRE ends with a RESULT (23 R404). -/
def State.preResult (s : State) (r : Nat) : State := s.modHub (fun h => { h with preRes := r, preStat := 0 })

/-- The clusters reserved for a restore are given back. -/
def State.unreserve (s : State) (k : Nat) : State :=
  { s with cls := s.cls.map (fun (p : Nat × Cluster) =>
      (p.1, if p.2.slot = some k ∧ p.2.stat = .saved then
        { p.2 with slot := none, stat := .idle, savedWait := false
                   banks := p.2.banks.filter (fun q => some q.key != (s.slot k).loading) }
      else p.2)) }

/-- The units of a running slot are cancelled: each ends under R367. A saved slot's contexts go, and it ends with
them, at the positions its clusters' galleys hold; a restore of it under way ends, as one of a slot that is not saved
(03 R61, 20 R360, 23 R406, R411; log 27). -/
def State.cancelSlot (s : State) (k : Nat) : State :=
  let sl := s.slot k
  let b := Bind.of sl.words
  if sl.pre = 2 ∨ sl.pre = 3 then
    let s := if sl.pre = 3 then (s.unreserve k).preResult 1 else s
    let s := s.modSlot k (fun x => { x with state := 3, pre := 0, loading := none, endA := sl.clusters.zipIdx.map (fun p => (endKey p.2 p.1, (s.gal p.1).a)) })
    let s := { s with
      cls := s.cls.map (fun (p : Nat × Cluster) => (p.1, p.2.dropImage k))
      images := s.images.filter (fun p => p.2.slot != k) }
    let s := s.modCnt b.lcnt (fun c => { c with trigLeft := c.trigLeft - (sl.clusters.length - sl.trig.length) })
    sl.clusters.foldl (fun s _ => s.cntSignal b.lcnt true) s
  else sl.clusters.foldl (fun s c => s.modCl c (fun x =>
    if x.slot = some k ∧ x.stat = .running then { x with stat := .faulting } else x)) s

/-- A bind record names a counter. -/
def Bind.names (b : Bind) (n : Nat) : Bool := b.lcnt == n || b.gcnt == n || b.pcnt == n || b.jcnt == n

/-- A request that the firmware holds stands under a counter: its bind record names it, or, of a replay or a cancel, its
graph's nodes or the job of its queue do (20 R360). -/
def Hub.under (h : Hub) (job n : Nat) (r : Request) : Bool :=
  if r.kind = 0 then (Bind.of r.words).names n
  else job == n || (r.kind == 1 && (h.graphs.get {} r.cnt).nodes.any (fun p => (Bind.of p.1).names n))

/-- A counter is cancelled: the firmware binds no work that names it (20 R360). -/
def State.cancelled (s : State) (n : Nat) : Bool := n != 0xFFF && ((s.counter n).status == 4 || (s.counter n).status == 5)

/-- A bind record names a cancelled counter. -/
def State.bindCancelled (s : State) (b : Bind) : Bool := [b.lcnt, b.gcnt, b.pcnt, b.jcnt].any s.cancelled

/-- Requests leave a queue; a request that comes to its head begins to wait as a head (20 R372). -/
def SubQueue.keep (q : SubQueue) (f : Request → Bool) (time : Nat) : SubQueue :=
  match q.reqs.filter f with
  | [] => { q with reqs := [] }
  | r :: rest =>
    if (q.reqs.head?.map (·.serial)) = some r.serial then { q with reqs := r :: rest }
    else { q with reqs := { r with since := time, age := 0 } :: rest }

/-- CANCEL on an armed counter (20 R360). -/
def State.cntCancel (s : State) (n : Nat) : State :=
  if (s.counter n).status ≠ 1 then s
  else
    let s := s.modCnt n (fun c => { c with status := 5 })
    let s := slotRange.foldl (fun s k =>
      let sl := s.slot k
      if (Bind.of sl.words).names n then
        if sl.state = 1 then s.freeBound k else if sl.state = 2 then s.cancelSlot k else s
      else s) s
    let held := s.hub.queues.foldl (fun m q => m + q.2.reqs.countP (s.hub.under q.2.job n)) (s.hub.nodesHeld.countP (s.hub.under 0xFFF n))
    let s := s.modHub (fun h => { h with
      nodesHeld := h.nodesHeld.filter (fun r => !h.under 0xFFF n r)
      queues := h.queues.map (fun (p : Nat × SubQueue) => (p.1, p.2.keep (fun r => !h.under p.2.job n r) h.time)) })
    (List.range held).foldl (fun s _ => s.cntSignal n true) s

/-- A write of HUB_CNT_OP acts on the selected counter (20 R358). -/
def State.cntOp (s : State) (v : Nat) : State :=
  let n := s.hub.cntSel
  let op := bits v 63 60
  if op = 1 then s.cntArm n (v.testBit 59) (bits v 58 47) (bits v 22 0)
  else if op = 2 then s.cntAdd n (bits v 22 0)
  else if op = 3 then s.cntCancel n
  else if op = 4 then s.cntFree n
  else s

/-! ## Slots (20 R361, R363) -/

/-- A pointer of process memory at a multiple. -/
def procPtr (p m : Nat) : Bool := ptrTag p == 0 && p % m == 0

/-- ERR of a COMMIT of eight staging words into a slot (20 R363). -/
def State.commitErr (s : State) (w : List Nat) (k : Nat) : Nat :=
  let b := Bind.of w
  let w0 := bindWord w 0
  let part := partClusters b.die b.row0 b.col0 b.hm1 b.wm1
  if !b.v || bits w0 38 32 ≠ 0 || bits w0 15 0 ≠ 0 || bits (bindWord w 4) 15 0 ≠ 0 || bits (bindWord w 5) 37 0 ≠ 0 then 1
  else if 8 < b.prio then 2
  else if 15 < b.row0 + b.hm1 ∨ 15 < b.col0 + b.wm1 ∨ !s.dieLive b.die ∨ part.any (fun c => !s.present? c) then 3
  else if !(procPtr b.forme 2048 && procPtr b.start 128 && procPtr b.lease 2048 && procPtr b.area 2048 &&
      ptrTag b.param == 0) then 4
  else if b.lcnt = 0xFFF ∨ b.jcnt = 0xFFF ∨ (s.counter b.lcnt).status ≠ 0 then 5
  else if (s.slot k).state ≠ 0 then 6
  else 0

/-- Bind words into a slot; the answer is ERR (20 R363). -/
def State.commit (s : State) (w : List Nat) (k : Nat) (drone : Bool) : State × Nat :=
  let e := s.commitErr w k
  let b := Bind.of w
  if e ≠ 0 then (s, e)
  else
    ((s.modSlot k (fun _ => { state := 1, words := w, order := s.hub.commits, drone := drone, clusters := partClusters b.die b.row0 b.col0 b.hm1 b.wm1 })).modHub (fun h =>
      { h with commits := h.commits + 1, jobs := if h.jobs.contains b.jcnt then h.jobs else h.jobs ++ [b.jcnt] }), 0)

/-- COMMIT of the staging words into the selected slot. -/
def State.slotCommit (s : State) : State :=
  let r := s.commit s.hub.slotW s.hub.slotSel (decide ((Bind.of s.hub.slotW).prio = 8))
  r.1.modHub (fun h => { h with slotErr := r.2 })

/-- The firmware binds: it writes its words into the staging registers and commits them into a slot (20 R363). -/
def State.firmCommit (s : State) (w : List Nat) (k : Nat) (drone : Bool) : State × Nat :=
  let r := (s.modHub (fun h => { h with slotSel := k, slotW := (List.range 8).map (bindWord w) })).commit w k drone
  (r.1.modHub (fun h => { h with slotErr := r.2 }), r.2)

/-- The lowest free slot. -/
def State.freeSlot (s : State) : Option Nat := slotRange.find? (fun k => (s.slot k).state == 0)

/-! ## Pre-emption, restore and snapshot requests (23 R404, R405, R411, R412) -/

/-- A cluster's shadow store is busy until its image's HBM copy is complete (23 R405). -/
def Cluster.shadowBusy (x : Cluster) : Bool := match x.shadow with | some im => !im.complete | none => false

/-- An operation on a slot is accepted: it goes on with the image area of that moment (23 R404). -/
def State.preAccept (s : State) (k stat : Nat) : State :=
  (s.modSlot k (fun x => { x with preArea := s.hub.preArea })).modHub (fun h => { h with preStat := stat, preRun := k })

/-- OP 01. The request goes to the clusters that the slot's units still hold (23 R405, R406, R414). -/
def State.preemptOp (s : State) (k : Nat) : State :=
  let sl := s.slot k
  if s.hub.preStat ≠ 0 then s
  else
    let s := s.modHub (fun h => { h with preSlot := k })
    if sl.state ≠ 2 ∨ sl.pre ≠ 0 then s.preResult 1
    else if sl.clusters.any (fun c => (s.cl c).shadowBusy) then s.preResult 2
    else
      let s := (s.modSlot k (fun x => { x with pre := 1, preTime := s.hub.time })).preAccept k 1
      sl.clusters.foldl (fun s c => s.modCl c (fun x =>
        if x.slot = some k then { x with preReq := true, ckSel := none, forced := false } else x)) s

/-- OP 11: every cluster that the slot's units hold is debug-halted, and no shadow store is busy (23 R405, R412).
Accepted, the images are written by a step of their own. -/
def State.snapshotOp (s : State) (k : Nat) : State :=
  let sl := s.slot k
  if s.hub.preStat ≠ 0 then s
  else
    let s := s.modHub (fun h => { h with preSlot := k })
    if sl.state ≠ 2 ∨ sl.pre ≠ 0 ∨ sl.clusters.any (fun c => (s.cl c).slot == some k && (s.cl c).halt != .halted) then
      s.preResult 1
    else if sl.clusters.any (fun c => (s.cl c).shadowBusy) then s.preResult 2
    else s.preAccept k 2

/-- A cluster is free: no slot's unit is on it (20 R364). -/
def Cluster.free (x : Cluster) : Bool := x.slot.isNone

/-- Bind words moved to another partition. -/
def movePart (w : List Nat) (die row col : Nat) : List Nat :=
  match w with
  | w0 :: rest => setBits (setBits (setBits w0 47 4 col) 51 4 row) 55 3 die :: rest
  | [] => []

/-- OP 10: the slot is saved, and the target partition is in the grid, present and free (23 R411). Accepted, its
clusters are taken for the slot. -/
def State.restoreOp (s : State) (k : Nat) : State :=
  let sl := s.slot k
  let h := s.hub
  let w := movePart sl.words h.preDie h.preRow h.preCol
  let b := Bind.of w
  let part := partClusters b.die b.row0 b.col0 b.hm1 b.wm1
  if h.preStat ≠ 0 then s
  else
    let s := s.modHub (fun h => { h with preSlot := k })
    if sl.state ≠ 2 ∨ sl.pre ≠ 2 then s.preResult 1
    else if 15 < b.row0 + b.hm1 ∨ 15 < b.col0 + b.wm1 ∨ part.any (fun c => !s.present? c || !(s.cl c).free) then s.preResult 3
    else
      let s := (s.modSlot k (fun x => { x with pre := 3, target := (h.preDie, h.preRow, h.preCol), loading := none })).preAccept k 3
      part.foldl (fun s c => s.modCl c (fun x => { x with slot := some k, stat := .saved, savedWait := true })) s

/-! ## Registers with conditions of their own -/

/-- GAL_BASE is written only with A = D, to an aligned address in the HBM of the owner's die (04 R79). -/
def State.galBase (s : State) (g v : Nat) : State :=
  let a := bits v 43 12 * 4096
  let die := if g < 1024 then dieOf g else s.hubHome
  if (s.gal g).a ≠ (s.gal g).d ∨ bits v 23 12 ≠ 0 ∨ 0x8000000000 ≤ a ∨ a / 2 ^ 37 ≠ die then s
  else s.modGal g (fun y => { y with base := bits v 43 12 })

/-- HUB_PT_MIRROR: ignored after the first walk; a distance that fits no live stack stores half their number
(03 R55). -/
def State.ptMirror (s : State) (v : Nat) : State :=
  let n := s.liveStacks.length
  let m := v % 8
  if s.hub.walked then s
  else s.modHub (fun h => { h with ptOffset := bits v 43 12, ptMs := if m = 0 ∨ n ≤ m then n / 2 else m })

/-- HUB_MBX_DB (25 R422). -/
def State.doorbell (s : State) (cqhead sqtail : Nat) : State :=
  s.modHub (fun h => { h with cqHead := cqhead % 2 ^ 32, sqTail := sqtail % 2 ^ 32 })

/-- HUB_MBX_BASE: BASE and LOG2S change only while EN = 0 (25 R422). After a boot that has stopped the mailbox is never
enabled (27 R442). -/
def State.mbxBase (s : State) (v : Nat) : State :=
  s.modHub (fun h => if h.mbxEn then { h with mbxEn := v.testBit 0 }
    else { h with mbxBase := bits v 43 12, mbxLog := bits v 11 8, mbxEn := v.testBit 0 && !h.bootStopped })

/-- CAP of a quadrant island: above 9 stores 9; ignored for the other islands (27 R444). -/
def State.setCap (s : State) (i cap : Nat) : State :=
  if i < 16 ∧ s.islandThere i then s.modHub (fun h => { h with islands := h.islands.put i { h.islands.get {} i with cap := min 9 cap } })
  else s

/-- The element of a list of numbers, lists shorter than the place padded with zeros. -/
def setNth (l : List Nat) (k v : Nat) : List Nat :=
  (List.range (max l.length (k + 1))).map (fun i => if i = k then v else (nth l i).getD 0)

end Sys2Proof.Machine
end

