-- ==== Sys2Proof/Machine/Registers.lean ====
section
/-!
DEFINITION. Writing system registers under their Access columns (00 R5, 02 R23, R45, and the register maps of each
chapter).
-/
namespace Sys2Proof.Machine

/-- Privileged formes and system cores. -/
def privOrSys : Agent → Bool
  | .privForme => true | .systemCore => true | _ => false

/-- A write of a cluster register (BLOCK 0). -/
def State.clWrite (s : State) (who : Agent) (c n v : Nat) : State :=
  if perfReg n then s.modCl c (fun x => { x with perf := x.perf.put n (v % 2 ^ 48) })
  else if n = 0x044 then if v.testBit 0 then s.vcInval c else s
  else if n = 0x050 then if privOrSys who then s.modCl c (fun x => x.setSid (v % 2 ^ 16)) else s
  else if n = 0x051 then s.modCtx c (fun x => { x with subst := v % 2 ^ 64 })
  else if n = 0x063 then if privOrSys who then s.galBase c v else s
  else if n = 0x064 then s.modGal c (fun y => { y with stall := v % 2 ^ 48 })
  else if n = 0x065 then s.modGal c (fun y => { y with fullinv := v % 2 ^ 48 })
  else if 0x070 ≤ n ∧ n ≤ 0x07F then
    if n % 4 = 0 ∧ privOrSys who = true then (s.chHead c ((n - 0x070) / 4) (v % 2 ^ 64)).1 else s
  else if n = 0x080 then s.readyClear c (v % 2 ^ 64)
  else if 0x0A0 ≤ n ∧ n ≤ 0x0DF then
    if n % 4 = 0 then s.ringBase c ((n - 0x0A0) / 4) v
    else if n % 4 = 1 then s.ringCfg c ((n - 0x0A0) / 4) v
    else s
  else if n = 0x0E0 then s.modCtx c (fun x => { x with framesHigh := bits v 42 32 })
  else if n = 0x0E1 then s.modCtx c (fun x => { x with ovfHigh := bits v 47 36 })
  else if n = 0x0F9 then if privOrSys who then s.modCl c (fun x => { x with brk := v % 2 ^ 19 }) else s
  else if n = 0x0FA then s.modCl c (fun x => { x with quietLimit := v % 2 ^ 40 })
  else if n = 0x0FF then if privOrSys who then s.haltWrite c v else s
  else if 0x100 ≤ n ∧ n < 0x100 + 4 * 36 then
    let u := (n - 0x100) / 4
    if n % 4 = 0 then s.peMode c u v
    else if n % 4 = 1 then s.peXen c u v
    else if n % 4 = 2 then s.peFlagsClear c u v
    else s
  else s

/-- A write of TLB_INV_CTL: the fields, then GO (03 R54). -/
def State.invWrite (s : State) (v : Nat) : State :=
  let s := s.modHub (fun h => { h with invSid := bits v 23 8, invScope := bits v 5 4, invSize := bits v 3 2 })
  if v.testBit 0 then s.tlbGo (bits v 5 4) (bits v 23 8) s.hub.invVa (bits v 3 2) else s

/-- A write of HUB_PRE_CTL: the fields, then OP, ignored while an operation runs (23 R404). -/
def State.preWrite (s : State) (v : Nat) : State :=
  let s := s.modHub (fun h =>
    { h with preDie := bits v 34 32, preRow := bits v 31 28, preCol := bits v 27 24, preSlot := bits v 15 8 })
  let op := v % 4
  if op = 1 then s.preemptOp (bits v 15 8)
  else if op = 2 then s.restoreOp (bits v 15 8)
  else if op = 3 then s.snapshotOp (bits v 15 8)
  else s

/-- A write of a die-link module's counters sets them (25 R429). -/
def State.linkWrite (s : State) (l m k v : Nat) : State :=
  let x := s.linkMod l m
  let y : LinkMod :=
    if k = 1 then { x with up := { x.up with err := v % 2 ^ 48 }, down := { x.down with err := 0 } }
    else if k = 2 then { x with up := { x.up with rpl := v % 2 ^ 48 }, down := { x.down with rpl := 0 } }
    else x
  { s with links := s.links.put (4 * l + m) y }

/-- A write of a hub register (BLOCK 2). The host reaches the mailbox registers only (25 R420). -/
def State.hubWrite (s : State) (who : Agent) (n v : Nat) : State :=
  if n = 0x160 then s.mbxBase v
  else if n = 0x161 then s.doorbell (bits v 63 32) (bits v 31 0)
  else if who = .host then s
  else if n = 0x100 then s.modHub (fun h => { h with invVa := v % 2 ^ 60 })
  else if n = 0x101 then s.invWrite v
  else if n = 0x102 then s.ptMirror v
  else if n = 0x103 then s.modHub (fun h => { h with spaceBase := bits v 43 20, spaceEn := v.testBit 0 })
  else if n = 0x104 then s.modHub (fun h => { h with drlBase := bits v 43 12 })
  else if n = 0x105 then
    s.modHub (fun h => { h with drlLost := bits v 63 48, drlR := bits v 47 31, drlSize := bits v 4 1, drlEn := v.testBit 0 })
  else if n = 0x120 then s.modHub (fun h => { h with cntSel := v % 2 ^ 12 })
  else if n = 0x122 then s.cntOp v
  else if n = 0x124 then if who = .managementCore then s.modHub (fun h => { h with slotSel := v % 2 ^ 8 }) else s
  else if n = 0x125 then if who = .managementCore ∧ v.testBit 0 then s.slotCommit else s
  else if 0x128 ≤ n ∧ n ≤ 0x12F then
    if who = .managementCore then s.modHub (fun h => { h with slotW := setNth h.slotW (n - 0x128) (v % 2 ^ 64) }) else s
  else if n = 0x131 then if who = .systemCore then s.modHub (fun h => { h with handover := bits v 43 12 }) else s
  else if n = 0x134 then
    if who = .systemCore then s.modHub (fun h => { h with fqBase := bits v 43 12, fqEn := v.testBit 0 }) else s
  else if n = 0x138 then s.preWrite v
  else if n = 0x139 then s.modHub (fun h => { h with preArea := bits v 43 22 * 2 ^ 10 })
  else if 0x140 ≤ n ∧ n < 0x158 then
    let g := 1024 + (n - 0x140) / 8
    let k := (n - 0x140) % 8
    if k = 3 then if privOrSys who then s.galBase g v else s
    else if k = 4 then s.modGal g (fun y => { y with stall := v % 2 ^ 48 })
    else if k = 5 then s.modGal g (fun y => { y with fullinv := v % 2 ^ 48 })
    else s
  else if n = 0x163 then if who = .systemCore then s.modHub (fun h => { h with netBase := bits v 43 12 }) else s
  else if 0x180 ≤ n ∧ n < 0x200 then s.linkWrite ((n - 0x180) / 16) ((n - 0x180) % 16 / 4) ((n - 0x180) % 4) v
  else if 0x200 ≤ n ∧ n < 0x240 then
    let d := (n - 0x200) / 16
    let t := s.thermOf d
    { s with therm := s.therm.put d { t with hotmax := setNth t.hotmax ((n - 0x200) % 16) (bits v 27 16) } }
  else if 0x248 ≤ n ∧ n < 0x250 then
    let k := n - 0x248
    { s with hbmStacks := s.hbmStacks.put k { s.stackOf k with hotmax := bits v 27 16 } }
  else if n = 0x250 then s.modHub (fun h => { h with pwrEn := v.testBit 63, pwrSet := min 3200 (v % 2 ^ 12) })
  else if 0x260 ≤ n ∧ n < 0x278 then s.setCap (n - 0x260) (bits v 55 52)
  else s

/-- A write of a system register; a place that names none, or a cluster or die that is not present, takes nothing
(00 R5, 02 R23, 16 R344). -/
def State.regWrite (s : State) (who : Agent) (r : RegAddr) (v : Nat) : State :=
  if r.block = 0 then
    if who = .host ∨ !s.present? r.unit then s else s.clWrite who r.unit r.index v
  else if r.block = 1 then
    if who ≠ .host ∧ s.dieLive (r.unit % 8) ∧ r.index = 0x020 then
      s.modDie (r.unit % 8) (fun d => { d with perfMirror := v % 2 ^ 48 })
    else s
  else if r.block = 2 then s.hubWrite who r.index v
  else s

end Sys2Proof.Machine
end

