-- ==== Sys2Proof/Machine/Memory.lean ====
section
/-!
DEFINITION. Loads, stores, atomics, publishing, acquiring, fences and queues (13 R278 to R281, R291 to R297), with
the machine steps that carry them out (02 R39, R41, 04 R82, R84, R91).
-/
namespace Sys2Proof.Machine

/-! ## Loads -/

def execLd (sg : Bool) (wm1 : BitVec 6) (w : WaveLit) (d : Dests) (s : State) : Host.Outcome State Fault Refusal :=
  .next (s.loadFire (.ld sg wm1 w d))

def execLdv (sg : Bool) (wm1 : BitVec 6) (w : WaveLit) (d : Dests) (s : State) : Host.Outcome State Fault Refusal :=
  .next (s.loadFire (.ldv sg wm1 w d))

def execLdx (sg : Bool) (wm1 : BitVec 6) (k : BitVec 32) (d : Dests) (s : State) : Host.Outcome State Fault Refusal :=
  .next (s.loadFire (.ldx sg wm1 k d))

/-- The reply to a tag 0x7 read by a pending firing (02 R39). -/
def State.reply (s : State) (c k : Nat) : Option (Nat × Nat) :=
  s.netMsgs.findSome? (fun m => match m.pay with
    | .abufVal c' k' v => if c' = c ∧ k' = k ∧ s.arrived m then some (m.id, v) else none
    | _ => none)

/-- The 18 words of a continuation record as fields (10 R221). -/
def recOf (v : Nat) : TaskRec :=
  let w (k : Nat) : Nat := bits v (64 * k + 63) (64 * k)
  { entry := BitVec.ofNat 24 (bits (w 0) 63 40), nm1 := bits (w 0) 39 32, ngm1 := bits (w 0) 31 30,
    join := BitVec.ofNat 64 (w 1), live := (List.range 16).map (fun k => w (k + 2)) }

/-- The deque holds its 64 first records on die (10 R222). -/
def dequeDie : Nat := 64

/-- The words of a continuation record (10 R221). -/
def TaskRec.words (r : TaskRec) : List Nat :=
  (r.entry.toNat * 2 ^ 40 + r.nm1 % 256 * 2 ^ 32 + r.ngm1 % 4 * 2 ^ 30) :: r.join.toNat :: (List.range 16).map (fun k => (nth r.live k).getD 0)

/-- The 2,048 bits of a spilled slot: the record, and its stamps where the spec gives them no place (10 R222; log 71). -/
def TaskRec.slotBits (r : TaskRec) : Nat :=
  packLanes 64 r.words + 2 ^ 1152 * (Config.cause 0 (r.stamps.flatMap (fun q => [q.gal, q.pos])) % 2 ^ 896)

/-- The physical byte address of a spill slot of a cluster (10 R222). -/
def State.spillPa (s : State) (c k : Nat) : Nat := (s.gal c).base * 4096 + 2 ^ 24 + 2 ^ 16 + k % 1024 * 256

/-- Push a record onto the deque head; the record that is then past the 64th is spilled to memory (10 R222). -/
def State.push (s : State) (c : Nat) (r : TaskRec) : State :=
  let s := s.modCtx c (fun x => { x with deque := r :: x.deque })
  match nth (s.ctx c).deque dequeDie with
  | none => s
  | some q =>
    let k := (s.ctx c).spillTop
    { s with mem := s.mem.writeBytes (s.spillPa c k) 256 q.slotBits }.modCtx c (fun x => { x with spillTop := k + 1 })

/-- The record at the deque's head is taken; one that was spilled comes back on die. -/
def Ctx.pop (x : Ctx) : Ctx :=
  { x with deque := x.deque.drop 1, spillTop := if dequeDie < x.deque.length then x.spillTop - 1 else x.spillTop }

/-- A task unit's record read returns: the record is pushed with the stamp of a cluster-scope release, and a leaves
(10 R226, R227). Poisoned words 0 and 1 decide the entry and the join object: POISON_CONSUMED (log 33); a poisoned live
value is carried on as a poisoned lane (22 R395). -/
def State.recordRead (s : State) (c k : Nat) (p : Pend) (va : Nat) (joined : Bool) : State :=
  match s.xlat c .read va 1152 with
  | .miss a => (s.startWalk c a .read p.fir none).2
  | .dirty _ => s
  | .fault cause a => (s.pendDel c k).fail p.fir Code.XLATE_FAULT (xlateCause cause a)
  | .ok l =>
    let (there, s) := s.fetchLines c (8192 + k) (holderOf 37) (linesOf l)
    if !there then s else
    let r := s.readBase l
    if meetsBad r.2.1 0 128 then (s.pendDel c k).fail p.fir Code.POISON_CONSUMED
    else if 1088 ≤ (s.ctx c).deque.length then s
    else
      let s := (((s.tlbUse c va 1152).substIf c r.2.2).pendDel c k).release c
      let t := { recOf r.1 with poison := maskOf ((List.range 16).map (fun i => meetsBad r.2.1 (128 + 64 * i) 64)), stamps := [({ gal := c, pos := (s.gal c).p } : Stamp)], joined := joined }
      let s := s.push c t
      match p.instr with
      | .resume d => s.sendA p.fir d
      | .join d => s.sendA p.fir d
      | _ => s

/-- A load that waited for the galley is performed once D has come near enough to the A of its issue: it is probed, and
takes its snapshot (04 R80, 13 R279). -/
def State.loadLate (s : State) (c k : Nat) (p : Pend) (w lanes : Nat) (sg : Bool) (at_ : Nat) (ps : List Piece) : State :=
  let h := holderOf p.fir.unit
  if s.readLag c at_ then s
  else if !s.loadRoom c h ps then s.waitReq c p.fir.unit true
  else if !s.waveFree p.fir p.instr then s
  else
    let r := (s.waitReq c p.fir.unit false).loadProbe c h ps
    (r.1.waveIf p.fir p.instr).pendSet c k (.load w lanes sg (s.gal c).a false r.2)

/-- A load's data return and leave as a token (13 R274, R279); the same for a read of another cluster's A-buffer and
for a task unit's record (10 R226). -/
def execLoadDataReturn (c k : Nat) (s : State) : Host.Outcome State Fault Refusal :=
  .next (match s.pend c k with
    | none => s
    | some p =>
      match p.why, loadShape p.instr with
      | .load w lanes sg snap true ps, _ => s.loadLate c k p w lanes sg snap ps
      | .load w lanes sg _ false ps, some (_, _, _, _, d) =>
        if ps.any (·.got.isNone) then s
        else
          let r := gather ps 0
          ((s.substIf c r.2.2).pendDel c k).emitBoth p.fir d (p.fir.loaded w lanes sg r.1 r.2.1)
      | .served v, some (w, lanes, sg, _, d) => (s.pendDel c k).emitBoth p.fir d (p.fir.loaded w lanes sg v [])
      | .remote, some (w, lanes, sg, _, d) =>
        (match s.reply c k with
        | none => s
        | some (m, v) => ((s.dropMsg m).pendDel c k).emitBoth p.fir d (p.fir.loaded w lanes sg v []))
      | .recread a va joined, _ => if a ≤ (s.gal c).d then s.recordRead c k p va joined else s
      | _, _ => s)

/-- A fill's data as its line is installed: the base image merged with own entries below A (02 R41). -/
def State.lineNow (s : State) (c line : Nat) : VLine :=
  let a := (s.gal c).a
  let r := s.readMerged c (line * 2048) 2048 a
  { data := r.1, poison := maskOf ((List.range 4).map (fun i => (s.readMerged c (line * 2048 + 512 * i) 512 a).2)),
    use := s.serial }

/-- A fill returns: the loads that wait for it take its data up to their own snapshots, and the line is installed. A
fill whose line was invalidated is reissued (02 R41, 04 R84). -/
def execViewCacheFill (c line : Nat) (s : State) : Host.Outcome State Fault Refusal :=
  let x := s.cl c
  .next (match x.fills.find? (fun f => f.line == line) with
    | none => s
    | some f =>
      match s.exchange c 100 line with
      | .away => s
      | .asked m => s.homeAnswer m c 100 line (line * 2048)
      | e =>
      if x.vcBusy then s
      else
      let s := match e with | .answered m => s.dropMsg m | _ => s
      if f.reissue then
        (s.ask c 100 line (line * 2048)).modCl c (fun x =>
          { x with fills := x.fills.map (fun g => if g.line = line then { g with reissue := false } else g) })
      else
        let take (snap : Nat) (p : Piece) : Piece :=
          if p.got.isNone && p.pba / 2048 == line then { p with got := some (s.readMerged c p.pba p.len snap) } else p
        let v := s.lineNow c line
        (s.modCtx c (fun x => { x with pend := x.pend.map (fun (p : Pend) => match p.why with
          | .load w l sg snap late ps => { p with why := .load w l sg snap late (if late then ps else ps.map (take snap)) }
          | _ => p) })).modCl c (fun x =>
            { x.install line v with fills := x.fills.filter (fun g => g.line != line) }))

/-- PREF asks for the line of p; whatever would fault is discarded (13 R281). -/
def execPref (d : Dests) (s : State) : Host.Outcome State Fault Refusal :=
  let f := s.firing
  let c := f.cl
  .next (if s.idleAction f then s.emitBoth f d (f.passBubble (f.forward f.opA f.tag))
    else
      let s' := s.sendA f d
      match ptrOperand f.a with
      | .error _ => s'
      | .ok p =>
        match s.check c [0] .read p 1 false with
        | .bad _ _ => s'
        | .ok _ off =>
          match s.xlat c .read off 1 with
          | .miss va =>
            let (k, s') := s'.startWalk c va .read f none
            s'.modCl c (fun x => { x with walks := x.walks.map (fun w => if w.id = k then { w with prefs := w.prefs ++ [off] } else w) })
          | _ => s'.prefLine c (holderOf f.unit) off)

/-! ## Stores -/

/-- A store fires (13 R278). -/
def State.storeFire (s : State) (i : Instr) : State :=
  let f := s.firing
  match storeShape i with
  | none => s
  | some (w, vec, _, d) =>
    if f.hasBubble then ((s.addSkips f).waveIf f i).emitBoth f d (f.asBubble (f.forward f.opA f.tag))
    else match storeOperands i f with
      | .error code => s.fail f code
      | .ok (p, runs) =>
        let n := w * (storeLanes vec f.opB).length
        let bad := runs.any (·.2.2.2)
        s.access f [0, 1, 7, 6] .write p n (ptrTag p = 6 && n ≠ 64) (fun tag off l =>
          if tag = 0 then s.storeAppend f i (overlay l 0 runs)
          else if bad then s.fail f Code.POISON_CONSUMED
          else if tag = 1 then s.bankFire f i off n (some (runBits runs))
          else if tag = 6 then (s.regWrite .privForme (regOfPtr p) (runBits runs)).storeDone f i
          else
            (s.pendNew f i .remote).send 0 f.cl f.unit (ptrCluster p) 65
              (.abuf (ptrCluster p) (ptrBufOff p) n (some (runBits runs)) (f.cl, s.serial)))

def execSt (wm1 : BitVec 6) (w : WaveLit) (d : Dests) (s : State) : Host.Outcome State Fault Refusal :=
  .next (s.storeFire (.st wm1 w d))

def execStv (wm1 : BitVec 6) (w : WaveLit) (d : Dests) (s : State) : Host.Outcome State Fault Refusal :=
  .next (s.storeFire (.stv wm1 w d))

def execStx (wm1 : BitVec 6) (k : BitVec 32) (d : Dests) (s : State) : Host.Outcome State Fault Refusal :=
  .next (s.storeFire (.stx wm1 k d))

/-- D has advanced on a full ring: the stores of an edge tile that wait proceed in order, each whole (04 R78, R96). -/
def State.resumeAppends (s : State) (c src : Nat) : List Pend → State
  | [] => s.waitApp c (appPlace src) false
  | p :: rest =>
    match p.why with
    | .append l sid q =>
      if q = src then
        match s.storePerform p.fir p.instr sid l with
        | some s => State.resumeAppends (s.pendDel c p.id) c src rest
        | none => s.waitApp c (appPlace src) true
      else State.resumeAppends s c src rest
    | _ => State.resumeAppends s c src rest

/-- D has advanced on a full ring: S0's waiting stores go first, then S1's (04 R78, R96). -/
def execGalleyFullResume (g : Nat) (s : State) : Host.Outcome State Fault Refusal :=
  let s := s.resumeAppends g 4 (s.ctx g).pend
  .next (s.resumeAppends g 5 (s.ctx g).pend)

/-! ## Atomics (04 R91, 13 R291, R292) -/

/-- What an atomic makes of the old word: the new word and its flags. -/
def atomNew (op : AtomOp) (w old v : Nat) : Nat :=
  let so := Sys2Proof.sext old w
  let sv := Sys2Proof.sext v w
  match op with
  | .add => (old + v) % 2 ^ w
  | .and => old &&& v
  | .or => old ||| v
  | .xor => old ^^^ v
  | .smin => if so ≤ sv then old else v
  | .smax => if sv ≤ so then old else v
  | .umin => min old v
  | .umax => max old v
  | .swp => v

/-- The float class of an ATOMF. -/
def fatomCls (f64 : Bool) : FCls := if f64 then .f64 else .f32

def fatomLane (op : FAtomOp) (f64 : Bool) (old v : Nat) : Lane :=
  match op with
  | .fadd => addCodes (fatomCls f64) .rne old v
  | .fmin => { code := pick (fun p q => !codeLess (fatomCls f64) q p) (fatomCls f64) old v }
  | .fmax => { code := pick (fun p q => !codeLess (fatomCls f64) p q) (fatomCls f64) old v }

/-- Width and destinations of an atomic. -/
def atomShape : Instr → Option (Nat × Dests)
  | .atom w64 _ _ d => some (if w64 then 64 else 32, d)
  | .atomf _ f64 _ d => some (if f64 then 64 else 32, d)
  | .acas w64 _ d => some (if w64 then 64 else 32, d)
  | .join d => some (64, d)
  | _ => none

/-- The new word an atomic stores, and what its computation raised. -/
def atomLane (i : Instr) (f : Firing) (old : Nat) : Lane :=
  match i with
  | .atom w64 op _ _ => { code := atomNew op (if w64 then 64 else 32) old (f.opB.low (if w64 then 64 else 32)) }
  | .atomf op f64 _ _ => fatomLane op f64 old (f.opB.low (if f64 then 64 else 32))
  | .acas w64 _ _ =>
    let w := if w64 then 64 else 32
    { code := if old = f.opB.low w then f.opC.low w else old }
  | .join _ => { code := (old + 2 ^ 64 - 1) % 2 ^ 64 }
  | _ => { code := old }

/-- Operand checks of an atomic's values (13 R291); the error is a fault code. -/
def atomOperands (i : Instr) (f : Firing) (w : Nat) : Option Nat :=
  let fits (t : Token) : Bool := match i with | .atomf .. => t.cont == w | _ => decide (w ≤ t.cont)
  let l := match i with | .acas .. => [f.opB, f.opC] | _ => [f.opB]
  if l.any (fun t => !fits t) then some Code.LANE_MISMATCH
  else if l.any (·.poisoned 0) then some Code.POISON_CONSUMED
  else none

/-- An atomic fires: it is issued at the A of that moment (04 R91). -/
def State.atomFire (s : State) (i : Instr) : State :=
  let f := s.firing
  match atomShape i with
  | none => s
  | some (w, d) =>
    if s.idleAction f then (s.waveIf f i).emitBoth f d (f.passBubble { tag := f.tag })
    else match ptrOperand f.a with
      | .error code => s.fail f code
      | .ok p =>
        match atomOperands i f w with
        | some code => s.fail f code
        | none =>
          s.access f [0] .atomic p w (decide (ptrOff p % w ≠ 0)) (fun _ _ l =>
            match l with
            | (pba, _, _) :: _ => s.pendAsk f i (.atomic (s.gal f.cl).a pba (s.cl f.cl).sid none) pba
            | [] => s)

def execAtom (w64 : Bool) (op : AtomOp) (w : WaveLit) (d : Dests) (s : State) : Host.Outcome State Fault Refusal :=
  .next (s.atomFire (.atom w64 op w d))

def execAtomf (op : FAtomOp) (f64 : Bool) (w : WaveLit) (d : Dests) (s : State) : Host.Outcome State Fault Refusal :=
  .next (s.atomFire (.atomf op f64 w d))

def execAcas (w64 : Bool) (w : WaveLit) (d : Dests) (s : State) : Host.Outcome State Fault Refusal :=
  .next (s.atomFire (.acas w64 w d))

/-- The atomic executes at the home once its galley has drained to its issue (04 R91); a poisoned sector changes
nothing (03 R74). JOIN's fetch-and-add is one (10 R227). -/
def execAtomicHomeExec (c k : Nat) (s : State) : Host.Outcome State Fault Refusal :=
  .next (match s.pend c k with
    | none => s
    | some p =>
      let home (pba : Nat) : Option State := match s.exchange c 101 k with
        | .away => none
        | .asked m => some (s.homeAnswer m c 101 k pba)
        | _ => some s
      match p.why, atomShape p.instr with
      | .atomic a pba sid none, some (w, _) =>
        if (s.gal c).d < a then s
        else match home pba with
        | none => s
        | some s =>
          let old := s.mem.readBits pba w
          if s.bitsBad pba w then s.pendSet c k (.atomic a pba sid (some (0, true, 0, false)))
          else
            let r := atomLane p.instr p.fir old
            ({ s with mem := s.mem.writeBits pba w r.code }).pendSet c k
              (.atomic a pba sid (some (old, false, r.flags, r.force)))
      | .join a pba va none, _ =>
        if (s.gal c).d < a then s
        else match home pba with
        | none => s
        | some s =>
          let old := s.mem.readBits pba 64
          if s.bitsBad pba 64 then s.pendSet c k (.join a pba va (some none))
          else ({ s with mem := s.mem.writeBits pba 64 (atomLane p.instr p.fir old).code }).pendSet c k
            (.join a pba va (some (some old)))
      | _, _ => s)

/-- The requester's view-cache line of a word goes (04 R91). -/
def State.dropLine (s : State) (c line : Nat) : State :=
  s.modCl c (fun x =>
    { x with vc := x.vc.del line
             fills := x.fills.map (fun g => if g.line = line then { g with reissue := true } else g) })

/-- JOIN acts on the value its atomic returned (10 R227): 1 reads the record, more ends the join, 0 or less ends the
unit. -/
def State.joinReturn (s : State) (p : Pend) (va v : Nat) : State :=
  let x := Sys2Proof.sext v 64
  let s := s.pendDel p.fir.cl p.id
  if x ≤ 0 then s.fail p.fir Code.JOIN_UNDERFLOW
  else if x = 1 then
    if leaseOk (s.leaseOf p.fir.cl) .read (va + 128) 1152 then
      s.pendNew p.fir p.instr (.recread (s.gal p.fir.cl).a (va + 128) true)
    else s.fail p.fir Code.LEASE_VIOLATION (leaseCause .read (va + 128) 1152)
  else match p.instr with
    | .join d => s.sendA p.fir d
    | _ => s

/-- The old value has returned to the tile: the atomic is performed and its value leaves (04 R91, 13 R277, R291). -/
def execAtomicReturn (c k : Nat) (s : State) : Host.Outcome State Fault Refusal :=
  .next (match s.pend c k, s.exchange c 101 k with
    | none, .answered m => s.dropMsg m
    | none, _ => s
    | some _, .away => s
    | some _, .asked _ => s
    | some p, e =>
      let s' := s
      let s := match e with | .answered m => s.dropMsg m | _ => s
      match p.why, atomShape p.instr with
      | .atomic _ pba _ (some (old, bad, flags, force)), some (w, d) =>
        if !s.waveFree p.fir p.instr then s'
        else
          let x : Lane := { code := old, bad := bad, flags := flags, force := force }
          let pe := s.peOf p.fir
          let t := p.fir.laneTok 0 (contOf w) [x.sent pe]
          let s := ((s.dropLine c (pba / 2048)).pendDel c k).waveIf p.fir p.instr
          (s.raise p.fir flags force).emitBoth p.fir d t
      | .join _ pba va (some v), _ =>
        let s := s.dropLine c (pba / 2048)
        (match v with
        | none => (s.pendDel c k).fail p.fir Code.POISON_CONSUMED
        | some v => s.joinReturn p va v)
      | _, _ => s)

/-! ## Publishing and acquiring (13 R293 to R295) -/

/-- REL sets P := A and waits for its scope (04 R82, 13 R293). -/
def execRel (scope : RelScope) (w : WaveLit) (d : Dests) (s : State) : Host.Outcome State Fault Refusal :=
  let f := s.firing
  .next (if s.idleAction f then
      (s.waveDone f w).emitBoth f.atS0 d (f.passBubble (f.forward f.opA f.tag))
    else
      let s := s.release f.cl
      s.pendNew f (.rel scope w d) (.rel scope (s.gal f.cl).p))

/-- A release's guarantee holds and its output leaves; a held TRIGGER is released once the repair pass is over
(03 R69, 04 R82, 10 R218). -/
def execRelScopeReached (c k : Nat) (s : State) : Host.Outcome State Fault Refusal :=
  .next (match s.pend c k with
    | none => s
    | some p =>
      match p.why, p.instr with
      | .rel scope pos, .rel _ w d =>
        if s.relHolds c scope pos && s.waveFree p.fir p.instr then
          ((s.pendDel c k).waveDone p.fir w).sendA p.fir.atS0 d
        else s
      | .trigger none, _ =>
        if (s.ctx c).repaired && !(s.ctx c).repair then
          let s := (s.release c).countTrigger c
          s.pendSet c k (.trigger (some { gal := c, pos := (s.gal c).p }))
        else s
      | .trigger (some st), .trigger d =>
        if s.relHolds st.gal .package st.pos then (s.pendDel c k).sendA p.fir d else s
      | _, _ => s)

/-- The galleys an ACQ names, a q of all ones taken as the mirror's P (04 R84, 13 R294). -/
def State.acqNames (s : State) (c : Nat) (a b : Token) : List (Nat × Nat) :=
  mergeStamps ((List.range a.g).map (fun j =>
    (a.lane j, if b.lane j = 2 ^ 64 - 1 then (s.mirror (dieOf c) (a.lane j)).1 else b.lane j)))

/-- A galley number names one: the hub's, or that of a cluster that is present (04 R84). -/
def State.galOk (s : State) (g : Nat) : Bool := decide (g < 1027) && (decide (1024 ≤ g) || s.present? g)

/-- ACQ names galleys and positions (13 R294). -/
def execAcq (w : WaveLit) (d : Dests) (s : State) : Host.Outcome State Fault Refusal :=
  let f := s.firing
  let a := f.opA
  let b := f.opB
  .next (if s.idleAction f then
      (s.waveDone f w).emit f.atS0 [(d.da, f.passBubble (f.forward a f.tag)), (d.db, f.passBubble (f.forward b f.tag))]
    else if b.cl2 ≠ 6 ∨ b.gl2 ≠ a.gl2 ∨ 2 < a.gl2 then s.fail f Code.LANE_MISMATCH
    else if (a.pmask ||| b.pmask) % 2 ^ a.g ≠ 0 then s.fail f Code.POISON_CONSUMED
    else
      let l := s.acqNames f.cl a b
      if l.any (fun e => !s.galOk e.1) then s.fail f Code.SPACE_ILLEGAL 5
      else s.pendNew f (.acq w d) (.acq l [] false false))

/-- A named galley whose positions are seen is acquired, each in its own time; once all have been, the marker of an
acquire that advanced an entry is appended, and the outputs leave (04 R84, R85). -/
def execAcqComplete (c k : Nat) (s : State) : Host.Outcome State Fault Refusal :=
  .next (match s.pend c k with
    | none => s
    | some p =>
      match p.why, p.instr with
      | .acq l pages full adv, .acq w d =>
        let ready := l.filter (fun e => s.acqSeen c [e])
        let left := l.filter (fun e => !s.acqSeen c [e])
        let r := s.acquireAll c ready
        let pages := pages ++ r.2.1
        let full := full || r.2.2.1
        let adv := adv || r.2.2.2
        let s := r.1.pendSet c k (.acq left pages full adv)
        if !left.isEmpty || !s.waveFree p.fir p.instr then s
        else if adv && !s.mayAppend c 6 1 then s.waitApp c 6 true
        else
          let s := if adv then (s.marker c pages full).waitApp c 6 false else s
          ((s.pendDel c k).waveDone p.fir w).emit p.fir.atS0
            [(d.da, p.fir.forward p.fir.opA p.fir.tag), (d.db, p.fir.forward p.fir.opB p.fir.tag)]
      | _, _ => s)

/-- GPOS reads a position: its own cluster's galley, or the die's mirror (13 R295). -/
def execGpos (sel : GposSel) (d : Dests) (s : State) : Host.Outcome State Fault Refusal :=
  let f := s.firing
  let g := f.opA.lane 0
  .next (if s.idleAction f then s.emitBoth f d (f.passBubble { tag := f.tag })
    else if f.opA.poisoned 0 then s.fail f Code.POISON_CONSUMED
    else if !s.galOk g then s.fail f Code.SPACE_ILLEGAL 5
    else
      let own := decide (g = f.cl)
      let m := s.mirror (dieOf f.cl) g
      match sel with
      | .a => if own then s.emitBoth f d (f.new64 (s.gal g).a) else s.fail f Code.SPACE_ILLEGAL 2
      | .p => s.emitBoth f d (f.new64 (if own then (s.gal g).p else m.1))
      | .d => s.emitBoth f d (f.new64 (if own then (s.gal g).d else m.2)))

/-- An access of an edge tile that has been issued and has not completed (13 R292). -/
def isAccess (i : Instr) : Bool := isLoad i || isStore i || isAtomic i

/-- The accesses a FENCE waits for, by the arrival number of their firings: those pending, and those held for a walk. -/
def Cluster.issued (x : Cluster) : List Nat :=
  (x.ctx.pend.filter (fun p => isAccess p.instr)).map (·.fir.seq) ++
    (x.ctx.matches_.filter (fun e => e.held.isSome && (match x.instr e.fir.unit e.fir.node with
      | some i => isAccess i | none => false))).map (·.seq)

/-- FENCE waits for the accesses issued before it became eligible (13 R292). -/
def execFence (w : WaveLit) (d : Dests) (s : State) : Host.Outcome State Fault Refusal :=
  let f := s.firing
  .next (if s.idleAction f then (s.waveDone f w).emitBoth f.atS0 d (f.passBubble (f.forward f.opA f.tag))
    else s.pendNew f (.fence w d) (.fence (s.cl f.cl).issued))

/-- The accesses before a FENCE have completed (13 R292). -/
def execFencePerformed (c k : Nat) (s : State) : Host.Outcome State Fault Refusal :=
  .next (match s.pend c k with
    | none => s
    | some p =>
      match p.why, p.instr with
      | .fence before, .fence w d =>
        if (s.cl c).issued.any (fun n => before.contains n) || !s.waveFree p.fir p.instr then s
        else ((s.pendDel c k).waveDone p.fir w).sendA p.fir.atS0 d
      | _, _ => s)

/-! ## Queues (13 R296, R297) -/

/-- The handle of a queue's operation: an enabled ring in queue mode; the error is a code and a cause. -/
def State.queueHandle (s : State) (f : Firing) (queue : Bool) : Except (Nat × Nat) Nat :=
  match ptrOperand f.a with
  | .error code => .error (code, 0)
  | .ok p =>
    match s.ptrCause f.cl [5] p with
    | some k => .error (Code.SPACE_ILLEGAL, k)
    | none =>
      let r := s.ringOf p
      if r.en && r.mode == queue then .ok p else .error (Code.SPACE_ILLEGAL, 2)

/-- The payload bits a QPUSH writes, split where lanes differ in poison. -/
def pushRuns (b : Token) (n : Nat) : List Run :=
  laneRuns b.cont ((List.range (n / b.cont)).map (fun j => (b.lane j, decide (j < b.g) && b.poisoned j))) 0 ++
    (if n % b.cont = 0 then [] else
      let o := n / b.cont * b.cont
      [(o, n % b.cont, b.pay / 2 ^ o % 2 ^ (n % b.cont), decide (n / b.cont < b.g) && b.poisoned (n / b.cont))])

/-- Steps 3 to 5 of QPUSH: release, mark the slot filled with the stamp, send a. -/
def State.pushDone (s : State) (f : Firing) (d : Dests) (owner ring slot : Nat) : State :=
  let s := s.release f.cl
  (s.modRing owner ring (fun r => r.fill slot (some ({ gal := f.cl, pos := (s.gal f.cl).p } : Stamp)))).sendA f.atS0 d

/-- Step 1 of QPUSH: the next slot is claimed, unless the match has claimed one before it had to wait. -/
def State.claimSlot (s : State) (f : Firing) (owner ring : Nat) : State × Nat :=
  match (s.entryOf f).claim with
  | some q => (s, q.2.2)
  | none =>
    let n := ((s.ctx owner).ring ring).claim
    let e := { s.entryOf f with claim := some (owner, ring, n) }
    ({ s.modRing owner ring (fun r => { r with claim := r.claim + 1 }) with curEnt := some e }, n)

/-- QPUSH claims a slot and writes the payload (13 R296). With the queue full it stays a match; with the galley full, or a
walk to wait for, a match that has claimed its slot. -/
def execQpush (d : Dests) (s : State) : Host.Outcome State Fault Refusal :=
  let f := s.firing
  let b := f.opB
  .next (if s.idleAction f then s.emitBoth f d (f.passBubble (f.forward f.opA f.tag))
    else match s.queueHandle f true with
      | .error (code, cause) => s.fail f code cause
      | .ok p =>
        let (owner, ring) := handleRing p
        let r := s.ringOf p
        let n := min r.slot 256
        let runs := pushRuns b n
        if r.full && (s.entryOf f).claim.isNone then s.rehold f none
        else
          let (s, slot) := s.claimSlot f owner ring
          let q := r.slotPtr slot
          if ptrTag r.base.toNat = 1 then
            if runs.any (·.2.2.2) then s.fail f Code.POISON_CONSUMED
            else if bufRange (ptrBufAll q) n then s.fail f Code.BUF_RANGE
            else
              (s.pendNew f (.qpush d) (.qpush owner ring slot)).send 0 f.cl f.atS0.unit owner 65
                (.abuf owner (ptrBufOff q) n (some (runBits runs)) (f.cl, s.serial))
          else
            s.access f [0] .write q n false (fun _ _ l =>
              let ps := overlay l 0 runs
              let src := storeSource f.atS0.unit
              let place := appPush src f.seq
              if !s.mayAppend f.cl place (piecesCut ps).length then (s.waitApp f.cl place true).rehold f none
              else (((s.waitApp f.cl place false).appendAll f.cl 0 src (s.cl f.cl).sid ps).pushDone f d owner ring slot)))

/-- QPOP takes the cursor's slot (13 R297); with nothing filled past the cursor it stays a match. -/
def execQpop (d : Dests) (s : State) : Host.Outcome State Fault Refusal :=
  let f := s.firing
  .next (if s.idleAction f then s.emitBoth f d (f.passBubble { tag := f.tag })
    else match s.queueHandle f true with
      | .error (code, cause) => s.fail f code cause
      | .ok p =>
        let (owner, ring) := handleRing p
        let r := s.ringOf p
        if r.popc = r.wslot then s.rehold f none
        else
          (s.modRing owner ring (fun r => { r with popc := r.popc + 1 })).pendNew f (.qpop d)
            (.qpop owner ring r.popc (r.filled.get none r.popc) none false []))

/-- A pop's bits leave as four 64-bit lanes, zero above the slot, and its slot is released (13 R297). -/
def State.popDone (s : State) (p : Pend) (d : Dests) (owner ring slot n v : Nat) (bad : List (Nat × Nat)) : State :=
  let t := p.fir.laneTok 2 6 ((List.range 4).map (fun j =>
    if meetsBad bad (64 * j) 64 then (0, true) else (v % 2 ^ n / 2 ^ (64 * j) % 2 ^ 64, false)))
  ((s.pendDel p.fir.cl p.id).modRing owner ring (fun r => r.release slot)).emitBoth p.fir.atS0 d t

/-- The pusher's stamp is seen: acquire, read, release the slot, send. The read of memory is issued, after the acquire, at
the A of the moment at which its address is translated (04 R80, R84, R95, 13 R297). -/
def execQpopComplete (c k : Nat) (s : State) : Host.Outcome State Fault Refusal :=
  .next (match s.pend c k with
    | none => s
    | some p =>
      match p.why, p.instr with
      | .qpop owner ring slot st none rd ps, .qpop _ =>
        (match st with
        | none => s.pendSet c k (.qpop owner ring slot st (some (s.gal c).a) rd ps)
        | some q =>
          let l := [(q.gal, q.pos)]
          if s.acqSeen c l && s.markerRoom c l then
            let s := s.acquire c l
            s.pendSet c k (.qpop owner ring slot st (some (s.gal c).a) rd ps)
          else s.acqWait c (s.acqSeen c l) l)
      | .qpop owner ring slot st (some at_) rd ps, .qpop d =>
        let r := (s.ctx owner).ring ring
        let n := min r.slot 256
        let q := r.slotPtr slot
        if rd then
          (match s.reply c k with
          | none => s
          | some (m, v) => (s.dropMsg m).popDone p d owner ring slot n v [])
        else if ptrTag r.base.toNat = 1 then
          if bufRange (ptrBufAll q) n then (s.pendDel c k).fail p.fir Code.BUF_RANGE
          else (s.pendSet c k (.qpop owner ring slot st (some at_) true ps)).send 0 c p.fir.atS0.unit owner 65
            (.abuf owner (ptrBufOff q) n none (c, k))
        else if !leaseOk (s.leaseOf c) .read (ptrOff q) n then
          (s.pendDel c k).fail p.fir Code.LEASE_VIOLATION (leaseCause .read (ptrOff q) n)
        else
          (match s.xlat c .read (ptrOff q) n with
          | .ok l =>
            if ps.isEmpty then
              s.pendSet c k (.qpop owner ring slot st (some (s.gal c).a) rd (loadPieces l))
            else if s.readLag c at_ then s else
            let (there, s) := s.fetchLines c (8192 + k) (holderOf p.fir.atS0.unit) (linesOf l)
            if !there then s else
            let v := s.readPieces c at_ ps
            ((s.tlbUse c (ptrOff q) n).substIf c v.2.2).popDone p d owner ring slot n v.1 v.2.1
          | .miss va => (s.startWalk c va .read p.fir none).2
          | .dirty _ => s
          | .fault cause va => (s.pendDel c k).fail p.fir Code.XLATE_FAULT (xlateCause cause va))
      | _, _ => s)

/-! ## Another cluster's A-buffer (02 R39) -/

/-- The requester of a tag 0x7 store learns that it has been applied. -/
def State.abufStored (s : State) (c k : Nat) : State :=
  match s.pend c k with
  | none => s
  | some p =>
    match p.why, p.instr with
    | .remote, i => (s.pendDel c k).storeDone p.fir i
    | .qpush owner ring slot, .qpush d => (s.pendDel c k).pushDone p.fir d owner ring slot
    | _, _ => s

/-- The target's banks have served a tag 0x7 access: a store's requester learns it, a load's value goes back. A wave
member is then performed (13 R277), where it needs no entry that is not free (13 R276). -/
def State.remoteDone (s : State) (m : Msg) : State :=
  match m.pay with
  | .abuf t _ _ st (c, p) =>
    let free := match s.pend c p with | some q => s.waveFree q.fir q.instr | none => true
    if !free then s
    else
      let v := (s.cl t).bankValue m.id
      let s' := (s.bankDrop t m.id).dropMsg m.id
      (match st with
      | some _ => s'.abufStored c p
      | none =>
        let s' := match s.pend c p with
          | some q => s'.waveIf q.fir q.instr
          | none => s'
        s'.send 1 t 65 m.src m.srcUnit (.abufVal c p v))
  | _ => s

/-- What follows once an A-buffer's banks have served every word of an access: a store is performed, a load has its
bits, another cluster's access is answered; a store of a stream or a copy needs nothing more, and a read that nothing
waits for any more goes (02 R36, R39, 13 R277). -/
def State.bankSettle (t : Nat) (s : State) (key : Nat) : State :=
  let x := s.cl t
  if !x.bankDone key || !x.banks.any (·.key == key) then s
  else match s.pend t key with
    | some p =>
      if p.why ≠ .banks || !s.waveFree p.fir p.instr then s
      else
        let v := x.bankValue key
        let s := s.bankDrop t key
        (match storeShape p.instr with
        | some _ => (s.pendDel t key).storeDone p.fir p.instr
        | none => (s.pendSet t key (.served v)).waveIf p.fir p.instr)
    | none =>
      match s.msg key with
      | some m => s.remoteDone m
      | none => if x.wants key then s else s.bankDrop t key

/-- Whatever a cluster's banks have served goes on. -/
def State.bankSettleAll (t : Nat) (s : State) : State :=
  (((s.cl t).banks.map (·.key)).eraseDups).foldl (State.bankSettle t) s

/-- One cycle of a bank: it serves one of its requesters, and the others wait; what it delivers can be used once the
cycle is over (02 R34, R35). The cluster is numbered in its die (01 R10). -/
def execABufferBankPriority (die : BitVec 2) (cl : BitVec 8) (bank : BitVec 5) (s : State) : Host.Outcome State Fault Refusal :=
  let c := 256 * die.toNat + cl.toNat
  .next (match (s.cl c).bankNext bank.toNat with
    | some q => s.modCl c (fun x => x.bankPerform bank.toNat q)
    | none => s)

/-- A tag 0x7 access has arrived: it asks the target's banks, as the last in their order (02 R35, R39). The message
stays until they have served it, so that a source agent's accesses are applied in issue order. -/
def execRemoteAbufAccess (k : Nat) (s : State) : Host.Outcome State Fault Refusal :=
  .next (match s.msg k with
    | none => s
    | some m =>
      match m.pay with
      | .abuf t off w st _ =>
        if !s.arrived m then s
        else if (s.cl t).banks.any (·.key == k) then s.bankSettle t k
        else s.bankAsk t k 8 off w st
      | _ => s)

end Sys2Proof.Machine
end

