-- ==== Sys2Proof/Machine/Streams.lean ====
section
/-!
DEFINITION. Streams and blocks: STRMGO, LDB, STB, STRMEND, STRMST, and the tokens that move through the stream ports
(03 R63, R64, R68, R73, 06 R146 to R148, 13 R282 to R290, 15 R319).
-/
namespace Sys2Proof.Machine

/-! ## Shape of a stream -/

/-- The endpoint a stream instruction names. -/
def Stream.port (x : Stream) : Nat := (streamPort x.instr).getD 0

def Ep.w (e : Ep) : Nat := Fd.codeWidth e.fd
def Ep.g (e : Ep) : Nat := 2 ^ e.gl2
/-- log2 of the port's container (06 R146). -/
def Ep.cl2 (e : Ep) : Nat := contOf e.w
def Ep.signed (e : Ep) : Bool := Fd.cls e.fd == 1
/-- Widths of 3, 5, 6 and 7 bits are packed (02 R32). -/
def packedW (w : Nat) : Bool := w == 3 || w == 5 || w == 6 || w == 7

/-- Tokens of a stream (13 R285). -/
def Stream.total (x : Stream) (e : Ep) : Nat := x.c0 * x.c1 * x.c2 / e.g

/-- Position of token j: k0, k1, k2 of its first element. -/
def Stream.at_ (x : Stream) (e : Ep) (j : Nat) : Nat × Nat × Nat :=
  let n := j * e.g
  (n % x.c0, n / x.c0 % x.c1, n / (x.c0 * x.c1))

/-- Offset of the row of k1 and k2 (13 R284). -/
def Stream.row (x : Stream) (k1 k2 : Nat) : Int := ((ptrField x.base : Nat) : Int) + x.s2 * (k2 : Int) + x.s1 * (k1 : Int)

/-- r rounded up to a multiple of 16. -/
def up16 (r : Int) : Int := -((-r) / 16) * 16

/-- Offset of the scale of block β of a row under in-band scales (13 R284). -/
def blockAt (r : Int) (len : Nat) : Nat → Int
  | 0 => up16 r
  | n + 1 => up16 (blockAt r len n + 16 + (len : Int))

/-- Offsets of a token's first element, and of its block's scale (13 R284). -/
def Stream.offsets (x : Stream) (e : Ep) (j : Nat) : Int × Int :=
  let (k0, k1, k2) := x.at_ e j
  let r := x.row k1 k2
  if e.scm = 2 then
    let len := e.g * e.burst
    let s := blockAt r (len * e.w) (k0 / len)
    (s + 16 + ((k0 % len * e.w : Nat) : Int), s)
  else (r + ((k0 * e.w : Nat) : Int), r)

/-- The outer index of a token (13 R285, R290). -/
def Stream.outer (x : Stream) (e : Ep) (j : Nat) : Nat :=
  if x.block then
    (if x.fir.opA.ov then x.fir.opA.oidx else bits x.base 42 11)
  else
    let (_, k1, k2) := x.at_ e j
    if 1 < x.c2 then k2 else k1

/-- EOD of a token (13 R285, R290). -/
def Stream.eod (x : Stream) (e : Ep) (j : Nat) : Nat :=
  let k0 := (j * e.g + e.g) % x.c0
  let (_, k1, _) := x.at_ e j
  if j + 1 = x.total e then (if x.block then 1 else 3)
  else if k0 ≠ 0 then 0
  else if k1 + 1 = x.c1 then 2
  else 1

/-! ## Starting -/

/-- The stream of a STRMGO's configuration token (13 R283). -/
def streamOf (f : Firing) (i : Instr) (t : Token) : Stream :=
  let l1 := t.lane 1; let l2 := t.lane 2; let l3 := t.lane 3
  { fir := f, instr := i, base := t.lane 0, c0 := bits l1 31 0, c1 := max 1 (bits l1 63 32), c2 := max 1 (bits l3 15 0),
    s1 := Sys2Proof.sext (bits l2 31 0) 32, s2 := Sys2Proof.sext (bits l2 63 32) 32, drl := l3.testBit 16 }

/-- The block of an LDB or STB at p: one row of B tokens (13 R290). -/
def blockOf (f : Firing) (i : Instr) (e : Ep) (p : Nat) : Stream :=
  { fir := f, instr := i, base := p, c0 := e.g * e.burst, c1 := 1, c2 := 1, s1 := 0, s2 := 0, block := true }

def State.setPort (s : State) (c p : Nat) (g : StrPort → StrPort) : State :=
  s.modCtx c (fun x => { x with ports := x.ports.put p (g (x.port p)) })

/-- A stream starts on its port. -/
def State.startStream (s : State) (c : Nat) (x : Stream) : State :=
  s.setPort c x.port (fun q => { q with stream := some x, lastMoved := 0, ran := true })

/-- A base or stride that is no multiple of a packed width (02 R32). -/
def unpacked (w : Nat) (x : Stream) : Bool :=
  packedW w && (ptrField x.base % w ≠ 0 || decide (x.s1 % (w : Int) ≠ 0) || decide (x.s2 % (w : Int) ≠ 0))

/-- STRMGO starts a stream. A poisoned BASE is an address and ends the unit; poison on another lane is forwarded with the
count the stream sends (13 R273, R283, 22 R395; log 37). -/
def execStrmgo (n : BitVec 8) (d : Dests) (s : State) : Host.Outcome State Fault Refusal :=
  let f := s.firing
  let a := f.opA
  .next (if f.hasBubble then s.emitBoth f d (f.bubble f.tag)
    else match s.ep f.cl n.toNat with
      | none => s
      | some e =>
        if a.gl2 ≠ 2 ∨ a.cl2 ≠ 6 then s.fail f Code.LANE_MISMATCH
        else if a.poisoned 0 then s.fail f Code.POISON_CONSUMED
        else
          let x := streamOf f (.strmgo n d) a
          let unit := if e.scm = 2 then e.g * e.burst else e.g
          if x.c0 % unit ≠ 0 then s.fail f Code.LANE_MISMATCH
          else if bits (a.lane 3) 63 17 ≠ 0 ∨ (x.drl ∧ !e.out) then s.fail f Code.SPACE_ILLEGAL 4
          else if unpacked e.w x then s.fail f Code.ALIGN_FAULT
          else s.startStream f.cl x)

/-- Space tags a stream accepts: a block's also 0x6, which only a privileged forme may use (02 R24). -/
def streamTags (block : Bool) : List Nat := if block then [0, 1, 7, 6] else [0, 1, 7]

/-- LDB and STB start their block (13 R290). A block of system registers moves 64-bit elements (02 R23). -/
def State.blockFire (s : State) (i : Instr) (n : Nat) : State :=
  let f := s.firing
  match ptrOperand f.a, s.ep f.cl n with
  | .error code, _ => s.fail f code
  | .ok _, none => s
  | .ok p, some e =>
    let x := blockOf f i e p
    match s.ptrCause f.cl (streamTags true) p with
    | some k => s.fail f Code.SPACE_ILLEGAL k
    | none =>
      if unpacked e.w x || (ptrTag p == 6 && e.w != 64) then s.fail f Code.ALIGN_FAULT else s.startStream f.cl x

def execLdb (n : BitVec 8) (d : Dests) (s : State) : Host.Outcome State Fault Refusal :=
  let f := s.firing
  .next (if f.hasBubble then s.emitBoth f d (f.asBubble (f.forward f.opA f.tag)) else s.blockFire (.ldb n d) n.toNat)

def execStb (n : BitVec 8) (d : Dests) (s : State) : Host.Outcome State Fault Refusal :=
  let f := s.firing
  .next (if f.hasBubble then (s.addSkips f).emitBoth f d (f.asBubble (f.forward f.opA f.tag))
    else s.blockFire (.stb n d) n.toNat)

/-! ## Elements -/

/-- What reaching an element range finds. -/
inductive Elem where
  | ok (tag off : Nat) (l : List (Nat × Nat × Bool))
  | miss (va : Nat)
  | dirty (va : Nat)
  | bad (code cause : Nat)
deriving DecidableEq, Repr

/-- The pointer of an offset of a base's space. -/
def basePtr (base : Nat) (o : Int) : Nat := base - ptrField base + zextInt o (ptrFieldW base)

/-- Check and translate the n elements of w bits from an offset of the base's space, in the order of R273; a failure
names the first failing element (13 R283). -/
def State.elems (s : State) (c : Nat) (tags : List Nat) (kind : AccKind) (base : Nat) (off : Int) (w n : Nat) : Elem :=
  let t := ptrTag base
  match s.ptrCause c tags base with
  | some k => .bad Code.SPACE_ILLEGAL k
  | none =>
    if t = 0 then
      let okAt (o : Int) (len : Nat) : Bool := decide (0 ≤ o) && decide (o + (len : Int) ≤ ((2 ^ 60 : Nat) : Int)) &&
        leaseOk (s.leaseOf c) kind o.toNat len
      if okAt off (w * n) then
        match s.xlat c kind off.toNat (w * n) with
        | .ok l => .ok 0 off.toNat l
        | .miss va => .miss va
        | .dirty va => .dirty va
        | .fault cause va => .bad Code.XLATE_FAULT (xlateCause cause va)
      else
        let i := ((List.range n).find? (fun i => !okAt (off + ((i * w : Nat) : Int)) w)).getD 0
        .bad Code.LEASE_VIOLATION (leaseCause kind (basePtr base (off + ((i * w : Nat) : Int)) % 2 ^ 60) w)
    else if t = 6 then
      match (List.range n).findSome? (fun i => s.ptrCause c tags (basePtr base (off + ((i * w : Nat) : Int)))) with
      | some k => .bad Code.SPACE_ILLEGAL k
      | none => .ok 6 (zextInt off (ptrFieldW base)) []
    else if off < 0 ∨ ((2 ^ 23 : Nat) : Int) < off + ((w * n : Nat) : Int) then .bad Code.BUF_RANGE 0
    else .ok t (off.toNat) []

/-- How many elements, of those of a token, can be reached before the first that fails (13 R283). -/
def State.elemsSound (s : State) (c : Nat) (tags : List Nat) (kind : AccKind) (base : Nat) (off : Int) (w n : Nat) : Nat :=
  (((List.range n).reverse).find? (fun m => m == 0 || (match s.elems c tags kind base off w m with
    | .bad _ _ => false | _ => true))).getD 0

/-- The lines of memory that reading an element takes. -/
def Elem.lines : Elem → List Nat
  | .ok _ _ l => linesOf l
  | _ => []

/-- The cluster whose A-buffer a base names. -/
def bufOwner (c base : Nat) : Nat := if ptrTag base = 7 then ptrCluster base else c

/-- A system register of each 64-bit element from an offset. -/
def regsOf (base off n : Nat) : List RegAddr := (List.range n).map (fun i => regOfPtr (basePtr base ((off + 64 * i : Nat) : Int)))

/-! ## Into the fabric (13 R285) -/

/-- What the tag of token j needs. -/
inductive SlotRes where
  | stale
  /-- its owner is no present cluster of the launch (06 R128) -/
  | illegal
  | wait
  /-- its slot is occupied: the port holds it, and the frame's PEND counts it (06 R130, R147) -/
  | hold (fr : Frame)
  | go (t : Tag) (fr : Option Frame)
deriving DecidableEq, Repr

/-- The tag of a stream's token j, occupying its iteration exactly as `:next` does; holding: the port has held it for its
slot, and the frame's PEND counts it (06 R128, R130, R147). With N = 1 the token carries T, and no frame operation. -/
def State.streamTag (s : State) (c : Nat) (t : Tag) (j : Nat) (holding : Bool) : SlotRes :=
  let outside := decide (j ≠ 0) && (decide (4 ≤ tagDie t) || !s.present? (tagCluster t) || !s.inLaunch c (tagCluster t))
  match s.frame t with
  | none => if outside then .illegal else .stale
  | some fr =>
    if fr.n = 1 ∨ j = 0 then .go t none
    else if outside then .illegal
    else
      let prev := (tagIter t + j - 1) % fr.n
      let i := (tagIter t + j) % fr.n
      let left := { fr with pend := fr.pend - 1 }
      if s.grantDue t fr then .wait
      else if prev ≠ fr.newest then .go (withIter t i) (if holding then some left else none)
      else if fr.occ.testBit i then (if holding then .wait else .hold { fr with pend := fr.pend + 1 })
      else .go (withIter t i) (some { (if holding then left else fr) with occ := fr.occ + 2 ^ i, newest := i })

/-- The pointer LDB and STB send: past the end of the block (13 R290). -/
def Stream.endPtr (x : Stream) (e : Ep) : Nat :=
  let r := x.row 0 0
  let z := if e.scm = 2 then up16 r + 16 + ((x.c0 * e.w : Nat) : Int) else r + ((x.c0 * e.w : Nat) : Int)
  ptrAdd x.base (z - r)

/-- LDB sends its pointer once its block is issued: with the issue of its last token (13 R290). -/
def State.tellIssued (s : State) (x : Stream) (e : Ep) : State × Stream :=
  match x.instr with
  | .ldb _ d =>
    if x.told || decide (x.j + 1 < x.total e) then (s, x)
    else (s.emitBoth x.fir d (x.fir.new64 (x.endPtr e)), { x with told := true })
  | _ => (s, x)

/-- A stream's token j leaves: its slot is taken, its count noted. -/
def State.streamSend (s : State) (c port : Nat) (x : Stream) (e : Ep) (tag : Tag) (fr : Option Frame) (t : Token) : State :=
  let (s, x) := s.tellIssued x e
  let t := { t with tag := tag, bpos := x.j % e.burst, eod := x.eod e x.j }
  let s := match fr with | some g => s.setFrame tag g | none => s
  let s := s.setPort c port (fun q => { q with stream := some { x with j := x.j + 1, moved := (x.j + 1) * e.g, issued := none, reads := ([], []), missed := false,
                                                                               holding := false },
                                               lastMoved := (x.j + 1) * e.g })
  match Dest.ofBits e.dest with
  | some d => (s.active c).emit x.fir [(d, t)]
  | none => s

/-- A token's bubble: its outer index, and the port's id (03 R63, R64). -/
def Stream.bubble (x : Stream) (e : Ep) : Token :=
  let o := x.outer e x.j
  { kind := .bubble, gl2 := 0, cl2 := 0, ov := true, oidx := o, pay := o % 2 ^ 32 + o % 2 ^ 32 * 2 ^ 32 + x.port * 2 ^ 64 }

/-- The repair pass reads an outer index (03 R68). -/
def Ctx.repairs (x : Ctx) (o : Nat) : Bool :=
  x.skipAll || (x.skip0 ++ x.skip1).any (fun r => decide (r.1 ≤ o) && decide (o ≤ r.2))

/-- A token of the stream carries its burst's scale in the memory before it: the burst's first, or the next one after
a bubble took the place of the one that was to read it (06 R148). -/
def Stream.readsScale (x : Stream) (e : Ep) : Bool := e.scm == 2 && (x.j % e.burst == 0 || x.scaleLost)

/-- A bubble takes the place of a token; a scale that the token was to read is still to be read. -/
def State.streamBubble (s : State) (c port : Nat) (x : Stream) (e : Ep) (tag : Tag) (fr : Option Frame) : State :=
  s.streamSend c port { x with scaleLost := x.readsScale e } e tag fr (x.bubble e)

def State.putStream (s : State) (c port : Nat) (x : Stream) : State := s.setPort c port (fun q => { q with stream := some x })

/-- A miss of a stream element: a bubble under SWITCH in a loader's main pass; else it waits for the walk
(03 R53, R63, R68, 13 R288). -/
def State.streamMiss (s : State) (c port : Nat) (x : Stream) (e : Ep) (va : Nat) (tag : Tag) (fr : Option Frame) : State :=
  let s := (s.startWalk c va .read x.fir none).2
  if (s.cl c).forme.stall || (s.ctx c).repair || (s.ctx c).repaired || e.unit == 38 then
    s.putStream c port { x with missed := true }
  else (s.count c 0x052 1).streamBubble c port x e tag fr

/-- The accesses of a token have been issued: line requests at an A, or banks asked under a key (02 R39, 04 R80). -/
def State.streamIssue (s : State) (c port : Nat) (x : Stream) (e : Ep) (se el : Elem) : State :=
  let owner := bufOwner c x.base
  match el with
  | .ok 0 _ _ =>
    let (s, x) := s.tellIssued x e
    s.putStream c port { x with issued := some (s.gal c).a, missed := false
                                reads := ((match se with | .ok 0 _ sl => loadPieces sl | _ => []),
                                  (match el with | .ok _ _ l => loadPieces l | _ => [])) }
  | .ok 6 _ _ => s
  | .ok _ off _ =>
    if !s.bufClear c e.unit owner then s
    else
      let (s, x) := s.tellIssued x e
      let (k, s) := s.fresh
      let s := match se with | .ok t so _ => if t = 9 then s else s.bufAsk c e.unit owner (k + 1) so 16 none | _ => s
      let s := s.bufAsk c e.unit owner k off (e.w * e.g) none
      { s.putStream c port { x with issued := some k, missed := false } with serial := max s.serial (k + 2) }
  | _ => s

/-- What a token's accesses deliver, once they have: its scale's bits and its own, each with poisoned ranges and
whether zeros were substituted. A memory read merges own entries below the A of its issue (02 R40, 04 R80). -/
def State.streamGot (s : State) (c port : Nat) (x : Stream) (e : Ep) (k : Nat) (se el : Elem) :
    Option ((Nat × List (Nat × Nat) × Bool) × (Nat × List (Nat × Nat) × Bool)) × State :=
  let owner := bufOwner c x.base
  match el with
  | .ok 0 _ _ =>
    if s.readLag c k then (none, s)
    else
      let (there, s) := s.fetchLines c (128 + port) (holderOf e.unit) (se.lines ++ el.lines)
      if !there then (none, s)
      else (some (s.readPieces c k x.reads.1, s.readPieces c k x.reads.2), s)
  | .ok 6 off _ => (some ((0, [], false), (packLanes 64 ((regsOf x.base off e.g).map s.regRead), [], false)), s)
  | _ =>
    let sc := match se with
      | .ok 9 _ _ => some (0, s)
      | _ => s.bufGot c owner (k + 1)
    match sc with
    | none => (none, s)
    | some (b, s1) => match s1.bufGot c owner k with
      | none => (none, s)
      | some (v, s2) => (some ((b, [], false), (v, [], false)), s2)

/-- The data token j of a stream: issued, and once its bits are there sent with its scale (06 R147, R148, 13 R285). -/
def State.streamData (s : State) (c port : Nat) (x : Stream) (e : Ep) (tag : Tag) (fr : Option Frame) : State :=
  let (off, so) := x.offsets e x.j
  let first := x.readsScale e
  let tags := streamTags x.block
  let se := if first then s.elems c tags .read x.base so 16 1 else .ok 9 0 []
  match se, s.elems c tags .read x.base off e.w e.g with
  | .bad code cause, _ => s.fail x.fir code cause
  | .miss va, _ => s.streamMiss c port x e va tag fr
  | .dirty _, _ => s
  | .ok .., .bad code cause => s.fail x.fir code cause
  | .ok .., .miss va => s.streamMiss c port x e va tag fr
  | .ok .., .dirty _ => s
  | .ok .., el =>
    match (match el with | .ok 6 _ _ => some 0 | _ => x.issued) with
    | none => s.streamIssue c port x e se el
    | some k =>
      match s.streamGot c port x e k se el with
      | (none, s) => s
      | (some (sc, v), s) =>
        let x := if first then { x with scale := BitVec.ofNat 16 sc.1, scalePoison := !sc.2.1.isEmpty, scaleLost := false } else x
        let scale : BitVec 16 := if e.scm = 0 then 0x7F00 else if e.scm = 1 then e.scale else x.scale
        let allBad := (e.scm == 2 && x.scalePoison) || scaleInvalid scale
        let t := x.fir.loaded e.w e.g e.signed v.1 v.2.1
        let t := { t with scale := scale, ov := true, oidx := x.outer e x.j, pmask := if allBad then 2 ^ e.g - 1 else t.pmask }
        let s := if ptrTag x.base = 0 then s.tlbUse c off.toNat (e.w * e.g) else s
        (s.substIf c ((first && sc.2.2) || v.2.2)).streamSend c port x e tag fr t

/-- STALL holds the unit of a stream's port for another of its accesses (02 R44). -/
def Cluster.streamStalled (x : Cluster) (port u : Nat) : Bool :=
  ({ x with ctx := { x.ctx with ports := x.ctx.ports.del port } } : Cluster).tileStalled u

/-- An into-fabric port emits its next token, or a bubble (13 R285); a halt or a trap stop lets the token in progress
leave (22 R397, 23 R413). A bubble in the repair pass, for an outer index that
no list names, is not counted: it replaces no missed element (03 R63; log 72). -/
def execStreamTokenEmit (c port : Nat) (s : State) : Host.Outcome State Fault Refusal :=
  let k := s.cl c
  .next (match (k.ctx.port port).stream, s.ep c port with
    | some x, some e =>
      if e.out || ((k.stopped || k.frozenPorts) && !(x.issued.isSome && k.stat == .running)) || decide (x.total e ≤ x.j) ||
          (x.stopping && x.j % e.burst == 0 && x.issued.isNone) || (x.issued.isNone && k.streamStalled port e.unit) then s
      else match s.streamTag c x.fir.tag x.j x.holding with
        | .stale => s.failFrame x.fir Code.TAG_STALE
        | .illegal => s.fail x.fir Code.TAG_ILLEGAL
        | .wait => s
        | .hold fr => (s.setFrame x.fir.tag fr).putStream c port { x with holding := true }
        | .go tag fr =>
          if k.ctx.repair && !k.ctx.repairs (x.outer e x.j) then s.streamBubble c port x e tag fr
          else s.streamData c port x e tag fr
    | _, _ => s)

/-! ## Out of the fabric (13 R286) -/

/-- Add a piece to the waiting pieces; one that continues the last in its sector is merged with it. -/
def joinPiece (l : List (Nat × Nat × Nat × Bool)) (p : Nat × Nat × Nat × Bool) : List (Nat × Nat × Nat × Bool) :=
  match l.getLast? with
  | some q =>
    if q.1 + q.2.1 = p.1 ∧ q.1 / 512 = p.1 / 512 ∧ q.2.2.2 = p.2.2.2 then
      l.dropLast ++ [(q.1, q.2.1 + p.2.1, q.2.2.1 + 2 ^ q.2.1 * p.2.2.1, q.2.2.2)]
    else l ++ [p]
  | none => [p]

/-- The pieces that no later element can extend: all but the last, and the last where it ends its sector. -/
def ripe (l : List (Nat × Nat × Nat × Bool)) : List (Nat × Nat × Nat × Bool) × List (Nat × Nat × Nat × Bool) :=
  match l.getLast? with
  | some q => if (q.1 + q.2.1) % 512 = 0 then (l, []) else (l.dropLast, [q])
  | none => ([], [])

/-- KIND and SOURCE of a stream's appends (04 R77, 13 R288). -/
def Ep.kindSource (e : Ep) : Nat × Nat := if e.unit = 38 then (1, 3) else (0, storeSource e.unit)

/-- Append pieces of a stream. -/
def State.streamAppend (s : State) (c : Nat) (e : Ep) (l : List (Nat × Nat × Nat × Bool)) : State :=
  s.appendAll c e.kindSource.1 e.kindSource.2 (s.cl c).sid l

/-- The checksums of a tile after a token's codes (15 R319): row i, columns from j. -/
def tileAdd (sums : Tbl Nat) (i j : Nat) (l : List (Nat × Bool)) : Tbl Nat :=
  l.zipIdx.foldl (fun (t : Tbl Nat) p =>
    t.put (j + p.2) ((t.get 0 (j + p.2) + (2 * i + 1) * (if p.1.2 then 0 else p.1.1)) % 2 ^ 32)) sums

/-- The first n lanes of a token as runs at an offset, each narrowed to w bits (13 R286). -/
def tokenRuns (w n : Nat) (t : Token) (badAll : Bool) : List Run :=
  laneRuns w ((List.range n).map (fun j => (t.lane j, badAll || t.poisoned j))) 0

/-- The scale's runs where a token leads its burst: poisoned with its block where its exponent is 255 (06 R148). -/
def scaleRuns (first bad : Bool) (t : Token) : List Run :=
  if first then [(0, 16, (if bad then 0 else t.scale.toNat), bad)] else []

/-- What an MXOUT tile's token makes of the running checksums, the elements left, and, at the last, whether the tile's
checksum holds (15 R319). -/
def tileStep (x : Stream) (e : Ep) (pt : PortTok) : Tbl Nat × Nat × Option Bool :=
  match pt.tile with
  | none => (x.tileSums, x.tileLeft, none)
  | some (i, j, rows, cols, oc) =>
    let t := pt.tok
    let left := (if x.tileLeft = 0 then rows * cols else x.tileLeft) - t.g
    let sums := tileAdd (if x.tileLeft = 0 then [] else x.tileSums) i j ((List.range t.g).map (fun k => (t.lane k % 2 ^ e.w, t.poisoned k)))
    if left = 0 then ([], 0, some ((List.range cols).all (fun k => sums.get 0 k == (nth oc k).getD 0)))
    else (sums, left, none)

/-- The first n elements of a token have been reached in process memory: their pieces join the stream's, are appended
when no later element extends them, and those of an MXOUT tile wait for its checksum (13 R286, 15 R319). The last
answer: the tile's checksum failed. -/
def State.streamMem (s : State) (c : Nat) (x : Stream) (e : Ep) (pt : PortTok) (n off : Nat) (l : List (Nat × Nat × Bool))
    (sel : Elem) (first : Bool) : State × Stream × Bool :=
  let bad := scaleInvalid pt.tok.scale && e.scm == 2
  let ps := (match sel with | .ok 0 _ sl => piecesCut (overlay sl 0 (scaleRuns first bad pt.tok)) | _ => []) ++
    piecesCut (overlay l 0 (tokenRuns e.w n pt.tok bad))
  let held := ps.foldl joinPiece x.held
  let lo := if first then (match sel with | .ok _ o _ => o | _ => off) else off
  let x := { x with lo := some (match x.lo with | some a => min a lo | none => lo), hi := max x.hi (off + e.w * n) }
  let (sums, left, done) := tileStep x e pt
  let x := { x with tileSums := sums, tileLeft := left }
  match done with
  | some good =>
    let out := if good then held else held.map (fun p => (p.1, p.2.1, 0, true))
    (s.streamAppend c e out, { x with held := [] }, !good)
  | none =>
    if 0 < left then (s, { x with held := held }, false)
    else let q := ripe held; (s.streamAppend c e q.1, { x with held := q.2 }, false)

/-- The lowest and highest bits that a stream has written to a buffer (03 R73). -/
def Stream.wrote (x : Stream) (l : List (Nat × Nat × Nat)) : Stream :=
  l.foldl (fun x p => { x with lo := some (match x.lo with | some a => min a p.1 | none => p.1), hi := max x.hi (p.1 + p.2.1) }) x

/-- The writes of a stream to a typed buffer set out for their banks. -/
def State.bufWrites (s : State) (c unit owner : Nat) : List (Nat × Nat × Nat) → State
  | [] => s
  | (off, w, v) :: rest =>
    let (k, s) := s.fresh
    State.bufWrites (s.bufAsk c unit owner k off w (some v)) c unit owner rest

/-- The same in a typed buffer, which holds no poison: a tile whose checksum fails is not written (15 R319). -/
def State.streamBuf (s : State) (c : Nat) (x : Stream) (e : Ep) (pt : PortTok) (n off : Nat) (sel : Elem) (first : Bool) :
    State × Stream × Bool :=
  let owner := bufOwner c x.base
  let l := (match sel with | .ok _ so _ => if first then [(so, 16, pt.tok.scale.toNat)] else [] | _ => []) ++
    [(off, e.w * n, runBits (tokenRuns e.w n pt.tok false))]
  let (sums, left, done) := tileStep x e pt
  let x := { x with tileSums := sums, tileLeft := left }
  match done with
  | some true => (s.bufWrites c e.unit owner (x.heldBuf ++ l), { x.wrote (x.heldBuf ++ l) with heldBuf := [] }, false)
  | some false => (s, { x with heldBuf := [] }, true)
  | none =>
    if 0 < left then (s, { x with heldBuf := x.heldBuf ++ l }, false)
    else (s.bufWrites c e.unit owner l, x.wrote l, false)

/-- The first n elements of a token are written where they were reached. -/
def State.streamWrite (s : State) (c : Nat) (x : Stream) (e : Ep) (pt : PortTok) (n : Nat) (el sel : Elem) (first : Bool) :
    State × Stream × Bool :=
  match el with
  | .ok 0 off l => s.streamMem c x e pt n off l sel first
  | .ok 6 off _ =>
    (((regsOf x.base off n).zipIdx).foldl (fun s p => s.regWrite .privForme p.1 (pt.tok.lane p.2)) s, x, false)
  | .ok _ off _ => s.streamBuf c x e pt n off sel first
  | _ => (s, x, false)

/-- A translation that a stream's token waits for: the token and the stores of its unit after it are held, and the walk
knows whose token waits (03 R53, 13 R283). -/
def State.acceptWait (s : State) (c port : Nat) (x : Stream) (va : Nat) (dirty : Bool) : State :=
  (if dirty then (s.startDirty c va).2
  else
    let (k, s) := s.startWalk c va .write x.fir none
    s.modCl c (fun y => { y with walks := y.walks.map (fun (w : Walk) => if w.id = k ∧ w.fir = x.fir then { w with port := some port } else w) })
  ).putStream c port { x with missed := true }

/-- The first n elements of a token are moved, then the unit ends. Those of an MXOUT tile, which does not complete, join
its held ones: the unit's end poisons or discards them (13 R283, 15 R319). -/
def State.acceptSome (s : State) (c port : Nat) (x : Stream) (e : Ep) (pt : PortTok) (n : Nat) (el sel : Elem) (first : Bool)
    (code cause : Nat) : State :=
  let x := match pt.tile with
    | some (_, _, rows, cols, _) => if x.tileLeft = 0 then { x with tileLeft := rows * cols } else x
    | none => x
  let q := s.streamWrite c x e { pt with tile := none } n el sel first
  (q.1.putStream c port q.2.1).fail x.fir code cause

/-- An element of a token fails: those before it are moved, then the unit ends (13 R283). -/
def State.acceptStop (s : State) (c port : Nat) (x : Stream) (e : Ep) (pt : PortTok) (off : Int) (sel : Elem) (first : Bool)
    (code cause : Nat) : State :=
  let tags := streamTags x.block
  let n := s.elemsSound c tags .write x.base off e.w e.g
  if n = 0 then s.fail x.fir code cause
  else match s.elems c tags .write x.base off e.w n with
    | .miss va => s.acceptWait c port x va false
    | .dirty va => s.acceptWait c port x va true
    | .bad _ _ => s.fail x.fir code cause
    | el => s.acceptSome c port x e pt n el sel first code cause

/-- How many elements of a token can be reached before the first that cannot. -/
def State.elemsReached (s : State) (c : Nat) (tags : List Nat) (base : Nat) (off : Int) (w n : Nat) : Nat :=
  (((List.range n).reverse).find? (fun m => m == 0 || (match s.elems c tags .write base off w m with
    | .ok .. => true | _ => false))).getD 0

/-- The walk of a waiting token's element has failed: the elements before it are moved, then the unit ends (13 R283). -/
def State.acceptFault (s : State) (c port code cause : Nat) (f : Firing) : State :=
  let q := (s.ctx c).port port
  match q.stream, s.ep c port, q.queue with
  | some x, some e, pt :: _ =>
    let (off, so) := x.offsets e x.j
    let tags := streamTags x.block
    let first := e.scm == 2 && pt.tok.bpos == 0
    let sel := if first then s.elems c tags .write x.base so 16 1 else .ok 9 0 []
    let n := s.elemsReached c tags x.base off e.w e.g
    (match sel, s.elems c tags .write x.base off e.w n with
    | .ok .., .ok t o l => if n = 0 || x.fir != f then s.fail f code cause else s.acceptSome c port x e pt n (.ok t o l) sel first code cause
    | _, _ => s.fail f code cause)
  | _, _, _ => s.fail f code cause

/-- An out-of-fabric stream accepts the token at its port (13 R286). -/
def State.acceptTok (s : State) (c port : Nat) (x : Stream) (e : Ep) (pt : PortTok) (rest : List PortTok) : State :=
  let t := pt.tok
  let tags := streamTags x.block
  let next (s : State) (x : Stream) : State := (s.active c).setPort c port (fun q =>
    { q with queue := rest, stream := some { x with j := x.j + 1, moved := (x.j + 1) * e.g, missed := false }, lastMoved := (x.j + 1) * e.g })
  if t.kind = .bubble then
    let s := if (s.ctx c).repair then s else s.modCtx c (fun k => k.skipAdd e.unit t.olo t.ohi)
    next s x
  else if t.gl2 ≠ e.gl2 ∨ t.cl2 ≠ e.cl2 then s.fail x.fir Code.LANE_MISMATCH
  else
    let (off, so) := x.offsets e x.j
    let first := e.scm == 2 && t.bpos == 0
    let buf := decide (ptrTag x.base ≠ 0)
    let sel := if first then s.elems c tags .write x.base so 16 1 else .ok 9 0 []
    if buf && (decide (t.pmask % 2 ^ t.g ≠ 0) || (e.scm == 2 && scaleInvalid t.scale)) then s.fail x.fir Code.POISON_CONSUMED
    else match sel, s.elems c tags .write x.base off e.w e.g with
    | .bad code cause, _ => s.fail x.fir code cause
    | .miss va, _ => s.acceptWait c port x va false
    | .dirty va, _ => s.acceptWait c port x va true
    | .ok .., .bad code cause => s.acceptStop c port x e pt off sel first code cause
    | .ok .., .miss va => s.acceptWait c port x va false
    | .ok .., .dirty va => s.acceptWait c port x va true
    | .ok .., el =>
      let place := appStream e.kindSource.2 port
      let n := x.held.length + 2 * e.g + 2
      if buf then
        if ptrTag x.base ≠ 6 ∧ !s.bufClear c e.unit (bufOwner c x.base) then s
        else
          let r := s.streamWrite c x e pt e.g el sel first
          let s := next r.1 r.2.1
          if r.2.2 then s.fail x.fir Code.MXE_CKSUM else s
      else if !s.mayAppend c place n then (s.waitApp c place true).putStream c port { x with missed := true }
      else
        let r := (s.waitApp c place false).streamWrite c x e pt e.g el sel first
        let s := (next r.1 r.2.1).tlbUse c off.toNat (e.w * e.g)
        if r.2.2 then s.fail x.fir Code.MXE_CKSUM else s

/-- A store of the unit that serves a port, older than the token there, is held: the token waits behind it (03 R53). -/
def Cluster.acceptHeld (x : Cluster) (port : Nat) (y : Stream) (u : Nat) : Bool :=
  !y.missed && (x.storeHeld u 0 || ({ x with ctx := { x.ctx with ports := x.ctx.ports.del port } } : Cluster).streamHeld u)

def execStreamTokenAccept (c port : Nat) (s : State) : Host.Outcome State Fault Refusal :=
  let k := s.cl c
  let q := k.ctx.port port
  .next (match q.stream, s.ep c port, q.queue with
    | some x, some e, pt :: rest =>
      if !e.out || k.stopped || k.frozenPorts || x.stopping || decide (x.total e ≤ x.j) || k.acceptHeld port x e.unit then s
      else s.acceptTok c port x e pt rest
    | _, _, _ => s)

/-! ## Ending (13 R287, R289, R290) -/

/-- Deposit a record in the dirty-range log (03 R73). LOST counts modulo 2^16 (log 73). -/
def State.depositRange (s : State) (c port lo hi : Nat) : State :=
  let h := s.hub
  if !h.drlEn ∨ 13 ≤ h.drlSize then s
  else
    let size := 2 ^ (h.drlSize + 4)
    if (h.drlW + 2 ^ 17 - h.drlR) % 2 ^ 17 = size then s.modHub (fun h => { h with drlLost := (h.drlLost + 1) % 2 ^ 16 })
    else
      let pa := h.drlBase * 4096 + h.drlW % size * 32
      let v := (s.cl c).sid * 2 ^ 48 + c * 2 ^ 38 + port * 2 ^ 30 + 2 ^ 64 * lo + 2 ^ 128 * hi
      ({ s with mem := s.mem.writeBytes pa 32 v }).modHub (fun h => { h with drlW := (h.drlW + 1) % 2 ^ 17 })

/-- What a stream sends when it ends (13 R287, R290). -/
def State.streamOut (s : State) (x : Stream) (e : Ep) : State :=
  match x.instr with
  | .strmgo _ d =>
    s.emitBoth x.fir d { x.fir.new32 (x.j * e.g) with pmask := if x.fir.opA.pmask % 16 = 0 then 0 else 1 }
  | .ldb _ d => if x.told then s else s.emitBoth x.fir d (x.fir.new64 (x.endPtr e))
  | .stb _ d => s.emitBoth x.fir d (x.fir.new64 (x.endPtr e))
  | _ => s

/-- The STRMENDs that wait for a port send their operand. -/
def State.strmendDone (s : State) (c port : Nat) : State :=
  (s.ctx c).pend.foldl (fun s p => match p.why, p.instr with
    | .strmend q, .strmend _ d => if q = port then (s.pendDel c p.id).sendA p.fir d else s
    | _, _ => s) s

/-- A stream ends: its last pieces are appended, its record deposited, its count sent. A tile cut short is poisoned,
and MXE_CKSUM ends the unit (13 R287, 15 R319). -/
def execStreamEnd (c port : Nat) (s : State) : Host.Outcome State Fault Refusal :=
  let k := s.cl c
  .next (match (k.ctx.port port).stream, s.ep c port with
    | some x, some e =>
      let atEnd := decide (x.total e ≤ x.j) || (x.stopping && (e.out || (x.j % e.burst == 0 && x.issued.isNone)))
      let place := appStream e.kindSource.2 port
      let buf := decide (ptrTag x.base = 1 ∨ ptrTag x.base = 7)
      if !atEnd || k.stopped || (e.out && buf && !s.bufClear c e.unit (bufOwner c x.base)) then s
      else if !x.held.isEmpty && !s.mayAppend c place x.held.length then s.waitApp c place true
      else
        let cut := decide (0 < x.tileLeft)
        let s := (if e.out then s.waitApp c place false else s).streamAppend c e (if cut then x.held.map (fun p => (p.1, p.2.1, 0, true)) else x.held)
        let s := (s.active c).setPort c port (fun q => { q with stream := none, lastMoved := x.j * e.g })
        let s := match x.holding, s.frame x.fir.tag with
          | true, some fr => s.settleFrame x.fir.tag { fr with pend := fr.pend - 1 }
          | _, _ => s
        let s := match x.drl, x.lo with
          | true, some lo => s.depositRange c port lo x.hi
          | _, _ => s
        if cut then s.fail x.fir Code.MXE_CKSUM
        else (s.streamOut x e).strmendDone c port
    | _, _ => s)

/-- STRMEND stops the stream on its port (13 R289). -/
def execStrmend (n : BitVec 8) (d : Dests) (s : State) : Host.Outcome State Fault Refusal :=
  let f := s.firing
  let p := n.toNat
  .next (if s.idleAction f then s.emitBoth f d (f.passBubble (f.forward f.opA f.tag))
    else match ((s.ctx f.cl).port p).stream with
      | some x =>
        if x.block then s.sendA f d
        else (s.setPort f.cl p (fun q => { q with stream := some { x with stopping := true } })).pendNew f (.strmend n d) (.strmend p)
      | none => s.sendA f d)

/-- STRMST reports a stream's state and count (13 R289). -/
def execStrmst (n : BitVec 8) (d : Dests) (s : State) : Host.Outcome State Fault Refusal :=
  let f := s.firing
  let q := (s.ctx f.cl).port n.toNat
  let st := match q.stream with | none => 0 | some x => if x.stopping then 2 else 1
  .next (s.emitBoth f d (if s.idleAction f then f.passBubble { tag := f.tag }
    else f.new64 (q.lastMoved % 2 ^ 32 * 2 ^ 32 + st)))

end Sys2Proof.Machine
end

