-- ==== Sys2Proof/Machine/Copy.lean ====
section
/-!
DEFINITION. The copy engine: channels, transfer records, their elements, rings' slots and retirements
(05 R100 to R122).
-/
namespace Sys2Proof.Machine

/-! ## Fields of a record (05 R104) -/

def CopyRec.w (r : CopyRec) (k : Nat) : Nat := (nth r.words k).getD 0
def CopyRec.kind (r : CopyRec) : Nat := bits (r.w 0) 62 60
def CopyRec.width (r : CopyRec) : Nat := bits (r.w 0) 47 41
def CopyRec.turned (r : CopyRec) : Bool := (r.w 0).testBit 57 || (r.w 0).testBit 56
def CopyRec.ringEn (r : CopyRec) : Bool := (r.w 0).testBit 48
def CopyRec.tagEn (r : CopyRec) : Bool := (r.w 0).testBit 49
def CopyRec.tag (r : CopyRec) : Nat := bits (r.w 0) 55 50
def CopyRec.last (r : CopyRec) : Bool := (r.w 0).testBit 58
def CopyRec.next (r : CopyRec) : Nat := r.w 1
def CopyRec.src (r : CopyRec) : Nat := r.w 2
def CopyRec.c0 (r : CopyRec) : Nat := bits (r.w 4) 31 0
def CopyRec.c1 (r : CopyRec) : Nat := max 1 (bits (r.w 4) 63 32)
def CopyRec.c2 (r : CopyRec) : Nat := max 1 (bits (r.w 7) 15 0)
def CopyRec.ss1 (r : CopyRec) : Int := Sys2Proof.sext (bits (r.w 5) 31 0) 32
def CopyRec.ds1 (r : CopyRec) : Int := Sys2Proof.sext (bits (r.w 5) 63 32) 32
def CopyRec.ss2 (r : CopyRec) : Int := Sys2Proof.sext (bits (r.w 6) 31 0) 32
def CopyRec.ds2 (r : CopyRec) : Int := Sys2Proof.sext (bits (r.w 6) 63 32) 32
def CopyRec.ringOwner (r : CopyRec) : Nat := bits (r.w 7) 63 54
def CopyRec.ringNo (r : CopyRec) : Nat := bits (r.w 7) 35 32
/-- A COUNT0 of 0 moves nothing. -/
def CopyRec.total (r : CopyRec) : Nat := r.c0 * r.c1 * r.c2

/-- Index (k0, k1, k2) of the j-th element in loop order (05 R106). -/
def CopyRec.at_ (r : CopyRec) (j : Nat) : Nat × Nat × Nat :=
  if r.c0 = 0 then (0, 0, 0) else (j % r.c0, j / r.c0 % r.c1, j / (r.c0 * r.c1))

/-- The offset a memory or buffer pointer starts at. -/
def sideOff (p : Nat) : Nat := if ptrTag p = 0 then ptrOff p else ptrBufAll p

/-- Offset of an element at the source (05 R106). -/
def CopyRec.srcAt (r : CopyRec) (j : Nat) : Int :=
  let (k0, k1, k2) := r.at_ j
  (sideOff r.src : Int) + r.ss2 * (k2 : Int) + r.ss1 * (k1 : Int) + ((k0 * r.width : Nat) : Int)

/-- Offset of an element from DB: rows and columns exchanged under TR8 and TR16 (05 R106). -/
def CopyRec.dstRel (r : CopyRec) (k : Nat × Nat × Nat) : Int :=
  let (k0, k1, k2) := k
  if r.turned then r.ds2 * (k2 : Int) + r.ds1 * (k0 : Int) + ((k1 * r.width : Nat) : Int)
  else r.ds2 * (k2 : Int) + r.ds1 * (k1 : Int) + ((k0 * r.width : Nat) : Int)

def CopyRec.dstAt (r : CopyRec) (j : Nat) : Int := (sideOff r.dst : Int) + r.dstRel (r.at_ j)

/-- Space tags a KIND accepts at its source and destination (05 R105). -/
def kindTags (kind : Nat) : List Nat × List Nat :=
  if kind = 0 then ([0], [0]) else if kind = 1 then ([0], [4]) else if kind = 2 then ([4], [0])
  else if kind = 3 then ([4], [4]) else if kind = 4 then ([0], [1, 2, 7]) else ([1, 7], [0])

/-! ## Faults of a record (05 R110, R111) -/

/-- LASTSTAT of a fault; none: R111 gives the code no status. -/
def copyStatus (code : Nat) : Option Nat :=
  if code = Code.CP_RECORD then some 8
  else if code = Code.SPACE_ILLEGAL then some 9
  else if code = Code.ALIGN_FAULT then some 10
  else if code = Code.LEASE_VIOLATION ∨ code = Code.XLATE_FAULT then some 11
  else if code = Code.BUF_RANGE then some 12
  else if code = Code.POISON_CONSUMED then some 13
  else none

/-- Cause data of a copy record's fault (05 R110). -/
def copyCause (k p cause : Nat) (i : Nat × Nat × Nat) : Nat :=
  cause % 2 ^ 110 + k % 4 * 2 ^ 110 + i.2.2 % 2 ^ 16 * 2 ^ 112 + i.2.1 % 2 ^ 32 * 2 ^ 128 + i.1 % 2 ^ 32 * 2 ^ 160 +
    p % 2 ^ 64 * 2 ^ 192

/-- TAKING A FAULT of a copy record: the chain stops, CH_CUR keeps the record, which is also the one to retry, and
the unit ends (05 R110, 16 R332). A code without a status leaves a free one of R111's fault statuses in LASTSTAT (log 2). -/
def State.copyFail (s : State) (c k p : Nat) (i : Nat × Nat × Nat) (code cause : Nat) (stat : Option Nat := none) : State :=
  let n := match stat, copyStatus code with
    | some n, _ => n
    | none, some n => n
    | none, none => 8 + Config.free s.freeCtr % 7
  let s := { s with freeCtr := s.freeCtr + 1 }
  (s.modChan c k (fun h => { h with busy := false, waiting := false, head := BitVec.ofNat 64 p,
                                    cur := BitVec.ofNat 64 p, lastStat := n })).endUnit code c 38 0 1 0
    (copyCause k p cause i)

/-! ## Fetching (05 R103, R110) -/

/-- The endpoint a stream side names. -/
def State.sideEp (s : State) (c p : Nat) : Option Ep := s.ep c (p % 256)

/-- A stream condition of R108 fails. The endpoint's direction is the side's (log 35). -/
def State.streamBad (s : State) (c : Nat) (r : CopyRec) : Bool :=
  let fits (p : Nat) (out : Bool) : Bool := ptrTag p != 4 || (match s.sideEp c p with
    | some e => e.out == out && (r.kind == 3 || (e.w == r.width && r.c0 % e.g == 0))
    | none => false)
  if r.kind = 1 then !fits (r.w 3) false
  else if r.kind = 2 then !fits r.src true
  else if r.kind = 3 then
    !(fits r.src true && fits (r.w 3) false) || (match s.sideEp c r.src, s.sideEp c (r.w 3) with
      | some a, some b => a.fd != b.fd || a.gl2 != b.gl2
      | _, _ => false)
  else false

/-- The checks of R110 on a record with OWN = 1. Word 7 [53:36] is checked whether or not RINGEN is set (log 74). -/
def State.recBad (s : State) (c : Nat) (r : CopyRec) : Bool :=
  let w0 := r.w 0
  let w7 := r.w 7
  let g := (s.ctx r.ringOwner).ring r.ringNo
  decide (6 ≤ r.kind) || w0.testBit 59 || bits w0 40 0 != 0 || bits w7 53 36 != 0 || bits w7 31 16 != 0 ||
    r.width == 0 || decide (64 < r.width) || (w0.testBit 56 && w0.testBit 57) ||
    (w0.testBit 56 && r.width != 8) || (w0.testBit 57 && r.width != 16) ||
    (r.turned && (r.kind == 1 || r.kind == 2 || r.kind == 3)) ||
    (r.ringEn && (r.w 3 != 0xF000000000000000 || !g.en || g.mode)) ||
    s.streamBad c r || !procPtr r.ptr 512 || (!r.last && r.next != 0 && !procPtr r.next 512)

/-- A ring's slot pointer as a cluster other than its owner sees it: an A-buffer base becomes tag 0x7 (16 R336). -/
def ringView (owner c p : Nat) : Nat :=
  if ptrTag p = 1 ∧ owner ≠ c then 7 * 2 ^ 60 + owner * 2 ^ 50 + ptrBufAll p % 2 ^ 50 else p

/-- A packed width's offsets and strides are not multiples of it, on a memory or buffer side (05 R107). A ring
record's destination is the ring's BASE, before any slot is claimed (log 74). -/
def CopyRec.unaligned (r : CopyRec) (dst : Nat) : Bool :=
  let m (x : Int) : Bool := x % (r.width : Int) != 0
  let src := r.kind != 2 && r.kind != 3
  let out := r.kind != 1 && r.kind != 3
  packedW r.width && ((src && (m (sideOff r.src : Int) || m r.ss1 || m r.ss2)) ||
    (out && (m (sideOff dst : Int) || m r.ds1 || m r.ds2)))

/-- A fetched record with OWN = 1 is checked, and starts unless it must claim a slot first (05 R105, R107, R110). Where
both pointers fail, SRC's cause is reported (log 74). -/
def State.recStart (s : State) (c k : Nat) (r : CopyRec) : State :=
  let dst := if r.ringEn then ringView r.ringOwner c ((s.ctx r.ringOwner).ring r.ringNo).base.toNat else r.w 3
  let bad (code cause : Nat) : State := s.copyFail c k r.ptr (0, 0, 0) code cause
  if r.ringEn && (!s.present? r.ringOwner || !s.inLaunch c r.ringOwner) then bad Code.SPACE_ILLEGAL 5
  else if s.recBad c r then bad Code.CP_RECORD 0
  else match s.ptrCause c (kindTags r.kind).1 r.src, s.ptrCause c (kindTags r.kind).2 dst with
    | some n, _ => bad Code.SPACE_ILLEGAL n
    | none, some n => bad Code.SPACE_ILLEGAL n
    | none, none =>
      if r.unaligned dst then bad Code.ALIGN_FAULT 0
      else
        let a := (s.gal c).a
        s.modChan c k (fun h =>
          { h with cur := BitVec.ofNat 64 r.ptr, head := BitVec.ofNat 64 r.next, issueA := a, waiting := false,
                   rec_ := some { r with dst := dst, started := !r.ringEn } })

/-- The cluster is halted or halting under a debugger's HALT_FREEZE (05 R121). -/
def Cluster.freezing (x : Cluster) : Bool :=
  x.haltAs && !x.preReq && (match x.halt with | .halting => true | .halted => true | _ => false)

/-- The unit has ended: channels fetch nothing more (05 R122). -/
def Cluster.unitOver (x : Cluster) : Bool := match x.stat with | .faulting => true | .ending => true | _ => false

/-- The record at a pointer is read at its home and checked (05 R103). -/
def State.fetchRecord (s : State) (c k p : Nat) : State :=
  let zero : Nat × Nat × Nat := (0, 0, 0)
  if !procPtr p 512 then s.copyFail c k p zero Code.CP_RECORD 0
  else match s.check c [0] .read p 512 false with
    | .bad code cause => s.copyFail c k p zero code cause
    | .ok _ off =>
      match s.xlat c .read off 512 with
      | .miss va => (s.startWalk c va .read { cl := c, unit := 38 } (some k)).2
      | .dirty _ => s
      | .fault cause va => s.copyFail c k p zero Code.XLATE_FAULT (xlateCause cause va)
      | .ok l =>
        let (there, s) := s.fetchLines c (64 + k) 2 (linesOf l)
        if !there then s
        else if l.any (fun q => s.bitsBad q.1 q.2.1) then s.copyFail c k p zero Code.POISON_CONSUMED 0
        else
          let s := s.tlbUse c off 512
          let v := (s.readBase l).1
          let words := (List.range 8).map (fun i => bits v (64 * i + 63) (64 * i))
          if v.testBit 63 then s.recStart c k { ptr := p, words := words }
          else s.modChan c k (fun h => { h with busy := false, waiting := false, lastStat := 1, cur := 0 })

/-- A channel that has no record fetches the one at CH_HEAD, once D has reached the A held at issue (05 R103). -/
def execRecordFetch (c k : Nat) (s : State) : Host.Outcome State Fault Refusal :=
  let x := s.cl c
  let h := x.ctx.chan k
  let p := h.head.toNat
  .next (if !h.busy || h.frozen || h.rec_.isSome || x.preHalt then s
    else if x.unitOver then s.modChan c k (fun h => { h with busy := false, waiting := false })
    else if x.freezing then s.modChan c k (fun h => { h with frozen := true, waiting := false })
    else if (s.gal c).d < h.issueA then s.modChan c k (fun h => { h with waiting := true })
    else (s.modChan c k (fun h => { h with waiting := false })).fetchRecord c k p)

/-! ## Ring slots (05 R116) -/

/-- Least and greatest offset from DB of any destination bit. -/
def CopyRec.span (r : CopyRec) : Int × Int :=
  let e (k : Nat × Nat × Nat) : Int := r.dstRel k
  let z : List Int := [0, r.c0 - 1].flatMap (fun a => [0, r.c1 - 1].flatMap (fun b => [0, r.c2 - 1].map (fun g => e (a, b, g))))
  (z.foldl min 0, z.foldl max 0 + (r.width : Int))

/-- A ring record claims a slot once one is free (05 R116). -/
def execRingSlotClaim (c k : Nat) (s : State) : Host.Outcome State Fault Refusal :=
  let h := (s.ctx c).chan k
  .next (match h.rec_ with
    | none => s
    | some r =>
      let g := (s.ctx r.ringOwner).ring r.ringNo
      if !h.busy || !r.ringEn || r.claim.isSome || (s.cl c).preHalt then s
      else if g.full then s.modChan c k (fun h => { h with waiting := true })
      else
        let n := g.claim
        let dst := ringView r.ringOwner c (g.slotPtr n)
        let a := (s.gal c).a
        let r := { r with claim := some (r.ringOwner, r.ringNo, n), dst := dst, started := true }
        let s := (s.modRing r.ringOwner r.ringNo (fun g => { g with claim := g.claim + 1 })).modChan c k (fun h =>
          { h with rec_ := some r, issueA := a, waiting := false })
        let (lo, hi) := r.span
        if r.total ≠ 0 ∧ (lo < 0 ∨ (g.slot : Int) < hi) then s.copyFail c k r.ptr (0, 0, 0) Code.CP_RECORD 0 (some 14)
        else s)

/-! ## Elements (05 R106, R108, R109) -/

/-- Reach one element at a side: process memory through the lease and the TLB, or a buffer. -/
def State.copyReach (s : State) (c : Nat) (kind : AccKind) (p : Nat) (off : Int) (w : Nat) : Elem :=
  if ptrTag p = 0 then s.elems c [0] kind p off w 1
  else if off < 0 ∨ ((2 ^ 23 : Nat) : Int) < off + (w : Int) then .bad Code.BUF_RANGE 0
  else .ok (ptrTag p) off.toNat []

/-- What reading an element of memory delivers: data, poison, substitution (04 R94, 05 R109). An element of which only
some bits lie in a poisoned sector is poisoned whole (log 74). -/
def State.copyRead (s : State) : Elem → Nat × Bool × Bool
  | .ok 0 _ l => let r := s.readBase l; (r.1, !r.2.1.isEmpty, r.2.2)
  | _ => (0, false, false)

/-- Bits [lo, lo + w) of a 256-bit word as a mask. -/
def wordMask (lo w : Nat) : Nat := setBits 0 lo w (2 ^ w - 1)

/-- The gathered bits of a W-buffer word are written at once, the others kept (02 R37). -/
def State.wordFlush (s : State) (c : Nat) (r : CopyRec) : State × CopyRec :=
  match r.word with
  | none => (s, r)
  | some (k, m, v) =>
    let old := (s.cl c).wbuf.get 0 k
    (s.modCl c (fun x => x.wbufSet (256 * k) 256 ((old - (old &&& m)) ||| v)), { r with word := none })

/-- A piece of a W-buffer word joins the word being gathered; another word's first writes that one. -/
def State.wordPut (c : Nat) (p : State × CopyRec) (q : Nat × Nat × Nat) : State × CopyRec :=
  let k := q.1 / 256
  let p := match p.2.word with
    | some (j, _, _) => if j = k then p else p.1.wordFlush c p.2
    | none => p
  let (m, v) := match p.2.word with | some (_, m, v) => (m, v) | none => (0, 0)
  (p.1, { p.2 with word := some (k, m ||| wordMask (q.1 % 256) q.2.1, setBits v (q.1 % 256) q.2.1 q.2.2) })

/-- The gathered bits of an A-buffer word set out for its bank as one write, under the record's key (02 R34, R36). -/
def State.runFlush (s : State) (c : Nat) (r : CopyRec) : State × CopyRec :=
  match r.run with
  | none => (s, r)
  | some (off, w, v) =>
    let (n, s) := match r.wkey with | some n => (n, s) | none => s.fresh
    (s.bufAsk c 38 (bufOwner c r.dst) n off w (some v), { r with run := none, wkey := some n })

/-- A piece of an A-buffer word joins the bits gathered, where it continues them in their word; else they are written
first. A word that is full is written at once (05 R106). -/
def State.runPut (c : Nat) (p : State × CopyRec) (q : Nat × Nat × Nat) : State × CopyRec :=
  let joined (o w : Nat) : Bool := decide (o + w = q.1) && decide (q.1 % 256 ≠ 0)
  let p := match p.2.run with
    | some (o, w, v) =>
      if joined o w then (p.1, { p.2 with run := some (o, w + q.2.1, v + 2 ^ w * q.2.2) })
      else let f := p.1.runFlush c p.2; (f.1, { f.2 with run := some q })
    | none => (p.1, { p.2 with run := some q })
  if (q.1 + q.2.1) % 256 = 0 then p.1.runFlush c p.2 else p

/-- What a record has gathered for a typed buffer is written. -/
def State.bufFlush (s : State) (c : Nat) (r : CopyRec) : State × CopyRec :=
  let p := s.wordFlush c r
  p.1.runFlush c p.2

/-- Write one element: pieces of process memory join the record's, a buffer's join the word being gathered
(02 R34, R37, 05 R106, R109). -/
def State.copyPut (s : State) (c : Nat) (r : CopyRec) (v : Nat) (bad : Bool) : Elem → State × CopyRec
  | .ok 0 _ l =>
    let ps := piecesCut (overlay l 0 [(0, r.width, if bad then 0 else v % 2 ^ r.width, bad)])
    (s, { r with held := ps.foldl joinPiece r.held, poisoned := r.poisoned || bad })
  | .ok t off _ =>
    (cutWords (r.width / 256 + 2) off r.width (v % 2 ^ r.width)).foldl (if t = 2 then State.wordPut c else State.runPut c) (s, r)
  | _ => (s, r)

/-- Append what no later element extends; at the record's end, or before its fault, all of it. -/
def State.copyAppend (s : State) (c k : Nat) (r : CopyRec) (all : Bool) : State × CopyRec :=
  let q := if all then (r.held, []) else ripe r.held
  (s.appendAll c 1 k (s.cl c).sid q.1, { r with held := q.2, appended := r.appended || !q.1.isEmpty })

def State.setRec (s : State) (c k : Nat) (r : CopyRec) : State :=
  s.modChan c k (fun h => { h with rec_ := some r, waiting := false })

/-- An element's fault: what was written before it is appended, then the record stops there. -/
def State.copyStop (s : State) (c k : Nat) (r : CopyRec) (j code cause : Nat) : State :=
  if !r.held.isEmpty && !s.mayAppend c (2 + k) r.held.length then s.waitApp c (2 + k) true
  else
    let p := s.bufFlush c r
    let q := (p.1.waitApp c (2 + k) false).copyAppend c k p.2 true
    (q.1.setRec c k q.2).copyFail c k r.ptr (r.at_ j) code cause

/-- What the element at a channel's source delivers, once it is there: lines of memory are requested, an A-buffer's
banks are asked under a key (02 R34, R43). -/
def State.moveRead (s : State) (c k : Nat) (r : CopyRec) (el : Elem) : Option (Nat × Bool × Bool) × State :=
  match el with
  | .ok 0 _ l =>
    let (there, s) := s.fetchLines c (64 + k) 2 (linesOf l)
    if !there then (none, s) else (some (s.copyRead el), s)
  | .ok _ off _ =>
    let owner := bufOwner c r.src
    (match r.key with
    | none =>
      let (n, s) := s.fresh
      (none, (s.bufAsk c 38 owner n off r.width none).setRec c k { r with key := some n })
    | some n =>
      match s.bufGot c owner n with
      | none => (none, s)
      | some (v, s) => (some (v, false, false), s))
  | _ => (none, s)

/-- One element between memory and buffers. -/
def State.moveOne (s : State) (c k : Nat) (r : CopyRec) : State :=
  let w := r.width
  let fir : Firing := { cl := c, unit := 38 }
  match s.copyReach c .read r.src (r.srcAt r.j) w, s.copyReach c .write r.dst (r.dstAt r.j) w with
  | .bad code cause, _ => s.copyStop c k r r.j code cause
  | .miss va, _ => (s.startWalk c va .read fir (some k)).2
  | .dirty _, _ => s
  | .ok .., .bad code cause => s.copyStop c k r r.j code cause
  | .ok .., .miss va => (s.startWalk c va .write fir (some k)).2
  | .ok .., .dirty va => (s.startDirty c va).2
  | .ok a b l, .ok a' b' l' =>
    if a' = 0 ∧ !s.mayAppend c (2 + k) (r.held.length + 4) then s.waitApp c (2 + k) true
    else match s.moveRead c k r (.ok a b l) with
      | (none, s) => s
      | (some (v, bad, sub), s) =>
        if bad && a' != 0 then s.copyStop c k r r.j Code.POISON_CONSUMED 0
        else
          let s := if a = 0 then s.tlbUse c b w else s
          let s := if a' = 0 then s.tlbUse c b' w else s
          let p := ((s.substIf c sub).waitApp c (2 + k) false).copyPut c { r with key := none } v bad (.ok a' b' l')
          let q := p.1.copyAppend c k { p.2 with j := r.j + 1 } false
          q.1.setRec c k q.2

/-- The translations that reaches of process memory have used (03 R52). -/
def State.tlbUseAll (s : State) (c w : Nat) (l : List Elem) : State :=
  l.foldl (fun s el => match el with | .ok 0 off _ => s.tlbUse c off w | _ => s) s

/-- The first address of a list of reaches that must be walked or marked dirty. -/
def firstWait : List Elem → Option (Nat × Bool)
  | [] => none
  | .miss va :: _ => some (va, false)
  | .dirty va :: _ => some (va, true)
  | _ :: rest => firstWait rest

/-- The first fault of a list of reaches, with its place. -/
def firstStop : List Elem → Nat → Option (Nat × Nat × Nat)
  | [], _ => none
  | .bad code cause :: _, i => some (i, code, cause)
  | _ :: rest, i => firstStop rest (i + 1)

/-- A record's walk over its elements as a stream's, for a token's outer index and EOD (13 R285). -/
def CopyRec.asStream (r : CopyRec) (f : Firing) : Stream :=
  { fir := f, instr := .stepSnop, base := 0, c0 := r.c0, c1 := r.c1, c2 := r.c2, s1 := 0, s2 := 0 }

/-- A record's tokens leave the copy port; a destination's error stops the record. -/
def State.copySend (s : State) (c k : Nat) (r : CopyRec) (e : Ep) (n : Nat) (t : Token) : State :=
  match Dest.ofBits e.dest with
  | none => s
  | some d =>
    match s.expandAll c [(d, t)] with
    | .error code => s.copyStop c k r r.j code 0
    | .ok l => (l.foldl (fun s x => s.launchTok 38 x) (s.active c)).setRec c k { r with j := r.j + n }

/-- G elements become a token of a stream endpoint, under the root tag (05 R108, 06 R147, R148). An in-band scale has
no place in a record: it is a free value, one for each burst (log 2). -/
def State.moveOut (s : State) (c k : Nat) (r : CopyRec) (e : Ep) : State :=
  let f : Firing := { cl := c, unit := 38, tag := rootTag c }
  let w := r.width
  let els := (List.range e.g).map (fun i => s.copyReach c .read r.src (r.srcAt (r.j + i)) w)
  match firstWait els, firstStop els 0 with
  | some (va, _), _ => (s.startWalk c va .read f (some k)).2
  | none, some (i, code, cause) => s.copyStop c k r (r.j + i) code cause
  | none, none =>
    let (there, s) := s.fetchLines c (64 + k) 2 (els.flatMap Elem.lines)
    if !there then s else
    match s.streamTag c f.tag (r.j / e.g) false with
    | .illegal => s.copyStop c k r r.j Code.TAG_ILLEGAL 0
    | .stale => s.copyStop c k r r.j Code.TAG_STALE 0
    | .wait => s
    | .hold _ => s
    | .go tag fr =>
      let l := els.map s.copyRead
      let x := r.asStream f
      let scale : BitVec 16 := if e.scm = 0 then 0x7F00 else if e.scm = 1 then e.scale
        else if r.j / e.g % e.burst = 0 then BitVec.ofNat 16 (Config.free s.freeCtr) else r.scale
      let s := if e.scm = 2 ∧ r.j / e.g % e.burst = 0 then { s with freeCtr := s.freeCtr + 1 } else s
      let r := { r with scale := scale }
      let t := f.laneTok e.gl2 e.cl2 (l.map (fun p => if p.2.1 then (0, true) else (widen e.signed w e.cl2 p.1, false)))
      let t : Token := { t with
        tag := tag, scale := scale, bpos := r.j / e.g % e.burst, eod := x.eod e (r.j / e.g), ov := true,
        oidx := x.outer e (r.j / e.g), pmask := if scaleInvalid scale then 2 ^ e.g - 1 else t.pmask }
      let s := match fr with | some g => s.setFrame tag g | none => s
      ((s.tlbUseAll c w els).substIf c (l.any (·.2.2))).copySend c k r e e.g t

/-- Write the lanes of a token that can be reached, in order. -/
def State.putLanes (s : State) (c : Nat) (r : CopyRec) : List (Elem × Nat × Bool) → State × CopyRec
  | [] => (s, r)
  | (el, v, bad) :: rest => let p := s.copyPut c r v bad el; State.putLanes p.1 c p.2 rest

/-- A token accepted at an endpoint supplies G elements (05 R108, R109). -/
def State.moveIn (s : State) (c k : Nat) (r : CopyRec) (port : Nat) (e : Ep) : State :=
  let q := (s.ctx c).port port
  match q.queue with
  | [] => s
  | pt :: rest =>
    let t := pt.tok
    let take (s : State) : State := (s.active c).setPort c port (fun q => { q with queue := rest })
    if t.kind = .bubble then (take s).setRec c k { r with j := r.j + e.g, skipped := true }
    else if t.gl2 ≠ e.gl2 ∨ t.cl2 ≠ e.cl2 then s.copyStop c k r r.j Code.LANE_MISMATCH 0
    else
      let els := (List.range e.g).map (fun i => s.copyReach c .write r.dst (r.dstAt (r.j + i)) r.width)
      match firstWait els with
      | some (va, true) => (s.startDirty c va).2
      | some (va, false) => (s.startWalk c va .write { cl := c, unit := 38 } (some k)).2
      | none =>
        if !s.mayAppend c (2 + k) (r.held.length + 2 * e.g + 2) then s.waitApp c (2 + k) true
        else
          let s := s.waitApp c (2 + k) false
          let b := firstStop els 0
          let n := match b with | some (i, _, _) => i | none => e.g
          let lanes := (els.zipIdx.take n).map (fun p => (p.1, t.lane p.2, t.poisoned p.2))
          let p := (s.tlbUseAll c r.width (els.take n)).putLanes c { r with j := r.j + n } lanes
          let g := p.1.copyAppend c k p.2 false
          match b with
          | some (i, code, cause) => g.1.copyStop c k g.2 (r.j + i) code cause
          | none => (take g.1).setRec c k g.2

/-- A token passes from one endpoint to another unchanged; a count of elements that is no multiple of the grant passes
one token for its last elements (05 R108; log 74). -/
def State.movePass (s : State) (c k : Nat) (r : CopyRec) (from_ : Nat) (e : Ep) : State :=
  match ((s.ctx c).port from_).queue with
  | [] => s
  | pt :: rest =>
    (s.setPort c from_ (fun q => { q with queue := rest })).copySend c k r e e.g pt.tok

/-- A channel moves the next element of its record, or the next token of a stream side (05 R106, R108). -/
def execCopyMove (c k : Nat) (s : State) : Host.Outcome State Fault Refusal :=
  let x := s.cl c
  let h := x.ctx.chan k
  .next (match h.rec_ with
    | none => s
    | some r =>
      if !h.busy || !r.started || decide (r.total ≤ r.j) || x.preHalt then s
      else if (r.kind = 0 ∨ r.kind = 1 ∨ r.kind = 4) ∧ (s.gal c).d < h.issueA then s.modChan c k (fun h => { h with waiting := true })
      else
      let s := s.modChan c k (fun h => { h with waiting := false })
      let hold (p : Nat) (go : State) : State :=
        if x.frozenPorts then s
        else if (x.ctx.port p).stream.isSome then s.modChan c k (fun h => { h with waiting := true })
        else go
      if r.kind = 1 then
        (match s.sideEp c r.dst with
        | some e => hold (r.dst % 256) (s.moveOut c k r e)
        | none => s)
      else if r.kind = 2 then
        (match s.sideEp c r.src with
        | some e => hold (r.src % 256) (s.moveIn c k r (r.src % 256) e)
        | none => s)
      else if r.kind = 3 then
        (match s.sideEp c r.dst with
        | some e => hold (r.src % 256) (hold (r.dst % 256) (s.movePass c k r (r.src % 256) e))
        | none => s)
      else s.moveOne c k r)

/-! ## Retirement (05 R111, R113) -/

/-- Status of a retiring record (05 R111). -/
def CopyRec.status (r : CopyRec) : Nat := if r.poisoned then 3 else if r.skipped then 2 else 0

/-- The cluster whose tag a record sets (05 R113). -/
def CopyRec.tagCluster (r : CopyRec) (c : Nat) : Nat := if r.kind = 4 ∧ ptrTag (r.w 3) = 7 then ptrCluster (r.w 3) else c

/-- Steps 1 and 2: the rest of the data and word 0 with OWN = 0 are appended, and the galley is released at package
scope; its P is the record's stamp (05 R111). -/
def State.retireAppend (s : State) (c k : Nat) (r : CopyRec) : State :=
  match s.check c [0] .write r.ptr 64 false with
  | .bad code cause => s.copyStop c k r r.j code cause
  | .ok _ off =>
    match s.xlat c .write off 64 with
    | .miss va => (s.startWalk c va .write { cl := c, unit := 38 } (some k)).2
    | .dirty va => (s.startDirty c va).2
    | .fault cause va => s.copyStop c k r r.j Code.XLATE_FAULT (xlateCause cause va)
    | .ok l =>
      if !s.mayAppend c (2 + k) (r.held.length + 2) then s.waitApp c (2 + k) true
      else
        let p := (s.tlbUse c off 64).bufFlush c r
        let q := (p.1.waitApp c (2 + k) false).copyAppend c k p.2 true
        let s := q.1.appendAll c 1 k (s.cl c).sid (overlay l 0 [(0, 64, r.w 0 % 2 ^ 63, false)])
        let s := s.releasePkg c
        s.setRec c k { q.2 with appended := true, retiring := some (some { gal := c, pos := (s.gal c).p }) }

/-- What follows a retirement: the chain ends, freezes, stops with its unit, or goes on (05 R111, R121, R122). -/
def State.channelNext (s : State) (c k : Nat) (r : CopyRec) : State :=
  let x := s.cl c
  let a := (s.gal c).a
  let nxt := BitVec.ofNat 64 r.next
  s.modChan c k (fun h =>
    if r.last || r.next == 0 || x.unitOver then { h with busy := false, head := nxt, waiting := false }
    else if x.freezing then { h with frozen := true, head := nxt, waiting := false }
    else { h with head := nxt, issueA := a, waiting := decide ((s.gal c).d < a) })

/-- Step 3: timeline, count, status, tag and slot in one cycle (05 R111, R113, R116). -/
def State.retireFinish (s : State) (c k : Nat) (r : CopyRec) (st : Option Stamp) : State :=
  let t := r.tagCluster c
  if r.tagEn && (!(s.ctx t).tagFree r.tag st || (((s.ctx c).chan k).waiting && (s.ctx t).clrNow.testBit r.tag)) then s.modChan c k (fun h => { h with waiting := true })
  else
    let s := s.modChan c k (fun h =>
      { h with tl := h.tl + 1, retired := (h.retired + 1) % 2 ^ 48, lastStat := r.status, cur := 0, rec_ := none,
               stamp := match st with | some q => some q | none => h.stamp })
    let s := if r.tagEn then s.modCtx t (fun x => x.setTag r.tag st) else s
    let s := match r.claim with
      | some (o, n, slot) => s.modRing o n (fun g => g.fill slot st)
      | none => s
    ((s.active c).active t).channelNext c k r

/-- A record whose elements have all moved retires, once what it has gathered for a buffer has been written (05 R106,
R111). -/
def execRecordRetire (c k : Nat) (s : State) : Host.Outcome State Fault Refusal :=
  let h := (s.ctx c).chan k
  .next (match h.rec_ with
    | none => s
    | some r =>
      if !h.busy || !r.started || decide (r.j < r.total) || (s.cl c).preHalt then s
      else if r.run.isSome || r.word.isSome then
        let p := s.bufFlush c r
        p.1.setRec c k p.2
      else if (match r.wkey with | some n => s.bufPending c n | none => false) then s
      else
        let s := match r.retiring with | some _ => s | none => s.retireAppend c k r
        (match ((s.ctx c).chan k).rec_ with
        | some r' => (match r'.retiring with
          | some st => if ((s.ctx c).chan k).busy then s.retireFinish c k r' st else s
          | none => s)
        | none => s))

/-! ## Register steps -/

/-- A write of CH_HEAD (05 R102). -/
def execChHeadWrite (c k : Nat) (v : Word) (s : State) : Host.Outcome State Fault Refusal :=
  .next (s.chHead c (k % 4) v.toNat).1

/-- A W1C write of CL_READY (05 R112). -/
def execClReadyClear (c : Nat) (m : Word) (s : State) : Host.Outcome State Fault Refusal := .next (s.readyClear c m.toNat)

/-- A CL_RING_CFG write with EN = 1 (05 R114). -/
def execRingEnable (c r : Nat) (cfg : Word) (s : State) : Host.Outcome State Fault Refusal :=
  .next (s.ringEnable c (r % 16) cfg.toNat)

/-- A CL_RING_CFG write with EN = 0 of an enabled ring (05 R114). -/
def execRingDisable (c r : Nat) (s : State) : Host.Outcome State Fault Refusal :=
  .next (if ((s.ctx c).ring (r % 16)).en then s.ringDisable c (r % 16) 0 else s)

end Sys2Proof.Machine
end

