-- ==== Sys2Proof/Machine/Async.lean ====
section
/-!
DEFINITION. Starting channels, and waiting on timelines, copy tags and rings (16 R329 to R336).
-/
namespace Sys2Proof.Machine

/-- Lane 0 of a read operand, in a 64-bit container; the error is a fault code (16 R329). -/
def readOperand (t : Token) : Except Nat Nat :=
  if t.cl2 ≠ 6 then .error Code.LANE_MISMATCH
  else if t.poisoned 0 then .error Code.POISON_CONSUMED
  else .ok (t.lane 0)

/-- A firing with a read operand: a bubble acts on nothing and goes to every destination (16 R329). -/
def State.reading (s : State) (outs : List (Dest × Token)) (t : Token) (go : Nat → State) : State :=
  let f := s.firing
  if s.idleAction f then s.emit f (outs.map (fun p => (p.1, f.passBubble p.2)))
  else match readOperand t with
    | .error code => s.fail f code
    | .ok v => go v

/-- Outputs that forward a, and outputs that are new values. -/
def Firing.fwdOuts (f : Firing) (d : Dests) : List (Dest × Token) := [(d.da, f.forward f.opA f.tag), (d.db, f.forward f.opA f.tag)]
def Firing.newOuts (f : Firing) (d : Dests) : List (Dest × Token) := [(d.da, { tag := f.tag }), (d.db, { tag := f.tag })]
def Firing.mixOuts (f : Firing) (d : Dests) : List (Dest × Token) := [(d.da, f.forward f.opA f.tag), (d.db, { tag := f.tag })]

/-- A firing whose operand only triggers it. -/
def State.triggered (s : State) (d : Dests) (go : State) : State :=
  let f := s.firing
  if s.idleAction f then s.emitBoth f d (f.passBubble { tag := f.tag }) else go

/-! ## Channels (16 R331, R332) -/

/-- CPGO writes a chain head and sends what became of it (16 R331). -/
def execCpgo (ch : BitVec 2) (d : Dests) (s : State) : Host.Outcome State Fault Refusal :=
  let f := s.firing
  .next (s.reading (f.newOuts d) f.opA (fun v =>
    let r := s.chHead f.cl ch.toNat v
    r.1.emitBoth f d (f.new64 r.2)))

/-- CPSTAT reads CH_STAT to DA and CH_HEAD to DB (16 R332). -/
def execCpstat (ch : BitVec 2) (d : Dests) (s : State) : Host.Outcome State Fault Refusal :=
  let f := s.firing
  let h := (s.ctx f.cl).chan ch.toNat
  .next (s.triggered d (s.emit f [(d.da, f.new64 h.stat), (d.db, f.new64 h.head.toNat)]))

/-! ## Timelines (16 R333) -/

/-- A network variant's context is not bound to the cluster's SID. -/
def State.unbound (s : State) (c : Nat) : TlSel → Bool
  | .net k => !s.netBound c k.toNat
  | _ => false

def execTlread (sel : TlSel) (d : Dests) (s : State) : Host.Outcome State Fault Refusal :=
  let f := s.firing
  .next (s.triggered d (if s.unbound f.cl sel then s.fail f Code.SPACE_ILLEGAL 5
    else s.emitBoth f d (f.new64 (s.timeline f.cl sel).1)))

/-- TLWAIT takes a wait entry (16 R330, R333). -/
def execTlwait (sel : TlSel) (d : Dests) (s : State) : Host.Outcome State Fault Refusal :=
  let f := s.firing
  .next (s.reading (f.mixOuts d) f.opB (fun _ =>
    if s.unbound f.cl sel then s.fail f Code.SPACE_ILLEGAL 5 else s.pendNew f (.tlwait sel d) .wait))

/-! ## Copy tags (16 R334) -/

def execWtany (d : Dests) (s : State) : Host.Outcome State Fault Refusal :=
  let f := s.firing
  .next (s.reading (f.newOuts d) f.opA (fun _ => s.pendNew f (.wtany d) .wait))

def execWtall (d : Dests) (s : State) : Host.Outcome State Fault Refusal :=
  let f := s.firing
  .next (s.reading (f.fwdOuts d) f.opA (fun _ => s.pendNew f (.wtall d) .wait))

def execWtff (d : Dests) (s : State) : Host.Outcome State Fault Refusal :=
  let f := s.firing
  .next (s.reading (f.newOuts d) f.opA (fun _ => s.pendNew f (.wtff d) .wait))

/-- TAGCLR clears the named bits with their stamps, then forwards a (05 R112, 16 R334). -/
def execTagclr (d : Dests) (s : State) : Host.Outcome State Fault Refusal :=
  let f := s.firing
  .next (s.reading (f.fwdOuts d) f.opA (fun m => (s.readyClear f.cl m).sendA f d))

/-! ## Rings (16 R336) -/

/-- A handle of an enabled copy ring. -/
def State.ringReading (s : State) (outs : List (Dest × Token)) (go : Nat → State) : State :=
  let f := s.firing
  s.reading outs f.opA (fun p =>
    match s.ptrCause f.cl [5] p with
    | some k => s.fail f Code.SPACE_ILLEGAL k
    | none =>
      let r := s.ringOf p
      if r.en && !r.mode then go p else s.fail f Code.SPACE_ILLEGAL 2)

/-- The unit number under which a destination's messages of channel 5 for its ring objects stand. -/
def ringUnit : Nat := 68

/-- A request of the firing sets out for a unit of an agent on channel 5; the firing waits for its answer. -/
def State.ask5 (s : State) (i : Instr) (dst dstUnit : Nat) : State :=
  let f := s.firing
  (s.pendNew f i (.request none)).send 5 f.cl f.unit dst dstUnit (.request f.cl s.serial)

/-- A ring operation travels to the owner (16 R336). -/
def State.ringAsk (s : State) (i : Instr) (outs : List (Dest × Token)) : State :=
  s.ringReading outs (fun p => s.ask5 i (handleRing p).1 ringUnit)

def execRawait (d : Dests) (s : State) : Host.Outcome State Fault Refusal :=
  .next (s.ringAsk (.rawait d) (s.firing.newOuts d))

/-- RSREL releases the head slot (16 R336). -/
def execRsrel (d : Dests) (s : State) : Host.Outcome State Fault Refusal :=
  .next (s.ringAsk (.rsrel d) (s.firing.fwdOuts d))

/-- RAPEEK reads the counts of filled and of claimed slots (16 R336). -/
def execRapeek (d : Dests) (s : State) : Host.Outcome State Fault Refusal :=
  .next (s.ringAsk (.rapeek d) (s.firing.newOuts d))

/-- RAPEEK's value (16 R336). -/
def Ring.peek (r : Ring) : Nat := (r.wslot - r.rslot) % 2 ^ 32 + (r.claim - r.rslot) % 2 ^ 32 * 2 ^ 32

/-- The owner applies an RSREL (16 R336). -/
def State.rsrelApply (s : State) (p : Pend) : State :=
  let h := p.fir.opA.lane 0
  let r := s.ringOf h
  if r.rslot = r.wslot then (s.pendDel p.fir.cl p.id).fail p.fir Code.RING_UNDERFLOW
  else (s.modRing (handleRing h).1 (handleRing h).2 Ring.pass).pendSet p.fir.cl p.id (.request (some 0))

/-! ## Completing (16 R330, R333, R334, R336) -/

/-- The lowest bit of a 64-bit mask; 64 for zero. -/
def lowestBit (m : Nat) : Nat := ((List.range 64).find? (fun b => m.testBit b)).getD 64

/-- A wait's condition: the stamps it acquires and the value it observed. -/
def State.waitHolds (s : State) (c : Nat) (f : Firing) : Instr → Option (List Stamp × Nat)
  | .tlwait sel _ =>
    let (v, st) := s.timeline c sel
    if f.opB.lane 0 ≤ v then some (st.toList, v) else none
  | .wtany _ =>
    let m := f.opA.lane 0
    let r := (s.ctx c).ready &&& m
    if r ≠ 0 ∨ m = 0 then some ((s.ctx c).stampsOf r, r) else none
  | .wtall _ =>
    let m := f.opA.lane 0
    if (s.ctx c).ready &&& m = m then some ((s.ctx c).stampsOf m, 0) else none
  | .wtff _ =>
    let m := f.opA.lane 0
    let r := (s.ctx c).ready &&& m
    let b := lowestBit r
    if r ≠ 0 ∨ m = 0 then some (if r = 0 then [] else (s.ctx c).stampsOf (2 ^ b), b) else none
  | .rawait _ =>
    let p := f.opA.lane 0
    let r := s.ringOf p
    if r.rslot = r.wslot then none
    else some ((r.filled.get none r.rslot).toList, ringView (handleRing p).1 c (r.slotPtr r.rslot))
  | _ => none

/-- The owner applies a RAWAIT: it takes the slot at RSLOT where one is filled, else it waits (16 R330, R336). A halted
cluster's waits are tested once it runs again. -/
def State.rawaitApply (s : State) (p : Pend) : Waiting :=
  match (if (s.cl p.fir.cl).stopped then none else s.waitHolds p.fir.cl p.fir p.instr) with
  | some (l, v) => .acquiring l v
  | none => .wait

/-- The outputs of a wait, and of a request that has been answered. -/
def waitOuts (f : Firing) (v : Nat) : Instr → List (Dest × Token)
  | .tlwait _ d => [(d.da, f.forward f.opA f.tag), (d.db, f.new64 v)]
  | .wtany d => [(d.da, f.new64 v), (d.db, f.new64 v)]
  | .wtall d => [(d.da, f.forward f.opA f.tag), (d.db, f.forward f.opA f.tag)]
  | .wtff d => [(d.da, f.new64 v), (d.db, f.new64 v)]
  | .rawait d => [(d.da, f.new64 v), (d.db, f.new64 v)]
  | .rsrel d => [(d.da, f.forward f.opA f.tag), (d.db, f.forward f.opA f.tag)]
  | .rapeek d => [(d.da, f.new64 v), (d.db, f.new64 v)]
  | .sysrd d => [(d.da, f.new64 v), (d.db, f.new64 v)]
  | .syswr d => [(d.da, f.forward f.opA f.tag), (d.db, f.forward f.opA f.tag)]
  | .sysq _ d => [(d.da, f.forward f.opA f.tag), (d.db, f.new64 v)]
  | _ => []

/-- The conditions of a cluster's waits are tested, after the cycle's clears and retirements; one that holds keeps its
stamps and its value, and performs its acquire from the next cycle on (16 R330, R335). A halted cluster's waits do not
complete (23 R413). -/
def State.testWaits (s : State) (c : Nat) : State :=
  if (s.cl c).stopped then s
  else s.modCtx c (fun x => { x with pend := x.pend.map (fun (p : Pend) => match p.why with
    | .wait => (match s.waitHolds c p.fir p.instr with
      | some (l, v) => { p with why := .acquiring l v }
      | none => p)
    | _ => p) })

/-- A waiting match has fired: its unit's history takes it (16 R330, 22 R393, 23 R413). -/
def State.waitFired (s : State) (c : Nat) (f : Firing) : State :=
  s.modCl c (fun x => { x.note f.unit f with quiet := 0, stepLeft := x.stepLeft - 1 })

/-- The acquire of a wait: once the mirrors show its stamps it is performed and the outputs leave (16 R330). -/
def State.waitAcquire (s : State) (c k : Nat) (p : Pend) (l : List Stamp) (v : Nat) : State :=
  if s.stampsSeen c l then
    (((s.acquireStamps c l).pendDel c k).waitFired c p.fir).emit p.fir (waitOuts p.fir v p.instr)
  else s.acqWait c (s.acqReady c (acqOf c l)) (acqOf c l)

/-- A waiting match whose condition was found to hold acquires and sends its outputs; an answered request sends them
(16 R330, R336, R342, R344). -/
def execWaitComplete (c k : Nat) (s : State) : Host.Outcome State Fault Refusal :=
  .next (match s.pend c k with
    | none => s
    | some p =>
      match p.why with
      | .acquiring l v => if (s.cl c).stopped then s else s.waitAcquire c k p l v
      | .sysq (some v) =>
        if (s.cl c).stopped then s else ((s.pendDel c k).waitFired c p.fir).emit p.fir (waitOuts p.fir v p.instr)
      | .request (some v) => (s.pendDel c k).emit p.fir (waitOuts p.fir v p.instr)
      | _ => s)

end Sys2Proof.Machine
end

