-- ==== Sys2Proof/Machine/Translate.lean ====
section
/-!
DEFINITION. The events of translation: walks ending, lost tables, invalidation, dirty bits, write-back and leases
(03 R52 to R72).
-/
namespace Sys2Proof.Machine

/-- The walk or update a match was held for has ended. -/
def Ctx.unhold (x : Ctx) (k : Nat) : Ctx :=
  { x with matches_ := x.matches_.map (fun e => if e.held = some k then { e with held := none } else e) }

def State.endWalk (s : State) (c k : Nat) : State :=
  s.modCl c (fun x => { x with
    walks := x.walks.filter (fun w => w.id != k)
    ctx := x.ctx.unhold k
    here := x.here.del (4096 + k)
    lines := x.lines.filter (fun e => e.agent != 4096 + k) })

/-- A prefetch's fault is discarded (13 R281). -/
def isPref : Option Instr → Bool
  | some (.pref _) => true
  | _ => false

/-- The element of a record whose address a walk was for: the first from the record's place on. -/
def CopyRec.missed (r : CopyRec) (w : Walk) : Nat :=
  let at_ (i : Nat) : Int := if w.kind = .read then r.srcAt (r.j + i) else r.dstAt (r.j + i)
  if r.total ≤ r.j then r.j
  else r.j + ((List.range (min 256 (r.total - r.j))).find? (fun i => at_ i / 2 ^ 19 == ((w.va / 2 ^ 19 : Nat) : Int))).getD 0

/-- A walk ends in XLATE_FAULT (03 R51). -/
def State.walkFault (s : State) (c : Nat) (w : Walk) (cause : Nat) : State :=
  if w.orphan then s
  else match w.chan with
  | some ch =>
    let h := (s.ctx c).chan ch
    (match h.rec_ with
    | some r => s.copyStop c ch r (r.missed w) Code.XLATE_FAULT (xlateCause cause w.va)
    | none => if h.busy then s.copyFail c ch h.head.toNat (0, 0, 0) Code.XLATE_FAULT (xlateCause cause w.va) else s)
  | none =>
    if let some p := w.port then s.acceptFault c p Code.XLATE_FAULT (xlateCause cause w.va) w.fir
    else if isPref ((s.cl c).instr w.fir.unit w.fir.node) then s
    else s.fail w.fir Code.XLATE_FAULT (xlateCause cause w.va)

/-- Whose line-request entries a walk's table reads take: those of the agent that missed (03 R52). -/
def Walk.holder (w : Walk) : Nat := if w.chan.isSome then 2 else holderOf w.fir.unit

/-- A walk ends: it fills the L2 and then the L1, it faults, or it finds both copies of a table bad and waits
(03 R50 to R53, R56). Four walks run at once. -/
def execWalkComplete (c k : Nat) (s : State) : Host.Outcome State Fault Refusal :=
  .next (match ((s.cl c).walks.take 4).find? (fun w => w.id == k && w.lost.isNone) with
  | none => s
  | some w =>
    let cache := (s.cl c).walkCache
    let (there, s) := s.fetchLines c (4096 + k) w.holder (((s.walkReads cache w.sid w.va).map (fun p => p / 256)).eraseDups)
    if !there then s else
    let s := s.modCl c (fun x => { x with walkCache := s.walkCached cache w.sid w.va })
    match s.translateVia cache w.sid w.va w.kind (s.userForme c) with
    | (s, .ok e, _, m) =>
      let s := ((s.modDie (dieOf c) (fun d => { d with l2 := l2Put d.l2 e, perfMirror := (d.perfMirror + m) % 2 ^ 48 })).modCl c
        (fun x => { x with tlb := tlbPut 384 x.tlb e })).endWalk c k
      w.prefs.foldl (fun s off => s.prefLine c w.holder off) s
    | (s, .error _, some p, m) =>
      (s.modDie (dieOf c) (fun d => { d with perfMirror := (d.perfMirror + m) % 2 ^ 48 })).modCl c (fun x => { x with walks := x.walks.map (fun v => if v.id = k then { v with lost := some p } else v) })
    | (s, .error cause, none, m) =>
      ((s.modDie (dieOf c) (fun d => { d with perfMirror := (d.perfMirror + m) % 2 ^ 48 })).endWalk c k).walkFault c w cause)

/-! ## Lost tables (03 R56) -/

/-- The walk's report: a record to Nymtor with the table's primary address, and the walking SID quiesces. -/
def execPteLost (c k : Nat) (s : State) : Host.Outcome State Fault Refusal :=
  .next (match (s.cl c).walks.find? (fun w => w.id == k && !w.reported) with
  | some w =>
    (match w.lost with
    | some p =>
      ((s.modCl c (fun x => { x with
        walks := x.walks.map (fun v => if v.id = k then { v with reported := true } else v) })).record nymtorQueue
          Code.PTE_LOST c 0 0 4 0 (lostCause p)).quiesceSid p w.sid
    | none => s)
  | none => s)

/-- The firmware quiesces the SIDs that Nymtor's table-sharing list names for a lost table. -/
def execQuiesceSharedSids (pa : Nat) (sids : List Nat) (s : State) : Host.Outcome State Fault Refusal :=
  .next (if s.cls.any (fun p => p.2.walks.any (fun w => w.reported && w.lost == some pa)) ||
      s.hub.lostWalks.any (·.2 == pa) then
    sids.foldl (fun s sid => s.quiesceSid pa sid) s else s)

/-! ## Invalidation (03 R54) -/

def execTlbInvPage (sid va size : Nat) (s : State) : Host.Outcome State Fault Refusal := .next (s.tlbGo 0 sid va size)
def execTlbInvSid (sid : Nat) (s : State) : Host.Outcome State Fault Refusal := .next (s.tlbGo 1 sid 0 0)
def execTlbInvAll (s : State) : Host.Outcome State Fault Refusal := .next (s.tlbGo 2 0 0 0)

/-- An invalidation covers a SID: its scope is that SID's, or all. -/
def coversSid (r : Nat × Nat × Nat × Nat) (sid : Nat) : Bool := r.1 == 2 || r.2.1 == sid

/-- A galley belongs to a SID: its cluster's space, or that of an entry it still holds. -/
def State.galleysOf (s : State) (sid : Nat) : List Nat :=
  ((s.cls.filter (fun p => p.2.sid == sid || p.2.gal.ents.any (·.sid == sid))).map (·.1)) ++
    [1024, 1025, 1026].filter (fun g => (s.gal g).ents.any (·.sid == sid))

/-- Halted or on the way to it, a quiesced cluster resumes. -/
def State.unquiesce (s : State) (c : Nat) : State :=
  (s.modCl c (fun x => { x with quiesced := false, halt := .halted })).resume c

/-- A SID's quiesced contexts resume and its waiting walks restart, once its tables are rewritten and its
translations invalidated (03 R56). -/
def State.restart (s : State) (r : Nat × Nat × Nat × Nat) : State :=
  if r.1 = 0 then s
  else
    let s := { s with cls := s.cls.map (fun (p : Nat × Cluster) => (p.1,
      { p.2 with walks := p.2.walks.map (fun (w : Walk) => if coversSid r w.sid then { w with lost := none, reported := false } else w) })) }
    let s := s.modHub (fun h => { h with quiesced := h.quiesced.filter (fun q => !coversSid r q)
                                         lostWalks := h.lostWalks.filter (fun q => !coversSid r q.1) })
    (s.cls.filter (fun (p : Nat × Cluster) => p.2.quiesced && coversSid r p.2.sid)).foldl (fun (s : State) (p : Nat × Cluster) => s.unquiesce p.1) s

/-- BUSY falls: no matching entry remains, and every access translated through one has its data or its entry. -/
def execTlbInvDone (s : State) : Host.Outcome State Fault Refusal :=
  let r := s.hub.invRun
  .next (if !s.hub.invBusy || s.cls.any (fun p => (p.2.inFlight && (p.2.sid :: p.2.oldSids).any (coversSid r)) ||
      p.2.fills.any (fun f => coversSid r f.sid)) then s
  else
    let pos := (s.galleysOf r.2.1).map (fun g => (g, (s.gal g).a))
    (s.modHub (fun h => { h with
      invBusy := false
      scans := h.scans.map (fun (e : Nat × Nat × Option (List (Nat × Nat))) =>
        if e.2.2.isNone ∧ r.1 = 0 ∧ e.1 = r.2.1 ∧ e.2.1 = r.2.2.1 then (e.1, e.2.1, some pos) else e) })).restart r)

/-! ## Dirty bits and write-back (03 R71, R72) -/

/-- The update at the home, then in the agent's TLB entry; the held access follows. -/
def execDirtyBitUpdate (c k : Nat) (s : State) : Host.Outcome State Fault Refusal :=
  .next (match (s.cl c).dirties.find? (·.id == k) with
  | none => s
  | some w =>
    let hit : Option TlbEnt := match s.tlbFind c w.sid w.va with | some e => some e | none => s.l2Find c w.sid w.va
    let done (s : State) : State :=
      s.modCl c (fun x => { x with dirties := x.dirties.filter (·.id != k), ctx := x.ctx.unhold k })
    (match hit with
    | some e => done ((s.markDirty w.sid w.va).modCl c (fun x =>
        { x with tlb := tlbPut 384 x.tlb { e with dirty := true, cp := false } }))
    | none => done s))

/-- The storage context of a space: the queue pair that bears its SID, or queue pair 0 (log 80). -/
def Hub.stoOf (h : Hub) (sid : Nat) : Nat := ((h.sto.find? (fun p => p.2.sid == sid)).map (·.1)).getD 0

/-- One more substitution on a space's storage context (03 R74). -/
def State.stoSubst (s : State) (sid : Nat) : State :=
  s.modHub (fun h =>
    let x := h.sto.get {} (h.stoOf sid)
    { h with sto := h.sto.put (h.stoOf sid) { x with subst := (x.subst + 1) % 2 ^ 64 } })

/-- A dirty file-backed page is marked clean-pending and invalidated. -/
def execWriteBackScan (sid va : Nat) (s : State) : Host.Outcome State Fault Refusal :=
  .next (match s.walk sid va with
  | .leaf e p _ _ =>
    if s.hub.invBusy || !(e.testBit 62 && e.testBit 60) || s.hub.scans.any (fun x => x.1 == sid && x.2.1 == va) then s
    else
      ((s.updatePte p (fun v => setBits v 61 1 1)).tlbGo 0 sid va (bits e 7 6)).modHub (fun h =>
        { h with scans := h.scans ++ [(sid, va, none)] })
  | _ => s)

/-- The storage port has read a page's base image: zeros that it took for poisoned sectors of an ET page count once, on the
context of the page's space (03 R72, R74; log 80). -/
def State.storageRead (s : State) (sid va e lvl : Nat) : State :=
  match s.leafEnt sid va e lvl .read false with
  | .ok t =>
    let lo := t.frame * 1024
    let n := 2 ^ (pageBits t.size - 6)
    let bad (k : Nat) : Bool := decide (lo ≤ k) && decide (k < lo + n)
    if t.et && (s.poison.any (fun p => bad p.1) || s.eccBad.any bad) then s.stoSubst sid else s
  | .error _ => s

/-- The flash write is complete: the page is clean, if nothing has stored to it since it was marked. -/
def execWriteBackComplete (sid va : Nat) (s : State) : Host.Outcome State Fault Refusal :=
  .next (match s.hub.scans.find? (fun x => x.1 == sid && x.2.1 == va) with
  | some (_, _, some pos) =>
    if pos.any (fun q => decide ((s.gal q.1).d < q.2)) then s
    else
      let s := s.modHub (fun h => { h with scans := h.scans.filter (fun x => !(x.1 == sid && x.2.1 == va)) })
      (match s.walk sid va with
      | .leaf e p lvl _ =>
        let s := s.storageRead sid va e lvl
        if e.testBit 61 then s.updatePte p (fun v => setBits (setBits v 60 1 0) 61 1 0) else s
      | _ => s)
  | _ => s)

/-! ## Leases (03 R58, R61) -/

/-- The page at an address of a space, as Nymtor has installed it for a lease: resident, with V and RD, and with WR where
a WR slot overlaps it (03 R58); its key, or none while it is not, as during a migration (03 R62). -/
def State.leasePage (s : State) (sid : Nat) (wr : Bool) (va : Nat) : Option Nat :=
  match s.walk sid va with
  | .leaf e _ lvl _ =>
    (match s.leafEnt sid va e lvl .read false with
    | .ok t => if wr && !t.wr then none else some (sid * 2 ^ 57 + t.page * 2 ^ pageBits t.size)
    | .error _ => none)
  | _ => none

/-- The pages that the used slots of a lease overlap; none while some page is not installed (03 R58). -/
def State.leasePages (s : State) (sid : Nat) (l : List (Nat × Nat × Bool)) : Option (List Nat) :=
  ((l.flatMap (fun r => (pageParts (r.2.1 / 2 ^ 19 + 2) r.1 r.2.1).map (fun p => (r.2.2, p.1)))).mapM (fun p =>
    s.leasePage sid p.1 p.2)).map List.eraseDups

/-- Nymtor reports the lease granted, once every page of it is installed, and counts it against them; dispatch may start
the launch (03 R58; log 82). -/
def execLeaseGranted (slot : Nat) (s : State) : Host.Outcome State Fault Refusal :=
  let sl := s.slot slot
  let b := Bind.of sl.words
  .next (if sl.state ≠ 1 || sl.leaseGranted then s
  else match s.hubRead 0 b.sid (ptrOff b.lease) 2048 with
    | (s, .ok (v, _, _)) =>
      let l := leaseSlots ((List.range 32).map (fun j => bits v (64 * j + 63) (64 * j)))
      (match s.leasePages b.sid l with
      | none => s
      | some pages => (s.modHub (fun h => h.countLeases pages true)).modSlot slot (fun x => { x with
          leaseGranted := true, lease := l, pages := pages }))
    | (s, .error _) => s)

/-- A signal of a launch's clusters to its counter is still under way. -/
def State.signalling (s : State) (sl : Slot) : Bool :=
  s.netMsgs.any (fun m => sl.clusters.contains m.src && (match m.pay with
    | .signal n _ => n == (Bind.of sl.words).lcnt
    | _ => false))

/-- The launch has signalled its counter and its galleys have drained past the positions of its end: the lease
ends, and with it the slot. -/
def execLeaseRelease (slot : Nat) (s : State) : Host.Outcome State Fault Refusal :=
  let sl := s.slot slot
  .next (if sl.state = 3 ∧ !s.signalling sl ∧ sl.endA.all (fun p => decide (p.2 ≤ (s.gal (endGal p.1)).d)) then s.dropSlot slot else s)

end Sys2Proof.Machine
end

