-- ==== Sys2Proof/Machine/Drain.lean ====
section
/-!
DEFINITION. The events of the galleys and stores behind them: draining, folding, mirrors, view-cache invalidation,
bank priority, and the stores of system cores and the host (02 R28, R35, R42, 04 R75, R81, R82, R98, 22 R402, 25 R421).
-/
namespace Sys2Proof.Machine

/-- The agent in whose name a galley's entries travel: the cluster, or the engine of the hub's home die (04 R75, R81). -/
def State.drainAgent (s : State) (g : Nat) : Nat := if g < 1024 then g else 256 * s.hubHome

/-- The drain engine sends a galley's next entry to its compactor. A marker folds at once; an error in the data
words alone makes the entry poisoned; an entry whose first 128 bits are lost is left to GAL_LOST (04 R81, R98). -/
def execDrainEntry (g : Nat) (s : State) : Host.Outcome State Fault Refusal :=
  .next (match (s.gal g).nextDrain with
  | none => s
  | some e =>
    if (s.entryBad g e.pos).1 then s
    else if e.kind = 2 then s.modGal g (fun y => y.drop e.pos)
    else
      let bad := e.poison || (s.entryBad g e.pos).2
      let at_ := s.drainAgent g
      let s := if s.farHome at_ e.pba then s.send 4 at_ 0 (s.homeT e.pba) 0 (.drained g e.pos) else s
      s.modGal g (fun y => { y with ents := y.ents.map (fun (x : GEnt) =>
        if x.pos = e.pos then { x with sent := true, poison := bad } else x) }))

/-- An entry that travels to a home on another die has not arrived there. -/
def State.drainAway (s : State) (g pos : Nat) : Bool :=
  s.netMsgs.any (fun m => m.pay == .drained g pos && !s.arrived m)

/-- A galley's oldest entry for a home, where it has been sent (04 R81). -/
def State.nextFold (s : State) (g home : Nat) : Option GEnt :=
  match (s.gal g).ents.find? (fun e => e.kind != 2 && s.home (e.pba / 8) == some home) with
  | some e => if e.sent then some e else none
  | none => none

/-- A home's compactor folds the oldest of a galley's entries for it (04 R81), one aligned 64-bit word at a time, in an
order the spec leaves open (02 R33). The owner's atomic that was issued before the entry, and has not executed, comes
first in home order (04 R91). -/
def execCompactorFold (g home : Nat) (s : State) : Host.Outcome State Fault Refusal :=
  .next (match s.nextFold g home with
  | none => s
  | some e =>
    if s.atomicHolds g e.pos home || s.drainAway g e.pos then s
    else
      let i := (nth e.left (Config.free s.freeCtr % e.left.length)).getD 0
      let s := { s with netMsgs := s.netMsgs.filter (fun m => m.pay != MsgPay.drained g e.pos), freeCtr := s.freeCtr + 1 }
      ((if g < 1024 then s.captureBefore g e else s).fold e i).modGal g (fun y => y.foldNote e.pos i))

/-- The GAL_LOST record of an entry, its header filled from the launch that made it (04 R98). -/
def State.lostRecord (s : State) (queue g cause : Nat) (owner : Option (Nat × Nat × Nat × Nat)) : State :=
  let o := owner.getD (0, 0, 0, 0)
  s.pushFault { queue := queue, code := Code.GAL_LOST, cl := if g < 1024 then g else 0, origin := 4, sid := o.2.2.1,
                slot := o.1, launch := o.2.2.2, cause := cause }

/-- A cluster on which the launch of an owner still runs, the galley's own first. -/
def State.runsOn (s : State) (g : Nat) (o : Nat × Nat × Nat × Nat) : Option Nat :=
  (g :: (s.slot o.1).clusters).find? (fun c => s.ownerOf c == some o && s.unitLive c && (s.cl c).stat == .running)

/-- An entry whose home cannot be known is skipped: Nymtor and the job that made it get the same record, and its launch
ends if it still runs (04 R98). -/
def execGalLost (g : Nat) (s : State) : Host.Outcome State Fault Refusal :=
  .next (match (s.gal g).nextDrain with
  | none => s
  | some e =>
    if !(s.entryBad g e.pos).1 then s
    else
      let cause := Config.cause Code.GAL_LOST [g, e.pos]
      let s := (s.modGal g (fun y => y.drop e.pos)).lostRecord nymtorQueue g cause e.owner
      (match e.owner with
      | none => s
      | some o =>
        let s := s.lostRecord o.2.1 g cause e.owner
        match s.runsOn g o with
        | some c => s.modCl c (fun x => { x with stat := .faulting })
        | none => s))

/-- The update of a galley that is under way to a die's mirror. -/
def State.mirrorMsg (s : State) (d g : Nat) : Option Msg :=
  s.netMsgs.find? (fun m => match m.pay with | .mirrorPD d' g' _ _ => d' == d && g' == g | _ => false)

/-- A mirror takes an update; positions only grow (04 R75). -/
def State.mirrorTake (s : State) : MsgPay → State
  | .mirrorPD d g p q =>
    s.modDie d (fun x => { x with mirror := x.mirror.put g (max p (s.mirror d g).1, max q (s.mirror d g).2) })
  | _ => s

/-- A change to a galley's positions reaches a die's mirror (04 R82). -/
def execMirrorUpdate (d g : Nat) (s : State) : Host.Outcome State Fault Refusal :=
  .next (if (s.die d).mirrorBad || (d != 4 && !s.dieLive d) then s
  else if dieOfAgent g = d then s.mirrorUpdate d g
  else match s.mirrorMsg d g with
  | some m => if s.arrived m then (s.dropMsg m.id).mirrorTake m.pay else s
  | none =>
    if s.mirror d g = ((s.gal g).p, (s.gal g).d) then s
    else s.send 5 g 0 (256 * d) 0 (.mirrorPD d g (s.gal g).p (s.gal g).d))

/-- The galleys in the package: each present cluster's, and the hub's. -/
def State.galleys (s : State) : List Nat := (List.range 1024).filter s.present? ++ [1024, 1025, 1026]

/-- A mirror with an uncorrectable error is rebuilt from the galley units (22 R402). -/
def execMirrorRebuild (d : Nat) (s : State) : Host.Outcome State Fault Refusal :=
  .next (s.modDie d (fun x => { x with
    mirrorBad := false
    mirror := s.galleys.map (fun g => (g, ((s.gal g).p, (s.gal g).d))) }))

/-- A full invalidation of a cluster's view cache, and its end (02 R42). -/
def execVcInvalAll (c : Nat) (s : State) : Host.Outcome State Fault Refusal := .next (s.vcInval c)
def execVcInvalDone (c : Nat) (s : State) : Host.Outcome State Fault Refusal :=
  .next (s.modCl c (fun x => { x with vcBusy := false }))

/-- The bytes of a store as a number. -/
def leNat : List Byte → Nat
  | [] => 0
  | b :: rest => b.toNat + 256 * leNat rest

/-- A store that writes a table's copy. It clears no poison bit; a sector that it writes whole is stored with new ECC, so
that an uncorrectable error of it is gone and a lost table can be rewritten (02 R29, 03 R56; log 23). -/
def State.storeTable (s : State) (pa : Nat) (data : List Byte) : State :=
  let cut := cutSectors (data.length * 8 / 512 + 2) (pa * 8) (data.length * 8) 0
  let whole := (cut.filter (fun p => p.2.1 == 512)).map (fun p => sectorOf p.1)
  { s with mem := s.mem.writeList pa data, eccBad := s.eccBad.filter (fun k => !whole.contains k) }

/-- A store of a system core: to a process space through galley 1026, or of a page table to its base image, which
no process space maps (02 R28, 03 R52, 04 R75). -/
def execSystemCoreStore (sid addr : Nat) (table : Bool) (data : List Byte) (s : State) : Host.Outcome State Fault Refusal :=
  .next (if table then
    if (s.home addr).isSome ∧ (s.home (addr + data.length - 1)).isSome then s.storeTable addr data else s
  else (s.hubStore 0 1026 sid addr (8 * data.length) [(0, 8 * data.length, leNat data, false)]).getD (s.hubStuck 0 sid addr (8 * data.length)))

/-- Bytes that lie in HBM that is there (02 R27). -/
def State.inHbm (s : State) (pa n : Nat) : Bool :=
  (List.range n).all (fun k => match s.home (pa + k) with | some d => decide (d < 4) | none => false)

/-- A host store to the HDM window, a region of HBM, writes the base image (25 R421); no poison is cleared (02 R29). -/
def execHdmWindowStore (pa : Nat) (data : List Byte) (s : State) : Host.Outcome State Fault Refusal :=
  .next (match s.hub.hostWin with
  | some (base, size) => if base ≤ pa ∧ pa + data.length ≤ base + size ∧ s.inHbm pa data.length then { s with mem := s.mem.writeList pa data } else s
  | none => s)

end Sys2Proof.Machine
end

