-- ==== Sys2Proof/Machine/MxMath.lean ====
section
/-!
DEFINITION. The matrix engine's commands as data and its arithmetic: control tokens and their checks, the k-groups of a
product, and the epilogue (15 R301 to R319, 07 R164).
-/
namespace Sys2Proof.Machine

/-! ## Control tokens (15 R302, R304) -/

/-- The fields of a control token. -/
structure Ctl where
  cmdid : Nat
  pred1 : Nat
  pred2 : Nat
  mop : Nat
  asrc : Nat
  bsrc : Nat
  acc : Bool
  tb : Bool
  ck : Bool
  m16 : Nat
  m : Nat
  n : Nat
  k : Nat
  abase : Nat
  bbase : Nat
  astride : Nat
  bstride : Nat
  cbase : Nat
  dfd : BitVec 32
  cookie : Nat
  word0 : Nat
deriving DecidableEq, Repr

/-- The control token of a 256-bit payload. -/
def Ctl.of (v : Nat) : Ctl :=
  let w0 := bits v 63 0; let w1 := bits v 127 64; let w2 := bits v 191 128; let w3 := bits v 255 192
  { cmdid := bits w0 63 56, pred1 := bits w0 55 48, pred2 := bits w0 47 40, mop := bits w0 39 36, asrc := bits w0 35 34,
    bsrc := bits w0 33 32, acc := w0.testBit 31, tb := w0.testBit 30, ck := w0.testBit 29, m16 := bits w0 23 20,
    m := (bits w0 23 20 + 1) * 16, n := (bits w0 19 18 + 1) * 16, k := (bits w0 17 7 + 1) * 32, abase := bits w1 63 40,
    bbase := bits w1 39 16, astride := bits w2 63 44, bstride := bits w2 43 24, cbase := bits w2 23 7,
    dfd := BitVec.ofNat 32 (bits w3 63 32), cookie := bits w3 31 0, word0 := w0 }

/-- Entries of the C-store, and bits of a typed buffer (02 R37, R38). -/
def cEntries : Nat := 131072
def bufBits : Nat := 2 ^ 23

/-- Operand widths: of the forme's formats, or of DFD for a C-store operand (15 R303). -/
def Forme.widthA (f : Forme) : Nat := (f.fmtA.map (fun x => Fd.codeWidth (BitVec.ofNat 32 x))).getD 0
def Forme.widthB (f : Forme) : Nat := (f.fmtB.map (fun x => Fd.codeWidth (BitVec.ofNat 32 x))).getD 0

def packedOp (w : Nat) : Bool := w == 3 || w == 5 || w == 6 || w == 7

/-- Cause 4 of R304 for A, B and C. -/
def Ctl.badA (q : Ctl) (f : Forme) : Bool :=
  if q.asrc = 2 then
    q.abase % 32 ≠ 0 || q.astride % 32 ≠ 0 ||
      decide (cEntries < (q.abase + (q.m - 1) * q.astride) / 32 + q.k)
  else
    let w := f.widthA
    decide (bufBits < q.abase + (q.m - 1) * q.astride + q.k * w) ||
      (packedOp w && (q.abase % w ≠ 0 || q.astride % w ≠ 0))

def Ctl.badB (q : Ctl) (f : Forme) : Bool :=
  let w := f.widthB
  decide (bufBits < q.bbase + (if q.tb then (q.n - 1) * q.bstride + q.k * w else (q.k - 1) * q.bstride + q.n * w)) ||
    (packedOp w && (q.bbase % w ≠ 0 || q.bstride % w ≠ 0))

def Ctl.badC (q : Ctl) : Bool := decide (cEntries < q.cbase + q.m * q.n)

/-- Cause 6: some entry of A is also an output entry. -/
def Ctl.overlaps (q : Ctl) : Bool :=
  (List.range q.m).any (fun i =>
    let e := (q.abase + i * q.astride) / 32
    decide (e < q.cbase + q.m * q.n) && decide (q.cbase < e + q.k))

/-- The first check of R304 that a control token fails. -/
def Ctl.cause (q : Ctl) (f : Forme) : Option Nat :=
  let mm := q.mop == 0
  if 3 ≤ q.mop then some 0
  else if q.asrc = 3 ∨ 2 ≤ q.bsrc then some 1
  else if bits q.word0 28 24 ≠ 0 ∨ bits q.word0 6 0 ≠ 0 then some 2
  else if 7 < q.m16 then some 3
  else if (mm && (q.badA f || q.badB f)) || (decide (q.mop ≤ 1) && q.badC) then some 4
  else if mm && q.asrc == 2 && !Fd.mxeOk q.dfd then some 5
  else if mm && q.asrc == 2 && q.overlaps then some 6
  else if mm && (f.fmtB.isNone || (decide (q.asrc ≤ 1) && f.fmtA.isNone)) then some 8
  else none

/-- Causes 0, 1, 2, 3 and 5 for a command template (15 R321). -/
def Ctl.templateBad (q : Ctl) : Bool :=
  decide (3 ≤ q.mop) || q.asrc == 3 || decide (2 ≤ q.bsrc) || bits q.word0 28 24 ≠ 0 || bits q.word0 6 0 ≠ 0 ||
    decide (7 < q.m16) || (q.mop == 0 && q.asrc == 2 && !Fd.mxeOk q.dfd)

/-- The region of MXIN and MXOUT: lane 0 of a (15 R323). -/
structure Region where
  cmdid : Nat
  pred1 : Nat
  pred2 : Nat
  cbase : Nat
  m16 : Nat
  n16 : Nat
  zero : Nat
deriving DecidableEq, Repr

def Region.of (v : Nat) : Region :=
  { cmdid := bits v 7 0, pred1 := bits v 15 8, pred2 := bits v 23 16, cbase := bits v 40 24, m16 := bits v 43 41,
    n16 := bits v 45 44, zero := bits v 63 46 }

def Region.m (r : Region) : Nat := (r.m16 + 1) * 16
def Region.n (r : Region) : Nat := (r.n16 + 1) * 16

/-! ## Groups of a product (15 R301, R310 to R314) -/

/-- Products a group holds, by an operand's rate group (07 R164, 15 R301). -/
def groupOf (fd : BitVec 32) : Nat :=
  match Fd.cls fd with
  | 3 | 4 => 4
  | 5 => 1
  | _ => if Fd.codeWidth fd ≤ 4 then 32 else 16

/-- An operand that accumulates as an integer: classes 0, 1 and 7 (07 R164). -/
def intFd (fd : BitVec 32) : Bool := Fd.cls fd == 0 || Fd.cls fd == 1 || Fd.cls fd == 7

def Ctl.fdA (q : Ctl) (f : Forme) : BitVec 32 := if q.asrc = 2 then q.dfd else BitVec.ofNat 32 (f.fmtA.getD 0)
def fdB (f : Forme) : BitVec 32 := BitVec.ofNat 32 (f.fmtB.getD 0)
def Ctl.gs (q : Ctl) (f : Forme) : Nat := min (groupOf (q.fdA f)) (groupOf (fdB f))
def Ctl.groups (q : Ctl) (f : Forme) : Nat := q.k / q.gs f
def Ctl.intAcc (q : Ctl) (f : Forme) : Bool := intFd (q.fdA f) && intFd (fdB f)

/-- An entry as a number under TY (15 R309). -/
def CEnt.value (e : CEnt) : ExtNum := if e.ty then decode (laneFmt .f32) e.code else ExtNum.ofInt (Sys2Proof.sext e.code 32)

/-- The FD of INT32 (15 R312). -/
def int32Fmt : Fmt := Fmt.of 0x18020000

/-- An exact integer number as an integer. -/
def ExtNum.toInt : ExtNum → Int
  | .fin s n d => if s then -((n / d : Nat) : Int) else ((n / d : Nat) : Int)
  | _ => 0

/-- An operand row of a group: its values, a poisoned entry among them, and the down-converter's flags. -/
structure OpRow where
  vals : List ExtNum := []
  pz : Bool := false
  flags : Nat := 0
  force : Bool := false
deriving DecidableEq, Repr

/-- What a group makes of one entry. -/
structure GroupRes where
  ent : CEnt := {}
  flags : Nat := 0
  force : Bool := false
  /-- the value it started from, and the new one, before saturation: what the checksum compares (15 R316) -/
  old : ExtNum := .fin false 0 1
  new : ExtNum := .fin false 0 1
deriving DecidableEq, Repr

/-- Integer accumulation of a group (15 R312). -/
def intGroup (old : CEnt) (first : Bool) (a b : List ExtNum) : GroupRes :=
  let c : Int × Nat × Bool :=
    if first then (0, 0, false)
    else if old.ty then
      let r := round int32Fmt .rne old.value
      (Sys2Proof.sext r.code 32, r.flags, r.force)
    else (Sys2Proof.sext old.code 32, 0, false)
  let v := c.1 + (a.zip b).foldl (fun s p => s + p.1.toInt * p.2.toInt) 0
  let t := Sys2Proof.sat v (-((2 ^ 31 : Nat) : Int)) (((2 ^ 31 : Nat) : Int) - 1)
  { ent := { code := zextInt t 32, ty := false }, flags := c.2.1 ||| (if t = v then 0 else Flag.OVF + Flag.SAT),
    force := c.2.2, old := ExtNum.ofInt c.1, new := ExtNum.ofInt v }

/-- A term in units of 2^e: its floor, and whether it is a multiple. -/
def termIn (e : Int) : ExtNum → Int × Bool
  | .fin s n d =>
    let m := if e < 0 then n * 2 ^ (-e).toNat else n
    let q := if e < 0 then d else d * 2 ^ e.toNat
    let x : Int := if s then -((m : Nat) : Int) else ((m : Nat) : Int)
    (x / ((q : Nat) : Int), decide (m % q = 0))
  | _ => (0, true)

/-- The exponent of the largest non-zero term (15 R313). -/
def topExp : List ExtNum → Option Int
  | [] => none
  | .fin _ n d :: rest =>
    if n = 0 then topExp rest
    else match topExp rest with
      | none => some (floorLog2 n d)
      | some e => some (max e (floorLog2 n d))
  | _ :: rest => topExp rest

/-- FP32 accumulation of a group: the cases of R314, then the window of R313. -/
def fltGroup (old : CEnt) (first : Bool) (a b : List ExtNum) : GroupRes :=
  let c := if first then ExtNum.fin false 0 1 else old.value
  let prods := (a.zip b).map (fun p => ExtNum.mul p.1 p.2)
  let terms := c :: prods.map (·.1)
  let f := laneFmt .f32
  let nan : CEnt := { code := f.nanCode, ty := true }
  let pos := terms.any (fun t => t == .inf false)
  let neg := terms.any (fun t => t == .inf true)
  if c.isNan || a.any (·.isNan) || b.any (·.isNan) then { ent := nan }
  else if prods.any (fun p => p.2 ≠ 0) || (pos && neg) then { ent := nan, flags := Flag.INV }
  else if pos || neg then { ent := { code := f.infCode neg, ty := true } }
  else match topExp terms with
    | none =>
      let r := round f .rne (.fin (terms.all (·.neg)) 0 1)
      { ent := { code := r.code, ty := true } }
    | some e =>
      let l := terms.map (termIn (e - 100))
      let t := l.foldl (fun s p => s + p.1) 0
      let st : Int := if l.any (fun p => !p.2) then 1 else 0
      let v := 2 * t + st
      let r := round f .rne (ExtNum.scaledBy (decide (v < 0)) v.natAbs (e - 101))
      { ent := { code := r.code, ty := true }, flags := r.flags, force := r.force }

/-- A group of one entry, with the poison of its row and of the entry it reads (15 R309). -/
def groupEnt (int first : Bool) (old : CEnt) (a : OpRow) (b : List ExtNum) : GroupRes :=
  let r := if int then intGroup old first a.vals b
    else
      let r := fltGroup old first a.vals b
      { r with old := if first then .fin false 0 1 else old.value, new := r.ent.value }
  { r with ent := { r.ent with pz := a.pz || (!first && old.pz) } }

/-! ## The array's checksum (15 R316) -/

/-- A finite number as a rational. -/
def ExtNum.rat : ExtNum → Rat
  | .fin s n d => if s then -mkRat n d else mkRat n d
  | _ => 0

def ExtNum.isFin : ExtNum → Bool
  | .fin .. => true
  | _ => false

/-- An entry that the array has computed wrong: some bits of its code are flipped. -/
def GroupRes.flip (int : Bool) (r : GroupRes) (x : Nat) : GroupRes :=
  let code := (r.ent.code ^^^ x) % 2 ^ 32
  let d := Sys2Proof.sext code 32 - Sys2Proof.sext r.ent.code 32
  let ent := { r.ent with code := code }
  { r with ent := ent, new := if int then ExtNum.ofInt (r.new.toInt + d) else ent.value }

/-- Exact sums of rationals. -/
def sumRat (l : List Rat) : Rat := l.foldl (· + ·) 0

/-- The checksum of a column agrees, or the column is not checked: its entries, the exact column sums of A, the
magnitude of the products, and what an error adds to the checksum row. -/
def columnSound (int : Bool) (rs : List GroupRes) (rows : List OpRow) (b : List ExtNum) (err : Nat) : Bool :=
  if rs.any (fun r => !r.old.isFin || !r.new.isFin || r.ent.pz) then true
  else
    let dot (f : Rat → Rat) (a : List ExtNum) : Rat := sumRat ((a.zip b).map (fun p => f (p.1.rat * p.2.rat)))
    let s := sumRat (rows.map (fun r => dot id r.vals)) + (err : Rat)
    let d := sumRat (rs.map (fun r => r.new.rat - r.old.rat))
    if int then s == d
    else
      let lim := sumRat ((rs.zip rows).map (fun p => p.1.old.rat.abs + dot Rat.abs p.2.vals))
      decide ((d - s).abs * 2 ^ 16 ≤ lim)

/-! ## The epilogue (15 R317, R318) -/

/-- An epilogue profile. -/
structure Profile where
  ofd : BitVec 32
  act : Nat
  rs : Bool
  cs : Bool
  ben : Bool
  rq : Bool
  tsel : Bool
  rm : Nat
  sg : Bool
  zero : Nat
  mult : Nat
  lit : RqLit
  rqlit : Nat
  lo : Nat
  hi : Nat
  tlo : Nat
  tstep : Nat
deriving DecidableEq, Repr

def Profile.of (w : List Nat) : Profile :=
  let w0 := bindWord w 0; let w1 := bindWord w 1; let w2 := bindWord w 2; let w3 := bindWord w 3
  { ofd := BitVec.ofNat 32 (bits w0 63 32), act := bits w0 31 30, rs := w0.testBit 29, cs := w0.testBit 28,
    ben := w0.testBit 27, rq := w0.testBit 26, tsel := w0.testBit 25, rm := bits w0 24 22, sg := w0.testBit 21,
    zero := bits w0 20 0, mult := bits w1 63 32, rqlit := bits w1 31 0,
    lit := { zp := BitVec.ofNat 8 (bits w1 31 24), s := BitVec.ofNat 6 (bits w1 13 8), ow := BitVec.ofNat 6 (bits w1 5 0) },
    lo := bits w2 63 32, hi := bits w2 31 0, tlo := bits w3 63 32, tstep := bits w3 31 0 }

/-- Bits an output takes. -/
def Profile.w (p : Profile) : Nat := Fd.codeWidth p.ofd

def Profile.rmode (p : Profile) : RMode :=
  if p.rm = 1 then .rtz else if p.rm = 2 then .rup else if p.rm = 3 then .rdn else if p.rm = 4 then .rna else .rne

/-- The table entry an activation picks (15 R318). -/
def tableIndex (x tlo tstep : ExtNum) : Nat :=
  match x, tlo, tstep with
  | .inf neg, _, _ => if neg then 0 else 255
  | .fin .., .fin .., .fin .. =>
    let v := (ExtNum.div (ExtNum.add x (tlo.flip) .rne).1 tstep).1
    (match v with
    | .fin s n d => (Sys2Proof.sat ((if s then -((n : Nat) : Int) else ((n : Nat) : Int)) / ((d : Nat) : Int)) 0 255).toNat
    | _ => 0)
  | _, _, _ => 0

/-- The activation of a value that is no NaN. -/
def Profile.activate (p : Profile) (tables : List (List Nat)) (x : ExtNum) : ExtNum :=
  let d := decode (laneFmt .f32)
  if x.isNan then x
  else if p.act = 1 then (if x.lt (.fin false 0 1) then .fin false 0 1 else x)
  else if p.act = 2 then
    (if x.lt (d p.lo) then d p.lo else if (d p.hi).lt x then d p.hi else x)
  else if p.act = 3 then
    d ((nth ((nth tables (if p.tsel then 1 else 0)).getD []) (tableIndex x (d p.tlo) (d p.tstep))).getD 0)
  else x

/-- One output of the epilogue, from its entry, row scale, column scale and bias (15 R318). A poisoned entry gives a
poisoned code of zero. -/
def Profile.element (p : Profile) (tables : List (List Nat)) (e : CEnt) (rs cs bias : Nat) : Lane :=
  let d := decode (laneFmt .f32)
  if e.pz then Lane.poisoned
  else if p.rq then
    let r : Rounded := if e.ty then round int32Fmt .rne e.value else { code := e.code }
    let x := Sys2Proof.sext r.code 32 + (if p.ben then Sys2Proof.sext bias 32 else 0)
    let q := rquantInt p.sg p.lit x (Sys2Proof.sext p.mult 32)
    { code := q.code % 2 ^ p.w, flags := r.flags ||| q.flags, force := r.force }
  else
    let x0 : ExtNum × Nat := (e.value, 0)
    let x1 := if p.rs then let y := ExtNum.mul x0.1 (d rs); (y.1, x0.2 ||| y.2) else x0
    let x2 := if p.cs then let y := ExtNum.mul x1.1 (d cs); (y.1, x1.2 ||| y.2) else x1
    let x3 := if p.ben then let y := ExtNum.add x2.1 (d bias) p.rmode; (y.1, x2.2 ||| y.2) else x2
    let r := round (Fmt.of p.ofd) p.rmode (p.activate tables x3.1)
    { code := r.code, flags := x3.2 ||| r.flags, force := r.force }

end Sys2Proof.Machine
end

