-- ==== Sys2Proof/Machine/Mxe.lean ====
section
/-!
DEFINITION. The matrix engine: MXCMD, MXEXEC, MXIN, MXOUT, their command graph, the array's groups and the epilogue's
rows, MXCHK, MXWAIT and MXTL (15 R300 to R328).
-/
namespace Sys2Proof.Machine

/-! ## Control tokens -/

/-- A control token with its tag (06 R124). -/
def ctlTok (v : Nat) (tag : Tag) : Token := { tag := tag, kind := .control, gl2 := 0, cl2 := 0, pay := v % 2 ^ 256 }

/-- The 256 bits of a template (15 R321). -/
def wordsOf4 (w : List Nat) : Nat :=
  bindWord w 0 + 2 ^ 64 * bindWord w 1 + 2 ^ 128 * bindWord w 2 + 2 ^ 192 * bindWord w 3

/-- A read operand: 64-bit containers, its first n lanes not poisoned; the error is a fault code. -/
def readLanes (t : Token) (n : Nat) : Option Nat :=
  if t.cl2 ≠ 6 then some Code.LANE_MISMATCH
  else if t.pmask % 2 ^ (min n t.g) ≠ 0 then some Code.POISON_CONSUMED
  else none

/-- MXCMD builds a control token from a template (15 R321). -/
def execMxcmd (n : BitVec 4) (d : Dests) (s : State) : Host.Outcome State Fault Refusal :=
  let f := s.firing
  let a := f.opA; let b := f.opB; let c := f.opC
  let v := wordsOf4 ((nth (s.cl f.cl).forme.templates n.toNat).getD [])
  let q := Ctl.of v
  let okA := ptrTag (a.lane 0) == (if q.asrc = 0 then 2 else if q.asrc = 1 then 1 else 3)
  let okB := ptrTag (b.lane 0) == (if q.bsrc = 0 then 2 else 1)
  .next (if f.hasBubble then s.emitBubble f d
    else match [a, b, c].findSome? (fun t => readLanes t 1) with
      | some code => s.fail f code
      | none =>
        if a.gl2 ≠ b.gl2 ∨ a.gl2 ≠ c.gl2 then s.fail f Code.LANE_MISMATCH
        else if !okA || !okB then s.fail f Code.SPACE_ILLEGAL 2
        else
          let v := setBits v (64 + 40) 24 (bits (a.lane 0) 23 0)
          let v := setBits v (64 + 16) 24 (bits (b.lane 0) 23 0)
          let v := setBits v 56 8 (bits (c.lane 0) 7 0)
          let v := setBits v 48 8 (bits (c.lane 0) 15 8)
          let v := setBits v 40 8 (bits (c.lane 0) 23 16)
          let v := setBits v (128 + 7) 17 (bits (c.lane 0) 40 24)
          s.emitBoth f d (f.stamp (ctlTok v f.tag)))

/-! ## Acceptance (15 R304, R305) -/

def Ctx.mxSlot (x : Ctx) (k : Nat) : MxSlot := x.mxSlots.get {} k

/-- A ticket (15 R305). -/
def ticketOf (slot gen : Nat) : Nat := slot % 256 + gen % 2 ^ 32 * 2 ^ 8

/-- The command a predecessor field binds to: the latest accepted into the slot, unless it has retired. -/
def Ctx.bindPred (x : Ctx) (p : Nat) : List (Nat × Nat) :=
  let k := x.mxSlot p
  if p = 0xFF ∨ k.gen = k.retired then [] else [(p, k.gen)]

/-- Accept a command into its slot; the answer is its ticket. -/
def State.acceptCmd (s : State) (f : Firing) (d : Dests) (slot p1 p2 cookie : Nat) (op : MxOp) : State × Nat :=
  let x := s.ctx f.cl
  let preds := x.bindPred p1 ++ x.bindPred p2
  let gen := (x.mxSlot slot).gen + 1
  (s.modCtx f.cl (fun x => { x with
    mxSlots := x.mxSlots.put slot { x.mxSlot slot with gen := gen }
    mxCmds := x.mxCmds ++ [{ slot := slot, gen := gen, op := op, fir := f, dests := d, preds := preds, cookie := cookie }] }),
   ticketOf slot gen)

/-- Cause data of MXE_ILLEGAL: word 0 and the cause, at bits the spec does not give (15 R304; log 21). -/
def mxIllegal (word0 cause : Nat) : Nat := Config.cause Code.MXE_ILLEGAL [word0, cause]

/-- The words of a control token. -/
def ctlWords (v : Nat) : List Nat := (List.range 4).map (fun k => bits v (64 * k + 63) (64 * k))

/-- MXEXEC accepts a control token and sends its ticket (15 R320). -/
def execMxexec (d : Dests) (s : State) : Host.Outcome State Fault Refusal :=
  let f := s.firing
  let a := f.opA
  .next (if f.hasBubble then s.emitBubble f d
    else if a.kind ≠ .control then s.fail f Code.LANE_MISMATCH
    else
      let q := Ctl.of a.pay
      match q.cause (s.cl f.cl).forme with
      | some k => s.fail f Code.MXE_ILLEGAL (mxIllegal q.word0 k)
      | none =>
        let w := ctlWords a.pay
        let r := s.acceptCmd f d q.cmdid q.pred1 q.pred2 q.cookie
          (if q.mop = 0 then .mmul w else if q.mop = 1 then .mzero w else .mnop)
        r.1.emitBoth f d (f.new64 r.2))

/-- MXIN is checked and accepted (15 R323). -/
def execMxin (token fp : Bool) (d : Dests) (s : State) : Host.Outcome State Fault Refusal :=
  let f := s.firing
  let a := f.opA; let b := f.opB
  let r := Region.of (a.lane 0)
  let ill (k : Nat) : State := s.fail f Code.MXE_ILLEGAL (mxIllegal (a.lane 0) k)
  let src := b.lane 0; let pitch := b.lane 1
  let badC := decide (cEntries < r.cbase + (if token then b.g else r.m * r.n))
  .next (if f.hasBubble then s.emitBubble f d
    else match (match readLanes a 1 with
        | some k => some k
        | none => if token then (if b.cl2 = 5 then none else some Code.LANE_MISMATCH) else readLanes b 2) with
      | some code => s.fail f code
      | none =>
        if r.zero ≠ 0 then ill 2
        else if token then
          if badC then ill 4
          else if r.m16 ≠ 0 ∨ r.n16 ≠ 0 ∨ (!fp ∧ b.scale ≠ 0x7F00) then ill 7
          else (s.acceptCmd f d r.cmdid r.pred1 r.pred2 0 (.mxin (a.lane 0) true fp 0 0 b)).1
        else if badC then ill 4
        else if b.g < 2 then ill 7
        else match s.ptrCause f.cl [1] src with
          | some k => s.fail f Code.SPACE_ILLEGAL k
          | none =>
            if decide (bufBits < ptrBufOff src + (r.m - 1) * pitch + 32 * r.n) then ill 4
            else (s.acceptCmd f d r.cmdid r.pred1 r.pred2 0 (.mxin (a.lane 0) false fp src pitch b)).1)

/-- The vector block leaves the A-buffer (15 R304 cause 4, R324; log 34). -/
def Profile.blockBad (p : Profile) (vb m n : Nat) : Bool :=
  (p.rs && decide (bufBits < vb + 32 * m)) || (p.cs && decide (bufBits < vb + 4096 + 32 * n)) ||
    (p.ben && decide (bufBits < vb + 6144 + 32 * n))

/-- MXOUT is checked and accepted (15 R324). -/
def execMxout (l : MxoutLit) (d : Dests) (s : State) : Host.Outcome State Fault Refusal :=
  let f := s.firing
  let a := f.opA; let b := f.opB
  let r := Region.of (a.lane 0)
  let x := s.cl f.cl
  let p := Profile.of ((nth x.forme.profiles l.prof.toNat).getD [])
  let ill (k : Nat) : State := s.fail f Code.MXE_ILLEGAL (mxIllegal (a.lane 0) k)
  let abuf := l.dmode == 0
  let dst := b.lane 0; let pitch := b.lane 1
  let vb := bits (a.lane 1) 22 0
  let eg := ((s.ep f.cl l.port.toNat).map (fun e => e.g)).getD 1
  let dstCause := s.ptrCause f.cl [1] dst
  let badDst := abuf && decide (2 ≤ b.g) && dstCause.isNone && (decide (bufBits < ptrBufOff dst + (r.m - 1) * pitch + r.n * p.w) ||
    (packedOp p.w && (ptrBufOff dst % p.w ≠ 0 || pitch % p.w ≠ 0)))
  .next (if f.hasBubble then s.emitBubble f d
    else match (match readLanes a 2 with | some k => some k | none => if abuf then readLanes b 2 else none) with
      | some code => s.fail f code
      | none =>
        if r.zero ≠ 0 ∨ (2 ≤ a.g ∧ bits (a.lane 1) 63 23 ≠ 0) then ill 2
        else if cEntries < r.cbase + r.m * r.n ∨ (2 ≤ a.g ∧ p.blockBad vb r.m r.n) ∨ badDst then ill 4
        else if a.g < 2 ∨ (l.dmode = 1 ∧ r.n % eg ≠ 0) ∨ (abuf ∧ b.g < 2) then ill 7
        else if abuf then
          match dstCause with
          | some k => s.fail f Code.SPACE_ILLEGAL k
          | none => (s.acceptCmd f d r.cmdid r.pred1 r.pred2 0 (.mxout (a.lane 0) vb l dst pitch)).1
        else (s.acceptCmd f d r.cmdid r.pred1 r.pred2 0 (.mxout (a.lane 0) vb l 0 0)).1)

/-! ## The graph (15 R306, R307) -/

/-- Every bound predecessor has retired. -/
def Ctx.predsDone (x : Ctx) (m : MxCmd) : Bool := m.preds.all (fun p => decide (p.2 ≤ (x.mxSlot p.1).retired))

/-- The command a resource would start: the earliest accepted whose predecessors have retired, the resource idle. -/
def Ctx.startable (x : Ctx) (kind : MxOp → Bool) : Option MxCmd :=
  if x.mxCmds.any (fun m => kind m.op && m.started && !m.done) then none
  else x.mxCmds.find? (fun m => kind m.op && !m.started && x.predsDone m)

def setCmd (l : List MxCmd) (m : MxCmd) : List MxCmd := l.map (fun x => if x.slot = m.slot ∧ x.gen = m.gen then m else x)
def State.putCmd (s : State) (c : Nat) (m : MxCmd) : State := s.modCtx c (fun x => { x with mxCmds := setCmd x.mxCmds m })

/-- A command retires: its slot's count and the status its ticket names, its context's timeline, and its trap (15 R306, R307, R310, R315). -/
def State.retireCmd (s : State) (c : Nat) (m : MxCmd) : State :=
  let s := s.modCtx c (fun x => { x with
    mxCmds := x.mxCmds.filter (fun y => !(y.slot == m.slot && y.gen == m.gen))
    mxSlots := x.mxSlots.put m.slot (
      let k := x.mxSlot m.slot
      { k with retired := k.retired + 1, done := k.done.put m.gen (m.cookie, (if m.retried then 1 else 0), m.flags) }) })
  let s := (s.active c).modCl c (fun x => { x with mxTl := x.mxTl.put (m.slot / 64) (x.mxTl.get 0 (m.slot / 64) + 1) })
  if m.force then (s.jobRecord Code.ARITH_TRAP c 36 0 2 m.fir.tag (trapCause m.flags 0 true)).noteTrap c else s

def isNopOp : MxOp → Bool
  | .mnop => true | _ => false

/-- MNOP retires once its predecessors have (15 R306, R311). -/
def execMnop (c : Nat) (s : State) : Host.Outcome State Fault Refusal :=
  .next (match (s.ctx c).mxCmds.find? (fun m => isNopOp m.op && (s.ctx c).predsDone m) with
    | some m => if (s.cl c).stopped then s else s.retireCmd c m
    | none => s)

/-- MZERO writes zero to its entries (15 R309, R311). -/
def execMzero (c : Nat) (s : State) : Host.Outcome State Fault Refusal :=
  .next (match (s.ctx c).startable isArrayOp with
    | some m =>
      (match m.op with
      | .mzero w =>
        if (s.cl c).stopped then s
        else
          let q := Ctl.of (wordsOf4 w)
          let s := s.modCl c (fun x => (List.range (q.m * q.n)).foldl (fun x e => x.cstoreSet (q.cbase + e) {}) x)
          s.putCmd c { m with started := true, done := true }
      | _ => s)
    | none => s)

/-- The array starts a product (15 R306, R308). -/
def execMmul (c : Nat) (s : State) : Host.Outcome State Fault Refusal :=
  .next (match (s.ctx c).startable isArrayOp with
    | some m =>
      (match m.op with
      | .mmul _ => if (s.cl c).stopped then s else s.putCmd c { m with started := true }
      | _ => s)
    | none => s)

/-! ## Groups (15 R303, R310 to R316) -/

/-- The bits of an operand in its buffer: 0 the W-buffer, 1 the A-buffer. -/
def Cluster.operand (x : Cluster) (src off w : Nat) : Nat := bufRead (if src = 0 then x.wbuf else x.abuf) off w

/-- Row i of A in a group: read from its buffer, or down-converted from C-store entries (15 R303, R310). -/
def Cluster.rowA (x : Cluster) (q : Ctl) (g i : Nat) : OpRow :=
  let gs := q.gs x.forme
  let fd := q.fdA x.forme
  let w := Fd.codeWidth fd
  if q.asrc = 2 then
    let es := (List.range gs).map (fun k => x.cstore.get {} ((q.abase + i * q.astride) / 32 + g * gs + k))
    let rs := es.map (fun (e : CEnt) => round (Fmt.of fd) .rne e.value)
    { vals := rs.map (fun r => decode (Fmt.of fd) r.code), pz := es.any (·.pz),
      flags := rs.foldl (fun n r => n ||| r.flags) 0, force := rs.any (·.force) }
  else
    { vals := (List.range gs).map (fun k =>
        decode (Fmt.of fd) (x.operand q.asrc (q.abase + i * q.astride + (g * gs + k) * w) w)) }

/-- Column j of B in a group. -/
def Cluster.colB (x : Cluster) (q : Ctl) (g j : Nat) : List ExtNum :=
  let gs := q.gs x.forme
  let fd := fdB x.forme
  let w := Fd.codeWidth fd
  (List.range gs).map (fun k =>
    let kap := g * gs + k
    decode (Fmt.of fd) (x.operand q.bsrc (q.bbase + (if q.tb then j * q.bstride + kap * w else kap * q.bstride + j * w)) w))

/-- The reads of the A-buffer that a group makes: rows of A, rows or columns of B (15 R303). -/
def Ctl.reads (q : Ctl) (f : Forme) (g : Nat) : List (Nat × Nat) :=
  let gs := q.gs f
  let wa := f.widthA
  let wb := f.widthB
  (if q.asrc = 1 then (List.range q.m).map (fun i => (q.abase + i * q.astride + g * gs * wa, gs * wa)) else []) ++
    (if q.bsrc ≠ 1 then []
     else if q.tb then (List.range q.n).map (fun j => (q.bbase + j * q.bstride + g * gs * wb, gs * wb))
     else (List.range gs).map (fun k => (q.bbase + (g * gs + k) * q.bstride, q.n * wb)))

/-- The operands of a group, and its entries in row order, some of them computed wrong (15 R310, R312, R313, R316). -/
def Cluster.group (x : Cluster) (q : Ctl) (g : Nat) (upset : List (Nat × Nat)) : List OpRow × List (List ExtNum) × List GroupRes :=
  let first := !q.acc && g == 0
  let int := q.intAcc x.forme
  let rows := (List.range q.m).map (x.rowA q g)
  let cols := (List.range q.n).map (x.colB q g)
  (rows, cols, rows.zipIdx.flatMap (fun r => cols.zipIdx.map (fun k =>
    let e := r.2 * q.n + k.2
    let res := groupEnt int first (x.cstore.get {} (q.cbase + e)) r.1 k.1
    match upset.find? (·.1 == e) with
    | some u => res.flip int u.2
    | none => res)))

/-- Every column's checksum agrees; an upset numbered past the entries falls on the checksum row (15 R316). -/
def groupSound (q : Ctl) (f : Forme) (r : List OpRow × List (List ExtNum) × List GroupRes) (upset : List (Nat × Nat)) : Bool :=
  (r.2.1.zipIdx).all (fun b =>
    columnSound (q.intAcc f) ((r.2.2.zipIdx.filter (fun e => e.2 % q.n == b.2)).map (·.1)) r.1 b.1
      (((upset.find? (·.1 == q.m * q.n + b.2)).map (·.2)).getD 0))

/-! ## Reads of the A-buffer by the engine (02 R35, 15 R308) -/

/-- The bits that reads have returned, in place in a buffer that holds nothing else. -/
def viewOf : List (Nat × Nat) → Nat → Tbl Nat → Tbl Nat
  | [], _, t => t
  | (off, w) :: rest, v, t => viewOf rest (v / 2 ^ w) (bufWrite t off w (v % 2 ^ w))

/-- A command reads the A-buffer as a requester of its banks; the answer is the A-buffer as it has read it. -/
def State.mxeRead (s : State) (c who : Nat) (m : MxCmd) (l : List (Nat × Nat)) : Option (Tbl Nat) × State :=
  if l.isEmpty then (some [], s)
  else match m.key with
    | none =>
      let (k, s) := s.fresh
      (none, (l.foldl (fun s p => s.bankAsk c k who p.1 p.2 none) s).putCmd c { m with started := true, key := some k })
    | some k => if (s.cl c).bankDone k then (some (viewOf l ((s.cl c).bankValue k) []), s) else (none, s)

/-- A command has used what it has read. -/
def State.mxeUsed (s : State) (c : Nat) (m : MxCmd) : State :=
  match m.key with | some k => s.bankDrop c k | none => s

/-- A cluster's health changes: HEALTH_CHANGE goes to Nymtor with the new and old states and the package's (22 R399). -/
def State.healthTo (s : State) (c new : Nat) : State :=
  let old := (s.cl c).health
  if old = new then s
  else
    let s := s.modCl c (fun x => { x with health := new })
    s.record nymtorQueue Code.HEALTH_CHANGE c 0 0 5 0 (new + old * 4 + s.healthReg / 2 ^ 62 * 16)

/-- The cluster becomes DEGRADED (22 R399). -/
def State.degrade (s : State) (c : Nat) : State := s.healthTo c 2

/-- The array completes a k-group: its operands are read, its check made, then its C writes (15 R308, R312 to R316).
`upset` lists the errors of the array: an entry of the group, or past them a column's checksum, and what goes wrong. -/
def execMxeGroup (c : Nat) (upset : List (Nat × Nat)) (s : State) : Host.Outcome State Fault Refusal :=
  let x := s.cl c
  .next (match x.ctx.mxCmds.find? (fun m => m.started && !m.done && isArrayOp m.op) with
    | none => s
    | some m =>
      (match m.op with
      | .mmul w =>
        let q := Ctl.of (wordsOf4 w)
        if x.stopped then s
        else match s.mxeRead c 0 m (q.reads x.forme m.next) with
        | (none, s) => s
        | (some view, s) =>
          let r := ({ x with abuf := view } : Cluster).group q m.next upset
          let t := s.count c 0x196 8
          if (q.ck || !x.forme.priv) && !groupSound q x.forme r upset then
            if m.retried then
              ((t.putCmd c { m with done := true }).endUnit Code.MXE_CKSUM c 36 0 2 m.fir.tag 0).degrade c
            else (t.count c 0x197 1).putCmd c { m with retried := true }
          else
            let fl := r.2.2.foldl (fun n r => n ||| r.flags) (r.1.foldl (fun n r => n ||| r.flags) m.flags)
            let t := (t.mxeUsed c m).modCl c (fun x => r.2.2.zipIdx.foldl (fun x e => x.cstoreSet (q.cbase + e.2) e.1.ent) x)
            (t.active c).putCmd c { m with
              next := m.next + 1, done := decide (q.groups x.forme ≤ m.next + 1), key := none, flags := fl
              force := m.force || r.2.2.any (·.force) || r.1.any (·.force) }
      | _ => s))

/-! ## Rows of the input port and the epilogue (15 R318, R319, R323, R324) -/

/-- MXIN writes one row (15 R323). -/
def State.inRow (s : State) (c : Nat) (m : MxCmd) (region : Nat) (token fp : Bool) (src pitch : Nat) (t : Token) : State :=
  let r := Region.of region
  if token then
    let l := (List.range t.g).map (fun j =>
      if fp then
        (convLane (laneFmt .f32) (laneFmt .f32) .rne t.scale (t.lane j), t.poisoned j)
      else (({ code := t.lane j } : Lane), t.poisoned j))
    let s := s.modCl c (fun x => l.zipIdx.foldl (fun x e =>
      x.cstoreSet (r.cbase + e.2) { code := e.1.1.code, ty := fp, pz := e.1.2 || e.1.1.bad }) x)
    (s.active c).putCmd c { m with
      started := true, next := 1, done := true
      flags := l.foldl (fun n e => if e.2 then n else n ||| e.1.flags) m.flags
      force := l.any (fun e => !e.2 && e.1.force) }
  else
    let i := m.next
    let at_ := ptrBufOff src + i * pitch
    match s.mxeRead c 2 m [(at_, 32 * r.n)] with
    | (none, s) => s
    | (some view, s) =>
      let s := (s.mxeUsed c m).modCl c (fun x => (List.range r.n).foldl (fun x j =>
        x.cstoreSet (r.cbase + i * r.n + j) { code := bufRead view (at_ + 32 * j) 32, ty := fp, pz := false }) x)
      (s.active c).putCmd c { m with started := true, key := none, next := i + 1, done := decide (r.m ≤ i + 1) }

/-- The vector block's values for row i: its row scale, the column scales, the bias (15 R324). -/
def Profile.reads (p : Profile) (r : Region) (vb i : Nat) : List (Nat × Nat) :=
  (if p.rs then [(vb + 32 * i, 32)] else []) ++ (if p.cs then [(vb + 4096, 32 * r.n)] else []) ++
    (if p.ben then [(vb + 6144, 32 * r.n)] else [])

/-- The outputs of row i, of the entries read and the vector block. -/
def Profile.outRow (p : Profile) (tables : List (List Nat)) (r : Region) (read : Tbl CEnt) (block : Tbl Nat) (vb i : Nat) : List Lane :=
  (List.range r.n).map (fun j => p.element tables (read.get {} (i * r.n + j))
    (bufRead block (vb + 32 * i) 32) (bufRead block (vb + 4096 + 32 * j) 32) (bufRead block (vb + 6144 + 32 * j) 32))

/-- The grant of DMODE 10: the largest power of two that divides n and fits (15 R324). -/
def outGrant (n cl2 : Nat) : Nat := ((List.range 6).filter (fun g => n % 2 ^ g = 0 && decide (g + cl2 ≤ 8))).getLastD 0

/-- Lanes of an output token: codes widened into the container (07 R155). -/
def outTok (p : Profile) (gl2 : Nat) (tag : Tag) (l : List Lane) : Token :=
  let cl2 := contOf p.w
  let sg := Fd.cls p.ofd == 1
  { tag := tag, gl2 := gl2, cl2 := cl2, pmask := maskOf (l.map (·.bad)),
    pay := packLanes (2 ^ cl2) (l.map (fun x => if x.bad then 0 else widen sg p.w cl2 x.code)) }

/-- A list in pieces of n. -/
def chunks {α : Type} (n : Nat) : Nat → List α → List (List α)
  | 0, _ => []
  | k + 1, l => if l.isEmpty then [] else l.take n :: chunks n k (l.drop n)

/-- Column checksums with a row added: row i counts 2i + 1 times, a poisoned output 0 (15 R319). -/
def addRow (sums : List Nat) (w i : Nat) (row : List Lane) : List Nat :=
  row.zipIdx.map (fun e => ((nth sums e.2).getD 0 + (2 * i + 1) * (if e.1.bad then 0 else e.1.code % 2 ^ w)) % 2 ^ 32)

/-- Codes as they reach the write port: some of their bits flipped by an error. -/
def upsetRow (row : List Lane) (upset : List (Nat × Nat)) : List Lane :=
  row.zipIdx.map (fun e => match upset.find? (·.1 == e.2) with
    | some u => { e.1 with code := e.1.code ^^^ u.2 }
    | none => e.1)

/-- Entries of an MXOUT's region are read, each once, in whatever order the epilogue takes them (15 R306). -/
def Cluster.outReads (x : Cluster) (r : Region) (m : MxCmd) (l : List Nat) : MxCmd :=
  { m with started := true, read := l.foldl (fun t e =>
      if r.m * r.n ≤ e ∨ t.has e then t else t.put e (x.cstore.get {} (r.cbase + e))) m.read }

/-- MXOUT runs one row whose entries have been read, or sends one token of DMODE 10 (15 R318, R319, R324). -/
def State.outStep (s : State) (c : Nat) (m : MxCmd) (region vb : Nat) (l : MxoutLit) (dst pitch : Nat) (upset : List (Nat × Nat)) : State :=
  let r := Region.of region
  let x := s.cl c
  let p := Profile.of ((nth x.forme.profiles l.prof.toNat).getD [])
  if !(List.range r.n).all (fun j => m.read.has (m.next * r.n + j)) then s.putCmd c m
  else match (s.putCmd c m).mxeRead c 1 m (p.reads r vb m.next) with
  | (none, s) => s
  | (some block, s) =>
  let row := p.outRow x.forme.tables r m.read block vb m.next
  let out := upsetRow row upset
  let last := decide (r.m ≤ m.next + 1)
  let m' : MxCmd := { m with
    next := m.next + 1, done := last, flags := row.foldl (fun n e => n ||| e.flags) m.flags, key := none, sent := 0
    force := m.force || row.any (·.force), sums := addRow m.sums p.w m.next row, written := addRow m.written p.w m.next out }
  let ends (s : State) (code origin : Nat) : State := (s.putCmd c { m with done := true }).endUnit code c 36 0 origin m.fir.tag 0
  if l.dmode = 0 then
    if row.any (·.bad) then ends s Code.POISON_CONSUMED 2
    else
      let v := out.zipIdx.foldl (fun n e => n + e.1.code % 2 ^ p.w * 2 ^ (p.w * e.2)) 0
      let (k, s) := ((s.active c).mxeUsed c m).fresh
      let s := (s.bankAsk c k 1 (ptrBufOff dst + m.next * pitch) (r.n * p.w) (some v)).putCmd c m'
      if last && m'.sums != m'.written then ends s Code.MXE_CKSUM 2 else s
  else if l.dmode = 1 then
    let gl2 := ((s.ep c l.port.toNat).map (fun e => e.gl2)).getD 0
    let unit := ((s.ep c l.port.toNat).map (fun e => e.unit)).getD 0
    let toks := (chunks (2 ^ gl2) r.n out).zipIdx.map (fun e =>
      ({ tok := { outTok p gl2 m.fir.tag e.1 with ov := true, oidx := m.next }
         cmd := some (m.slot, m.gen), tile := some (m.next, e.2 * 2 ^ gl2, r.m, r.n, m'.sums) } : PortTok))
    (toks.foldl (fun s t => s.send 2 c 36 c unit (.portTok c l.port.toNat t)) ((s.active c).mxeUsed c m)).putCmd c m'
  else
    let gl2 := outGrant r.n (contOf p.w)
    let per := r.n / 2 ^ gl2
    let cols := (List.range (2 ^ gl2)).map (· + m.sent * 2 ^ gl2)
    if cols.any (fun j => nth m'.sums j != nth m'.written j) then ends s Code.MXE_CKSUM 2
    else match s.streamTag c m.fir.tag (m.next * per + m.sent) m.holding with
    | .stale => ends s Code.TAG_STALE 3
    | .illegal => ends s Code.TAG_ILLEGAL 2
    | .wait => s
    | .hold fr => (s.setFrame m.fir.tag fr).putCmd c { m with holding := true }
    | .go tag fr =>
      let rowEnd := decide (m.sent + 1 = per)
      let t := m.fir.stamp { outTok p gl2 tag ((out.drop (m.sent * 2 ^ gl2)).take (2 ^ gl2)) with
        eod := if rowEnd then (if last then 3 else 1) else 0 }
      let s := match fr with | some g => s.setFrame tag g | none => s
      let s := if rowEnd then (s.active c).mxeUsed c m else s
      (s.emit m.fir [(m.dests.da, t)]).putCmd c (if rowEnd then { m' with holding := false } else { m with sent := m.sent + 1, holding := false })

def isInPort : MxOp → Bool := isInOp
def isEpi : MxOp → Bool := isOutOp

/-- Everything a finished command wrote has been taken: applied at its banks, or accepted at its port (15 R324). -/
def State.outTaken (s : State) (c : Nat) (m : MxCmd) : Bool :=
  match m.op with
  | .mxout _ _ l _ _ =>
    let own (t : PortTok) : Bool := t.cmd == some (m.slot, m.gen)
    if l.dmode = 0 then !(s.cl c).banks.any (fun q => q.who == 1 && q.store.isSome && q.got.isNone)
    else if l.dmode = 1 then
      !((s.ctx c).port l.port.toNat).queue.any own &&
        !s.netMsgs.any (fun q => match q.pay with | .portTok d _ t => d == c && own t | _ => false)
    else true
  | _ => true

/-- A command that is done retires; an MXIN or MXOUT sends its ticket. One that the input port or the epilogue may run
runs its next row (15 R306, R323, R324). `reads` names the entries of its region that an MXOUT reads now, and `upset`
the columns whose codes an error changes on their way to the write port. -/
def execMxeRetire (c : Nat) (move : MxeMove) (s : State) : Host.Outcome State Fault Refusal :=
  let x := s.ctx c
  .next (match x.mxCmds.find? (fun m => m.slot == move.slot) with
    | none => s
    | some m =>
      if (s.cl c).stopped then s
      else if m.done then
        if !s.outTaken c m then s
        else
          let s := s.retireCmd c m
          let t := m.fir.new64 (ticketOf m.slot m.gen)
          (match m.op with
          | .mxin .. => s.emitBoth m.fir m.dests t
          | .mxout _ _ l _ _ => if l.dmode = 2 then s.emit m.fir [(m.dests.db, t)] else s.emitBoth m.fir m.dests t
          | _ => s)
      else
        let may (kind : MxOp → Bool) : Bool := m.started || x.startable kind == some m
        (match m.op with
        | .mxin region token fp src pitch t => if may isInPort then s.inRow c m region token fp src pitch t else s
        | .mxout region vb l dst pitch =>
          if may isEpi then s.outStep c ((s.cl c).outReads (Region.of region) m move.reads) region vb l dst pitch move.upset else s
        | _ => s))

/-! ## Tickets (15 R325, R326) -/

/-- A ticket in lane 0 of a; the error is a fault code. -/
def ticketOperand (f : Firing) : Except Nat Nat :=
  match readLanes f.opA 1 with
  | some code => .error code
  | none => .ok (f.opA.lane 0)

/-- MXCHK and MXWAIT wait for their ticket. -/
def State.ticketFire (s : State) (i : Instr) (d : Dests) (bub : Token) : State :=
  let f := s.firing
  if s.idleAction f then s.emitBoth f d (f.passBubble bub)
  else match ticketOperand f with
    | .error code => s.fail f code
    | .ok t => s.pendNew f i (.ticket t)

def execMxchk (d : Dests) (s : State) : Host.Outcome State Fault Refusal :=
  .next (s.ticketFire (.mxchk d) d { tag := s.firing.tag })

def execMxwait (d : Dests) (s : State) : Host.Outcome State Fault Refusal :=
  .next (s.ticketFire (.mxwait d) d (s.firing.forward s.firing.opA s.firing.tag))

/-- The status of a slot's retired command of a generation (15 R325). -/
def MxSlot.status (k : MxSlot) (gen : Nat) : Nat :=
  let r := k.done.get (0, 0, 0) gen
  r.1 * 2 ^ 32 + r.2.1 * 2 ^ 16 + r.2.2 % 128

/-- The awaited ticket has retired (15 R305, R325, R326). -/
def execTicketRetired (c k : Nat) (s : State) : Host.Outcome State Fault Refusal :=
  .next (match s.pend c k with
    | none => s
    | some p =>
      match p.why with
      | .ticket t =>
        let x := (s.ctx c).mxSlot (t % 256)
        if (s.cl c).stopped || decide (x.retired < bits t 39 8) then s
        else (match p.instr with
          | .mxchk d => (s.pendDel c k).emitBoth p.fir d (p.fir.new64 (x.status (bits t 39 8)))
          | .mxwait d => (s.pendDel c k).sendA p.fir d
          | _ => s)
      | _ => s)

/-- MXTL sends a context timeline's view (15 R326, 23 R408). -/
def execMxtl (d : Dests) (s : State) : Host.Outcome State Fault Refusal :=
  let f := s.firing
  .next (if s.idleAction f then s.emitBoth f d (f.passBubble { tag := f.tag })
    else match readLanes f.opA 1 with
      | some code => s.fail f code
      | none => s.emitBoth f d (f.new64 (s.mxView f.cl (f.opA.lane 0 % 4))))

end Sys2Proof.Machine
end

