-- ==== Sys2Proof/Machine/Faults.lean ====
section
/-!
DEFINITION. Faults past the firing that raises them: the fault agent, hangs and stops with their maps, checked
firings that disagree, lost structures, sparing, and the fault of a die (20 R375, R376, 22 R388 to R402).
-/
namespace Sys2Proof.Machine

/-! ## The fault agent (16 R345, 22 R388, R389) -/

/-- The 512 bits of a record. -/
def FaultRec.bits (r : FaultRec) (seq : Nat) : Nat :=
  (r.code * 2 ^ 48 + r.cl % 1024 * 2 ^ 38 + r.unit % 64 * 2 ^ 32 + r.node % 512 * 2 ^ 23 + r.origin % 8 * 2 ^ 20 + r.sid % 2 ^ 16) +
    2 ^ 64 * (r.tag.toNat * 2 ^ 32 + r.slot % 256 * 2 ^ 24 + r.launch % 4096 * 2 ^ 12) + 2 ^ 128 * (r.time % 2 ^ 64) +
    2 ^ 192 * (r.cause % 2 ^ 256) + 2 ^ 448 * (seq % 2 ^ 32 * 2 ^ 32)

/-- The oldest record for a queue is taken from those on the way. -/
def takeFirst (q : Nat) : List FaultRec → Option (FaultRec × List FaultRec)
  | [] => none
  | r :: rest => if r.queue = q then some (r, rest) else (takeFirst q rest).map (fun p => (p.1, r :: p.2))

/-- The agent writes a record into its queue, or counts it lost (22 R389). The interrupt reaches the system cores
outside this model. -/
def State.putRecord (s : State) (j : Nat) (r : FaultRec) : State :=
  let e := s.hub.fqBase * 4096 + 32 * j
  let w0 := s.mem.word e; let w1 := s.mem.word (e + 8)
  let log2 := bits w0 47 44 + 6
  let wptr := bits w1 63 32; let rptr := bits w1 31 0
  if !s.hub.fqEn then s
  else if !w0.testBit 63 || zextInt ((wptr : Int) - (rptr : Int)) 32 = 2 ^ log2 then
    { s with mem := s.mem.writeBytes (e + 16) 8 ((s.mem.word (e + 16) + 1) % 2 ^ 64) }
  else
    let m := s.mem.writeBytes (bits w0 43 12 * 4096 + wptr % 2 ^ log2 * 64) 64 (r.bits wptr)
    { s with mem := m.writeBytes (e + 12) 4 ((wptr + 1) % 2 ^ 32) }

/-- FAULT_RECORD_WRITE: one queue's records in the order in which they reach the agent. -/
def execFaultRecordWrite (j : Nat) (s : State) : Host.Outcome State Fault Refusal :=
  .next (match takeFirst j s.hub.faults with
  | none => s
  | some (r, rest) => (s.modHub (fun h => { h with faults := rest })).putRecord j r)

/-! ## Maps (20 R376, 22 R397) -/

/-- Numbers as 64-bit words, the first lowest. -/
def packWords : List Nat → Nat
  | [] => 0
  | x :: rest => x % 2 ^ 64 + 2 ^ 64 * packWords rest

/-- Put an entry into a list ordered oldest first. -/
def byAge (e : Nat × Firing) : List (Nat × Firing) → List (Nat × Firing)
  | [] => [e]
  | x :: rest => if x.1 < e.1 then e :: x :: rest else x :: byAge e rest

/-- Stuck matches, oldest first: incomplete ones, never a MERGE, and complete ones that hold a wait entry. -/
def Cluster.stuck (x : Cluster) : List (Nat × Firing) :=
  let inc := (x.ctx.matches_.filter (fun e => !x.complete e.fir && !isMerge (x.instr e.fir.unit e.fir.node))).map
    (fun e => (e.wait, e.fir))
  let wts := (x.ctx.pend.filter (fun p => isWait p.instr)).map (fun p => (p.age, p.fir))
  (inc ++ wts).foldl (fun l e => byAge e l) []

def summary (e : Nat × Firing) : List Nat :=
  let f := e.2
  [f.unit * 2 ^ 58 + f.node * 2 ^ 49 + bn f.a.isSome 48 + bn f.b.isSome 47 + bn f.c.isSome 46 + bn f.t.isSome 45,
   f.tag.toNat * 2 ^ 32 + min e.1 (2 ^ 32 - 1), (f.ops.head?.map (·.pay)).getD 0]

/-- Messages under way to a cluster, by virtual channel, in words 5 to 8: they stand at its router, link 4; the model's
mesh links buffer none (20 R376; log 24). -/
def State.linkWords (s : State) (c : Nat) : Nat :=
  (List.range 6).foldl (fun n v => n + min 255 (s.netMsgs.countP (fun m => m.toCluster c && m.vc == v)) * 2 ^ (8 * (24 + v))) 0

/-- A cluster's map record with its words 57 to 63. -/
def Cluster.mapRecord (x : Cluster) (c links : Nat) (tail : List Nat) : Nat :=
  let waits := (x.ctx.pend.filter (fun p => isWait p.instr)).length
  let used := (List.range 40).foldl (fun n u => n + x.ctx.tableUsed u % 64 * 2 ^ (6 * u)) 0
  let sums := ((x.stuck.take 16).flatMap summary)
  (c * 2 ^ 54 + x.ctx.ovfUsed % 2 ^ 12 * 2 ^ 36 + x.ctx.held.length % 2 ^ 12 * 2 ^ 24 + waits % 256 * 2 ^ 16) +
    2 ^ 64 * (used % 2 ^ 256) + 2 ^ 320 * (links % 2 ^ 240) + 2 ^ 576 * (packWords sums % 2 ^ 3072) +
    2 ^ 3648 * (packWords tail % 2 ^ 448)

/-- The endpoint words of a stop's map (22 R397). -/
def State.portWords (s : State) (c : Nat) : List Nat :=
  (((s.ctx c).ports.filter (fun p => p.2.ran)).take 7).map (fun p =>
    let moved := match p.2.stream with | some t => t.moved | none => p.2.lastMoved
    p.1 % 256 * 2 ^ 56 + bn (((s.ep c p.1).map (·.out)).getD false) 55 + 2 ^ 54 + min 255 p.2.queue.length * 2 ^ 46 +
      moved % 2 ^ 32)

/-- Offset of the hang map in the launch area of n clusters (20 R368). -/
def mapOffset (n : Nat) : Nat := roundUp (96 * n) 2048

/-- Write the map records of a slot's clusters through galley 1026; none: its ring is full. -/
def State.writeMap (s : State) (k : Nat) (stop : Bool) : Option State :=
  let sl := s.slot k
  let b := Bind.of sl.words
  let n := sl.clusters.length
  let v := (sl.clusters.zipIdx).foldl (fun v p => v + 2 ^ (4096 * p.2) *
    (s.cl p.1).mapRecord p.1 (s.linkWords p.1) (if stop then s.portWords p.1 else [])) 0
  s.hubStore 0 1026 b.sid (b.area + mapOffset n) (4096 * n) [(0, 4096 * n, v, false)]

/-- A lost table under the records' place is reported (03 R56). -/
def State.mapStuck (s : State) (k : Nat) : State :=
  let b := Bind.of (s.slot k).words
  let n := (s.slot k).clusters.length
  s.hubStuck 0 b.sid (b.area + mapOffset n) (4096 * n)

/-- The record of a hang or a stop (20 R376, 22 R397). -/
def State.mapFault (s : State) (k code : Nat) : State :=
  let sl := s.slot k
  let b := Bind.of sl.words
  s.pushFault { queue := b.jcnt, code := code, cl := sl.clusters.head?.getD 0, origin := 5, sid := b.sid, slot := k,
                launch := b.lcnt, cause := b.area + mapOffset sl.clusters.length + sl.clusters.length * 2 ^ 64 }

/-- Every cluster of a slot's partition halts as under HALT_FREEZE. -/
def State.freezeSlot (s : State) (k : Nat) : State := (s.slot k).clusters.foldl (fun s c => s.haltStart c true) s

/-- A cluster holds a token, a wait entry or a parked record (20 R375). -/
def Cluster.holds (x : Cluster) : Bool :=
  let k := x.ctx
  !(k.matches_.isEmpty && k.held.isEmpty && k.pend.isEmpty && k.acts.isEmpty && k.parked.isEmpty) ||
    k.ports.any (fun p => !p.2.queue.isEmpty)

/-- The partition of a slot has had no activity for n cycles. -/
def State.quietFor (s : State) (sl : Slot) (n : Nat) : Bool := sl.clusters.all (fun c => decide (n ≤ (s.cl c).quiet))

/-- The lowest-numbered cluster of a partition. -/
def Slot.lead (sl : Slot) : Nat := sl.clusters.foldl min (sl.clusters.headD 0)

/-- The quiet limit of a partition: its lowest-numbered cluster's. -/
def State.quietLimit (s : State) (sl : Slot) : Nat := (s.cl sl.lead).quietLimit

/-- A halt holds some cluster of a slot: the monitor does not count (23 R413). -/
def State.haltHolds (s : State) (sl : Slot) : Bool := sl.clusters.any (fun c => (s.cl c).halt != .run)

/-- A partition without activity for CL_QUIET cycles is halted, mapped and reported. During a trap stop no second map
is written (20 R376, 22 R397). -/
def execHang (slot : Nat) (s : State) : Host.Outcome State Fault Refusal :=
  let sl := s.slot slot
  let lim := s.quietLimit sl
  .next (if sl.state ≠ 2 || sl.pre ≠ 0 || lim = 0 || sl.clusters.isEmpty || !s.quietFor sl lim || !sl.clusters.any (fun c => (s.cl c).holds) ||
      s.haltHolds sl then s
  else if sl.trapSeen && !sl.mapDone then (s.freezeSlot slot).mapFault slot Code.HANG
  else match (s.freezeSlot slot).writeMap slot false with
    | some s => s.mapFault slot Code.HANG
    | none => s.mapStuck slot)

/-- The launch's first ARITH_TRAP under trap=stop freezes the stream endpoints of all its clusters (22 R397). -/
def execTrapStop (slot : Nat) (s : State) : Host.Outcome State Fault Refusal :=
  let sl := s.slot slot
  .next (if sl.state = 2 ∧ sl.trapStop ∧ !sl.trapSeen then
    (sl.clusters.foldl (fun s c => s.modCl c (fun x => { x with frozenPorts := true })) s).modSlot slot (fun x =>
      { x with trapSeen := true })
  else s)

/-- A stopped partition without activity for 4,096 cycles is halted, mapped and reported (22 R397); a halted cluster's
cycles are no quiet ones. A pre-emption's
halting starts no second halt: the stop marks the images (23 R414). -/
def execStopMap (slot : Nat) (s : State) : Host.Outcome State Fault Refusal :=
  let sl := s.slot slot
  .next (if sl.state ≠ 2 || 1 < sl.pre || !sl.trapSeen || sl.mapDone ||
      !s.quietFor sl 4096 then s
  else
    let h := s.freezeSlot slot
    match h.writeMap slot true with
    | some s => (s.modSlot slot (fun x => { x with mapDone := true })).mapFault slot Code.STOP_MAP
    | none => s.mapStuck slot)

/-! ## Replay and retirement (22 R393) -/

/-- The firing a unit is about to make: the one it replays for, or its selector's choice, a match or a step of an
activation. -/
def State.firingNow (s : State) (c u : Nat) : Option Firing :=
  match (s.cl c).replaying.find u with
  | some (_, k) => (((s.cl c).ready u ++ (s.ctx c).stepMatches u).find? (·.seq == k)).map (·.fir)
  | none => (s.nextOf c u).map (·.fir)

/-- A round performs the unit's history, the firing that disagreed as its last (22 R393). -/
def Cluster.replay (x : Cluster) (u rounds : Nat) (f : Firing) : Cluster :=
  { x with
    replaying := x.replaying.put u (rounds * (min 7 (x.hist.get [] u).length + 1), f.seq)
    secondRound := (x.secondRound.filter (· != u)) ++ (if rounds = 2 then [u] else []) }

/-- The two performances of a unit's firing disagree; one or two rounds of its history come first, then the firing takes
effect once, or a retirement follows. CHECK_REPLAY goes to Nymtor, once per unit in 2^20 cycles. -/
def execCheckReplay (c u rounds : Nat) (s : State) : Host.Outcome State Fault Refusal :=
  let x := s.cl c
  let now := s.cycles c
  .next (match s.firingNow c u with
  | none => s
  | some f =>
    if 35 < u || rounds = 0 || 2 < rounds || !s.present? c || x.replaying.has u || !x.mayFire u || s.wornOut c u then s
    else
      let s := ((s.count c 0x0FC rounds).count c 0x0FD rounds).active c
      let s := s.modCl c (fun x => { x.replay u rounds f with replays := x.replays.put u ((x.recent u now ++ [now]).drop
        ((x.recent u now).length - 15)) })
      if (match x.lastReplay.find u with | some t => decide (now < t + 2 ^ 20) | none => false) then s
      else (s.modCl c (fun x => { x with lastReplay := x.lastReplay.put u now })).record nymtorQueue
        Code.CHECK_REPLAY c u f.node 0 f.tag (u + f.node * 2 ^ 6 + rounds * 2 ^ 15))

/-- The physical PE that serves a logical index: 40 and 41 are the spares. -/
def Cluster.physical (x : Cluster) (u : Nat) : Nat := if x.sp0 = u then 40 else if x.sp1 = u then 41 else u

/-- Spares that serve no unit and have not failed. -/
def Cluster.idleSpares (x : Cluster) : List Nat :=
  (if x.sp0 = 0x3F ∧ !x.failed.contains 40 then [0] else []) ++ (if x.sp1 = 0x3F ∧ !x.failed.contains 41 then [1] else [])

/-- A record to both the job's queue and Nymtor's (22 R390). -/
def State.recordBoth (s : State) (code c unit node origin : Nat) (tag : Tag) (cause : Nat) : State :=
  (s.jobRecord code c unit node origin tag cause).record nymtorQueue code c unit node origin tag cause

/-- A fault that ends the unit and goes to both queues. -/
def State.endBoth (s : State) (code c unit node origin : Nat) (tag : Tag) (cause : Nat) : State :=
  let s := s.record nymtorQueue code c unit node origin tag cause
  if (s.cl c).slot.isSome then s.endUnit code c unit node origin tag cause else s

/-- Logical index u moves to a spare. -/
def Cluster.toSpare (x : Cluster) (u k : Nat) : Cluster :=
  let y := { x with failed := x.failed ++ [x.physical u], sp0 := if x.sp0 = u then 0x3F else x.sp0,
                    sp1 := if x.sp1 = u then 0x3F else x.sp1 }
  if k = 0 then { y with sp0 := u } else { y with sp1 := u }

/-- A unit's second round is over, and the firing that began the replay has not left: it may fail a third time. -/
def Cluster.mayFail (x : Cluster) (u : Nat) : Bool :=
  (match x.replaying.find u with | some (0, _) => true | _ => false) && x.secondRound.contains u

/-- A unit whose second round failed, the third mismatch, or a PE that has passed 16 replays in 2^24 cycles, is retired: an
idle spare takes over its index and runs a round; where it disagrees, the unit ends with STATE_LOST. With no spare, or
at an edge tile, the unit ends with PE_FAILED (22 R393, R399). -/
def execPeRetired (c u : Nat) (agrees : Bool) (s : State) : Host.Outcome State Fault Refusal :=
  let x := s.cl c
  let f := (s.firingNow c u).getD { cl := c, unit := u, tag := 0 }
  .next (if 35 < u || !s.present? c || !(x.mayFail u || s.wornOut c u) then s
  else
    let s := (s.count c 0x0FC (if x.mayFail u then 1 else 0)).active c
    match if u < 32 then x.idleSpares.head? else none with
    | none =>
      ((s.modCl c (fun x => { x with failed := x.failed ++ [x.physical u], replaying := x.replaying.del u, replays := x.replays.del u })).endBoth Code.PE_FAILED c u f.node 0 f.tag
        u).degrade c
    | some k =>
      let s := (s.modCl c (fun x => { x.toSpare u k with replays := x.replays.del u })).count c 0x0FD 1
      let s := if agrees then s.modCl c (fun x => x.replay u 1 f) else s
      let left := (s.cl c).idleSpares.length
      let s := s.recordBoth Code.PE_RETIRED c u f.node 0 f.tag (u + k * 2 ^ 6 + left * 2 ^ 7)
      let s := if x.health = 0 then s.healthTo c 1 else s
      if agrees then s
      else { (s.endBoth Code.STATE_LOST c u f.node 0 f.tag (u + Config.free s.freeCtr % 16 * 2 ^ 6)) with
             freeCtr := s.freeCtr + 1 })

/-! ## Lost structures (22 R392, R399) -/

/-- Every lane of a token is poisoned. -/
def Token.poisonAll (t : Token) : Token := if t.kind = .data then { t with pmask := 2 ^ t.grant - 1 } else t

def Firing.poisonPort (f : Firing) (p : Port) : Firing :=
  match f.port p with | some t => f.setPort p t.poisonAll | none => f

/-- The payload of a token is lost: in a matching-table entry the operand of port k mod 4 of arrival number k / 4; in the
overflow store its record, of a match or a held token (06 R132, 22 R392). -/
def Ctx.poisonEntry (x : Ctx) (inTable : Bool) (k : Nat) : Ctx :=
  { x with matches_ := x.matches_.map (fun e => if e.seq = k / 4 ∧ e.inTable = inTable then { e with fir := e.fir.poisonPort (portOfNat (k % 4)) } else e)
           held := if inTable then x.held else x.held.map (fun h => if h.seq = k / 4 then { h with tok := h.tok.poisonAll } else h) }

/-- ORIGIN of a record about a structure: copy port 1, MXE 2, frame table 3, else the unit (16 R345). -/
def lostOrigin (structure_ : Nat) : Nat :=
  if structure_ = 3 then 3 else if structure_ = 5 then 2 else if structure_ = 7 then 1 else 0

/-- The image of the loaded forme is poisoned where a lost entry would be read. The image's layout is not given: its
first line stands for it (log 5). -/
def State.imageBad (s : State) (c : Nat) : Bool :=
  match s.walk (s.cl c).sid (s.cl c).formePtr.toNat with
  | .leaf e _ lvl _ =>
    (match s.leafEnt (s.cl c).sid (s.cl c).formePtr.toNat e lvl .read false with
    | .ok t => s.bitsBad (t.pba (s.cl c).formePtr.toNat) 2048
    | .error _ => true)
  | _ => true

/-- An uncorrectable error in a stored structure. In a matching table or the overflow store, `entry` names the token whose
payload is lost, four times its entry's arrival number plus its port, and none means its node, port or tag; in an
input-latch history, none means that a replay needs the entry. Beside the structures with codes: 9 and 10 are the
die's L2 TLB and the cluster's walk cache, whose entry goes, and 11 is die u's position mirror, which must be rebuilt
(22 R392, R402). -/
def execStateLost (c u structure_ : Nat) (entry : Option Nat) (s : State) : Host.Outcome State Fault Refusal :=
  let lost (s : State) : State := s.endBoth Code.STATE_LOST c u 0 (lostOrigin structure_) 0 (u % 64 + structure_ * 2 ^ 6)
  .next (if !s.present? c || 11 < structure_ then s
  else if structure_ = 9 then s.modDie (dieOf c) (fun d => { d with l2 := d.l2.eraseIdx (entry.getD 0) })
  else if structure_ = 10 then s.modCl c (fun x => { x with walkCache := x.walkCache.eraseIdx (entry.getD 0) })
  else if structure_ = 11 then (if u < 5 then s.modDie u (fun d => { d with mirrorBad := true }) else s)
  else if structure_ = 0 then if s.imageBad c then lost s else s
  else if structure_ = 1 ∨ structure_ = 2 then
    (match entry with | some k => s.modCtx c (fun x => x.poisonEntry (structure_ == 1) k) | none => lost s)
  else if structure_ = 4 then (match entry with | some _ => s | none => lost s)
  else if structure_ = 5 ∨ structure_ = 6 ∨ structure_ = 7 then (lost s).degrade c
  else lost s)

/-! ## Remapping (22 R399, R400) -/

/-- The cluster on its new site: galley positions and base, timelines and counters carried over, all else as on a
site that has run nothing. Which sites are the spares, and in what order they are taken, is the model's choice: each
cluster starts on site 0, and the remaps take sites 1, 2, 3 and 4 in turn (log 75). -/
def Cluster.resited (x : Cluster) : Cluster :=
  { gal := { x.gal with p := x.gal.a }
    ctx := { chans := x.ctx.chans.map (fun (p : Nat × Channel) => (p.1, ({ tl := p.2.tl } : Channel))) }
    mxTl := x.mxTl
    perf := x.perf
    sites := x.sites
    health := x.health
    site := 5 - x.sites }

/-- The clusters of a quadrant. -/
def quadrant (c : Nat) : List Nat := (List.range 64).map (fun i => c / 64 * 64 + i)

/-- A degraded cluster without a unit is remapped to a spare site of its quadrant, or becomes unavailable where none
is left. -/
def execClusterRemap (c : Nat) (s : State) : Host.Outcome State Fault Refusal :=
  let x := s.cl c
  .next (if x.health ≠ 2 || x.slot.isSome || x.gal.a ≠ x.gal.d || x.shadowBusy || !s.present? c then s
  else if x.sites = 0 then
    let s := s.modHub (fun h => { h with unavail := h.unavail ++ [c] })
    { (s.record nymtorQueue Code.HEALTH_CHANGE c 0 0 5 0
      (Config.free s.freeCtr % 4 + 2 * 4 + s.healthReg / 2 ^ 62 * 16)) with freeCtr := s.freeCtr + 1 }
  else
    let s := s.modCl c Cluster.resited
    (((quadrant c).foldl (fun s k => s.modCl k (fun y => { y with sites := y.sites - 1 })) s).healthTo c 0))

/-! ## The fault of a die (22 R402) -/

/-- The clusters on which a unit runs. -/
def State.running (s : State) : List Nat := (s.cls.filter (fun p => p.2.stat == .running)).map (·.1)

/-- Every cluster of the package halts, Nymtor learns of the die, every job with a running unit gets STATE_LOST, and
every unit ends; the next reset fences the die. -/
def State.dieFault (s : State) (d : Nat) : State :=
  let run := s.running
  let s := (s.cls.map (·.1)).foldl (fun s c => s.haltStart c true) s
  let s := s.pushFault { queue := nymtorQueue, code := Code.DIE_FAULT, origin := 5, cause := d }
  let s := (s.oneOfJob run).foldl (fun s c =>
    s.jobRecord Code.STATE_LOST c 0 0 5 0 (Config.cause Code.STATE_LOST [d])) s
  let s := run.foldl (fun s c => s.modCl c (fun x => { x with stat := .faulting })) s
  s.modHub (fun h => { h with toFence := h.toFence ++ [d] })

def execDieFault (d : Nat) (s : State) : Host.Outcome State Fault Refusal :=
  .next (if s.dieLive d then s.dieFault d else s)

end Sys2Proof.Machine
end

