-- ==== Sys2Proof/Machine/Seq.lean ====
section
/-!
DEFINITION. The sequence nodes: RED, SCAN, ARGMAX, ARGMIN, SORTK and CNTR (03 R66, 12 R265 to R270).
-/
namespace Sys2Proof.Machine

/-- What a sequence node does with its next member: the entry after it, and what the firing makes. -/
abbrev Takes := PeReg → Firing → SeqEnt → SeqEnt × Comp

/-- The hull of an outer-index range and an entry's (03 R66). -/
def SeqEnt.widen (e : SeqEnt) (lo hi : Nat) : SeqEnt :=
  { e with hull := match e.hull with
      | none => some (lo, hi)
      | some h => some (min h.1 lo, max h.2 hi) }

/-- A token of the dimension is seen: its outer indices join the hull, and a bubble marks it not ready (03 R66). -/
def SeqEnt.see (e : SeqEnt) (t : Token) : SeqEnt :=
  if t.kind = .bubble then
    { e.widen t.olo t.ohi with bubbled := true, bport := if e.bubbled then e.bport else t.bport }
  else if t.ov then e.widen t.oidx t.oidx
  else e

/-- The member has been taken; one that closes the dimension empties its state (12 R265). -/
def SeqEnt.step (e : SeqEnt) (t : Token) : SeqEnt :=
  if 1 ≤ t.eod then
    { e with count := e.count + 1, k := 0, shape := none, parts := [], kept := [], pm := 0, bubbled := false,
             bport := 0, hull := none }
  else { e with count := e.count + 1, k := e.k + 1 }

/-- The bubble sent in place of a result: the hull of the dimension so far (03 R66). -/
def SeqEnt.bubbleTok (e : SeqEnt) (f : Firing) (eod : Nat) : Token :=
  let h := e.hull.getD (0, 0)
  f.stamp { Machine.bubbleTok h.1 h.2 e.bport f.tag with eod := eod }

/-- A data member's grant and container against the dimension's first member (12 R266). -/
def SeqEnt.fits (e : SeqEnt) (ty : ElemTy) (t : Token) : Bool :=
  match e.shape with
  | none => tyFits ty t.cl2
  | some h => h.1 == t.gl2 && h.2 == t.cl2

/-- A data member's shape is the dimension's, where no member before it has set one, also after a bubble. -/
def SeqEnt.shaped (e : SeqEnt) (t : Token) : SeqEnt :=
  if t.kind = .data ∧ e.shape.isNone then { e with shape := some (t.gl2, t.cl2) } else e

/-- A data member does not match its dimension, or cannot have the type, after a bubble as before one (12 R266). -/
def SeqEnt.odd (e : SeqEnt) (ty : ElemTy) (t : Token) : Bool := t.kind != .bubble && !e.fits ty t

/-- The entry with a data member's shape and poison noted. -/
def SeqEnt.note (e : SeqEnt) (t : Token) : SeqEnt :=
  { e with shape := some (t.gl2, t.cl2), pm := e.pm ||| t.pmask % 2 ^ t.g }

/-- Codes of a token's lanes. -/
def Token.codes (t : Token) : List Nat := (List.range t.g).map t.lane

/-- Two lists of codes added lane by lane; a poisoned lane is poisoned and sets no flag. -/
def addLists (ty : ElemTy) (mode c pm : Nat) (x y : List Nat) : List Lane :=
  (x.zip y).zipIdx.map (fun p => if pm.testBit p.2 then Lane.poisoned else tyAdd ty mode c p.1.1 p.1.2)

/-- Round(x + y) of two partials; a partial that holds no member is left out (12 R266). -/
def pairLists (ty : ElemTy) (mode c pm : Nat) (x y : Option (List Nat)) : Option (List Nat) × List Lane :=
  match x, y with
  | some a, some b => let l := addLists ty mode c pm a b; (some (l.map (·.code)), l)
  | some a, none => (some a, [])
  | none, o => (o, [])

/-- Flags of the steps of one firing, lane by lane. -/
def mergeFlags (l m : List Lane) : List Lane :=
  if m.isEmpty then l else if l.isEmpty then m
  else (l.zip m).map (fun p => { p.2 with flags := p.1.flags ||| p.2.flags })

/-- The result lanes of a closing or running sum: codes, poison of the dimension, flags of the firing's steps. -/
def sumLanes (codes : List Nat) (pm : Nat) (fl : List Lane) : List Lane :=
  codes.zipIdx.map (fun p =>
    if pm.testBit p.2 then Lane.poisoned else { code := p.1, flags := ((nth fl p.2).getD {}).flags })

/-- A result of lanes with an EOD to DA and DB. -/
def Comp.dim (pe : PeReg) (f : Firing) (gl2 cl2 eod : Nat) (l : List Lane) : Comp :=
  let t := { f.laneTok gl2 cl2 (l.map (Lane.sent pe)) with eod := eod }
  .made { toA := [t], toB := [t], flags := orFlags l, force := false }

/-- RED takes a member (12 R266). -/
def redT (ty : ElemTy) : Takes := fun pe f e0 =>
  let t := f.opA
  let e := e0.see t
  if e.odd ty t then (e, laneMismatch)
  else if e.bubbled then
    ((e.shaped t).step t, if 1 ≤ t.eod then Comp.both (e.bubbleTok f (t.eod - 1)) else .made {})
  else
    let e := e.note t
    let i := e.k % 4
    let c := t.cont
    let r : List (List Nat) × List Lane :=
      match ty with
      | .flt .. =>
        (match nth e.parts i with
        | none => (e.parts ++ [t.codes], [])
        | some p => let l := addLists ty pe.mode c e.pm p t.codes; (mapNth e.parts i (fun _ => l.map (·.code)), l))
      | _ =>
        (match e.parts with
        | [] => ([t.codes], [])
        | p :: _ => ([(addLists ty pe.mode c 0 p t.codes).map (·.code)], []))
    let e := { e with parts := r.1 }
    if t.eod = 0 then (e.step t, .made { flags := orFlags r.2 })
    else
      let p01 := pairLists ty pe.mode c e.pm (nth r.1 0) (nth r.1 1)
      let p23 := pairLists ty pe.mode c e.pm (nth r.1 2) (nth r.1 3)
      let tot := pairLists ty pe.mode c e.pm p01.1 p23.1
      let fls := mergeFlags (mergeFlags (mergeFlags r.2 p01.2) p23.2) tot.2
      (e.step t, Comp.dim pe f t.gl2 t.cl2 (t.eod - 1) (sumLanes (tot.1.getD []) e.pm fls))

/-- SCAN takes a member (03 R66, 12 R267). -/
def scanT (ty : ElemTy) : Takes := fun pe f e0 =>
  let t := f.opA
  let e := e0.see t
  if e.odd ty t then (e, laneMismatch)
  else if e.bubbled then ((e.shaped t).step t, Comp.both (e.bubbleTok f t.eod))
  else
    let e := e.note t
    let l : List Lane := match e.parts with
      | [] => t.codes.map (fun x => { code := x })
      | p :: _ => addLists ty pe.mode t.cont e.pm p t.codes
    let codes := l.map (fun (x : Lane) => x.code)
    (({ e with parts := [codes] } : SeqEnt).step t,
     Comp.dim pe f t.gl2 t.cl2 t.eod (sumLanes codes e.pm l))

/-- A code is a NaN under its type. -/
def tyNan (ty : ElemTy) (x : Nat) : Bool :=
  match ty with | .flt _ cls => codeNan cls x | _ => false

/-- x below y under a type, for codes that are not NaN; floats with −0 below +0. -/
def tyLess (ty : ElemTy) (c x y : Nat) : Bool :=
  match ty with
  | .flt _ cls => codeLess cls x y
  | ty => tyInt ty c x < tyInt ty c y

/-- The code of a lane with only NaN members. -/
def tyNanCode (ty : ElemTy) : Nat :=
  match ty with | .flt _ cls => (laneFmt cls).nanCode | _ => 0

/-- A lane's winner after a member: a NaN never wins, an equal value keeps the lower position (12 R268). -/
def argLane (ty : ElemTy) (big : Bool) (c k x : Nat) (w : Option (Nat × Nat)) : Option (Nat × Nat) :=
  if tyNan ty x then w
  else match w with
    | none => some (x, k)
    | some (y, _) => if (if big then tyLess ty c y x else tyLess ty c x y) then some (x, k) else w

/-- A token of codes and a poison mask with an EOD. -/
def Firing.codesTok (f : Firing) (gl2 cl2 pm eod : Nat) (l : List Nat) : Token :=
  { f.laneTok gl2 cl2 (l.zipIdx.map (fun p => if pm.testBit p.2 then (0, true) else (p.1, false))) with eod := eod }

/-- ARGMAX and ARGMIN take a member (12 R268). -/
def argT (ty : ElemTy) (big : Bool) : Takes := fun _ f e0 =>
  let t := f.opA
  let e := e0.see t
  if e.odd ty t || (t.kind != .bubble && decide (3 < t.gl2)) then (e, laneMismatch)
  else if e.bubbled then
    ((e.shaped t).step t, if 1 ≤ t.eod then Comp.both (e.bubbleTok f (t.eod - 1)) else .made {})
  else
    let e := e.note t
    let old := if e.kept.isEmpty then List.replicate t.g none else e.kept
    let kept := (old.zip t.codes).map (fun p => argLane ty big t.cont e.k p.2 p.1)
    let e := { e with kept := kept }
    if t.eod = 0 then (e.step t, .made {})
    else
      let va := kept.map (fun w => match w with | some p => p.1 | none => tyNanCode ty)
      let po := kept.map (fun w => match w with | some p => p.2 | none => 0xFFFFFFFF)
      (e.step t, .made { toA := [f.codesTok t.gl2 t.cl2 e.pm (t.eod - 1) va],
                         toB := [f.codesTok t.gl2 5 e.pm (t.eod - 1) po] })

/-- The order of SORTK's elements: the better first, NaN last, equal values by lower index (12 R269). -/
def sortBefore (ty : ElemTy) (asc : Bool) (c : Nat) (x y : Nat × Nat) : Bool :=
  let nx := tyNan ty x.1
  let ny := tyNan ty y.1
  if nx || ny then (if nx && ny then decide (x.2 < y.2) else ny)
  else
    let lt := tyLess ty c x.1 y.1
    let gt := tyLess ty c y.1 x.1
    if asc then lt || (!gt && decide (x.2 < y.2)) else gt || (!lt && decide (x.2 < y.2))

def sortInsert (ty : ElemTy) (asc : Bool) (c : Nat) (x : Nat × Nat) : List (Nat × Nat) → List (Nat × Nat)
  | [] => [x]
  | y :: rest => if sortBefore ty asc c x y then x :: y :: rest else y :: sortInsert ty asc c x rest

/-- n lanes from position k of a list, filled beyond its end. -/
def fillFrom (l : List Nat) (k n fill : Nat) : List Nat :=
  (List.range n).map (fun j => (nth l (k + j)).getD fill)

/-- The tokens of one destination of SORTK's close (12 R269). -/
def sortTokens (f : Firing) (l : List Nat) (cnt gl2 cl2 fill eod : Nat) (bad : Bool) : List Token :=
  let n := (cnt + 2 ^ gl2 - 1) / 2 ^ gl2
  (List.range n).map (fun i =>
    f.codesTok gl2 cl2 (if bad then 2 ^ 2 ^ gl2 - 1 else 0) (if i + 1 = n then eod else 0)
      (fillFrom l (i * 2 ^ gl2) (2 ^ gl2) fill))

/-- SORTK takes a member (12 R269). A close in bubbles sends one in place of each output it has (03 R66); where every
member was a bubble, no member gives the grant, and it sends as many as for a grant of one lane (log 76). -/
def sortkT (ty : ElemTy) (km1 : BitVec 6) (asc : Bool) : Takes := fun _ f e0 =>
  let t := f.opA
  let e := e0.see t
  let cnt := km1.toNat + 1
  let odd := e.odd ty t
  let e := if e.bubbled then e.shaped t else e
  let h := (e.shape.getD (0, 0))
  let na := (cnt + 2 ^ h.1 - 1) / 2 ^ h.1
  let nb := (cnt + 2 ^ min h.1 3 - 1) / 2 ^ min h.1 3
  if odd then (e, laneMismatch)
  else if e.bubbled then
    (e.step t, if 1 ≤ t.eod then
      .made { toA := List.replicate (na - 1) (e.bubbleTok f 0) ++ [e.bubbleTok f (t.eod - 1)],
              toB := List.replicate (nb - 1) (e.bubbleTok f 0) ++ [e.bubbleTok f (t.eod - 1)] }
      else .made {})
  else
    let e := e.note t
    let l := (t.codes.zipIdx.foldl (fun l p => sortInsert ty asc t.cont (p.1, e.k * t.g + p.2) l)
      (e.kept.filterMap id)).take cnt
    let e : SeqEnt := { e with kept := l.map some }
    if t.eod = 0 then (e.step t, .made {})
    else
      let bad := decide (e.pm ≠ 0)
      (e.step t, .made { toA := sortTokens f (l.map (·.1)) cnt t.gl2 t.cl2 0 (t.eod - 1) bad,
                         toB := sortTokens f (l.map (·.2)) cnt (min t.gl2 3) 5 0xFFFFFFFF (t.eod - 1) bad })

/-- CNTR takes a member: its count runs over the frame's whole life (12 R270). -/
def cntrT (n : BitVec 16) : Takes := fun _ f e =>
  let t := f.opA
  let len := n.toNat + 1
  let m := e.count % len
  let a := f.forward t f.tag
  ({ e with count := e.count + 1 },
   .made { toA := [f.out { a with eod := if m + 1 = len then 1 else t.eod }], toB := [f.out (f.new32 m)] })

/-- Put a sequence entry in place. -/
def Ctx.putSeq (x : Ctx) (e : SeqEnt) : Ctx :=
  let same (o : SeqEnt) : Bool := o.unit == e.unit && o.node == e.node && o.frame == e.frame
  if x.seqs.any same then { x with seqs := x.seqs.map (fun o => if same o then e else o) }
  else { x with seqs := x.seqs ++ [e] }

/-- The entry a member goes to: the frame's, or one it opens; the error is a fault code (12 R265). -/
def State.openSeq (s : State) (f : Firing) : Except Nat SeqEnt :=
  if tagDie f.tag ≥ 4 ∨ tagCluster f.tag ≠ f.cl then .error Code.TAG_ILLEGAL
  else match (s.ctx f.cl).seqOf f.unit f.node f.tag with
    | some e => .ok e
    | none => match s.frame f.tag with
      | none => .error Code.TAG_STALE
      | some fr => .ok { node := f.node, unit := f.unit, frame := f.tag.toNat / 256, n := fr.n }

/-- A sequence node takes the firing's token as its next member (12 R265). -/
def State.member (s : State) (d : Dests) (g : Takes) : State :=
  let f := s.firing
  match s.openSeq f with
  | .error code => s.fail f code
  | .ok e =>
    let r := g (s.peOf f) f e
    (s.modCtx f.cl (fun x => x.putSeq r.1)).finish f d r.2

def execRed (ty : ElemTy) (d : Dests) (s : State) : Host.Outcome State Fault Refusal := .next (s.member d (redT ty))

def execScan (ty : ElemTy) (d : Dests) (s : State) : Host.Outcome State Fault Refusal := .next (s.member d (scanT ty))

def execArgmax (ty : ElemTy) (d : Dests) (s : State) : Host.Outcome State Fault Refusal :=
  .next (s.member d (argT ty true))

def execArgmin (ty : ElemTy) (d : Dests) (s : State) : Host.Outcome State Fault Refusal :=
  .next (s.member d (argT ty false))

def execSortk (ty : ElemTy) (km1 : BitVec 6) (asc : Bool) (d : Dests) (s : State) :
    Host.Outcome State Fault Refusal := .next (s.member d (sortkT ty km1 asc))

def execCntr (n : BitVec 16) (d : Dests) (s : State) : Host.Outcome State Fault Refusal :=
  .next (s.member d (cntrT n))

end Sys2Proof.Machine
end

