-- ==== Sys2Proof/Machine/Steps.lean ====
section
/-!
DEFINITION. Links and step lists: CHAIN, STEP, MXSEQ and the step entries (08 R178 to R182, 10 R216, 12 R271,
15 R322).
-/
namespace Sys2Proof.Machine

/-! ## One node fired on one value: the links of CHAIN and OPN -/

/-- The computation of an instruction of groups 001 to 101 (08 R180, 12 R271). -/
def computes : Instr → Option Computes
  | .add sg b _ => some (addV sg b)
  | .sub sg b _ => some (subV sg b)
  | .mul sg b _ => some (mulV sg b)
  | .mulh sg b _ => some (mulhV sg b)
  | .div sg b _ => some (divV sg b)
  | .rem sg b _ => some (remV sg b)
  | .min_ sg b _ => some (minV sg b)
  | .max_ sg b _ => some (maxV sg b)
  | .cmp sg k b _ => some (cmpV sg k b)
  | .and_ b _ => some (andV b)
  | .or_ b _ => some (orV b)
  | .xor b _ => some (xorV b)
  | .andn b _ => some (andnV b)
  | .rotl b _ => some (rotlV b)
  | .rotr b _ => some (rotrV b)
  | .shl sg b _ => some (shlV sg b)
  | .shr sg b _ => some (shrV sg b)
  | .neg _ => some negV
  | .abs _ => some absV
  | .not_ _ => some notV
  | .clz _ => some clzV
  | .ctz _ => some ctzV
  | .popc _ => some popcV
  | .adds sg b _ => some (addsV sg b)
  | .subs sg b _ => some (subsV sg b)
  | .muls sg b _ => some (mulsV sg b)
  | .shls sg b _ => some (shlsV sg b)
  | .abss _ => some abssV
  | .clamp sg _ => some (clampV sg)
  | .shrr sg t b _ => some (shrrV sg t b)
  | .rquant sg l _ => some (rquantV sg l)
  | .bfx sg l _ => some (bfxV sg l)
  | .bfi l _ => some (bfiV l)
  | .brev _ => some brevV
  | .sext w _ => some (sextV w)
  | .zext w _ => some (zextV w)
  | .padd n _ => some (paddV n)
  | .psub n _ => some (psubV n)
  | .paln n _ => some (palnV n)
  | .pchk n _ => some (pchkV n)
  | .pcvt t _ => some (pcvtV t)
  | .pspc q _ => some (pspcV q)
  | .fadd r c b _ => some (faddV r c b)
  | .fsub r c b _ => some (fsubV r c b)
  | .fmul r c b _ => some (fmulV r c b)
  | .fdiv r c b _ => some (fdivV r c b)
  | .fsclb r c b _ => some (fsclbV r c b)
  | .fma r c _ => some (fmaV r c)
  | .fnma r c _ => some (fnmaV r c)
  | .fsqrt r c _ => some (fsqrtV r c)
  | .frsq r c _ => some (frsqV r c)
  | .frcp r c _ => some (frcpV r c)
  | .frint r c _ => some (frintV r c)
  | .fmin c b _ => some (fminV c b)
  | .fmax c b _ => some (fmaxV c b)
  | .fminm c b _ => some (fminmV c b)
  | .fmaxm c b _ => some (fmaxmV c b)
  | .fabs c _ => some (fabsV c)
  | .fneg c _ => some (fnegV c)
  | .fclass c _ => some (fclassV c)
  | .fcpys c b _ => some (fcpysV c b)
  | .fcmp k c b _ => some (fcmpV k c b)
  | .cvtff t r c fd _ => some (cvtffV t r c fd)
  | .cvtfi r c fd _ => some (cvtfiV r c fd)
  | .cvtif r c fd _ => some (cvtifV r c fd)
  | .fexp2 r c _ => some (fexp2V r c)
  | .fexpe r c _ => some (fexpeV r c)
  | .flog2 r c _ => some (flog2V r c)
  | .ftanh r c _ => some (ftanhV r c)
  | .fsig r c _ => some (fsigV r c)
  | .fsinp r c _ => some (fsinpV r c)
  | .fcosp r c _ => some (fcospV r c)
  | .sclmax fd _ => some (sclmaxV fd)
  | .sclget _ => some sclgetV
  | .sclset b _ => some (sclsetV b)
  | .vctx q c _ => some (vctxV q c)
  | .vpack _ => some vpackV
  | .vunpack _ => some vunpackV
  | .vsplat g l _ => some (vsplatV g l)
  | .vperm _ => some vpermV
  | .vext l _ => some (vextV l)
  | .vins l _ => some (vinsV l)
  | .vsel _ => some vselV
  | .vredadd t _ => some (vredaddV t)
  | .vredmin t _ => some (vredminV t)
  | .vredmax t _ => some (vredmaxV t)
  | .vscan t _ => some (vscanV t)
  | .eod n _ => some (eodV n)
  | .rng _ => some rngV
  | .rngf _ => some rngfV
  | _ => none

/-- What a sequence node does with a member. -/
def takes : Instr → Option Takes
  | .red t _ => some (redT t)
  | .scan t _ => some (scanT t)
  | .argmax t _ => some (argT t true)
  | .argmin t _ => some (argT t false)
  | .sortk t k a _ => some (sortkT t k a)
  | .cntr n _ => some (cntrT n)
  | _ => none

/-- A firing of another node of the same PE on one value, under the same tag (08 R179, 12 R271). -/
def Firing.linkTo (f : Firing) (node : Nat) (v : Token) : Firing :=
  { f with node := node, a := some { v with tag := f.tag }, b := none, c := none, t := none }

/-- What a link answers. -/
inductive Linked where
  /-- the link ended the unit -/
  | ended
  /-- it sent nothing, or several tokens, to DA -/
  | open_
  | value (t : Token)
deriving DecidableEq, Repr

/-- The value of what a node made: its one token for DA. -/
def Made.linked (m : Made) : Linked := match m.toA with | [t] => .value t | _ => .open_

/-- Fire a computing node or a sequence node as a link: one checked firing, with its own flags and trap (07 R160). -/
def State.linkSimple (s : State) (f : Firing) (i : Instr) : State × Linked :=
  match computes i with
  | some g => (match g (s.peOf f) f with
    | .ends code cause => (s.fail f code cause, .ended)
    | .made m => (s.raise f m.flags m.force, m.linked))
  | none => match takes i with
    | none => (s, .open_)
    | some g => match s.openSeq f with
      | .error code => (s.fail f code, .ended)
      | .ok e =>
        let r := g (s.peOf f) f e
        let s := s.modCtx f.cl (fun x => x.putSeq r.1)
        match r.2 with
        | .ends code cause => (s.fail f code cause, .ended)
        | .made m => (s.raise f m.flags m.force, m.linked)

/-- A value the spec does not state: the firing's token with a free payload in its lanes, and zero above them
(06 R124; log 9). -/
def State.freeValue (s : State) (f : Firing) : State × Token :=
  ({ s with freeCtr := s.freeCtr + 1 }, { f.opA with pay := Config.free s.freeCtr % 2 ^ min 256 (f.opA.g * f.opA.cont) })

/-- Fire a list of nodes in turn, each on the output of the one before (12 R271). -/
def State.chainRun (s : State) (f : Firing) : List Nat → Token → State × Option Token
  | [], v => (s, some v)
  | n :: rest, v =>
    let g := f.linkTo n v
    match (s.cl f.cl).instr f.unit n with
    | none => (s, some v)
    | some i =>
      match s.linkSimple g i with
      | (s, .ended) => (s, none)
      | (s, .value t) => s.chainRun f rest t
      | (s, .open_) => let r := s.freeValue g; r.1.chainRun f rest r.2

/-- The used links of a CHAIN literal, first to last (12 R271). -/
def ChainLit.links (l : ChainLit) : List Nat :=
  [l.node0.toNat, l.node1.toNat, l.node2.toNat].take (l.cntm1.toNat + 1)

/-- CHAIN sends the final value to DA and DB; a bubble runs no link (12 R271). -/
def execChain (l : ChainLit) (d : Dests) (s : State) : Host.Outcome State Fault Refusal :=
  let f := s.firing
  .next (if f.hasBubble then s.emitBubble f d
    else match s.chainRun f (ChainLit.links l) f.opA with
      | (s, none) => s
      | (s, some v) => s.emitBoth f d v)

/-! ## Activations (08 R181, R182) -/

/-- The activation whose step is under execution. -/
def State.act (s : State) : Option (Nat × Activation) :=
  match s.curAct with
  | none => none
  | some (c, k) => ((s.ctx c).acts.find? (·.seq == k)).map (fun a => (c, a))

def State.putAct (s : State) (c : Nat) (a : Activation) : State :=
  if a.list.lenm1.toNat < a.idx then s.modCtx c (fun x => { x with acts := x.acts.filter (·.seq != a.seq) }) else
  s.modCtx c (fun x => { x with acts := x.acts.map (fun b => if b.seq = a.seq then a else b) })

def Activation.reg (a : Activation) (k : Nat) : Nat := (nth a.x k).getD 0
def Activation.setReg (a : Activation) (k v : Nat) : Activation := { a with x := mapNth a.x k (fun _ => v % 2 ^ 32) }

/-- STEP starts an activation; a bubble starts none (10 R216). -/
def execStep (l : ListLit) (d : Dests) (s : State) : Host.Outcome State Fault Refusal :=
  let f := s.firing
  .next (if f.hasBubble then s.emitBubble f d
    else s.modCtx f.cl (fun x => { x with acts := x.acts ++
      [({ seq := f.seq, fir := f, list := l, dests := d, v := f.opA } : Activation)] }))

/-- MXSEQ starts an activation whose V is its trigger, a control token (15 R322). -/
def execMxseq (l : ListLit) (d : Dests) (s : State) : Host.Outcome State Fault Refusal :=
  let f := s.firing
  .next (if f.hasBubble then s.emitBubble f d
    else if f.opA.kind ≠ .control then s.fail f Code.LANE_MISMATCH
    else s.modCtx f.cl (fun x => { x with acts := x.acts ++
      [({ seq := f.seq, fir := f, list := l, mxseq := true, dests := d, v := f.opA } : Activation)] }))

/-- The body bounds of the loops an activation's list opens: index and LAST (08 R182). -/
def Cluster.listLoops (x : Cluster) (a : Activation) : List (Nat × Nat) :=
  (List.range (a.list.lenm1.toNat + 1)).filterMap (fun i =>
    (x.forme.steps.find (a.fir.unit * 64 + a.list.start.toNat + i)).bind (fun w =>
      match decodeStep w with
      | .ok (.stepLoop last _ _ _) => some (i, last.toNat)
      | _ => none))

/-- The end marker of a loop: zero payload, EOD 1 plus the number of loops nested inside it; the field holds 3 at
most (08 R182; log 19). An MXSEQ list emits none (15 R322). -/
def State.endMarker (s : State) (c : Nat) (a : Activation) (i last : Nat) : State :=
  let inner := ((s.cl c).listLoops a).filter (fun p => decide (i < p.1) && decide (p.1 < last))
  if a.mxseq then s
  else s.emit a.fir [(a.dests.da, { a.fir.stamp (scalar64 0 a.fir.tag) with eod := min 3 (1 + inner.length) })]

/-- The loops, innermost first, that control stays in at an index: a jump out of a body leaves its loop (08 R180,
R182). -/
def loopsAt (k : Nat) (l : List (Nat × Nat × Nat × Nat)) : List (Nat × Nat × Nat × Nat) :=
  l.dropWhile (fun p => !(decide (p.1 < k) && decide (k ≤ p.2.1)))

/-- The loop tests after the step at an index, inner first; then control goes on at the index given (08 R182). -/
def State.loopTests (s : State) (c : Nat) (a : Activation) (at_ go : Nat) :
    List (Nat × Nat × Nat × Nat) → State
  | [] => s.putAct c { a with idx := go, loops := [] }
  | (i, last, r, n) :: rest =>
    if last ≠ at_ then s.putAct c { a with idx := go, loops := loopsAt go ((i, last, r, n) :: rest) }
    else
      let a := a.setReg r (a.reg r + 1)
      if a.reg r < n then s.putAct c { a with idx := i + 1, loops := (i, last, r, n) :: rest }
      else (s.endMarker c a i last).loopTests c a at_ go rest

/-- A step that has acted passes control on. -/
def State.stepOn (s : State) (c : Nat) (a : Activation) : State := s.loopTests c a a.idx (a.idx + 1) a.loops

/-- Perform a step of the activation under execution. -/
def State.onAct (s : State) (g : Nat → Activation → State) : State :=
  match s.act with | some (c, a) => g c a | none => s

/-- SNOP (08 R179). -/
def execStepSnop (s : State) : Host.Outcome State Fault Refusal := .next (s.onAct (fun c a => s.stepOn c a))

/-- LOOP: X := 0; a count of 0 continues past LAST with the end marker, and the loops that end there are tested. A LOOP
that is itself the last step of open bodies enters its own body once those loops have exited (08 R180, R182; log 19). -/
def execStepLoop (last : BitVec 4) (x : BitVec 2) (csrc : Bool) (count : BitVec 16) (s : State) :
    Host.Outcome State Fault Refusal :=
  .next (s.onAct (fun c a =>
    let n := if csrc then a.fir.opA.pay % 2 ^ 32 else count.toNat
    let a := a.setReg x.toNat 0
    let enter (s : State) (b : Activation) : State :=
      if n = 0 then s.loopTests c b last.toNat (last.toNat + 1) b.loops
      else s.putAct c { b with idx := a.idx + 1, loops := (a.idx, last.toNat, x.toNat, n) :: b.loops }
    let s := if n = 0 then s.endMarker c a a.idx last.toNat else s
    if a.loops.any (fun p => p.2.1 == a.idx) then
      let s := s.loopTests c a a.idx (a.idx + 1) a.loops
      match s.act with
      | some (_, b) => if b.idx = a.idx + 1 then enter s b else s
      | none => s
    else enter s a))

/-- SETX (08 R179). -/
def execStepSetx (x : BitVec 2) (imm : BitVec 16) (s : State) : Host.Outcome State Fault Refusal :=
  .next (s.onAct (fun c a => s.stepOn c (a.setReg x.toNat (zextInt (Sys2Proof.sext imm.toNat 16) 32))))

/-- ADDX (08 R179). -/
def execStepAddx (x : BitVec 2) (imm : BitVec 16) (s : State) : Host.Outcome State Fault Refusal :=
  .next (s.onAct (fun c a =>
    s.stepOn c (a.setReg x.toNat (a.reg x.toNat + zextInt (Sys2Proof.sext imm.toNat 16) 32))))

/-- The token of an EMIT (08 R179, 10 R216, 15 R322). -/
def Activation.emitTok (a : Activation) (x form sh : Nat) (imm : BitVec 16) : Token :=
  let f := a.fir
  let p := f.opA
  if form = 0 then f.new32 (a.reg x)
  else if form = 1 then
    let v : Int := ((p.pay % 2 ^ 64 : Nat) : Int) + a.reg x * Sys2Proof.sext imm.toNat 16 * ((2 ^ sh : Nat) : Int)
    { f.new64 (zextInt v 64) with pmask := if p.poisoned 0 then 1 else 0 }
  else if a.mxseq then f.stamp { tag := f.tag, kind := .control, gl2 := 0, cl2 := 0, pay := a.v.pay }
  else f.stamp { tag := f.tag, gl2 := a.v.gl2, cl2 := a.v.cl2, pmask := a.v.pmask, pay := a.v.pay }

/-- EMIT sends one token to DA or DB (08 R179). -/
def execStepEmit (dsel : Bool) (x : BitVec 2) (form : BitVec 2) (sh : BitVec 4) (imm : BitVec 16) (s : State) :
    Host.Outcome State Fault Refusal :=
  .next (s.onAct (fun c a =>
    let d := if dsel then a.dests.db else a.dests.da
    (s.emit a.fir [(d, a.emitTok x.toNat form.toNat sh.toNat imm)]).stepOn c a))

/-- The field a patch names: its lowest payload bit and width (15 R302, R322). -/
def patchField (k : Nat) : Nat × Nat :=
  if k = 0 then (104, 24) else if k = 1 then (80, 24) else if k = 2 then (135, 17) else if k = 3 then (56, 8)
  else if k = 4 then (48, 8) else if k = 5 then (40, 8) else (192, 32)

/-- The patch step of an MXSEQ list (15 R322). -/
def execMxseqPatch (_ : Bool) (field : BitVec 3) (_ : BitVec 2) (sh : BitVec 4) (imm : BitVec 16) (s : State) :
    Host.Outcome State Fault Refusal :=
  .next (s.onAct (fun c a =>
    let v := a.v.pay
    let p := patchField field.toNat
    let old := bits v (p.1 + p.2 - 1) p.1
    let new := if field.toNat = 7 then setBits v 31 1 (imm.toNat % 2)
      else setBits v p.1 p.2 (zextInt ((old : Int) + Sys2Proof.sext imm.toNat 16 * ((2 ^ sh.toNat : Nat) : Int)) p.2)
    s.stepOn c { a with v := { a.v with pay := new } }))

/-- OPN fires a node of the same PE on V; a link that sends DA no one token leaves a free value (08 R179; log 9). -/
def execStepOpn (node : BitVec 9) (s : State) : Host.Outcome State Fault Refusal :=
  .next (s.onAct (fun c a =>
    let g := a.fir.linkTo node.toNat a.v
    match (s.cl c).instr a.fir.unit node.toNat with
    | none => s.stepOn c a
    | some i =>
      let r : State × Linked := match i with
        | .chain l _ => (match s.chainRun g (ChainLit.links l) g.opA with
          | (s, some v) => (s, .value v)
          | (s, none) => (s, .ended))
        | i => s.linkSimple g i
      match r with
      | (s, .ended) => s
      | (s, .value t) => s.stepOn c { a with v := t }
      | (s, .open_) => let q := s.freeValue g; q.1.stepOn c { a with v := q.2 }))

/-- JMP: taken once every loop that ends on its step has exited (08 R182). -/
def execStepJmp (target : BitVec 4) (s : State) : Host.Outcome State Fault Refusal :=
  .next (s.onAct (fun c a => s.loopTests c a a.idx target.toNat a.loops))

/-- DONE, or the list's end, ends the activation (08 R179). -/
def execStepDone (s : State) : Host.Outcome State Fault Refusal :=
  .next (s.onAct (fun c a => s.modCtx c (fun x => { x with acts := x.acts.filter (·.seq != a.seq) })))

end Sys2Proof.Machine
end

