-- ==== Sys2Proof/Machine/Loader.lean ====
section
/-!
DEFINITION. The forme loader: what it checks before it installs a forme, and the budget (06 R134, R135, R139, R146,
07 R151, R164, 08 R166 to R169, R180, R186, R187, 12 R265, 13 R282, 15 R317, R321, 23 R403).
-/
namespace Sys2Proof.Machine

/-- A refusal: status and location (08 R187). -/
abbrev LoadErr := Nat × Nat

def loadLoc (kind n : Nat) : Nat := kind * 2 ^ 28 + n % 2 ^ 28

/-- The instruction of a node position. -/
def Forme.instr (g : Forme) (pos : Nat) : Option Instr :=
  match g.nodes.find pos with
  | some w => (match decodeNode (NodeWord.ofBits w) with | .ok i => some i | .error _ => none)
  | none => none

/-- What OP and MOD say of the record at a node position. -/
def Forme.head (g : Forme) (pos : Nat) : Option Instr := (g.nodes.find pos).bind (fun w => (NodeWord.ofBits w).head)

/-- The destinations a record holds. -/
def recDests (w : BitVec 96) : List Dest :=
  [Dest.ofBits (NodeWord.ofBits w).da, Dest.ofBits (NodeWord.ofBits w).db].filterMap id

/-- The entry destination of FORK and PARK (10 R223). -/
def EntryLit.dest (l : EntryLit) : Dest :=
  .local_ (BitVec.ofNat 6 (bits l.entry.toNat 19 14)) (BitVec.ofNat 9 (bits l.entry.toNat 13 5))
    (portOfNat (bits l.entry.toNat 4 3)) (BitVec.ofNat 3 (bits l.entry.toNat 2 0))

def entryOfInstr : Instr → Option EntryLit
  | .fork l _ => some l
  | .park _ l _ => some l
  | _ => none

/-- Positions with a destination on port t, of records, entries of tasks, route slots and endpoints (06 R131). -/
def Forme.tNodes (g : Forme) : List Nat :=
  let ofDest (d : Dest) : List Nat := match d with
    | .local_ u n .t _ => [u.toNat * 512 + n.toNat]
    | _ => []
  let recs := g.nodes.flatMap (fun p => (recDests p.2).flatMap ofDest)
  let ents := g.nodes.flatMap (fun p => match (g.instr p.1).bind entryOfInstr with
    | some l => if bits l.entry.toNat 4 3 = 3 then
        (List.range (l.ngm1.toNat + 1)).map (fun k => bits l.entry.toNat 19 14 * 512 + bits l.entry.toNat 13 5 + k) else []
    | none => [])
  let eps := g.eps.filterMap (fun p => if (Ep.of p.2).out then none else Dest.ofBits (Ep.of p.2).dest)
  let onT (k : Nat) (d : Dest) : Bool := match d with | .route c q _ => c.toNat == k && q == 3 | _ => false
  let rts := g.routes.flatMap (fun p =>
    let over_ : Bool := g.nodes.any (fun q => (recDests q.2).any (onT p.1)) || eps.any (onT p.1)
    (routeSlots p.2).flatMap (fun r => if r.2.2.1 == 3 || over_ then [r.1 * 512 + r.2.1] else []))
  (recs ++ ents ++ rts ++ eps.flatMap ofDest).eraseDups

/-- A port of a loaded record accepts tokens: its opcode matches it under its MOD; port t always (08 R169). -/
def Forme.portOk (g : Forme) (pos : Nat) (p : Port) : Bool :=
  g.nodes.has pos && (match p, (g.head pos).map portsOf with
    | .t, _ => true
    | .a, some q => q.a
    | .b, some q => q.b
    | .c, some q => q.c
    | _, none => false)

/-- The NODE, PORT, CLASS and port id conditions of 08 R169 (check 7 of R186). -/
def Forme.destOk (g : Forme) : Dest → Bool
  | .local_ u n p _ => g.portOk (u.toNat * 512 + n.toNat) p
  | .route k q _ =>
    let e := g.routes.get 0 k.toNat
    bits e.toNat 241 234 ≠ 0 && (q == 0 || (routeSlots e).all (fun r => g.portOk (r.1 * 512 + r.2.1) (Port.ofCode q)))
  | .stream p => match g.eps.find p.toNat with | some w => (Ep.of w).out | none => false
  | _ => true

/-- The first failure of a list of conditions. -/
def firstErr (l : List (Bool × Nat)) : Option Nat := (l.find? (fun p => p.1)).map (·.2)

/-! ## Step memories (08 R180, 15 R322) -/

/-- OPN may run a node: of groups 001 to 101, matching only port a, with no destination (08 R180). -/
def Forme.opnOk (g : Forme) (u n : Nat) : Bool :=
  match g.nodes.find (u * 512 + n), g.head (u * 512 + n) with
  | some w, some i =>
    let grp := bits (NodeWord.ofBits w).op.toNat 8 6
    decide (1 ≤ grp) && decide (grp ≤ 5) && portsOf i == ⟨true, false, false⟩ &&
      !g.tPorts.contains (u * 512 + n) && recDests w == [.sink, .sink]
  | _, _ => false

/-- A record's instruction whatever its destinations hold: its list is checked with the step memories, before check 4
(08 R180, R186). -/
def Forme.bare (g : Forme) (pos : Nat) : Option Instr :=
  (g.nodes.find pos).bind (fun w =>
    match decodeNode { NodeWord.ofBits w with da := 0xC00000, db := 0xC00000 } with | .ok i => some i | .error _ => none)

/-- A list named by a node of a PE: unit, first entry, length, and whether MXSEQ runs it. -/
def Forme.lists (g : Forme) : List (Nat × Nat × Nat × Bool) :=
  (g.nodes.filter (fun p => p.1 / 512 < 32)).filterMap (fun p => match g.bare p.1 with
    | some (.step_ l _) => some (p.1 / 512, l.start.toNat, l.lenm1.toNat + 1, false)
    | some (.mxseq l _) => some (p.1 / 512, l.start.toNat, l.lenm1.toNat + 1, true)
    | _ => none)

/-- The step at an index of a list. -/
def Forme.stepAt (g : Forme) (u start k : Nat) : Option Instr :=
  match g.steps.find (u * 64 + start + k) with
  | some w => (match decodeStep w with | .ok i => some i | .error _ => none)
  | none => none

/-- The loops of a list: index and last step. -/
def Forme.loopsOf (g : Forme) (u start len : Nat) : List (Nat × Nat) :=
  (List.range len).filterMap (fun k => match g.stepAt u start k with
    | some (.stepLoop last _ _ _) => some (k, last.toNat)
    | _ => none)

/-- A step of a list breaks a condition of R180. -/
def Forme.stepBad (g : Forme) (l : Nat × Nat × Nat × Bool) (k : Nat) : Bool :=
  let (u, start, len, mx) := l
  let loops := g.loopsOf u start len
  let inside (q : Nat × Nat) (i : Nat) : Bool := decide (q.1 < i) && decide (i ≤ q.2)
  let within (q : Nat × Nat) : Bool := decide (q.1 < k) && decide (k < q.2)
  match g.stepAt u start k with
  | none => true
  | some (.stepLoop last _ _ _) =>
    decide (last.toNat ≤ k) || decide (len ≤ last.toNat) ||
      loops.any (fun q => within q && decide (q.2 < last.toNat)) || decide (3 ≤ (loops.filter within).length)
  | some (.stepJmp t) =>
    decide (t.toNat ≤ k) || loops.any (fun q => inside q t.toNat && !inside q k)
  | some (.stepOpn n) => mx || !g.opnOk u n.toNat
  | some (.mxseqPatch ..) => !mx
  | some _ => false

def Forme.stepsErr (g : Forme) : Option LoadErr :=
  let bad := (g.steps.filterMap (fun p => match decodeStep p.2 with | .ok _ => none | .error _ => some p.1)) ++
    g.lists.flatMap (fun l => (List.range l.2.2.1).filterMap (fun k =>
      if g.stepBad l k then some (l.1 * 64 + l.2.1 + k) else none))
  match bad with
  | [] => none
  | b :: rest => some (Code.LOAD_ILLEGAL, loadLoc 1 (rest.foldl min b))

/-! ## Routes, endpoints, formats, templates, profiles, checkpoints -/

/-- A route entry (06 R139, R140); `part` says which clusters are in the partition. -/
def Forme.routeErr (g : Forme) (part : Nat → Bool) (e : BitVec 256) : Option Nat :=
  let m := bits e.toNat 255 252
  let arg := bits e.toNat 251 242
  let l := routeSlots e
  firstErr [
    (decide (7 ≤ m) || decide (m ≠ 1 ∧ m ≠ 5 ∧ arg ≠ 0) || bits e.toNat 233 160 ≠ 0 ||
      l.any (fun r => decide (38 < r.1) || decide (4 ≤ r.2.2.2)), Code.LOAD_ILLEGAL),
    (decide (m = 5) && !part arg || l.any (fun r => !g.portOk (r.1 * 512 + r.2.1) (portOfNat r.2.2.1)), Code.LOAD_PLACE)]

/-- An endpoint descriptor (06 R146). -/
def Forme.epErr (g : Forme) (w : EpWords) : Option Nat :=
  let e := Ep.of w
  let w0 := bindWord w 0; let w1 := bindWord w 1
  let d := Dest.ofBits e.dest
  let kindOk : Bool := match d with
    | some (.local_ u n p t) => Dest.wf (.local_ u n p t)
    | some (.route k p t) => Dest.wf (.route k p t)
    | _ => false
  firstErr [
    (bits w0 7 0 ≠ 0 || bits w1 39 16 ≠ 0 || bindWord w 2 ≠ 0 || bindWord w 3 ≠ 0 || e.scm == 3 ||
      !(32 ≤ e.unit && e.unit ≤ 35 || e.unit == 38) || !Fd.valid e.fd || decide (5 < e.gl2) ||
      decide (8 < e.gl2 + Fd.contL2 (Fd.codeWidth e.fd)) || (if e.out then e.dest ≠ 0 else !kindOk), Code.LOAD_ILLEGAL),
    (!e.out && !(match d with | some d => g.destOk d | none => false), Code.LOAD_PLACE)]

/-- A format of the forme's header (07 R151, R164, 08 R187). -/
def Forme.fdErr (g : Forme) (k : Nat) (fd : BitVec 32) : Option Nat :=
  firstErr [(!Fd.valid fd, Code.LOAD_ILLEGAL),
    ((g.ordA == some k || g.ordB == some k) && !Fd.mxeOk fd, Code.LOAD_PLACE)]

/-- A code of FP32 is a NaN, or no finite number. -/
def f32Nan (v : Nat) : Bool := bits v 30 23 == 255 && bits v 22 0 ≠ 0
def f32Finite (v : Nat) : Bool := bits v 30 23 ≠ 255

/-- a > b for FP32 codes that are no NaN. -/
def f32Gt (a b : Nat) : Bool :=
  let k (v : Nat) : Int := if v.testBit 31 then -((bits v 30 0 : Nat) : Int) else ((bits v 30 0 : Nat) : Int)
  decide (k b < k a)

/-- An epilogue profile (15 R317). -/
def profileBad (w : List Nat) : Bool :=
  let w0 := bindWord w 0; let w1 := bindWord w 1; let w2 := bindWord w 2; let w3 := bindWord w 3
  let ofd := BitVec.ofNat 32 (bits w0 63 32)
  let act := bits w0 31 30
  let rq := w0.testBit 26
  let rl := bits w1 31 0
  let ow := bits rl 5 0
  !Fd.valid ofd || decide (4 < bits w0 24 22) || bits w0 20 0 ≠ 0 ||
    (rq && (ow == 0 || decide (32 < ow) || bits rl 23 14 ≠ 0 || bits rl 7 6 ≠ 0 || w0.testBit 29 || w0.testBit 28 ||
      act ≠ 0 || !(Fd.cls ofd == (if w0.testBit 21 then 1 else 0) && Fd.width ofd == ow))) ||
    (act == 2 && (f32Nan (bits w2 63 32) || f32Nan (bits w2 31 0) || f32Gt (bits w2 63 32) (bits w2 31 0))) ||
    (act == 3 && (!f32Finite (bits w3 63 32) || !f32Finite (bits w3 31 0) || !f32Gt (bits w3 31 0) 0))

/-- A checkpoint entry of 40 words: its fields, zero fields, and its ranges inside their stores (23 R403). -/
def ckptBad (w : List Nat) : Bool :=
  let w0 := bindWord w 0
  let nr := bits w0 63 58; let nb := bits w0 57 53
  let rangeBad (r : Nat) : Bool :=
    let v := bindWord w (1 + r)
    let buf := bits v 63 62; let len := bits v 61 38; let base := bits v 37 15
    buf == 3 || bits v 14 0 ≠ 0 || len == 0 || decide (2 ^ 23 < len) ||
      decide ((if buf = 2 then 2 ^ 22 else 2 ^ 23) < base + len) || (buf == 2 && base % 32 ≠ 0)
  decide (32 < nr) || decide (16 < nb) || bits w0 52 0 ≠ 0 || (List.range nr).any rangeBad ||
    (List.range 32).any (fun r => decide (nr ≤ r) && bindWord w (1 + r) ≠ 0) ||
    (List.range 16).any (fun b => decide (nb ≤ b) && bits (bindWord w (33 + b / 4)) (16 * (b % 4) + 15) (16 * (b % 4)) ≠ 0) ||
    [37, 38, 39].any (fun k => bindWord w k ≠ 0)

/-- Conditions of numbered parts, in ascending number; the first failure with its location. -/
def partsErr {β : Type} (kind : Nat) (l : List (Nat × β)) (f : Nat → β → Option Nat) : Option LoadErr :=
  l.findSome? (fun p => (f p.1 p.2).map (fun st => (st, loadLoc kind p.1)))

def numbered {β : Type} (l : List β) : List (Nat × β) := l.zipIdx.map (fun p => (p.2, p.1))

/-! ## Node records (08 R186) -/

/-- Records of a unit's node store (08 R166). -/
def storeSize (u : Nat) : Nat := if u < 32 then 512 else if u < 36 then 256 else if u < 39 then 64 else 0

/-- Which endpoint a stream instruction names. -/
def endpointOf : Instr → Option Nat
  | .strmend n _ => some n.toNat
  | .strmst n _ => some n.toNat
  | i => streamPort i

/-- An instruction whose literal's fields must agree with the rest of the forme (check 3 of R186). -/
def Forme.litBad (g : Forme) (pos : Nat) (i : Instr) : Bool :=
  (match endpointOf i with | some p => !g.eps.has p | none => false) ||
  (match i with
   | .mxcmd n _ => decide (g.templates.length ≤ n.toNat)
   | .ckpt n _ => !g.ckpts.has n.toNat
   | .mxout l _ => decide (g.profiles.length ≤ l.prof.toNat)
   | .chain l _ => (ChainLit.links l).any (fun n => !g.opnOk (pos / 512) n ||
       (match g.head (pos / 512 * 512 + n) with
        | some j => isList j || isSeq j || (match j with | .chain .. => true | _ => false)
        | none => true))
   | .barr l _ => g.nodes.any (fun p => decide (p.1 < pos) && (match g.instr p.1 with
       | some (.barr m _) => m.id == l.id && (m.part != l.part || m.arrm1 != l.arrm1)
       | _ => false))
   | _ => false)

/-- The record stands in a unit that may hold it (check 6 of R186, 13 R282, 15 R324). -/
def Forme.placeBad (g : Forme) (pos : Nat) (i : Instr) : Bool :=
  let u := pos / 512
  decide (storeSize u ≤ pos % 512) || !(classOf i).admits u ||
  (match (endpointOf i).bind (fun p => g.eps.find p) with
   | some w =>
     let e := Ep.of w
     e.unit ≠ u || (!e.out && (u == 34 || u == 35)) || (e.out && (u == 32 || u == 33))
   | none => false) ||
  (match i with
   | .mxout l _ => l.dmode == 1 && (match g.eps.find l.port.toNat with
       | some w =>
         let e := Ep.of w
         !(e.out && (e.unit == 34 || e.unit == 35) &&
           e.fd.toNat == bits (bindWord ((nth g.profiles l.prof.toNat).getD []) 0) 63 32)
       | none => true)
   | _ => false)

/-- The destinations of a record name what the forme holds (check 7 of R186, 10 R223). -/
def Forme.destsBad (g : Forme) (w : BitVec 96) (i : Instr) : Bool :=
  (recDests w).any (fun d => !g.destOk d) ||
  (match entryOfInstr i with
   | some l => (List.range (l.ngm1.toNat + 1)).any (fun k =>
       let n := bits l.entry.toNat 13 5 + k
       decide (511 < n) || !g.portOk (bits l.entry.toNat 19 14 * 512 + n) (portOfNat (bits l.entry.toNat 4 3)))
   | none => false)

def Forme.nodeErr (g : Forme) (pos : Nat) (w : BitVec 96) : Option Nat :=
  match decodeNode (NodeWord.ofBits w) with
  | .error _ => some Code.LOAD_ILLEGAL
  | .ok i => firstErr [(g.litBad pos i, Code.LOAD_ILLEGAL), (privileged i && !g.priv, Code.LOAD_PRIV),
      (g.placeBad pos i || g.destsBad w i, Code.LOAD_PLACE)]

/-! ## The budget (06 R134, R135, 12 R265) -/

/-- The bodies around a body, by number, that count in its A: all of them, or, inside a body named as an ENTRY, that
body and those within it (06 R134, 10 R222; log 25). -/
def Forme.around (g : Forme) (b : Body) : List (Nat × Body) :=
  let enc := b.enclosing.filterMap (fun k => (nth g.bodies k).map (fun e => (k, e)))
  enc.filter (fun e => enc.all (fun r => !r.2.resumed || r.1 == e.1 || e.2.enclosing.contains r.1))

/-- A of a body: the frames of it that can exist at once. A body named as an ENTRY is charged 8, and a body inside one
starts from those 8 (06 R134, 10 R222; log 25). -/
def Forme.framesOf (g : Forme) (b : Body) : Nat :=
  if b.resumed then 8
  else (g.around b).foldl (fun n e => n * e.2.n) (if (g.around b).any (·.2.resumed) then 8 else 1)

/-- Every body: the root, with N = 1 and the nodes of no other, and the forme's (06 R134). -/
def Forme.allBodies (g : Forme) : List Body :=
  { n := 1, nodes := (g.nodes.map (·.1)).filter (fun p => !g.bodies.any (fun b => b.nodes.contains p)) } :: g.bodies

/-- Endpoints that feed the fabric, each charged its depth, or 1 under STALL. -/
def Forme.edges (g : Forme) : Nat :=
  (g.eps.filter (fun p => !(Ep.of p.2).out)).foldl (fun n p => n + (if g.stall then 1 else (Ep.of p.2).depth)) 0

/-- Matched ports of a node, port t among them where the forme places a destination on it (06 R131, R134). -/
def Forme.matched (g : Forme) (pos : Nat) : Nat :=
  let q := ((g.instr pos).map portsOf).getD ⟨false, false, false⟩
  q.a.toNat + q.b.toNat + q.c.toNat + (g.tPorts.contains pos).toNat

/-- Destinations of a record that carry `:next`: its own, and those its route entry's slots give it (06 R128, R134,
R139). -/
def Forme.nexts (g : Forme) (w : BitVec 96) : Nat :=
  (recDests w).foldl (fun n d => n + (match d with
    | .local_ _ _ _ top => (top == 1).toNat
    | .route k _ top => ((routeSlots (g.routes.get 0 k.toNat)).filter (fun r =>
        (if top = 0 then r.2.2.2 else top.toNat) == 1)).length
    | _ => 0)) 0

/-- P and H of a body (06 R134). -/
def Forme.portsIn (g : Forme) (b : Body) : Nat := b.nodes.foldl (fun n p => n + g.matched p) 0
def Forme.nextsIn (g : Forme) (b : Body) : Nat := b.nodes.foldl (fun n p => n + g.nexts (g.nodes.get 0 p)) 0

/-- B and F of a forme (06 R134). -/
def Forme.needs (g : Forme) : Nat × Nat :=
  let g := { g with tPorts := g.tNodes }
  (g.allBodies.foldl (fun n b => n + g.framesOf b * (b.n * g.portsIn b + g.nextsIn b)) 0 + g.edges,
   g.allBodies.foldl (fun n b => n + g.framesOf b) 0)

/-- The records that dispatch reserves for a forme. -/
def Forme.budget (g : Forme) : Nat := g.needs.1

/-- Sequence entries charged to a PE: each sequence node its body's frames, SORTK four times as many (12 R265). -/
def Forme.seqCharge (g : Forme) (u : Nat) : Nat :=
  g.allBodies.foldl (fun n b => n + (b.nodes.filter (fun p => p / 512 == u)).foldl (fun m p => m + (match g.instr p with
    | some (.sortk ..) => 4 * g.framesOf b
    | some i => if isSeq i then g.framesOf b else 0
    | none => 0)) 0) 0

/-- The first check that a forme fails, with its location (08 R186, R187). -/
def Forme.loadErr (g : Forme) (part : Nat → Bool) : Option LoadErr :=
  let g := { g with tPorts := g.tNodes }
  match g.stepsErr with
  | some e => some e
  | none =>
    match [partsErr 2 g.routes (fun _ e => g.routeErr part e), partsErr 3 g.eps (fun _ w => g.epErr w),
        partsErr 4 (numbered g.fds) g.fdErr,
        partsErr 5 (numbered g.templates) (fun _ w => if (Ctl.of (bindWord w 0 + 2 ^ 64 * bindWord w 1 +
          2 ^ 128 * bindWord w 2 + 2 ^ 192 * bindWord w 3)).templateBad then some Code.LOAD_ILLEGAL else none),
        partsErr 6 (numbered g.profiles) (fun _ w => if profileBad w then some Code.LOAD_ILLEGAL else none),
        partsErr 8 g.ckpts (fun k w => if 255 < k || ckptBad w then some Code.LOAD_ILLEGAL else none),
        partsErr 0 g.nodes g.nodeErr].findSome? id with
    | some e => some e
    | none => if (List.range 32).any (fun u => decide (32 < g.seqCharge u)) then some (Code.LOAD_BUDGET, 0) else none

/-- B and F fit (06 R135). -/
def Forme.fits (g : Forme) : Bool := decide (g.needs.1 ≤ 4032) && decide (g.needs.2 ≤ 1024)

/-- The forme as it is installed. -/
def Forme.installed (g : Forme) : Forme := { g with tPorts := g.tNodes }

end Sys2Proof.Machine
end

