-- ==== Sys2Proof/Machine/Units.lean ====
section
/-!
DEFINITION. Launches: counters and their signals, the slot table, dispatch, the repair pass, and how a unit ends
(03 R68, R69, 05 R115, R116, R122, 15 R328, 20 R358 to R370).
-/
namespace Sys2Proof.Machine

/-! ## Counters and slots -/

def execCntArm (n : Nat) (pv : Bool) (parent arg : Nat) (s : State) : Host.Outcome State Fault Refusal :=
  .next (s.cntArm n pv (parent % 2 ^ 12) (arg % 2 ^ 23))
def execCntAdd (n arg : Nat) (s : State) : Host.Outcome State Fault Refusal := .next (s.cntAdd n (arg % 2 ^ 23))
def execCntCancel (n : Nat) (s : State) : Host.Outcome State Fault Refusal := .next (s.cntCancel n)
def execCntFree (n : Nat) (s : State) : Host.Outcome State Fault Refusal := .next (s.cntFree n)
def execSlotCommit (s : State) : Host.Outcome State Fault Refusal := .next s.slotCommit

/-- A message for a counter. -/
def MsgPay.counter : MsgPay → Option Nat
  | .signal n _ => some n
  | .trig n _ _ _ _ => some n
  | _ => none

/-- A counter takes the first signal that has reached it: a unit's end, or a cluster's trigger, whose position is
written to the launch area before TRIGLEFT falls (20 R359, R369). -/
def execCntSignal (n : Nat) (s : State) : Host.Outcome State Fault Refusal :=
  .next (match s.netMsgs.find? (fun m => m.pay.counter == some n && s.arrived m) with
  | none => s
  | some m =>
    match m.pay with
    | .signal _ flt => (s.dropMsg m.id).cntSignal n flt
    | .trig _ k idx g pos =>
      let b := Bind.of (s.slot k).words
      (match s.hubStore 0 1026 b.sid (b.area + 64 * idx) 64 [(0, 64, pos, false)] with
      | none => s.hubStuck 0 b.sid (b.area + 64 * idx) 64
      | some s =>
        ((s.dropMsg m.id).modSlot k (fun x => { x with trig := x.trig.put idx (g, pos) })).modCnt n (fun c =>
          { c with trigLeft := c.trigLeft - 1 }))
    | _ => s)

/-! ## Which slot may start (20 R364, R369, R370) -/

/-- A predecessor field is satisfied. -/
def State.predOk (s : State) (rof : Bool) (p : Nat) (e : Bool) : Bool :=
  let c := s.counter p
  let failed := (c.status == 3 || c.status == 4) && rof
  if p = 0xFFF then true
  else if e && c.ln then c.trigLeft == 0 || failed
  else (c.status == 2 || failed) &&
    (!c.ln || !slotRange.any (fun k => decide (2 ≤ (s.slot k).state) && (Bind.of (s.slot k).words).lcnt == p))

/-- A bound slot is ready. -/
def State.slotReady (s : State) (k : Nat) : Bool :=
  let sl := s.slot k
  let b := Bind.of sl.words
  sl.state == 1 && sl.leaseGranted && s.predOk b.rof b.pred1 b.e1 && s.predOk b.rof b.pred2 b.e2 &&
    (s.counter b.lcnt).status == 0

/-- Slot j is considered before slot k: lower PRIO, then commit order. -/
def State.before (s : State) (j k : Nat) : Bool :=
  let x := s.slot j; let y := s.slot k
  rankLt [(Bind.of x.words).prio, x.order] [(Bind.of y.words).prio, y.order]

/-- No ready slot considered earlier needs a cluster of slot k. -/
def State.firstFor (s : State) (k : Nat) : Bool :=
  !slotRange.any (fun j => s.slotReady j && s.before j k && (s.slot j).clusters.any (fun c => (s.slot k).clusters.contains c))

/-- A cluster may take a slot: no unit is on it, and it is not DEGRADED (20 R364, 22 R399). -/
def Cluster.open_ (x : Cluster) : Bool := x.slot.isNone && x.health != 2

/-- The drone slot whose unit holds a cluster of slot k. -/
def State.droneOn (s : State) (k : Nat) : Option Nat :=
  (s.slot k).clusters.findSome? (fun c => match (s.cl c).slot with
    | some j => if (s.slot j).drone && (s.slot j).state == 2 && (s.slot j).pre == 0 then some j else none
    | none => none)

/-! ## Starting (20 R365, R366) -/

/-- A forme at a pointer of a space, and whether it is an expansion. -/
def State.formeAt (s : State) (sid ptr : Nat) : Option (Forme × Bool) :=
  (s.formes.find? (fun e => e.1 == sid && e.2.1 == ptr)).map (fun e => e.2.2)

/-- Rings of a forme's ring table are loaded (05 R115). -/
def ringsOf (l : List (Word × Word)) : Tbl Ring :=
  (l.take 16).zipIdx.map (fun p =>
    let cfg := p.1.2.toNat
    let en := cfg.testBit 0 && bits cfg 40 16 ≠ 0 && decide (bits cfg 15 12 ≤ 10) && decide (ptrTag p.1.1.toNat ≤ 1)
    (p.2, ({ base := p.1.1, slot := bits cfg 40 16, log2n := bits cfg 15 12, mode := cfg.testBit 2, en := en } : Ring)))

/-- Registers of the checked units, loaded from the forme (07 R159). -/
def peOf (g : Forme) : Tbl PeReg :=
  (List.range 36).map (fun u => (u, ({ mode := g.peMode.get 0 u, xen := g.peXen.get 0 u, flags := 0 } : PeReg)))

/-- Step 5 in a cluster's context: what belongs to the unit is empty, timelines, channels and counts stay (05 R115,
07 R159, 15 R328, 23 R408), and the root frame is in use (06 R127). -/
def Ctx.dispatched (x : Ctx) (g : Forme) : Ctx :=
  ({ allocCtr := x.allocCtr, framesHigh := x.framesHigh, ovfHigh := x.ovfHigh, subst := x.subst, chans := x.chans,
     lastNode := x.lastNode, resv := g.budget, rings := ringsOf g.rings, pe := peOf g } : Ctx).allocFrame 0 {}

/-- The key of a walk's line requests: walks belong to the cluster, and outlast its units. -/
def walkAgent (a : Nat) : Bool := decide (4096 ≤ a) && decide (a < 8192)

/-- A cluster takes a slot with its forme (20 R365 steps 2 to 5). -/
def Cluster.dispatched (x : Cluster) (k : Nat) (b : Bind) (g : Forme) (expanded : Bool) : Cluster :=
  { x with
    ctx := x.ctx.dispatched g, slot := some k, stat := .running, forme := g.installed, formePtr := BitVec.ofNat 64 b.forme,
    expanded := expanded, sid := b.sid, quiet := 0, frozenPorts := false, quiesced := false, preReq := false,
    ckSel := none, savedWait := false, forced := false, brkMark := false, replaying := [], hist := [],
    lines := x.lines.filter (fun e => walkAgent e.agent), here := x.here.filter (fun p => walkAgent p.1) }

/-- What a unit that ends leaves of its walks and prefetches: a walk goes on for the TLB, and its outcome is no other
unit's (03 R51, R52). -/
def Cluster.orphaned (x : Cluster) (p : Walk → Bool) : Cluster :=
  { x with prefWait := [], walks := x.walks.map (fun (w : Walk) => if p w then { w with orphan := true } else w) }

/-- A start that fails: the launch counter gets a fault from every cluster and the job's queue a record (20 R366). -/
def State.startFail (s : State) (k : Nat) (e : LoadErr) : State :=
  let sl := s.slot k
  let b := Bind.of sl.words
  let s := sl.clusters.foldl (fun s c => s.modCl c (fun x => { x.orphaned (fun _ => true) with slot := none, stat := .idle })) s
  let s := s.pushFault { queue := b.jcnt, code := e.1, cl := sl.clusters.head?.getD 0, origin := 3, sid := b.sid, slot := k,
                         launch := b.lcnt, cause := e.2 % 2 ^ 32 }
  let s := s.modSlot k (fun x => { x with state := 3, waiting := false, endA := sl.clusters.zipIdx.map (fun p => (endKey p.2 p.1, (s.gal p.1).a)) })
  sl.clusters.foldl (fun s _ => s.cntSignal b.lcnt true) s

/-- Steps 1 to 5 (20 R365). The order of the checks decides which failure is reported. -/
def State.startSlot (s : State) (k : Nat) : State :=
  let sl := s.slot k
  let b := Bind.of sl.words
  let (n, s) := s.fresh
  let s := (s.armLaunch b sl.clusters.length).modSlot k (fun x => { x with state := 2, waiting := true, startOrder := n })
  let s := sl.clusters.foldl (fun s c => s.modCl c (fun x => { x with sid := b.sid })) s
  match s.formeAt b.sid (ptrOff b.forme) with
  | none => { s.startFail k (Code.LOAD_ILLEGAL, Config.free s.freeCtr) with freeCtr := s.freeCtr + 1 }
  | some (g, ex) =>
    match g.loadErr (fun c => sl.clusters.contains c) with
    | some e => s.startFail k e
    | none =>
      if !g.fits then s.startFail k (Code.LOAD_BUDGET, 0)
      else sl.clusters.foldl (fun s c => s.modCl c (fun x => x.dispatched k b g ex)) s

/-- The acquire of step 6: the dependent die's mirror shows every trigger position drained (20 R369). -/
def State.predDrained (s : State) (die p : Nat) (e : Bool) : Bool :=
  let c := s.counter p
  if p = 0xFFF ∨ !e ∨ !c.ln ∨ c.trigLeft ≠ 0 then true
  else match slotRange.find? (fun k => decide (2 ≤ (s.slot k).state) && (Bind.of (s.slot k).words).lcnt == p) with
    | none => !(s.die die).mirrorBad && c.trigs.all (fun t => decide (t.2 ≤ (s.mirror die t.1).2))
    | some k => !(s.die die).mirrorBad && (s.slot k).trig.all (fun t => decide (t.2.2 ≤ (s.mirror die t.2.1).2))

/-- One start entry: its token, or none where it is not valid (20 R362, R366). -/
def startEntry (g : Forme) (param : Option Nat) (w0 w1 : Nat) (bad : Bool) : Option (Nat × Nat × Port × Nat × Bool) :=
  match Dest.ofBits (BitVec.ofNat 24 (bits w0 63 40)) with
  | some (.local_ u n p top) =>
    let pref := w0.testBit 39
    if bits w0 38 0 ≠ 0 ∨ top ≠ 0 ∨ !Dest.wf (.local_ u n p top) ∨ !g.portOk (u.toNat * 512 + n.toNat) p ∨
        (pref ∧ (param.isNone ∨ bits w1 63 6 ≠ 0)) then none
    else some (u.toNat, n.toNat, p, if pref then bits (param.getD 0) (64 * (w1 % 64) + 63) (64 * (w1 % 64)) else w1, bad)
  | _ => none

/-- The start tokens of a block of 65 entries, or the index of the first bad entry. -/
def startTokens (g : Forme) (param : Option Nat) (v : Nat) (bad : List (Nat × Nat)) :
    Except Nat (List (Nat × Nat × Port × Nat × Bool)) :=
  let entry (k : Nat) : Nat := bits v (128 * k + 127) (128 * k)
  let hit (k : Nat) : Bool := bad.any (fun r => decide (r.1 < 128 * k + 128) && decide (128 * k < r.1 + r.2))
  let n := bits (entry 0) 6 0
  if 64 < n ∨ bits (entry 0) 127 7 ≠ 0 then .error 0
  else (List.range n).foldr (fun i r =>
    match startEntry g param (bits (entry (i + 1)) 63 0) (bits (entry (i + 1)) 127 64) (hit (i + 1)), r with
    | none, _ => .error (i + 1)
    | some _, .error k => .error k
    | some t, .ok l => .ok (t :: l)) (.ok [])

/-- A cluster's start tokens set out under its root tag (06 R127, 20 R362). -/
def State.inject (s : State) (c : Nat) (l : List (Nat × Nat × Port × Nat × Bool)) : State :=
  l.foldl (fun s t => s.send 2 c 63 c t.1 (.token (.node c t.1 t.2.1 t.2.2.1) 0
    { scalar64 t.2.2.2.1 (rootTag c) with pmask := if t.2.2.2.2 then 1 else 0 })) s

/-- The parameter page of a slot: none where a lost table makes its read wait (03 R56, 20 R362). -/
def State.paramPage (s : State) (b : Bind) : State × Option (Option Nat) :=
  if b.param = 0 then (s, some none)
  else match s.hubRead 0 b.sid (ptrOff b.param) 4096 with
    | (s, .ok (v, _, _)) => (s, some (some v))
    | (s, .error k) => (s, if k = hubWaits then none else some none)

/-- A read of the start-token block fails, or waits for a lost table (03 R56, 20 R366). -/
def State.startReadFail (s : State) (k cause : Nat) : State :=
  if cause = hubWaits then s else s.startFail k (Code.LOAD_PLACE, loadLoc 7 0)

/-- Step 7: the block is read and checked, and its tokens are injected (20 R362, R365, R366). -/
def State.startBlock (s : State) (k : Nat) (g : Forme) (param : Option Nat) : State :=
  let sl := s.slot k
  let b := Bind.of sl.words
  match s.hubRead 0 b.sid (ptrOff b.start) 128 with
  | (s, .error e) => s.startReadFail k e
  | (s, .ok (v0, _, _)) =>
    match s.hubRead 0 b.sid (ptrOff b.start) (128 * (min 64 (bits v0 6 0) + 1)) with
    | (s, .error e) => s.startReadFail k e
    | (s, .ok (v, bad, _)) =>
      match startTokens g param v bad with
      | .error i => s.startFail k (Code.LOAD_PLACE, loadLoc 7 i)
      | .ok l =>
        let s := s.modSlot k (fun x => { x with waiting := false, starts := l })
        sl.clusters.foldl (fun s c => s.inject c l) s

/-- Steps 6 and 7 (20 R365). -/
def State.startTokensOf (s : State) (k : Nat) : State :=
  let sl := s.slot k
  let b := Bind.of sl.words
  if !s.predDrained b.die b.pred1 b.e1 || !s.predDrained b.die b.pred2 b.e2 then s
  else
    let s := sl.clusters.foldl (fun s c => s.clearViews c) s
    match s.formeAt b.sid (ptrOff b.forme) with
    | none => s.startFail k (Code.LOAD_PLACE, loadLoc 7 0)
    | some (g, _) => match s.paramPage b with
      | (s, none) => s
      | (s, some p) => s.startBlock k g p

/-- A predecessor has failed a bound slot with ROF = 0, and did not satisfy it early: the slot is to be freed (20 R370). -/
def State.doomed (s : State) (k : Nat) : Bool :=
  let b := Bind.of (s.slot k).words
  let failed (p : Nat) : Bool := p ≠ 0xFFF && ((s.counter p).status == 3 || (s.counter p).status == 4)
  (failed b.pred1 && s.freedBy b.pred1 k) || (failed b.pred2 && s.freedBy b.pred2 k)

/-- Dispatch starts a ready slot; it waits in step 6 for its predecessors' positions. A ready slot of PRIO 0 to 7 that
needs a drone's cluster pre-empts the drone, and a slot bound after a predecessor's fault is freed (20 R364, R365,
R370). -/
def execDispatchStart (slot : Nat) (s : State) : Host.Outcome State Fault Refusal :=
  let sl := s.slot slot
  .next (if sl.state = 2 ∧ sl.waiting then (if sl.pre = 0 then s.startTokensOf slot else s)
  else if sl.state = 1 ∧ s.doomed slot then s.freeBound slot
  else if !s.slotReady slot || !s.hub.toFence.isEmpty then s
  else match (if (Bind.of sl.words).prio ≤ 7 then s.droneOn slot else none) with
    | some j => s.preemptOp j
    | none =>
      if s.firstFor slot && sl.clusters.all (fun c => s.present? c && (s.cl c).open_) then
        let s := s.startSlot slot
        if (s.slot slot).state = 2 then s.startTokensOf slot else s
      else s)

/-! ## Ends (20 R367) -/

/-- A message that brings a cluster a token. -/
def Msg.tokenFor (m : Msg) (c : Nat) : Bool :=
  m.dst == c && (match m.pay with | .token .. => true | .portTok .. => true | .waveMark .. => true | _ => false)

/-- A TRIGGER held until the repair pass has run (03 R69). -/
def Pend.heldTrigger (p : Pend) : Bool := match p.why with | .trigger none => true | _ => false

/-- No token and no frame but the root is left in a cluster, and nothing of its unit is active; a held TRIGGER waits
for the end of the repair pass (20 R367, 03 R68). -/
def State.drained (s : State) (c : Nat) : Bool :=
  let k := s.ctx c
  k.matches_.isEmpty && k.held.isEmpty && k.acts.isEmpty && k.pend.all Pend.heldTrigger &&
    k.frames.all (fun p => p.1 == 0) && k.joins.isEmpty && k.deque.isEmpty && k.parked.isEmpty && k.mxCmds.isEmpty &&
    k.ports.all (fun p => p.2.stream.isNone && p.2.queue.isEmpty) && k.chans.all (fun p => !p.2.busy && !p.2.frozen) &&
    !s.netMsgs.any (fun m => m.tokenFor c && !s.stray m)

/-- The slots that a unit's stopped records had claimed are filled without data (05 R116). -/
def State.fillClaims (s : State) (c : Nat) : State :=
  let st : Stamp := { gal := c, pos := (s.gal c).p }
  ((s.ctx c).chans.foldl (fun s p => match p.2.rec_.bind (·.claim) with
    | some (o, n, slot) => s.modRing o n (fun g => g.fill slot (some st))
    | none => s) s).modCtx c (fun x => { x with chans := x.chans.map (fun (p : Nat × Channel) => (p.1, { p.2 with rec_ := none })) })

/-- The end of a unit, in order: release, exit value, trigger count, root frame, signal (20 R367). The cluster is free,
and its halt is over, but for that of a die's fault, which lasts to the reset (22 R402). -/
def State.endCluster (s : State) (c k : Nat) (fault : Bool) : State :=
  let sl := s.slot k
  let b := Bind.of sl.words
  let n := sl.clusters.length
  let s := (s.releasePkg c).fillClaims c
  match s.hubStore 0 1026 b.sid (b.area + 64 * n + 32 * sl.clusters.idxOf c) 32 [(0, 32, (s.ctx c).exitVal.getD 0, false)] with
  | none => s.hubStuck 0 b.sid (b.area + 64 * n + 32 * sl.clusters.idxOf c) 32
  | some s =>
    let s := if (s.ctx c).trigPos.isNone then s.countTrigger c else s
    let s := s.modCtx c (fun x => { x with frames := [], pend := [] })
    let s := s.send 5 c 0 hubAgent 0 (.signal b.lcnt fault)
    let s := s.modCl c (fun x => { x.orphaned (fun _ => true) with
      slot := none, stat := .idle, halt := if s.hub.toFence.isEmpty then .run else x.halt, stepLeft := 0, frozenPorts := false, quiesced := false, preReq := false,
      ckSel := none, forced := false, brkMark := false, replaying := [] })
    let a := (s.gal c).a
    let ends := sl.endA.put (endKey (sl.clusters.idxOf c) c) a
    s.modSlot k (fun x => { x with endA := ends, state := if n ≤ ends.length then 3 else x.state })

/-- Records that a unit has raised and that have not reached their queues (22 R389). -/
def State.recordsPending (s : State) (c : Nat) : Bool := s.hub.faults.any (fun r => r.cl == c)

/-- A quiescent unit ends by completion, or the repair pass is over; a unit ended by fault or cancel goes once its
channels are idle and the epilogue's writes have been made (20 R367, 05 R122, 03 R69, 15 R328). -/
def execUnitEnd (c : Nat) (s : State) : Host.Outcome State Fault Refusal :=
  let x := s.cl c
  .next (match x.slot with
  | none => s
  | some k =>
    if s.recordsPending c then s
    else match x.stat with
    | .ending =>
      if x.ctx.chans.all (fun p => !p.2.busy) && !x.banks.any (fun q => q.who == 1 && q.store.isSome && q.got.isNone) then
        s.endCluster c k true
      else s
    | .running =>
      if (s.slot k).waiting || x.stopped || !s.drained c then s
      else if x.ctx.repair then
        let s := s.modCtx c (fun y => { y with repair := false, repaired := true })
        if x.ctx.pend.isEmpty then s.endCluster c k false else s
      else if (x.ctx.skips && !x.ctx.repaired) || !x.ctx.pend.isEmpty then s
      else s.endCluster c k false
    | _ => s)

/-- The main pass is over and the skip lists are not empty: the start tokens are injected again (03 R68). -/
def execRepairPassStart (c : Nat) (s : State) : Host.Outcome State Fault Refusal :=
  let x := s.cl c
  .next (match x.slot with
  | none => s
  | some k =>
    if x.stat ≠ .running || x.stopped || (s.slot k).waiting || !s.drained c || x.ctx.repair || x.ctx.repaired || !x.ctx.skips then s
    else (s.modCtx c (fun y => { y with repair := true })).inject c (s.slot k).starts)

/-! ## Ends by fault and cancel -/

/-- Channels of a unit that has ended: the record in progress, in CH_CUR, goes on, and nothing more is fetched
(05 R101, R122). -/
def Channel.ended (h : Channel) : Channel :=
  match h.rec_ with
  | some _ => h
  | none => { h with busy := false, frozen := false, waiting := false }

/-- The unit's tokens are discarded, its accepted commands and its tasks with them (10 R232, 15 R328, 20 R367). What its
channels wait for stays. -/
def Ctx.discarded (x : Ctx) : Ctx :=
  { x with
    matches_ := [], held := [], acts := [], seqs := [], waves := [], waveNotes := [], pend := [],
    frames := x.frames.filter (fun p => p.1 == 0),
    deque := [], parked := [], joins := [], stealing := false, resuming := none, mxCmds := [],
    appWait := x.appWait.filter (fun k => decide (2 ≤ k % 8) && decide (k % 8 ≤ 5)), reqWait := x.reqWait.filter (fun a => a / 4 == 16)
    ports := x.ports.map (fun (p : Nat × StrPort) => (p.1, { p.2 with stream := none, queue := [] })),
    chans := x.chans.map (fun (p : Nat × Channel) => (p.1, p.2.ended)) }

/-- Keys of the line requests that belong to a unit: its atomics, streams, pops and records; and its channels'. -/
def unitAgent (a : Nat) : Bool := a == 101 || (decide (128 ≤ a) && decide (a < 4096)) || decide (8192 ≤ a)
def chanAgent (a : Nat) : Bool := a / 4 == 16

/-- Exchanges of agents with homes that no agent waits for any more. -/
def State.dropAsks (s : State) (c : Nat) (f : Nat → Bool) : State :=
  { s with netMsgs := s.netMsgs.filter (fun m => match m.pay with
      | .memReq d a _ => !(d == c && f a)
      | .memResp d a _ => !(d == c && f a)
      | _ => true) }

/-- The same in the cluster: its line requests, and the reads that its banks have still to serve; a store that has been
issued is applied. -/
def Cluster.dropReads (x : Cluster) (f : Nat → Bool) (who : Nat) : Cluster :=
  { x with lines := x.lines.filter (fun e => !f e.agent), here := x.here.filter (fun p => !f p.1)
           banks := x.banks.filter (fun q => decide (who < q.who) || q.store.isSome || some q.key == x.saveKey) }

/-- What a stream has accepted and not appended yet is appended before the stream goes (13 R286); a tile cut short is
poisoned, or discarded where it was for a buffer, and MXE_CKSUM is reported (15 R319). None: a ring is full, and it
waits. -/
def State.flushStream (s : State) (c : Nat) (x : Stream) (e : Ep) : Option State :=
  let cut := decide (0 < x.tileLeft)
  if !x.held.isEmpty && !s.mayAppend c (appPlace e.kindSource.2) x.held.length then none
  else
    let s := s.streamAppend c e (if cut then x.held.map (fun p => (p.1, p.2.1, 0, true)) else x.held)
    some (if cut then s.jobRecord Code.MXE_CKSUM c x.fir.unit x.fir.node 0 x.fir.tag 0 else s)

def State.flushStreams (s : State) (c : Nat) : Option State :=
  (s.ctx c).ports.foldl (fun r p => r.bind (fun s => match p.2.stream, s.ep c p.1 with
    | some t, some e => s.flushStream c t e
    | _, _ => some s)) (some s)

/-- A unit that a fault or cancel has ended discards its tokens, and dispatch cancels the other units of its launch. -/
def execUnitFault (c : Nat) (s : State) : Host.Outcome State Fault Refusal :=
  let x := s.cl c
  .next (if x.stat ≠ .faulting then s
  else match s.flushStreams c with
  | none => s
  | some s =>
    let s := (s.dropAsks c unitAgent).modCl c (fun x =>
      { (x.dropReads unitAgent 6).orphaned (fun w => w.chan.isNone) with ctx := x.ctx.discarded, stat := .ending, replaying := [] })
    (s.launch c).foldl (fun s d => s.modCl d (fun y =>
      if d ≠ c ∧ y.slot = x.slot ∧ y.stat = .running then { y with stat := .faulting } else y)) s)

end Sys2Proof.Machine
end

