-- ==== Sys2Proof/Machine/Heap.lean ====
section
/-!
DEFINITION. The code heap: the handover table, native images, and the swap of a running unit (21 R383, R385).
-/
namespace Sys2Proof.Machine

/-! ## The handover table (21 R385) -/

/-- The entry of the heap's obj-th object in the handover table. -/
def State.handoverPa (s : State) (obj : Nat) : Nat := s.hub.handover * 4096 + 64 + 64 * obj

/-- The entry, where there is a table and it holds the object. -/
def State.heapEntry (s : State) (obj : Nat) (h : HeapObj) : Option Nat :=
  let e := s.handoverPa obj
  if s.hub.handover ≠ 0 ∧ bits (s.mem.word e) 63 48 = h.sid ∧ bits (s.mem.word e) 31 0 = h.num then some e else none

/-- STATE of an object: Nymtor's, in its entry. -/
def State.heapState (s : State) (obj : Nat) (h : HeapObj) : Nat :=
  match s.heapEntry obj h with | some e => s.mem.word (e + 32) % 4 | none => h.state

/-- A directory word of the heap's obj-th object, one 64-bit write of the translator service. -/
def State.putDirectory (s : State) (obj : Nat) (h : HeapObj) (forme ptr : Nat) : State :=
  match s.heapEntry obj h with
  | some e =>
    if s.mem.word (e + 32) % 4 = 1 then
      { s with mem := s.mem.writeBytes (s.mem.word (e + 24) / 8 + 8 * forme) 8 (ptr % 2 ^ 64) }
    else s
  | none => s

/-! ## The swap to a native image (21 R383) -/

/-- The forme that a pointer of a space expands, with its native image where one is recorded. -/
def State.nativeOf (s : State) (sid ptr : Nat) : Option (DenseForme × Forme) :=
  s.hub.heap.findSome? (fun h => if h.sid ≠ sid then none else
    (h.obj.formes.zip h.dir).findSome? (fun p => if p.1.ptr = ptr then p.2.map (fun g => (p.1, g)) else none))

/-- A safe point: a frame has been freed in this cycle, and nothing but tokens waiting at compute PEs is left. -/
def State.safePoint (s : State) (c : Nat) : Bool :=
  let k := s.ctx c
  k.freed && k.frames.all (fun p => p.1 == 0) && k.held.isEmpty && k.matches_.all (fun e => e.inTable && decide (e.fir.unit < 32)) &&
    !s.netMsgs.any (fun m => m.toCluster c && !s.stray m) && k.ports.all (fun p => p.2.stream.isNone && p.2.queue.isEmpty) &&
    k.pend.isEmpty && k.chans.all (fun p => p.2.rec_.isNone) && k.mxCmds.isEmpty && k.seqs.isEmpty && k.waves.all (fun p => p.2.isEmpty) && k.waveNotes.isEmpty &&
    k.acts.isEmpty && k.deque.isEmpty && k.parked.isEmpty && k.joins.isEmpty

/-- A token's place under the root map. -/
def Firing.readdress (map : List (Nat × Nat)) (f : Firing) : Firing :=
  match map.find? (fun p => p.1 == f.unit * 512 + f.node) with
  | some p => { f with unit := p.2 / 512, node := p.2 % 512 }
  | none => f

/-- At a safe point a unit that runs an expanded forme changes to the native image, where that fits its reservation. -/
def State.nativeSwap (s : State) (c : Nat) : State :=
  let x := s.cl c
  if !x.expanded || x.stat ≠ .running || !s.safePoint c then s
  else match s.nativeOf x.sid (ptrOff x.formePtr.toNat) with
  | none => s
  | some (f, g) =>
    if x.ctx.resv < g.budget then s
    else s.modCl c (fun x => { x with
      forme := g.installed, formePtr := BitVec.ofNat 64 f.nptr, expanded := false
      ctx := { x.ctx with matches_ := x.ctx.matches_.map (fun e => { e with fir := e.fir.readdress f.rootMap }) } })

/-- The units of the clusters that move make the change in the cycle that is their first safe point. -/
def State.swapCycle (s : State) (l : List Nat) : State := l.foldl State.nativeSwap s

end Sys2Proof.Machine
end

