-- ==== Sys2Proof/Machine/Preempt.lean ====
section
/-!
DEFINITION. Debug halts, pre-emption, context images, restore and snapshot (04 R99, 05 R121, 22 R394, 23 R403 to R414).
-/
namespace Sys2Proof.Machine

/-! ## Debug halts (23 R413) -/

/-- A write of HALT starts a halt in MODE while STATE is 0. -/
def execHalt (c : Nat) (s : State) : Host.Outcome State Fault Refusal :=
  .next (match (s.cl c).halt with
  | .run => s.haltStart c (s.cl c).haltMode
  | _ => s)

/-- A write of RESUME while STATE is 2. -/
def execResumeHalt (c : Nat) (s : State) : Host.Outcome State Fault Refusal := .next (s.resume c)

/-- A firing that may stay unfinished in a halted cluster: a wait entry, or a STRMEND whose stream is stopped. -/
def Waiting.rests (w : Waiting) : Bool := holdsEntry w || (match w with | .strmend _ => true | _ => false)

/-- Every unit stands at a firing boundary, and no stream has a token in progress (22 R397, 23 R413). -/
def Ctx.unitsIdle (x : Ctx) : Bool :=
  x.pend.all (fun p => p.why.rests) &&
    x.ports.all (fun p => match p.2.stream with | some y => y.issued.isNone | none => true)

/-- A channel has met the halt's mode (05 R121); a pre-emption stops a record between two elements (23 R406). -/
def Channel.met (h : Channel) (pre freeze : Bool) : Bool := pre || !h.busy || (freeze && h.frozen)

/-- After STEPN firings the cluster halts again in MODE: a debug halt. -/
def Cluster.stepped (x : Cluster) : Cluster :=
  match x.halt with
  | .stepping => if x.stepLeft = 0 then { x with halt := .halting, haltAs := x.haltMode, brkMark := true } else x
  | _ => x

/-- Records that a cluster's launch has raised and that have not reached their queues: the fault that halts the cluster
may be another's (22 R389, R397). -/
def State.haltRecords (s : State) (c : Nat) : Bool :=
  s.recordsPending c || (match s.slotOf c with
    | some (k, sl) => s.hub.faults.any (fun r => r.slot == k && r.launch == (Bind.of sl.words).lcnt)
    | none => false)

/-- A halting cluster is halted once its units are idle, none of them replaying, and its channels have met the mode; the
record of the fault that halts it has been written by then (22 R389, R394). -/
def execHaltComplete (c : Nat) (s : State) : Host.Outcome State Fault Refusal :=
  let x := (s.cl c).stepped
  let done := (match x.halt with | .halting => true | _ => false) && x.ctx.unitsIdle && x.replaying.isEmpty &&
    !s.haltRecords c && x.ctx.chans.all (fun p => p.2.met x.preHalt x.haltAs)
  .next (s.setCl c (if done then { x with halt := .halted } else x))

/-! ## Pre-emption (23 R404 to R406) -/

/-- OP 01. -/
def execPreempt (slot : Nat) (s : State) : Host.Outcome State Fault Refusal := .next (s.preemptOp slot)

/-- A cluster that has not halted 5 µs after acceptance is halted at its firing boundaries, and its image is FORCED. -/
def execPreemptForceHalt (c : Nat) (s : State) : Host.Outcome State Fault Refusal :=
  let x := s.cl c
  .next (match x.slot with
  | none => s
  | some k =>
    if (s.slot k).pre ≠ 1 || !x.preReq || x.forced || x.halt == .halted ||
        decide (s.hub.time < (s.slot k).preTime + 5000) then s
    else s.modCl c (fun x => { x with halt := .halting, haltAs := x.haltAs && x.brkMark, forced := true }))

/-! ## Images (23 R407 to R410) -/

/-- Ranges of a checkpoint entry: store, base, length (23 R403). -/
def ckRanges (w : List Nat) : List (Nat × Nat × Nat) :=
  (List.range (bits (bindWord w 0) 63 58)).map (fun r =>
    let v := bindWord w (1 + r)
    (bits v 63 62, bits v 37 15, bits v 61 38))

/-- All of the three stores. -/
def wholeStores : List (Nat × Nat × Nat) := [(0, 0, 2 ^ 23), (1, 0, 2 ^ 23), (2, 0, 2 ^ 22)]

/-- The words a copy of the entry puts into the header. -/
def ckHeader (w : List Nat) : List Nat := [0, 33, 34, 35, 36].map (bindWord w)

/-- Checkpoint of the image: CKID, header words 4 to 8, live ranges. A forced image holds every bit and zeros. For a
cluster halted with no checkpoint the spec gives no CKID: its fields are free, and every bit is held (log 26). -/
def Cluster.ckOf (x : Cluster) (free : Nat → Nat) : Nat × List Nat × List (Nat × Nat × Nat) :=
  if x.forced then (0, [], wholeStores)
  else match x.ckSel with
    | some k => (k, ckHeader (x.forme.ckpts.get [] k), ckRanges (x.forme.ckpts.get [] k))
    | none => (free 0 % 256, (List.range 5).map (fun i => free (i + 1) % 2 ^ 64), wholeStores)

/-- The waits of a context as ready matches: they have not fired, and are tested afresh (16 R330). A SYSQ's request has
been submitted, and its entry goes on waiting (log 26). -/
def Ctx.unwait (x : Ctx) : Ctx :=
  let again (p : Pend) : Bool := match p.why with | .wait => true | .acquiring _ _ => true | _ => false
  { x with
    pend := x.pend.filter (fun p => !again p)
    matches_ := x.matches_ ++ (x.pend.filter again).map (fun p => ({ seq := p.fir.seq, fir := p.fir, wait := p.age } : MEntry)) }

/-- A context in which nothing is under way: a read that had not returned is made again. -/
def Ctx.still (x : Ctx) : Ctx :=
  { x with
    mxCmds := x.mxCmds.map (fun (m : MxCmd) => { m with key := none })
    ports := x.ports.map (fun (p : Nat × StrPort) =>
      (p.1, { p.2 with stream := p.2.stream.map (fun (y : Stream) => { y with missed := false, reads := ([], []) }) }))
    chans := x.chans.map (fun (p : Nat × Channel) =>
      (p.1, { p.2 with rec_ := p.2.rec_.map (fun (r : CopyRec) => { r with key := none, wkey := none }) }))
    stealing := false, appWait := [], reqWait := [], setNow := [], clrNow := 0 }

/-- The context as an image holds it: the biases hold the views (23 R408). -/
def State.contextOf (s : State) (c : Nat) : Ctx :=
  { (s.ctx c).unwait.still with
    tlBias := (List.range 4).map (fun k => (k, s.chView c k))
    mxBias := (List.range 4).map (fun k => (k, s.mxView c k)) }

/-- The image of a cluster, the idx-th of a slot's partition. -/
def State.imageFor (s : State) (c k idx area : Nat) (halted : Bool) : Image :=
  let x := s.cl c
  let ck := x.ckOf (fun i => Config.free (s.freeCtr + i))
  { ctx := s.contextOf c, cluster := c, slot := k, gpos := x.gal.a, forme := x.formePtr, time := s.hub.time,
    forced := x.forced, halted := halted, ckid := ck.1, entry := ck.2.1, ranges := ck.2.2, expanded := x.expanded,
    area := area, index := idx }

/-- Physical byte address of an image. -/
def imagePa (area idx : Nat) : Nat := area * 4096 + idx * 2 ^ 22
def Image.pa (im : Image) : Nat := imagePa im.area im.index

/-- Words or entries of a live range. -/
def rangeMark (r : Nat × Nat × Nat) : SaveMark :=
  let unit := if r.1 = 2 then 32 else 256
  (r.1, r.2.1 / unit, (r.2.1 + r.2.2 - 1) / unit)

/-- A mark takes its place in ascending order: the A-buffer's before the W-buffer's before the C-store's, each by offset
(23 R409). -/
def insertMark (m : SaveMark) : List SaveMark → List SaveMark
  | [] => [m]
  | n :: rest => if rankLt [n.1, n.2.1] [m.1, m.2.1] then n :: insertMark m rest else m :: n :: rest

/-- The pending marks of an image's live ranges, in the order of the save. -/
def Image.marks (im : Image) : List SaveMark := (im.ranges.filter (fun r => r.2.2 ≠ 0)).foldr (fun r l => insertMark (rangeMark r) l) []

/-- What one cycle of the save reads of a mark, up to 2048 bits, and what it leaves (23 R409). -/
def saveChunk (m : SaveMark) : SaveMark × List SaveMark :=
  let n := if m.1 = 2 then 64 else 8
  ((m.1, m.2.1, min m.2.2 (m.2.1 + n - 1)), if m.2.1 + n ≤ m.2.2 then [(m.1, m.2.1 + n, m.2.2)] else [])

/-- The words or entries of a mark. -/
def markWords (m : SaveMark) : List Nat := (List.range (m.2.2 + 1 - m.2.1)).map (· + m.2.1)

/-- Words that the save reads join those it has read; what a held write has made it read already stays. -/
def Image.take (im : Image) (l : List (Nat × Nat × Nat)) : Image :=
  { im with reading := none
            saved := im.saved ++ l.filter (fun p => !im.saved.any (fun e => e.1 == p.1 && e.2.1 == p.2.1)) }

/-- Everything that marks name and a store lists: what a word that no store lists holds is zero. -/
def Cluster.allSaved (x : Cluster) (marks : List SaveMark) : List (Nat × Nat × Nat) :=
  let y : Cluster := { x with marks := marks }
  let of (store : Nat) (keys : List Nat) : List (Nat × Nat × Nat) :=
    (keys.filter (fun k => y.marked store k)).map (fun k => (store, k, x.stored store k))
  of 0 (x.abuf.map (·.1)) ++ of 1 (x.wbuf.map (·.1)) ++ of 2 (x.cstore.map (·.1))

/-- A store's words in an image. -/
def Image.store (im : Image) (store : Nat) : Tbl Nat :=
  im.saved.foldl (fun t e => if e.1 = store then t.put e.2.1 e.2.2 else t) []

/-- The header's sixteen words. -/
def Image.header (im : Image) : List Nat :=
  [bn im.complete 63 + bn im.forced 62 + bn im.halted 61 + (if im.forced then 0 else im.ckid % 256 * 2 ^ 53) +
     im.cluster % 1024 * 2 ^ 43,
   im.gpos, im.forme.toNat, im.time] ++ (List.range 5).map (fun i => if im.forced then 0 else bindWord im.entry i) ++
    List.replicate 7 0

/-- A C-store entry from what `Cluster.stored` holds. -/
def entOf (v : Nat) : CEnt := { code := v % 2 ^ 32, ty := v.testBit 32, pz := v.testBit 33 }

/-- Entries of a range of the C-store. -/
def rangeEntries (base len : Nat) : List Nat := (List.range ((base + len + 31) / 32 - base / 32)).map (· + base / 32)

/-- One live range reaches the HBM image at its own offset. -/
def Image.putRange (im : Image) (m : Memory) (r : Nat × Nat × Nat) : Memory :=
  if r.1 = 2 then (rangeEntries r.2.1 r.2.2).foldl (fun m k =>
    let e := entOf ((im.store 2).get 0 k)
    m.writeBytes (im.pa + 0x300000 + 8 * k) 8 (Config.imageEntry e.code e.ty e.pz)) m
  else m.writeBits ((im.pa + 0x100000 * (r.1 + 1)) * 8 + r.2.1) r.2.2 (bufRead (im.store r.1) r.2.1 r.2.2)

/-- The image in HBM: context, live ranges, then the header. It makes no galley entry (23 R404). -/
def State.writeImage (s : State) (im : Image) : State :=
  let m := s.mem.writeList (im.pa + 0x1000) ((Config.contextBytes s.freeCtr).take 327680)
  let m := im.ranges.foldl im.putRange m
  { s with mem := m.writeBytes im.pa 128 (packWords im.header), images := s.images.put im.pa im, freeCtr := s.freeCtr + 1 }

/-! ## The swap (23 R406) -/

/-- What a stopped stream has accepted and not appended is appended; an MXOUT tile in progress stays with its stream
(15 R319). None: a ring is full, and it waits. -/
def State.flushStopped (s : State) (c port : Nat) (x : Stream) (e : Ep) : Option State :=
  if decide (0 < x.tileLeft) || x.held.isEmpty then some s
  else if !s.mayAppend c (appPlace e.kindSource.2) x.held.length then none
  else some ((s.streamAppend c e x.held).putStream c port { x with held := [] })

/-- The same of a stopped record's elements. -/
def State.flushRecord (s : State) (c k : Nat) (q : CopyRec) : Option State :=
  if !q.held.isEmpty && !s.mayAppend c (2 + k) q.held.length then none
  else
    let p := s.bufFlush c q
    let a := p.1.copyAppend c k p.2 true
    some (a.1.modChan c k (fun h => { h with rec_ := some a.2 }))

/-- What stopped streams and records have moved is appended (23 R406). -/
def State.flushAll (s : State) (c : Nat) : Option State :=
  let r := (s.ctx c).ports.foldl (fun r p => r.bind (fun s => match p.2.stream, s.ep c p.1 with
    | some t, some e => s.flushStopped c p.1 t e
    | _, _ => some s)) (some s)
  (s.ctx c).chans.foldl (fun r p => r.bind (fun s => match p.2.rec_ with
    | some q => s.flushRecord c p.1 q
    | none => some s)) r

/-- What the cluster keeps when its context has left it: its timelines, and the high marks of its tables, which are no
part of the context (06 R149, 23 R407). -/
def Ctx.vacated (x : Ctx) : Ctx :=
  { framesHigh := x.framesHigh, ovfHigh := x.ovfHigh
    chans := x.chans.map (fun (p : Nat × Channel) => (p.1, ({ tl := p.2.tl } : Channel))) }

/-- The cluster is free for dispatch. -/
def Cluster.vacated (x : Cluster) : Cluster :=
  { x.orphaned (fun _ => true) with
    ctx := x.ctx.vacated, slot := none, stat := .idle, halt := .run, stepLeft := 0, frozenPorts := false,
    quiesced := false, preReq := false, ckSel := none, savedWait := false, forced := false, brkMark := false, quiet := 0,
    replaying := [], hist := [] }

/-- Values of remote A-buffer reads that nothing waits for any more, and steal requests from the cluster or to it, which
are repeated (10 R229). -/
def State.dropVals (s : State) (c : Nat) : State :=
  { s with netMsgs := s.netMsgs.filter (fun m => match m.pay with
      | .abufVal d _ _ => d != c
      | .steal t v => t != c && v != c
      | _ => true) }

/-- One cluster releases and swaps its context into its shadow store. -/
def State.swapOut (s : State) (c k idx : Nat) : State :=
  let gone (a : Nat) : Bool := unitAgent a || chanAgent a
  let s := ((s.releasePkg c).dropAsks c gone).dropVals c
  let im := s.imageFor c k idx (s.slot k).preArea (s.cl c).brkMark
  let s := s.modCl c (fun x => { (x.dropReads gone 7).vacated with shadow := some im, marks := im.marks })
  { s with images := s.images.del im.pa, freeCtr := s.freeCtr + 6 }

/-- Clusters of a partition that a slot's units still hold, with their places in it. -/
def State.heldBy (s : State) (k : Nat) : List (Nat × Nat) :=
  (s.slot k).clusters.zipIdx.filter (fun p => (s.cl p.1).slot == some k)

/-- An answer to a read or a steal request, which is no token and no store (23 R406). -/
def MsgPay.answersRead : MsgPay → Bool
  | .memResp .. => true
  | .abufVal .. => true
  | .steal .. => true
  | _ => false

/-- No token or store for a cluster is under way (23 R406 step 5). -/
def State.linksQuiet (s : State) (c : Nat) : Bool :=
  !s.netMsgs.any (fun m => m.toCluster c && !m.pay.answersRead && !s.stray m)

/-- A cluster of a pre-empted launch may be swapped: it has halted, its records have been written, no token for it is
under way, and its banks have made every store. -/
def State.swappable (s : State) (c : Nat) : Bool :=
  let x := s.cl c
  x.preReq && x.halt == .halted && x.stat == .running && x.ctx.unitsIdle && x.replaying.isEmpty &&
    !s.recordsPending c && s.linksQuiet c && !x.banks.any (fun q => q.store.isSome && q.got.isNone)

/-- Once every cluster has halted and no message for the partition is under way, each swaps. A launch that has ended
meanwhile ends the operation. -/
def execContextSwap (slot : Nat) (s : State) : Host.Outcome State Fault Refusal :=
  let sl := s.slot slot
  let l := s.heldBy slot
  .next (if s.hub.preStat = 1 ∧ s.hub.preRun = slot ∧ sl.state ≠ 2 then s.preResult 1
  else if sl.state ≠ 2 || sl.pre ≠ 1 || !l.all (fun p => s.swappable p.1) then s
  else match l.foldl (fun r p => r.bind (fun s => s.flushAll p.1)) (some s) with
    | none => s
    | some s => ((l.foldl (fun s p => s.swapOut p.1 slot p.2) s).modSlot slot (fun x => { x with pre := 2 })).preResult 0)

/-- One cycle of the save reads the next words of the live ranges: an A-buffer's through its banks, ahead of every other
request of the copy port, a W-buffer's row and C-store entries through their ports. When nothing is left, the image's
HBM copy is complete (02 R35, R37, 23 R409, R410). -/
def execLiveRangeSave (c : Nat) (s : State) : Host.Outcome State Fault Refusal :=
  let x := s.cl c
  .next (match x.shadow with
  | none => s
  | some im =>
    if im.complete then s
    else match x.marks with
    | [] =>
      let im := { im with complete := true }
      (s.modCl c (fun x => { x with shadow := some im })).writeImage im
    | m :: rest =>
      let chunk := saveChunk m
      let ks := markWords chunk.1
      let got (v : Nat → Nat) (s : State) : State := s.modCl c (fun x =>
        { x with shadow := some (im.take (ks.map (fun k => (m.1, k, v k)))), marks := chunk.2 ++ rest })
      if m.1 ≠ 0 then got (x.stored m.1) s
      else match im.reading with
      | none =>
        let (n, s) := s.fresh
        (s.bankAsk c n 7 (256 * m.2.1) (256 * ks.length) none).modCl c (fun x => { x with shadow := some { im with reading := some n } })
      | some n =>
        if x.bankDone n then got (fun k => x.bankValue n / 2 ^ (256 * (k - m.2.1)) % 2 ^ 256) (s.bankDrop c n) else s)

/-! ## Restoring (23 R411) -/

/-- A tag whose owner is a moved cluster names the cluster in its place. -/
def moveTag (m : Nat → Nat) (t : Tag) : Tag :=
  if tagDie t < 4 then mkTag (m (tagCluster t)) (tagSlot t) (tagIter t) else t

def moveFrame (m : Nat → Nat) (f : Nat) : Nat := (moveTag m (BitVec.ofNat 32 (f * 256))).toNat / 256

def Token.move (m : Nat → Nat) (t : Token) : Token :=
  { t with tag := moveTag m t.tag, aux := auxOf (moveTag m (auxTag t.aux)) }

def Firing.move (m : Nat → Nat) (f : Firing) : Firing :=
  { f with cl := m f.cl, tag := moveTag m f.tag, a := f.a.map (Token.move m), b := f.b.map (Token.move m),
           c := f.c.map (Token.move m), t := f.t.map (Token.move m) }

def Place.move (m : Nat → Nat) : Place → Place
  | .node c u n p => .node (m c) u n p
  | .stream c p => .stream (m c) p

def MxOp.move (m : Nat → Nat) : MxOp → MxOp
  | .mxin r k fp src pitch t => .mxin r k fp src pitch (t.move m)
  | o => o

def StrPort.move (m : Nat → Nat) (p : StrPort) : StrPort :=
  { p with stream := p.stream.map (fun x => { x with fir := x.fir.move m })
           queue := p.queue.map (fun q => { q with tok := q.tok.move m }) }

def WaveEnt.move (m : Nat → Nat) (e : WaveEnt) : WaveEnt := { e with tag := moveTag m e.tag }

/-- Every tag and token header of a context moved with its partition; payloads are data and stay. -/
def Ctx.move (m : Nat → Nat) (x : Ctx) : Ctx :=
  { x with
    matches_ := x.matches_.map (fun e => { e with fir := e.fir.move m, held := none, claim := e.claim.map (fun q => (m q.1, q.2)) })
    frames := x.frames.map (fun (p : Nat × Frame) => (p.1, { p.2 with parent := p.2.parent.map (moveTag m) }))
    held := x.held.map (fun h => { h with dst := h.dst.move m, tok := h.tok.move m })
    acts := x.acts.map (fun a => { a with fir := a.fir.move m, v := a.v.move m })
    seqs := x.seqs.map (fun e => { e with frame := moveFrame m e.frame })
    waves := x.waves.map (fun (p : Nat × List WaveEnt) => (p.1, p.2.map (WaveEnt.move m)))
    waveNotes := x.waveNotes.map (fun (n : WaveNote) =>
      { n with tag := moveTag m n.tag, old := n.old.map (WaveEnt.move m), new := n.new.map (WaveEnt.move m) })
    pend := x.pend.map (fun p => { p with fir := p.fir.move m })
    ports := x.ports.map (fun (p : Nat × StrPort) => (p.1, p.2.move m))
    mxCmds := x.mxCmds.map (fun q => { q with fir := q.fir.move m, op := q.op.move m }) }

/-- A saved channel on a target whose timeline stands at tl and whose galley stands at a: a record that had not
started is fetched afresh (23 R407). -/
def Channel.restored (h : Channel) (tl a : Nat) : Channel :=
  let fresh (r : CopyRec) : Channel := { h with tl := tl, issueA := a, head := BitVec.ofNat 64 r.ptr, cur := 0, rec_ := none }
  match h.rec_ with
  | some r => if r.started then { h with tl := tl, issueA := a } else fresh r
  | none => { h with tl := tl, issueA := a }

/-- A difference of timeline values modulo 2^64. -/
def tlMinus (a b : Nat) : Nat := zextInt ((a : Int) - (b : Int)) 64

/-- The context on its target: moved, with the biases that keep its views (23 R408). -/
def State.contextOn (s : State) (t : Nat) (m : Nat → Nat) (k : Ctx) : Ctx :=
  let x := s.cl t
  let k := k.move m
  { k with
    framesHigh := max x.ctx.framesHigh k.frames.length, ovfHigh := max x.ctx.ovfHigh k.ovfUsed
    chans := (List.range 4).map (fun i => (i, (k.chan i).restored (x.ctx.chan i).tl x.gal.a))
    tlBias := (List.range 4).map (fun i => (i, tlMinus (x.ctx.chan i).tl (k.tlBias.get 0 i)))
    mxBias := (List.range 4).map (fun i => (i, tlMinus (x.mxTl.get 0 i) (k.mxBias.get 0 i))) }

/-- A live range is copied back into its store; the A-buffer's banks have taken theirs before (23 R411). -/
def Cluster.loadRange (im : Image) (x : Cluster) (r : Nat × Nat × Nat) : Cluster :=
  if r.1 = 0 then x
  else if r.1 = 1 then x.wbufSet r.2.1 r.2.2 (bufRead (im.store 1) r.2.1 r.2.2)
  else (rangeEntries r.2.1 r.2.2).foldl (fun x k => x.cstoreSet k (entOf ((im.store 2).get 0 k))) x

/-- The records of a restored deque past its 64th are written to the new cluster's slots (10 R222). -/
def State.respill (s : State) (c : Nat) : State :=
  let x := s.ctx c
  ((x.deque.drop dequeDie).zipIdx).foldl (fun s p =>
    { s with mem := s.mem.writeBytes (s.spillPa c (x.spillTop - 1 - p.2)) 256 p.1.slotBits }) s

/-- One target cluster takes an image (steps 1 to 6). The marker of its acquire carries the CL_SID it has just written
(04 R85, R99). -/
def State.restoreOne (s : State) (k t : Nat) (m : Nat → Nat) (im : Image) (g : Forme) (ex : Bool) : State :=
  let sl := s.slot k
  let sid := (Bind.of sl.words).sid
  let s := ((s.modCl t (fun x => x.setSid sid)).clearViews t).acquire t [(im.cluster, im.gpos)]
  let s := s.modCl t (fun x =>
    let y := im.ranges.foldl (Cluster.loadRange im) x
    { y with
      ctx := s.contextOn t m im.ctx
      slot := some k, stat := .running, forme := g.installed, formePtr := im.forme
      expanded := ex, halt := if im.halted then .halted else .run, haltAs := true, stepLeft := 0
      frozenPorts := sl.trapSeen && !sl.mapDone, quiesced := false, preReq := false, ckSel := none, savedWait := false
      forced := false, brkMark := im.halted, quiet := 0 })
  s.respill t

/-- The target partition of a restore, as its registers named it when the OP was accepted. -/
def State.restoreWords (s : State) (k : Nat) : List Nat :=
  let sl := s.slot k
  movePart sl.words sl.target.1 sl.target.2.1 sl.target.2.2

/-- The copy port's writes of a target: the A-buffer's live ranges set out for their banks (02 R35, 23 R411). -/
def State.loadAsk (s : State) (key t : Nat) (im : Image) : State :=
  (im.ranges.filter (fun r => r.1 == 0)).foldl (fun s r =>
    s.bankAsk t key 7 r.2.1 r.2.2 (some (bufRead (im.store 0) r.2.1 r.2.2))) s

/-- They have all been made. -/
def State.loadDone (s : State) (key : Nat) (part : List Nat) : Bool :=
  part.all (fun t => !(s.cl t).banks.any (fun q => q.key == key && !q.done))

/-- The images of a slot leave the shadow stores and HBM. -/
def State.dropImages (s : State) (k : Nat) : State :=
  { s with cls := s.cls.map (fun (p : Nat × Cluster) => (p.1, p.2.dropImage k))
           images := s.images.filter (fun p => p.2.slot != k) }

/-- The restore fails: the launch is cancelled, and the job gets a record (20 R360). -/
def State.restoreFail (s : State) (k code result : Nat) : State :=
  let sl := s.slot k
  let b := Bind.of sl.words
  let s := (s.unreserve k).modSlot k (fun x => { x with pre := 2, loading := none })
  let s := s.pushFault { queue := b.jcnt, code := code, cl := sl.clusters.head?.getD 0, origin := 5, sid := b.sid, slot := k,
                         launch := b.lcnt }
  (s.cntCancel b.lcnt).preResult result

/-- A cluster's shadow store holds the image of a place of a slot's partition. -/
def Cluster.holdsImage (x : Cluster) (k idx : Nat) : Option Image :=
  match x.shadow with
  | some im => if im.slot = k ∧ im.index = idx then some im else none
  | none => none

/-- The image that a target takes for a place: its own shadow store's where that can be read, else the complete HBM copy
at the operation's BASE (23 R411 step 2). -/
def State.savedImage (s : State) (k : Nat) (bad : List Nat) (t idx : Nat) : Option Image :=
  let own := match (s.cl t).holdsImage k idx with
    | some im => if im.complete && !bad.contains t then some im else none
    | none => none
  match own, s.images.find (imagePa (s.slot k).preArea idx) with
  | some im, _ => some im
  | none, some im => if im.slot = k ∧ im.index = idx ∧ im.complete then some im else none
  | none, none => none

/-- A shadow store that can be read is still writing the image of a place through, to where the operation reads. -/
def State.writing (s : State) (k : Nat) (bad : List Nat) (idx : Nat) : Bool :=
  s.cls.any (fun p => match p.2.holdsImage k idx with
    | some im => !im.complete && !bad.contains p.1 && im.area == (s.slot k).preArea
    | none => false)

/-- No shadow store and no complete HBM copy gives the image. -/
def State.contextLost (s : State) (k : Nat) (bad : List Nat) (t idx : Nat) : Bool :=
  (s.savedImage k bad t idx).isNone && !s.writing k bad idx

/-- The forme of an image, where it still loads. -/
def State.imageForme (s : State) (k : Nat) (part : List Nat) (im : Image) : Except Nat (Forme × Bool) :=
  match s.formeAt (Bind.of (s.slot k).words).sid (ptrOff im.forme.toNat) with
  | none => .error Code.LOAD_ILLEGAL
  | some (g, ex) =>
    match g.loadErr (fun c => part.contains c) with
    | some e => .error e.1
    | none => if g.fits then .ok (g, ex) else .error Code.LOAD_BUDGET

/-- Every target takes its image; the slot's partition is the target's. -/
def State.restoreAll (s : State) (k : Nat) (w : List Nat) (part : List Nat) (l : List (Nat × Image × Forme × Bool)) : State :=
  let old := (s.slot k).clusters
  let m (c : Nat) : Nat := if old.contains c then (nth part (old.idxOf c)).getD c else c
  let s := l.foldl (fun s p => s.restoreOne k p.1 m p.2.1 p.2.2.1 p.2.2.2) s
  ((((s.unreserve k).dropImages k).modSlot k (fun x => { x with words := w, clusters := part, pre := 0, loading := none }))).preResult 0

/-- OP 10 is accepted; once every image can be read the copy ports write the live ranges back, and when they have, and
what the saved launch had published can be seen, the partition is restored. The spec names no RESULT for a forme that no longer loads: it is free (log 27). -/
def execRestore (slot : Nat) (bad : List Nat) (s : State) : Host.Outcome State Fault Refusal :=
  let sl := s.slot slot
  let w := s.restoreWords slot
  let b := Bind.of w
  let part := partClusters b.die b.row0 b.col0 b.hm1 b.wm1
  let places := part.zipIdx.filter (fun p => !sl.ended p.2)
  .next (if sl.pre ≠ 3 then s.restoreOp slot
  else if sl.loading.isNone && places.any (fun p => s.contextLost slot bad p.1 p.2) then s.restoreFail slot Code.CONTEXT_LOST 4
  else match places.mapM (fun p => (s.savedImage slot bad p.1 p.2).map (fun im => (p.1, im))) with
    | none => s
    | some ims =>
      match ims.mapM (fun p => (s.imageForme slot part p.2).map (fun g => (p.1, p.2, g))) with
      | .error code => { s.restoreFail slot code (Config.free s.freeCtr % 256) with freeCtr := s.freeCtr + 1 }
      | .ok l =>
        match sl.loading with
        | none =>
          let (n, s) := s.fresh
          (ims.foldl (fun s p => s.loadAsk n p.1 p.2) s).modSlot slot (fun x => { x with loading := some n })
        | some n =>
        if !s.loadDone n part then s else
        let seen (p : Nat × Image × Forme × Bool) : Bool := s.acqSeen p.1 [(p.2.1.cluster, p.2.1.gpos)]
        if l.all (fun p => seen p && s.mayAppend p.1 6 1) then s.restoreAll slot w part l
        else l.foldl (fun s p => s.waitApp p.1 6 (seen p && !s.mayAppend p.1 6 1)) s)

/-! ## Snapshots (23 R412) -/

/-- The image of a debug-halted cluster is written with the cluster left in place. -/
def State.snapOne (s : State) (c k idx : Nat) : State :=
  let s := s.releasePkg c
  let x := s.cl c
  let im := s.imageFor c k idx (s.slot k).preArea true
  let saved := x.allSaved im.marks
  ({ s with freeCtr := s.freeCtr + 6 }.modCl c (fun y => { y with shadow := none })).writeImage
    { im with saved := saved, complete := true }

/-- OP 11 is accepted; once no message for the partition is under way, the images of the slot's clusters are written. A
cluster that has been resumed meanwhile ends the operation. -/
def execSnapshot (slot : Nat) (s : State) : Host.Outcome State Fault Refusal :=
  let l := s.heldBy slot
  .next (if s.hub.preStat = 0 then s.snapshotOp slot
  else if s.hub.preStat ≠ 2 ∨ s.hub.preRun ≠ slot then s
  else if l.any (fun p => (s.cl p.1).halt != .halted) then s.preResult 1
  else if !l.all (fun p => s.linksQuiet p.1) then s
  else match l.foldl (fun r p => r.bind (fun s => s.flushAll p.1)) (some s) with
    | none => s
    | some s => (l.foldl (fun s p => s.snapOne p.1 slot p.2) s).preResult 0)

end Sys2Proof.Machine
end

