-- ==== Sys2Proof/Machine/Queues.lean ====
section
/-!
DEFINITION. The firmware's queues: requests from fabric, graphs, binding by level and deficit round robin, ageing, and
drones (03 R57, 16 R342, 20 R371 to R374). What the firmware decides and the spec leaves open is free (log 7).
-/
namespace Sys2Proof.Machine

/-! ## Leases of a request (03 R57) -/

/-- A lease descriptor, or a launch area of n clusters, that the firmware refuses. -/
def leaseBad (w : List Nat) (area n : Nat) : Bool :=
  let l := leaseSlots w
  (List.range 16).any (fun j => bits (bindWord w (2 * j)) 63 60 ≠ 0 || bits (bindWord w (2 * j + 1)) 61 60 ≠ 0) ||
    l.any (fun r => r.2.1 == 0 || decide (2 ^ 60 < r.1 + r.2.1)) ||
    !leaseOk l .write area (mapOffset n + 4096 * n)

/-- LEASE_BAD: the descriptor cannot be read, or is refused. None: its read waits for a lost table (03 R56). -/
def State.leaseCheck (s : State) (b : Bind) : State × Option Bool :=
  match s.hubRead 0 b.sid (ptrOff b.lease) 2048 with
  | (s, .ok (v, bad, _)) =>
    (s, some (!bad.isEmpty || leaseBad ((List.range 32).map (fun j => bits v (64 * j + 63) (64 * j))) b.area ((b.hm1 + 1) * (b.wm1 + 1))))
  | (s, .error k) => (s, if k = hubWaits then none else some true)

/-! ## Requests from fabric (16 R342, 20 R374) -/

/-- A counter that a job may name. -/
def Hub.owns (h : Hub) (job n : Nat) : Bool := n == job || h.jobCnts.get 0xFFF n == job

/-- A counter field that may be empty. -/
def Hub.ownsOr (h : Hub) (job n : Nat) : Bool := n == 0xFFF || h.owns job n

/-- A queue; Nymtor's system queue is of level 6 (20 R373; log 7). -/
def State.queue (s : State) (q : Nat) : SubQueue :=
  s.hub.queues.get (if q = s.hub.sysQueue then { level := 6, quantum := 1 } else {}) q
def State.modQueue (s : State) (q : Nat) (f : SubQueue → SubQueue) : State :=
  s.modHub (fun h => { h with queues := h.queues.put q (f (s.queue q)) })

/-- Partitions of present clusters: DIE, ROW0, COL0, HM1, WM1. -/
def State.partitions (s : State) : List (Nat × Nat × Nat × Nat × Nat) :=
  s.liveDies.flatMap (fun d => (List.range 16).flatMap (fun r => (List.range 16).flatMap (fun c =>
    (List.range (16 - r)).flatMap (fun h => (List.range (16 - c)).filterMap (fun w =>
      if (partClusters d r c h w).all s.present? then some (d, r, c, h, w) else none)))))

/-- Word 0 of a record for a launch from fabric: PRIO and SID are the queue's and the job's; the spec gives the record
no partition and no ROF, which are free (log 28). -/
def State.fabricWord0 (s : State) (prio sid : Nat) : Nat :=
  let l := s.partitions
  let p := (nth l (Config.free s.freeCtr % max 1 l.length)).getD (0, 0, 0, 0, 0)
  2 ^ 63 + Config.free (s.freeCtr + 1) % 2 * 2 ^ 62 + prio % 16 * 2 ^ 58 + p.1 * 2 ^ 55 + p.2.1 * 2 ^ 51 +
    p.2.2.1 * 2 ^ 47 + p.2.2.2.1 * 2 ^ 43 + p.2.2.2.2 * 2 ^ 39 + sid % 2 ^ 16 * 2 ^ 16

/-- A launch record that the firmware refuses, its descriptor aside. -/
def State.launchRefused (s : State) (job : Nat) (w : List Nat) : Bool :=
  let b := Bind.of w
  let e := s.commitErr w 0
  (e ≠ 0 && e ≠ 6) || s.bindCancelled b || b.jcnt ≠ job || !s.hub.owns job b.lcnt || !s.hub.ownsOr job b.gcnt || !s.hub.ownsOr job b.pcnt ||
    !s.hub.ownsOr job b.pred1 || !s.hub.ownsOr job b.pred2

/-- The bind words of a launch record (20 R374). -/
def State.fabricBind (s : State) (q : Nat) (w : List Nat) : List Nat :=
  s.fabricWord0 (s.queue q).level (s.queue q).sid :: w.drop 1

/-- The request of a record of eight words, or none where it is refused; the descriptor of a launch has been checked. -/
def State.requestOf (s : State) (q : Nat) (w : List Nat) (leaseBad : Bool) : Option Request :=
  let sq := s.queue q
  let w0 := bindWord w 0
  let kind := bits w0 63 60
  let cnt := bits w0 59 48
  let bind := s.fabricBind q w
  let ok := if kind = 0 then cnt == 0 && !leaseBad && !s.launchRefused sq.job bind
    else (w.drop 1).all (· == 0) && (if kind = 1 then (s.hub.graphs.has cnt && !s.cancelled sq.job && (s.queue (s.hub.graphs.get {} cnt).queue).job == sq.job)
      else kind == 2 && s.hub.owns sq.job cnt)
  if bits w0 47 0 ≠ 0 ∨ !ok then none
  else some { queue := q, kind := kind, cnt := cnt, words := if kind = 0 then bind else [], since := s.hub.time }

/-- Statuses that hold of a request: 1 queue full, 2 not the job's, 3 refused. Where several hold the spec does not
say which is answered: it is free among them (log 28). -/
def State.sysqStatus (s : State) (job q : Nat) (r : Option Request) : Nat :=
  let sq := s.queue q
  let l := (if sq.depth ≤ sq.reqs.length then [1] else []) ++ (if sq.job = job then [] else [2]) ++ (if r.isNone then [3] else [])
  (nth l (Config.free (s.freeCtr + 2) % max 1 l.length)).getD 0

/-- A SYSQ's answer reaches its wait entry, wherever its context is. -/
def Ctx.answer (x : Ctx) (k v : Nat) : Ctx :=
  { x with pend := x.pend.map (fun (p : Pend) => if p.id = k then { p with why := .sysq (some v) } else p) }

def Image.answer (im : Image) (k v : Nat) : Image := { im with ctx := im.ctx.answer k v }

def State.answer (s : State) (k v : Nat) : State :=
  { s with cls := s.cls.map (fun (p : Nat × Cluster) => (p.1, { p.2 with ctx := p.2.ctx.answer k v, shadow := p.2.shadow.map (fun im => im.answer k v) }))
           images := s.images.map (fun (p : Nat × Image) => (p.1, p.2.answer k v)) }

/-- A request joins its queue. -/
def State.enqueue (s : State) (q : Nat) (r : Request) : State := s.modQueue q (fun x => { x with reqs := x.reqs ++ [r] })

/-- A SYSQ's record, once it has been read: none where it cannot be. The second answer: its launch's descriptor is
refused. None: a read waits for a lost table (03 R56). -/
def State.sysqRead (s : State) (sid ptr q : Nat) : State × Option (Option (List Nat) × Bool) :=
  match s.hubRead 0 sid ptr 512 with
  | (s, .ok (v, [], _)) =>
    let w := (List.range 8).map (fun j => bits v (64 * j + 63) (64 * j))
    if bits (bindWord w 0) 63 60 ≠ 0 then (s, some (some w, false))
    else match s.leaseCheck (Bind.of (s.fabricBind q w)) with
      | (s, none) => (s, none)
      | (s, some b) => (s, some (some w, b))
  | (s, .ok _) => (s, some (none, false))
  | (s, .error k) => (s, if k = hubWaits then none else some (none, false))

/-- The firmware answers a SYSQ: a request joins its queue, or is refused. -/
def State.sysqAnswer (s : State) (job q pend : Nat) (req : Option Request) : State :=
  let status := s.sysqStatus job q req
  let serial := s.hub.jobSerials.get 0 job
  let s := { s.modHub (fun h => { h with jobSerials := h.jobSerials.put job ((serial + 1) % 2 ^ 32) }) with
             freeCtr := s.freeCtr + 3 }
  let s := match req, status with
    | some r, 0 => s.enqueue q { r with serial := serial }
    | _, _ => s
  s.answer pend (serial * 2 ^ 32 + status)

/-- The firmware acquires the stamp, reads the record under the job's space, validates it and answers. -/
def execSysqRequest (k : Nat) (s : State) : Host.Outcome State Fault Refusal :=
  .next (match s.msg k with
  | none => s
  | some m =>
    match m.pay with
    | .sysq job sid pend q ptr st =>
      let mir := s.mirror 4 st.gal
      if !s.arrived m || (s.die 4).mirrorBad || decide (mir.1 < st.pos) || decide (mir.2 < st.pos) then s
      else match s.sysqRead sid ptr q with
        | (s, none) => s
        | (s, some (w, bad)) => (s.dropMsg k).sysqAnswer job q pend (w.bind (fun w => s.requestOf q w bad))
    | _ => s)

/-! ## Graphs (20 R371) -/

/-- Counters of a job that are free and that no slot and no request names. -/
def State.spareCnts (s : State) (job : Nat) : List Nat :=
  ((s.hub.jobCnts.filter (fun p => p.2 == job)).map (·.1)).filter (fun n => (s.counter n).status == 0 && n != 0xFFF &&
    !slotRange.any (fun k => (s.slot k).state != 0 && (Bind.of (s.slot k).words).names n) &&
    !s.hub.queues.any (fun p => p.2.reqs.any (s.hub.under p.2.job n)) && !s.hub.nodesHeld.any (s.hub.under 0xFFF n))

/-- The group counters that a graph's nodes name: each replay has its own. -/
def Graph.groups (g : Graph) : List Nat :=
  (g.nodes.flatMap (fun p => [(Bind.of p.1).gcnt, (Bind.of p.1).pcnt])).eraseDups.filter (· != 0xFFF)

/-- A replay's counter in place of one that the graph's nodes name. -/
def ownCnt (own : List (Nat × Nat)) (n : Nat) : Nat := ((own.find? (fun p => p.1 == n)).map (·.2)).getD n

/-- A node of a replay: its launch counter, its group's, its predecessors' counters, and the replay's snapshot. -/
def nodeRequest (q page : Nat) (own : List (Nat × Nat)) (cnts : List Nat) (lcnt : Nat) (node : List Nat × List Nat) : Request :=
  let b := Bind.of node.1
  let preds := node.2.map (fun p => (nth cnts p).getD 0xFFF)
  let w4 := setBits (setBits (setBits (bindWord node.1 4) 52 12 lcnt) 40 12 (ownCnt own b.gcnt)) 28 12 (ownCnt own b.pcnt)
  let w5 := setBits (setBits (bindWord node.1 5) 52 12 ((nth preds 0).getD 0xFFF)) 40 12 ((nth preds 1).getD 0xFFF)
  { queue := q, kind := 0, after := preds.drop 2
    words := [bindWord node.1 0, bindWord node.1 1, bindWord node.1 2, bindWord node.1 3, w4, w5, bindWord node.1 6, page] }

/-- A replay's group counter is armed for the nodes that signal it, and for the groups whose nodes all do so through their
own; its parent is the next counter up its nodes name (20 R365, R371; log 7). -/
def State.armGroup (s : State) (g : Graph) (own : List (Nat × Nat)) (p : Nat × Nat) : State :=
  let under := g.nodes.filter (fun n => (Bind.of n.1).parent == p.1)
  let subs := (g.nodes.filter (fun n => (Bind.of n.1).gcnt != 0xFFF && (Bind.of n.1).gcnt != p.1 && (Bind.of n.1).pcnt == p.1)).map (fun n => (Bind.of n.1).gcnt)
  let up := match g.nodes.find? (fun n => (Bind.of n.1).gcnt == p.1 && (Bind.of n.1).pcnt != 0xFFF) with
    | some n => ownCnt own (Bind.of n.1).pcnt
    | none => ((g.nodes.head?).map (fun n => (Bind.of n.1).jcnt)).getD 0xFFF
  s.cntArm p.2 (up != 0xFFF) up (under.length + subs.eraseDups.length)

/-- A node's launch joins its queue, where the predecessors past its two are done; else the firmware holds it. -/
def State.holdNode (s : State) (r : Request) : State := s.modHub (fun h => { h with nodesHeld := h.nodesHeld ++ [r] })

/-- A replay: the parameter page, with every patch before it, is copied into a snapshot of its own, every node's word 7
names it, and the nodes are held to be bound as their predecessors allow. None: too few counters are spare, or the page's
read or the snapshot's store waits (20 R371). -/
def State.replay (s : State) (g : Nat) : Option State :=
  let gr := s.hub.graphs.get {} g
  let sq := s.queue gr.queue
  let spare := s.spareCnts sq.job
  let n := gr.nodes.length
  let cnts := spare.take n
  let own := gr.groups.zip (spare.drop n)
  if !s.hub.graphs.has g || spare.length < n + gr.groups.length || (s.gal 1026).d ≠ (s.gal 1026).a then none
  else match s.hubRead 0 sq.sid gr.params 4096 with
  | (_, .error k) => if k = hubWaits then none else some s
  | (s, .ok (v, bad, _)) => match s.hubStore 0 1026 sq.sid gr.page 4096 [(0, 4096, v, !bad.isEmpty)] with
    | none => none
    | some s =>
      let s := s.modHub (fun h => { h with graphs := h.graphs.put g { gr with page := gr.page + 4096 } })
      let s := own.foldl (fun s p => s.armGroup gr own p) s
      some ((gr.nodes.zip cnts).foldl (fun s p =>
        let (k, s) := s.fresh
        s.holdNode { nodeRequest gr.queue gr.page own cnts p.2 p.1 with serial := k }) s)

/-- A lost table under the parameter page or the snapshot's page is reported (03 R56). -/
def State.replayStuck (s : State) (g : Nat) : State :=
  let gr := s.hub.graphs.get {} g
  let sid := (s.queue gr.queue).sid
  match s.hubRead 0 sid gr.params 4096 with
  | (t, .error k) => if k = hubWaits then t else s
  | _ => s.hubStuck 0 sid gr.page 4096

def execGraphReplay (g : Nat) (s : State) : Host.Outcome State Fault Refusal :=
  .next ((s.replay g).getD (s.replayStuck g))

/-! ## Binding (20 R372) -/

/-- Clusters that a bind of the request charges. -/
def Request.cost (r : Request) : Nat := if r.kind = 0 then ((Bind.of r.words).hm1 + 1) * ((Bind.of r.words).wm1 + 1) else 0

/-- The predecessors past a node's two have completed. -/
def State.afterDone (s : State) (r : Request) : Bool :=
  r.after.all (fun n => (s.counter n).status == 2 || (s.counter n).status == 3 || (s.counter n).status == 4)

/-- One of them has failed a node with ROF = 0 (20 R370). -/
def State.afterFailed (s : State) (r : Request) : Bool :=
  !(Bind.of r.words).rof && r.after.any (fun n => (s.counter n).status == 3 || (s.counter n).status == 4)

/-- A launch that is never bound: its counter is armed and signalled as a freed slot's (20 R360). -/
def State.neverBound (s : State) (b : Bind) : State :=
  if (s.counter b.lcnt).status ≠ 0 then s
  else
    let n := (b.hm1 + 1) * (b.wm1 + 1)
    (List.range n).foldl (fun s _ => s.cntSignal b.lcnt true) (s.armLaunch b n)

/-- The head of a queue is taken; the next one begins to wait. -/
def State.popHead (s : State) (q : Nat) : State :=
  s.modQueue q (fun x => match x.reqs with
    | _ :: n :: rest => { x with reqs := { n with since := s.hub.time, age := 0 } :: rest }
    | _ => { x with reqs := [] })

/-- A launch whose turn has come is committed at a PRIO, once its lease descriptor has been read and checked: a refused
one takes no slot, counter or lease (03 R57). None: no slot is free, or the read waits. -/
def State.bindHead (s : State) (w : List Nat) (due drone sys : Bool) : Option State :=
  let b := Bind.of w
  match s.freeSlot, s.leaseCheck b with
  | none, _ => none
  | some _, (_, none) => none
  | some _, (t, some true) => some t
  | some k, (t, some false) =>
    let c := t.firmCommit w k drone
    if c.2 = 0 then some (c.1.modSlot k (fun x => { x with due := due, sys := sys })) else some (c.1.neverBound b)

/-- A head is served: a launch is bound, a graph replayed, a counter cancelled. None: it still waits. -/
def State.serve (s : State) (q prio : Nat) (due drone : Bool) (r : Request) : Option State :=
  let s' := s.popHead q
  if r.kind = 1 then s'.replay r.cnt
  else if r.kind = 2 then some (s'.cntCancel r.cnt)
  else
    let w := setBits (bindWord r.words 0) 58 4 prio :: r.words.drop 1
    if s.bindCancelled (Bind.of w) then some (s'.neverBound (Bind.of w)) else s'.bindHead w due drone (q == s.hub.sysQueue)

/-- A head that still waits: a lost table that its descriptor's read, or its snapshot's store, has met is reported
(03 R56). -/
def State.waits (s : State) (r : Request) : State :=
  if r.kind = 0 then (s.leaseCheck (Bind.of r.words)).1 else if r.kind = 1 then s.replayStuck r.cnt else s

/-- Nodes of running replays whose predecessors allow it join their queues; one that a failed predecessor frees is never
bound (20 R370, R371). -/
def State.releaseNodes (s : State) : State :=
  s.hub.nodesHeld.foldl (fun s r =>
    if s.afterFailed r then s.neverBound (Bind.of r.words)
    else if s.afterDone r then s.enqueue r.queue { r with since := s.hub.time }
    else s.holdNode r) (s.modHub (fun h => { h with nodesHeld := [] }))

/-- The level a head is served at: one higher for each T_age of waiting; a drone's does not rise. -/
def levelOf (q : SubQueue) (r : Request) : Nat := if 8 ≤ q.level then 8 else q.level - r.age

/-- The heads served at a level: queue and request, in queue order. -/
def State.headsAt (s : State) (lvl : Nat) : List (Nat × Request) :=
  s.hub.queues.filterMap (fun p => match p.2.reqs.head? with
    | some r => if levelOf p.2 r = lvl then some (p.1, r) else none
    | none => none)

/-- Deficit round robin within a level: the round goes on from the queue it has reached to the first whose deficit
pays for its head; a new round gives every queue its quantum. -/
def State.drr : Nat → State → Nat → State × Option (Nat × Request)
  | 0, s, _ => (s, none)
  | fuel + 1, s, lvl =>
    let l := s.headsAt lvl
    match l.find? (fun p => decide (s.hub.rr.get 0 lvl ≤ p.1) && decide (p.2.cost ≤ (s.queue p.1).deficit)) with
    | some p =>
      ((s.modQueue p.1 (fun x => { x with deficit := x.deficit - p.2.cost })).modHub (fun h => { h with rr := h.rr.put lvl p.1 }), some p)
    | none =>
      let s := l.foldl (fun s p => s.modQueue p.1 (fun x => { x with deficit := x.deficit + x.quantum })) s
      State.drr fuel (s.modHub (fun h => { h with rr := h.rr.put lvl 0 })) lvl

/-- Rounds after which any head of a partition is paid for. -/
def drrRounds : Nat := 258

/-- A slot whose unit holds a cluster that a due head's slot needs, and is not being pre-empted. -/
def State.dueHolder (s : State) : Option Nat :=
  slotRange.findSome? (fun k =>
    let sl := s.slot k
    if sl.state = 1 ∧ sl.due then sl.clusters.findSome? (fun c => match (s.cl c).slot with
      | some j => if j ≠ k ∧ (s.slot j).state = 2 ∧ (s.slot j).pre = 0 then some j else none
      | none => none)
    else none)

/-- The firmware's next choice: pre-empt what a due head needs, bind the oldest due head at PRIO 0, or bind by level. -/
def execQueueBind (s : State) : Host.Outcome State Fault Refusal :=
  let s := s.releaseNodes
  .next (match (if s.hub.preStat = 0 then s.dueHolder else none), s.hub.due with
  | some j, _ => s.preemptOp j
  | none, q :: rest =>
    (match (s.queue q).reqs.head? with
    | some r => if r.age < 7 then s.modHub (fun h => { h with due := rest })
        else ((s.serve q 0 true false r).map (fun s => s.modHub (fun h => { h with due := rest }))).getD (s.waits r)
    | none => s.modHub (fun h => { h with due := rest }))
  | none, [] =>
    match (List.range 8).find? (fun lvl => !(s.headsAt lvl).isEmpty) with
    | none => s
    | some lvl =>
      match s.drr drrRounds lvl with
      | (s', some p) => (s'.serve p.1 (s.queue p.1).level false false p.2).getD (s.waits p.2)
      | (_, none) => s)

/-- A head has waited another T_age; after seven it is due. T_age is counted in milliseconds. -/
def execQueueAge (q : Nat) (s : State) : Host.Outcome State Fault Refusal :=
  let sq := s.queue q
  .next (match sq.reqs with
  | [] => s
  | r :: rest =>
    if 8 ≤ sq.level || decide (7 ≤ r.age) || decide (s.hub.time < r.since + (r.age + 1) * s.hub.tAge * 1000000) then s
    else
      let s := s.modQueue q (fun x => { x with reqs := { r with age := r.age + 1 } :: rest })
      if r.age + 1 = 7 then s.modHub (fun h => { h with due := h.due ++ [q] }) else s)

/-! ## Drones (20 R373) -/

/-- Every cluster of a launch's partition is free, and no ready slot needs one; a replay or a cancel needs none. -/
def State.droneRoom (s : State) (kind : Nat) (w : List Nat) : Bool :=
  let b := Bind.of w
  let part := partClusters b.die b.row0 b.col0 b.hm1 b.wm1
  kind != 0 || part.all (fun c => (s.cl c).open_) && !slotRange.any (fun k => s.slotReady k && (s.slot k).clusters.any (fun c => part.contains c))

/-- The next drone request, or the hum forme where none is offered, is bound at PRIO 8 (20 R373, 27 R448; log 7). -/
def State.droneBind (s : State) : State :=
  match s.drr drrRounds 8 with
  | (s', some p) => if s.droneRoom p.2.kind p.2.words then (s'.serve p.1 8 false true p.2).getD (s.waits p.2) else s
  | (_, none) =>
    match s.hub.drones with
    | w :: _ =>
      if (s.headsAt 8).isEmpty && s.droneRoom 0 w then
        (s.bindHead (setBits (bindWord w 0) 58 4 8 :: w.drop 1) false true false).getD (s.leaseCheck (Bind.of w)).1
      else s
    | [] => s

/-- Package power leaves room for ballast: below the band of the set point that is held; with none held, below the
3,000 W that leave the guard band unassigned (01 R20, 27 R448; log 79). -/
def Hub.ballastRoom (h : Hub) : Bool := if h.pwrEn then decide (100 * h.pwrMeas < 98 * h.pwrSet) else decide (h.pwrMeas < 3000)

def execDroneBind (s : State) : Host.Outcome State Fault Refusal := .next (if s.hub.ballastRoom then s.droneBind else s)

end Sys2Proof.Machine
end

