-- ==== Sys2Proof/Machine/Code.lean ====
section
/-!
DEFINITION. Code objects: the checks of the translator service, the code heap, translation and the swap to a native
image, and a restart of the kernel (08 R183 to R185, 21 R377 to R387).
-/
namespace Sys2Proof.Machine

/-! ## Dense records (08 R183 to R185) -/

/-- A dense record with its extensions. -/
structure DenseRec where
  op : Nat
  mod : Nat
  lit : Nat
  dst : Nat
  srcA : Nat
  srcB : Nat
  srcC : Option Nat
  dst2 : Option Nat
  topA : Nat
  topB : Nat
deriving DecidableEq, Repr

/-- Extensions gathered before a record: the place of the last in the order XLIT, XSRC, XDST, XTOP, and their fields. -/
structure DenseExt where
  rank : Nat := 0
  lit : Option Nat := none
  src : Option Nat := none
  dst : Option Nat := none
  top : Option (Nat × Nat) := none
deriving DecidableEq, Repr

/-- One extension; none: its fields are not as its row gives them, or it stands out of order (08 R184). -/
def DenseExt.take (x : DenseExt) (v : Nat) : Option DenseExt :=
  let op := bits v 63 55
  let rest := bits v 54 0
  if op = 0x1F8 then if x.rank < 1 ∧ bits v 54 14 = 0 then some { x with rank := 1, lit := some (bits v 13 0) } else none
  else if op = 0x1F9 then
    if x.rank < 2 ∧ bits v 54 38 = 0 ∧ bits v 27 0 = 0 then some { x with rank := 2, src := some (bits v 37 28) } else none
  else if op = 0x1FA then
    if x.rank < 3 ∧ bits v 54 48 = 0 ∧ bits v 37 0 = 0 then some { x with rank := 3, dst := some (bits v 47 38) } else none
  else if op = 0x1FB then
    if x.rank < 4 ∧ rest / 2 ^ 18 = 0 ∧ bits v 11 0 = 0 then some { x with rank := 4, top := some (bits v 17 15, bits v 14 12) } else none
  else none

/-- A record after its extensions. -/
def DenseExt.record (x : DenseExt) (v : Nat) : DenseRec :=
  let imm := zextInt (Sys2Proof.sext (bits v 17 0) 18) 32
  { op := bits v 63 55, mod := bits v 54 48, lit := match x.lit with | some h => (h * 2 ^ 18 + imm) % 2 ^ 32 | none => imm
    dst := bits v 47 38, srcA := bits v 37 28, srcB := bits v 27 18, srcC := x.src, dst2 := x.dst
    topA := (x.top.map (·.1)).getD 0, topB := (x.top.map (·.2)).getD 0 }

/-- The records of a body with their indices, extensions counted, up to an extension that is refused, or not followed by a
record; and that extension's index (08 R184, R185). -/
def denseRecs : DenseExt → Nat → List (BitVec 64) → List (Nat × DenseRec) × Option Nat
  | x, k, [] => ([], if x.rank = 0 then none else some (k - 1))
  | x, k, w :: rest =>
    let v := w.toNat
    if 0x1F0 ≤ bits v 63 55 then
      match x.take v with
      | some y => denseRecs y (k + 1) rest
      | none => ([], some k)
    else
      let r := denseRecs {} (k + 1) rest
      ((k, x.record v) :: r.1, r.2)

/-- What OP and MOD say of a dense record. -/
def DenseRec.head (r : DenseRec) : Option Instr :=
  (NodeWord.head { op := BitVec.ofNat 9 r.op, mod := BitVec.ofNat 7 r.mod, da := 0, db := 0, lit := 0 })

/-- The record's LIT is not nothing: its opcode's LIT column, MOD and LB give it a meaning (08 R170, R171). -/
def DenseRec.usesLit (r : DenseRec) : Bool :=
  match opRow (BitVec.ofNat 9 r.op) with
  | none => false
  | some row => (List.range 32).any (fun k => match row (BitVec.ofNat 7 r.mod) (BitVec.ofNat 32 (2 ^ k)) with
    | .ok _ => true
    | .error _ => false)

/-- Opcodes whose DA and DB have different outputs (08 R167). -/
def twoOuts : Instr → Bool
  | .steer _ => true | .sync2 _ => true | .sync3 _ => true | .loopin _ _ => true | .talloc _ _ => true | .call _ _ => true
  | .vctx _ _ _ => true | .vunpack _ => true | .argmax _ _ => true | .argmin _ _ => true | .sortk _ _ _ _ => true
  | .cntr _ _ => true | .mxout _ _ => true | .cpstat _ _ => true | .tlwait _ _ => true | .sysq _ _ => true
  | _ => false

/-- Opcodes that send nothing under the names of a record: their DST is unused. -/
def sendsNone : Instr → Bool
  | .iend _ => true | .done _ => true | .ret_ _ => true
  | _ => false

/-- Names a record defines, with the tag-op of each. -/
def DenseRec.defs (r : DenseRec) : List (Nat × Nat) :=
  match r.head with
  | some i => if sendsNone i then [] else (r.dst, r.topA) :: (r.dst2.map (fun d => (d, r.topB))).toList
  | none => []

/-- Names a record reads, with the port of each. -/
def DenseRec.reads (r : DenseRec) : List (Nat × Port) :=
  match r.head with
  | some i =>
    let p := portsOf i
    (if p.a then [(r.srcA, .a)] else []) ++ (if p.b then [(r.srcB, .b)] else []) ++ (if p.c then r.srcC.toList.map (fun n => (n, .c)) else [])
  | none => []

/-- A record's opcode, form and tag-ops are assigned, and its unused fields are zero (08 R185). What a used literal holds is
checked with the node it becomes. -/
def DenseRec.ok (r : DenseRec) : Bool :=
  match r.head with
  | none => false
  | some i =>
    let p := portsOf i
    decide (r.topA < 4) && decide (r.topB < 4) && (r.usesLit || r.lit == 0) &&
    (p.a || r.srcA == 0) && (p.b || r.srcB == 0) && (p.c || r.srcC.getD 0 == 0) &&
      (!sendsNone i || (r.dst == 0 && r.dst2.getD 0 == 0)) && (r.dst2.isSome || r.topB == 0)

/-- A record after those before it: it defines no name that a record of its body has defined, and reads none before its
definition but across `:next`; `inputs` are the names that the body's tables define, `next` those defined with `:next`. -/
def DenseRec.namesOk (inputs next : List Nat) (before : List DenseRec) (r : DenseRec) : Bool :=
  let made := (before.flatMap DenseRec.defs).map (·.1)
  let own := r.defs.map (·.1)
  own.all (fun n => !made.contains n) && own.eraseDups.length == own.length &&
    r.reads.all (fun p => inputs.contains p.1 || made.contains p.1 || next.contains p.1)

/-- The first of a body's records that R185 refuses, by its index; every opcode must be present in the object's version. Of
several the one of the lowest index is reported (log 88). -/
def bodyErr (present : Nat → Bool) (inputs : List Nat) (b : List (BitVec 64)) : Option Nat :=
  let l := denseRecs {} 0 b
  let rs := l.1.map (·.2)
  let next := ((rs.flatMap DenseRec.defs).filter (fun d => d.2 == 1)).map (·.1)
  match (l.1.zipIdx).find? (fun p => !(p.1.2.ok && present p.1.2.op && p.1.2.namesOk inputs next (rs.take p.2))) with
  | some p => some p.1.1
  | none => l.2

/-! ## The direct expander (08 R183, 09 R195, 21 R381)

Every record becomes a node, in source order. What the spec does not give is log 7's: names are of the forme, a value
with several readers goes to route entries of its own, and what its node's destinations cannot hold is refused as no
place. -/

/-- The place of a node that has none. -/
def noPlace : Nat := 63 * 512 + 511

/-- The unit of an unpinned node: of those its class admits with room, the one with the fewest records, ties to the
lowest; class A goes to compute PEs first (09 R195). -/
def placeUnit (used : Tbl Nat) (k : Class) : Option Nat :=
  let l := (List.range 39).filter (fun u => k.admits u && decide (used.get 0 u < storeSize u))
  let l := if k == .a_ && l.any (fun u => decide (u < 32)) then l.filter (fun u => decide (u < 32)) else l
  l.foldl (fun b u => match b with
    | none => some u
    | some v => if used.get 0 u < used.get 0 v then some u else some v) none

/-- Places of nodes in source order: each takes the lowest free number of its unit's store. -/
def placeNodes : Tbl Nat → List Class → List Nat
  | _, [] => []
  | used, k :: rest => match placeUnit used k with
    | some u => (u * 512 + used.get 0 u) :: placeNodes (used.put u (used.get 0 u + 1)) rest
    | none => noPlace :: placeNodes used rest

/-- The records of a forme with their bodies, in source order. -/
def DenseForme.recs (f : DenseForme) : List (Nat × DenseRec) :=
  (f.bodies.zipIdx).flatMap (fun p => (denseRecs {} 0 p.1).1.map (fun r => (p.2, r.2)))

/-- The same with their places. -/
def DenseForme.placed (f : DenseForme) : List (Nat × DenseRec × Nat) :=
  let l := f.recs
  (l.zip (placeNodes [] (l.map (fun p => ((p.2.head).map classOf).getD .none_)))).map (fun p => (p.1.1, p.1.2, p.2))

/-- A body's records read a name defined in another: it is the other, or its tables take the name in. -/
def DenseForme.sees (f : DenseForme) (b body name : Nat) : Bool := b == body || ((nth f.inputs b).getD []).contains name

/-- The ports that read a name defined in a body: those of the body, and those of bodies whose tables take it in; port t
where the object's tables feed it (log 7). -/
def DenseForme.readers (f : DenseForme) (l : List (Nat × DenseRec × Nat)) (body name : Nat) : List (Nat × Port) :=
  (l.flatMap (fun p =>
    if f.sees p.1 body name then (p.2.1.reads.filter (fun q => q.1 == name)).map (fun q => (p.2.2, q.2)) else [])) ++
  (f.trigs.zipIdx).flatMap (fun t =>
    if f.sees t.2 body name then
      (t.1.filter (fun q => q.1 == name)).filterMap (fun q => (nth (l.filter (fun p => p.1 == t.2)) q.2).map (fun p => (p.2.2, Port.t)))
    else [])

/-- A route entry of the cluster itself that names up to eight ports (06 R139). -/
def slotsEntry (l : List (Nat × Port)) : BitVec 256 :=
  BitVec.ofNat 256 ((2 ^ l.length - 1) * 2 ^ 234 + ((l.zipIdx).foldl (fun n p =>
    n + (p.1.1 / 512 * 2 ^ 14 + p.1.1 % 512 * 2 ^ 5 + p.1.2.code.toNat * 2 ^ 3) * 2 ^ (20 * p.2)) 0))

/-- The destination that names a port of a placed node. -/
def Dest.at_ (top pos : Nat) (p : Port) : Dest := .local_ (BitVec.ofNat 6 (pos / 512)) (BitVec.ofNat 9 pos) p (BitVec.ofNat 3 top)

/-- Readers by destination: one alone, or up to eight on a route entry. -/
def readerGroups (l : List (Nat × Port)) : List (List (Nat × Port)) :=
  if l.isEmpty then [] else if l.length ≤ 8 then [l] else [l.take 8, l.drop 8]

/-- The destination of a group of readers, its route entry, where it needs one, joining the table at the lowest free
number. -/
def groupDest (top : Nat) (rts : Tbl (BitVec 256)) (l : List (Nat × Port)) : Dest × Tbl (BitVec 256) :=
  match l with
  | [r] => (Dest.at_ top r.1 r.2, rts)
  | l =>
    let k := ((List.range 4096).find? (fun k => !rts.has k)).getD 4095
    if l.length ≤ 8 then (.route (BitVec.ofNat 12 k) 0 (BitVec.ofNat 3 top), rts.put k (slotsEntry l))
    else (Dest.at_ top noPlace .t, rts)

/-- The destinations of a value: its endpoints, then its readers; of a value that nothing reads, the sink. At most `room`
fields of the node carry it. -/
def DenseForme.valueDests (f : DenseForme) (l : List (Nat × DenseRec × Nat)) (body room : Nat) (rts : Tbl (BitVec 256))
    (d : Nat × Nat) : List Dest × Tbl (BitVec 256) :=
  let out := (((nth f.outs body).getD []).filter (fun p => p.1 == d.1)).map (fun p => Dest.stream (BitVec.ofNat 8 p.2))
  let groups := readerGroups (f.readers l body d.1)
  if out.isEmpty ∧ groups.isEmpty then ([.sink], rts)
  else if room < out.length + groups.length then ([Dest.at_ d.2 noPlace .t], rts)
  else groups.foldl (fun r g => let x := groupDest d.2 r.2 g; (r.1 ++ [x.1], x.2)) (out, rts)

/-- DA and DB of a record's node: a record with one name, whose node sends its result to both, has both for it. -/
def DenseForme.dests (f : DenseForme) (l : List (Nat × DenseRec × Nat)) (rts : Tbl (BitVec 256)) (p : Nat × DenseRec × Nat) :
    Dest × Dest × Tbl (BitVec 256) :=
  match p.2.1.defs with
  | [] => (.sink, .sink, rts)
  | [d] =>
    let x := f.valueDests l p.1 (if (p.2.1.head.map twoOuts).getD true then 1 else 2) rts d
    ((nth x.1 0).getD .sink, (nth x.1 1).getD .sink, x.2)
  | d :: e :: _ =>
    let x := f.valueDests l p.1 1 rts d
    let y := f.valueDests l p.1 1 x.2 e
    ((nth x.1 0).getD .sink, (nth y.1 0).getD .sink, y.2)

/-- The node record of a placed record, its values' destinations built (08 R183). -/
def DenseForme.node (f : DenseForme) (l : List (Nat × DenseRec × Nat)) (g : Forme) (p : Nat × DenseRec × Nat) : Forme :=
  let r := p.2.1
  let x := f.dests l g.routes p
  { g with
    routes := x.2.2
    nodes := g.nodes.put p.2.2 (NodeWord.toBits { op := BitVec.ofNat 9 r.op, mod := BitVec.ofNat 7 r.mod, da := x.1.toBits,
                                                  db := x.2.1.toBits, lit := BitVec.ofNat 32 r.lit }) }

/-- The forme as the direct expander places it (21 R381): it depends on the object alone. -/
def DenseForme.expansion (f : DenseForme) : Forme :=
  let l := f.placed
  let g := l.foldl (f.node l) { f.conf with nodes := [] }
  { g with bodies := (g.bodies.zipIdx).map (fun b =>
      { b.1 with nodes := (l.filter (fun p => p.1 == b.2 + 1)).map (·.2.2) }) }

/-! ## Acceptance (21 R379, R380, R384, R386) -/

/-- The magic number of a code object (21 R377). -/
def objMagic : Nat := 0x2E746D6F

/-- The fields of an object's header (21 R377). -/
def Object.magic (o : Object) : Nat := bits (bindWord o.head 0) 63 32
def Object.tamv (o : Object) : Nat := bits (bindWord o.head 0) 31 24
def Object.nsect (o : Object) : Nat := bits (bindWord o.head 0) 23 16
def Object.priv (o : Object) : Bool := (bindWord o.head 0).testBit 15
def Object.annex (o : Object) : Bool := (bindWord o.head 0).testBit 14
def Object.length (o : Object) : Nat := bindWord o.head 1
def Object.agen (o : Object) : Nat := bits (bindWord o.head 2) 63 48
def Object.astep (o : Object) : Nat := bits (bindWord o.head 2) 47 40
/-- The fields of its signature section (21 R378). -/
def Object.pset (o : Object) : Nat := bits o.sigWord 63 56
def Object.keyid (o : Object) : Nat := bits o.sigWord 31 0

/-- The sections of a type, in the table's order: OFFSET and LEN (21 R377). -/
def Object.sections (o : Object) (type : Nat) : List (Nat × Nat) :=
  (o.table.filter (fun w => bits (bindWord w 0) 63 56 == type)).map (fun w => (bindWord w 1, bindWord w 2))

/-- Records of a bodies section, one body after another. -/
def cutBodies : List Nat → List (BitVec 64) → List (List (BitVec 64)) × List (BitVec 64)
  | [], l => ([], l)
  | n :: rest, l => let r := cutBodies rest (l.drop n); (l.take n :: r.1, r.2)

/-- The formes with their bodies; records past the last length are one more body of the last forme. A native image and an
annex are privileged as their forme is (09 R194). -/
def fillFormes : List DenseForme → List (BitVec 64) → List DenseForme
  | [], _ => []
  | f :: rest, l =>
    let r := cutBodies f.lens l
    let own (g : Forme) : Forme := { g with priv := f.conf.priv }
    { f with bodies := if rest.isEmpty && !r.2.isEmpty then r.1 ++ [r.2] else r.1
             native := f.native.map own, annex := f.annex.map own } :: fillFormes rest r.2

/-- Bits of the object at a host address. -/
def State.objectBits (s : State) (addr off len : Nat) : Nat := leNat (s.hostMem.readList (addr + off / 8) ((len + 7) / 8)) % 2 ^ len

/-- The object at a host address: its header, table and sections, the contents that only Nymtor's tools lay out being `o`'s
where a section of their type is there (21 R377, R378; log 5). -/
def State.readObject (s : State) (addr : Nat) (o : Object) : Object :=
  let w (k : Nat) : Nat := s.hostMem.word (addr + 8 * k)
  let t : Object := { head := (List.range 8).map w
                      table := (List.range (bits (w 0) 23 16)).map (fun k => (List.range 4).map (fun j => w (8 + 4 * k + j))) }
  let has (type : Nat) : Bool := !(t.sections type).isEmpty
  let recs := (t.sections 1).flatMap (fun p => (List.range (p.2 / 64)).map (fun j => BitVec.ofNat 64 (w (p.1 / 64 + j))))
  let sig := ((t.sections 7).getLast?).getD (0, 0)
  let sigWord := w (sig.1 / 64)
  { t with
    sigWord := sigWord
    sigOk := Config.sigVerifies (bits sigWord 31 0) (bits sigWord 63 56) (s.hostMem.readList addr (sig.1 / 8))
      (s.hostMem.readList (addr + sig.1 / 8 + 8) (sig.2 / 8 - 8))
    formes := if has 2 then fillFormes (o.formes.map (fun f => if has 6 then f else { f with annex := none })) recs else []
    symbols := if has 4 then o.symbols else []
    refs := if has 4 then o.refs else []
    places := o.places
    images := ((t.sections 3).zipIdx).map (fun p => ((nth o.places p.2).getD 0, p.1.2, s.objectBits addr p.1.1 p.1.2))
    templates := if has 5 then o.templates else [] }

/-- The header is as R377 gives it. -/
def Object.headOk (o : Object) (len : Nat) : Bool :=
  o.magic == objMagic && o.length == len && len % 512 == 0 && decide (2 ≤ o.nsect) && decide (o.nsect ≤ 32) &&
    bits (bindWord o.head 0) 13 0 == 0 && bits (bindWord o.head 2) 39 0 == 0 && (o.annex || o.agen == 0) &&
    [3, 4, 5, 6, 7].all (fun k => bindWord o.head k == 0)

/-- An entry of the section table: its fields, its place after the table and within LENGTH, and the signature's the last,
the only one of its type, with the zero bits of its first word; bodies are whole records, and sections do not overlap
(21 R377, R378). -/
def Object.sectionOk (o : Object) (k : Nat) (w : List Nat) : Bool :=
  let type := bits (bindWord w 0) 63 56
  let off := bindWord w 1; let len := bindWord w 2
  decide (1 ≤ type) && decide (type ≤ 7) && bits (bindWord w 0) 55 0 == 0 && off % 512 == 0 &&
    decide (512 + 256 * o.nsect ≤ off) && decide (off + len ≤ o.length) && ((type == 7) == (k + 1 == o.nsect)) &&
    (type ≠ 6 || o.annex) && (type ≠ 1 || len % 64 == 0) && (type ≠ 7 || (decide (64 ≤ len) && bits o.sigWord 55 32 == 0)) &&
    (o.table.take k).all (fun v => decide (bindWord v 1 + bindWord v 2 ≤ off) || decide (off + len ≤ bindWord v 1))

/-- The first section that fails; a header that fails is reported at 0. -/
def Object.tableErr (o : Object) (len : Nat) : Option Nat :=
  if !o.headOk len || o.table.length ≠ o.nsect || (o.annex && !o.table.any (fun w => bits (bindWord w 0) 63 56 == 6)) then some 0
  else ((o.table.zipIdx).find? (fun p => !o.sectionOk p.2 p.1)).map (·.2)

/-- A forme passes R186 and R135, with B and F computed as R134 does (21 R381); the status and location of the first check
that fails. Where it will be placed is open: every cluster may be in its partition. -/
def Forme.acceptErr (g : Forme) : Option LoadErr :=
  match g.loadErr (fun _ => true) with
  | some e => some e
  | none => if g.fits then none else some (Code.LOAD_BUDGET, 0)

/-- The first record of an object that R185 refuses, by its index among the records of the bodies sections. -/
def recordErr (present : Nat → Bool) : Nat → List (List (BitVec 64) × List Nat) → Option Nat
  | _, [] => none
  | n, (b, inputs) :: rest => match bodyErr present inputs b with
    | some k => some (n + k)
    | none => recordErr present (n + b.length) rest

def Object.allBodies (o : Object) : List (List (BitVec 64) × List Nat) :=
  o.formes.flatMap (fun f => (f.bodies.zipIdx).map (fun p => (p.1, (nth f.inputs p.2).getD [])))

/-- The annex is used as it stands: it was made for this device and version (16 R341, 21 R384). -/
def State.annexUsed (s : State) (o : Object) : Bool := o.annex && o.agen == 4 && o.astep == 0 && o.tamv == s.hub.tamHigh

/-- A symbol conflicts with a resolved one: two non-weak definitions with different bodies (21 R386). -/
def State.symbolBad (s : State) (sid : Nat) (y : Symbol) : Bool :=
  match s.hub.symbols.find? (fun p => p.1 == sid && p.2.name == y.name) with
  | some p => !p.2.weak && !y.weak && p.2.body != y.body
  | none => false

/-- The first check of R380 that an object fails: status and location. A forme marked `priv` in an object that is not so
marked is refused with check 4 (09 R194). -/
def State.objectErr (s : State) (job sid len : Nat) (o : Object) : Option LoadErr :=
  let key := s.hub.keys.find? (fun k => k.1 == job && k.2.1 == o.keyid)
  let marked := (key.map (·.2.2)).getD false
  let present (op : Nat) : Bool := decide (11 ≤ o.tamv) || Config.opIn o.tamv op
  match o.tableErr len with
  | some k => some (Code.TAM_ILLEGAL, k)
  | none =>
  if o.pset = 0 ∨ 6 < o.pset ∨ key.isNone ∨ !o.sigOk then some (Code.LOAD_SIG, 0)
  else if o.tamv < s.hub.tamLow ∨ s.hub.tamHigh < o.tamv then some (Code.LOAD_VERSION, 0)
  else if (o.priv && !marked) || (!o.priv && o.formes.any (fun f => f.conf.priv)) then some (Code.LOAD_PRIV, 0)
  else match recordErr present 0 o.allBodies with
  | some k => some (Code.TAM_ILLEGAL, k)
  | none => match o.formes.findSome? (fun f => f.expansion.acceptErr) with
  | some e => some e
  | none => match if s.annexUsed o then o.formes.findSome? (fun f => f.annex.bind Forme.acceptErr) else none with
  | some e => some e
  | none => ((o.symbols.zipIdx).find? (fun p => s.symbolBad sid p.1)).map (fun p => (Code.LOAD_CONFLICT, p.2))

/-- A symbol joins the space's resolved symbols, or replaces a weak one (21 R386). -/
def resolve (sid : Nat) (l : List (Nat × Symbol)) (y : Symbol) : List (Nat × Symbol) :=
  match l.find? (fun p => p.1 == sid && p.2.name == y.name) with
  | none => l ++ [(sid, y)]
  | some p => if p.2.weak && !y.weak then l.map (fun q => if q.1 = sid ∧ q.2.name = y.name then (sid, y) else q) else l

/-- Bits of an object's images that one step places: 64 KiB (log 29). -/
def imageChunk : Nat := 2 ^ 19

/-- The next piece of the images, past the bits that have been placed: bit address, length, bits. -/
def imagePiece : List (Nat × Nat × Nat) → Nat → Option (Nat × Nat × Nat)
  | [], _ => none
  | (p, n, v) :: rest, done =>
    if done < n then let k := min imageChunk (n - done); some (2048 * p + done, k, bits v (done + k - 1) done)
    else imagePiece rest (done - n)

/-- The object's part of the handover table and of the heap (21 R385; log 87): the bits of the object, its directory, words
0 to 5 of its entry, NENT, and SEQ even again. -/
def State.putEntry (s : State) (addr : Nat) (i : Nat) (h : HeapObj) : State :=
  let t := s.hub.handover * 4096
  let e := s.handoverPa i
  let len := h.obj.length
  if s.hub.handover = 0 ∨ s.mem.word (t + 32) + s.mem.word (t + 40) < h.endPtr then s
  else
    let dirs := (h.obj.formes.zip h.dir).map (fun p => if p.2.isSome then p.1.nptr else 0)
    let m := (s.mem.writeList (h.ptr / 8) (s.hostMem.readList addr (len / 8))).writeBytes (h.dirPtr / 8) (8 * dirs.length) (packWords dirs)
    let m := m.writeBytes e 48 (packWords [h.sid * 2 ^ 48 + h.num, h.ptr, len, h.dirPtr, 1, h.dirPtr + 64 * dirs.length])
    { s with mem := (m.writeBytes (t + 48) 8 (max (m.word (t + 48)) (i + 1))).writeBytes t 8 ((m.word t + 2) % 2 ^ 64) }

/-- An accepted object: its number, its place in the code heap, its formes, symbols and references. An annex that is used
stands at the formes' own pointers too: they are never expanded (21 R384). -/
def State.heapObject (s : State) (job sid addr : Nat) (o : Object) : State × Nat :=
  let n := s.hub.objNum.get 0 sid + 1
  let i := s.hub.heap.length
  let used := s.annexUsed o
  let dir := o.formes.map (fun f => if used then f.annex else none)
  let forms := o.formes.flatMap (fun f => match if used then f.annex else none with
    | some g => [(sid, f.ptr, g, false), (sid, f.nptr, g, false)]
    | none => [(sid, f.ptr, f.expansion, true)])
  let symbols := o.symbols.foldl (resolve sid) s.hub.symbols
  let ptr := (s.hub.heap.getLast?.map (·.endPtr)).getD (s.mem.word (s.hub.handover * 4096 + 32))
  let dirPtr := ptr + o.length
  let h : HeapObj := {
    num := n, sid := sid, obj := o, dir := dir, state := 1, job := job, trans := dir.map (fun _ => none)
    binds := o.refs.filterMap (fun x => (symbols.find? (fun p => p.1 == sid && p.2.name == x)).map (fun p => (x, p.2)))
    ptr := ptr, dirPtr := dirPtr, endPtr := dirPtr + (64 * dir.length + 511) / 512 * 512 }
  let s := s.modHub (fun y => { y with objNum := y.objNum.put sid n, heap := y.heap ++ [h], symbols := symbols })
  (({ s with formes := forms ++ s.formes } : State).putEntry addr i h, n)

/-- A bound or running slot names one of an object's formes (21 R385). -/
def State.formeInUse (s : State) (h : HeapObj) : Bool :=
  slotRange.any (fun k =>
    let b := Bind.of (s.slot k).words
    ((s.slot k).state == 1 || (s.slot k).state == 2) && b.sid == h.sid && h.obj.formes.any (fun f => f.ptr == ptrOff b.forme || f.nptr == ptrOff b.forme))

/-- A retiring object that no slot uses is freed: its formes are gone, and its entry's STATE is 0 (21 R385). -/
def State.freeRetired (s : State) (obj : Nat) (h : HeapObj) : State :=
  if s.heapState obj h ≠ 2 ∨ s.formeInUse h then s
  else
    let t := s.hub.handover * 4096
    let gone (p : Nat × Nat × Forme × Bool) : Bool := p.1 == h.sid && h.obj.formes.any (fun f => f.ptr == p.2.1 || f.nptr == p.2.1)
    let mem := match s.heapEntry obj h with
      | some e => (s.mem.writeBytes (e + 32) 8 0).writeBytes t 8 ((s.mem.word t + 2) % 2 ^ 64)
      | none => s.mem
    ({ s with mem := mem, formes := s.formes.filter (fun p => !gone p) } : State).modHub (fun y =>
      { y with heap := mapNth y.heap obj (fun h => { h with state := 0 }) })

/-- A counter that no launch and no translator launch uses (21 R382). -/
def State.spareCounter (s : State) : Option Nat :=
  (List.range 4095).find? (fun n => (s.counter n).status == 0 && !s.hub.heap.any (fun h => h.trans.contains (some n)))

/-- A translator launch for a forme joins Nymtor's system queue, its bind words Nymtor's but for LCNT (20 R373, 21 R382;
log 7). -/
def State.queueTrans (s : State) (obj forme : Nat) : State :=
  match nth s.hub.heap obj, s.spareCounter with
  | some h, some n =>
    if (nth h.dir forme).join.isSome ∨ ((nth h.trans forme).join).isSome then s
    else
      let w := s.hub.transTpl
      let words := [bindWord w 0, bindWord w 1, bindWord w 2, bindWord w 3, setBits (bindWord w 4) 52 12 n, bindWord w 5, bindWord w 6, bindWord w 7]
      (s.modHub (fun y => { y with heap := mapNth y.heap obj (fun h => { h with trans := mapNth h.trans forme (fun _ => some n) }) })).enqueue
        s.hub.sysQueue { queue := s.hub.sysQueue, kind := 0, words := words, since := s.hub.time }
  | _, _ => s

/-- An answer for the completion ring (25 R423). -/
def State.complete (s : State) (cid status result : Nat) : State :=
  s.modHub (fun h => { h with comps := h.comps ++ [({ cid := cid, status := status, result := result } : Completion)] })

/-- The oldest object has its answer. -/
def State.loaded (s : State) (cid status result : Nat) : State :=
  (s.modHub (fun h => { h with loads := h.loads.drop 1, placing := none })).complete cid status result

/-- An accepted object goes on: the next piece of its images is stored through galley 1026 (02 R28, 09 R199; log 29); after
the last they are released, the object enters the heap, and its formes' translator launches are queued. -/
def State.placeNext (s : State) (job sid addr cid : Nat) (o : Object) (done : Nat) : State :=
  match imagePiece o.images done with
  | some (va, n, v) => match s.hubStore 0 1026 sid va n [(0, n, v, false)] with
    | some s => s.modHub (fun h => { h with placing := some (o, done + n) })
    | none => (s.hubStuck 0 sid va n).modHub (fun h => { h with placing := some (o, done) })
  | none =>
    let r := (s.releasePkg 1026).heapObject job sid addr o
    ((List.range o.formes.length).foldl (fun s k => s.queueTrans (s.hub.heap.length - 1) k) r.1).loaded cid 0 r.2

/-- The translator service checks the oldest object it has taken, the one at host address k. RESULT holds the number of an
accepted object, and the location of a refused one's failure (21 R380; log 78). -/
def execObjectLoad (k : Nat) (s : State) : Host.Outcome State Fault Refusal :=
  .next (match s.hub.loads with
  | [] => s
  | (job, addr, len, cid) :: _ =>
    let sid := s.hub.jobSids.get 0 job
    if addr ≠ k then s
    else match s.hub.placing with
    | some (o, done) => s.placeNext job sid addr cid o done
    | none =>
      let o := s.readObject addr (s.objects.get {} addr)
      match s.objectErr job sid len o with
      | some e => s.loaded cid e.1 e.2
      | none => s.placeNext job sid addr cid o 0)

/-! ## Translation (21 R382, R383, R385) -/

/-- The image that a translator launch has written for a forme of the heap's obj-th object is checked and recorded, once the
launch has completed; otherwise the forme stays on the direct expander. A launch not queued yet is queued. -/
def execTranslationRecord (obj forme : Nat) (s : State) : Host.Outcome State Fault Refusal :=
  .next (match nth s.hub.heap obj with
  | none => s
  | some h =>
    if s.heapState obj h ≠ 1 then s.freeRetired obj h
    else match nth h.obj.formes forme, (nth h.dir forme).join, (nth h.trans forme).join with
    | some _, none, none => s.queueTrans obj forme
    | some f, none, some n =>
      (match f.native with
      | some g =>
        if (s.counter n).status ≠ 2 ∨ g.acceptErr.isSome then s
        else
          let s := s.modHub (fun y => { y with heap := mapNth y.heap obj (fun h => { h with dir := mapNth h.dir forme (fun _ => some g) }) })
          (({ s with formes := (h.sid, f.nptr, g, false) :: s.formes } : State).putDirectory obj h forme f.nptr).cntFree n
      | none => s)
    | _, _, _ => s)

/-- A unit that runs an expanded forme changes to the native image at a safe point. -/
def execNativeSwap (c : Nat) (s : State) : Host.Outcome State Fault Refusal := .next (s.nativeSwap c)

/-! ## The kernel (21 R385, R387, 27 R442) -/

/-- The root of trust appends an entry and extends M (27 R442). -/
def State.measured (s : State) (stage : Nat) (kslot : Bool) (pset keyid : Nat) (digest : BitVec 256) (failed : Bool) : State :=
  let d (k : Nat) : Nat := bits digest.toNat (64 * k + 63) (64 * k)
  s.modHub (fun h => { h with
    log := h.log ++ [[stage % 256 + pset % 256 * 2 ^ 8 + bn kslot 16 + bn failed 17, d 0, d 1, d 2, d 3, keyid % 2 ^ 32, 0, 0]]
    measure := Config.measure h.measure digest })

/-- The system cores restart into the slot that the handover table names active, an image that is valid; submissions wait
meanwhile. The new kernel's boot is measured, it adopts the table's entries as they stand and reports ready; where the boot
fails, the slot active before runs again. The image's digest, parameter set and key are its own: they are free here
(log 6). -/
def execKernelRestart (measured : Bool) (s : State) : Host.Outcome State Fault Refusal :=
  let t := s.hub.handover * 4096
  let w1 := s.mem.word (t + 8)
  let act := w1.testBit 0
  .next (match s.hub.restarting with
  | none =>
    if s.mem.word t % 2 = 1 || act == s.hub.actSlot || !w1.testBit (if act then 2 else 1) || !s.hub.kernelUp then s
    else s.modHub (fun h => { h with kernelUp := false, restarting := some act })
  | some slot =>
    let f (i : Nat) : Nat := Config.free (s.freeCtr + i)
    let s := s.measured 3 slot (1 + f 0 % 6) (f 1) (BitVec.ofNat 256 (f 2)) (!measured)
    { s.modHub (fun h => { h with
        kernelUp := true, restarting := none, actSlot := if measured then slot else h.actSlot
        heap := (h.heap.zipIdx).map (fun p => { p.1 with state := s.heapState p.2 p.1 }) }) with freeCtr := s.freeCtr + 3 })

end Sys2Proof.Machine
end

