-- ==== Sys2Proof/Machine/Sys.lean ====
section
/-!
DEFINITION. Traps, flags, counters, identity, submission, breakpoints and system registers (16 R337 to R344).
-/
namespace Sys2Proof.Machine

/-! ## Traps and flags -/

/-- Cause data of USER_TRAP (16 R337). -/
def userCause (code : Nat) (a : Token) : Nat :=
  code % 2 ^ 16 + a.lane 0 % 2 ^ 64 * 2 ^ 64 + a.pmask % 2 ^ 32 * 2 ^ 128

/-- TRAP writes a record and forwards a; with END it ends the unit and sends nothing (16 R337). -/
def execTrap (endU : Bool) (code : BitVec 16) (d : Dests) (s : State) : Host.Outcome State Fault Refusal :=
  let f := s.firing
  let cause := userCause code.toNat f.opA
  .next (if s.idleAction f then s.emitBoth f d (f.passBubble (f.forward f.opA f.tag))
    else if f.opA.cl2 ≠ 6 then s.fail f Code.LANE_MISMATCH
    else if endU then s.fail f Code.USER_TRAP cause
    else (s.jobRecord Code.USER_TRAP f.cl f.unit f.node 0 f.tag cause).sendA f d)

/-- FLAGS sends the unit's sticky flags (16 R338). -/
def execFlags (d : Dests) (s : State) : Host.Outcome State Fault Refusal :=
  let f := s.firing
  .next (s.triggered d (s.emitBoth f d (f.new64 ((s.peOf f).flags % 128))))

/-- FLCLR clears flags of the unit (16 R338). -/
def execFlclr (d : Dests) (s : State) : Host.Outcome State Fault Refusal :=
  let f := s.firing
  .next (s.reading (f.fwdOuts d) f.opA (fun m => (s.peFlagsDrop f.cl f.unit m).sendA f d))

/-! ## Counters and identity -/

/-- PERF reads a register of the own cluster (16 R339). -/
def execPerf (index : BitVec 12) (d : Dests) (s : State) : Host.Outcome State Fault Refusal :=
  let f := s.firing
  .next (s.triggered d (s.emitBoth f d (f.new64 (s.clReg f.cl index.toNat))))

def execCycl (d : Dests) (s : State) : Host.Outcome State Fault Refusal :=
  let f := s.firing
  .next (s.triggered d (s.emitBoth f d (f.new64 (s.cycles f.cl))))

def execSubcnt (d : Dests) (s : State) : Host.Outcome State Fault Refusal :=
  let f := s.firing
  .next (s.triggered d (s.emitBoth f d (f.new64 (s.ctx f.cl).subst)))

/-- IDENT.dev: dies present and not fenced, stepping 0, generation 4 (16 R341, 22 R401). -/
def State.identDev (s : State) : Nat := s.liveDies.foldl (fun n d => n ||| 2 ^ d) 0 * 2 ^ 24 + 4

/-- The identity values (16 R341). -/
def State.identOf (s : State) (f : Firing) : IdentSel → Nat
  | .cl => dieOf f.cl * 2 ^ 10 + f.cl
  | .unit => f.unit
  | .part => let (w, h, x, y) := s.partPos f.cl; h * 2 ^ 24 + w * 2 ^ 16 + y * 2 ^ 8 + x
  | .dev => s.identDev

def execIdent (sel : IdentSel) (d : Dests) (s : State) : Host.Outcome State Fault Refusal :=
  let f := s.firing
  .next (s.triggered d (s.emitBoth f d (f.new64 (s.identOf f sel))))

/-! ## Submitting work and halting -/

/-- SYSQ releases, sends its request to the hub and waits for the answer (16 R342). -/
def execSysq (n : BitVec 10) (d : Dests) (s : State) : Host.Outcome State Fault Refusal :=
  let f := s.firing
  let c := f.cl
  .next (s.reading (f.mixOuts d) f.opB (fun p =>
    match s.check c [0] .read p 512 (decide (ptrOff p % 512 ≠ 0)) with
    | .bad code cause => s.fail f code cause
    | .ok _ off =>
      let s := s.releasePkg c
      (s.pendNew f (.sysq n d) (.sysq none)).send 5 c f.unit hubAgent 0
        (.sysq (((s.bindOf c).map (·.jcnt)).getD 4096) (s.cl c).sid s.serial n.toNat off { gal := c, pos := (s.gal c).p })))

/-- A BRK is a hit (16 R343): EN, and ANY or the ID. -/
def Cluster.brkHit (x : Cluster) (id : Nat) : Bool := x.brk.testBit 18 && (x.brk.testBit 17 || bits x.brk 15 0 == id)

/-- BRK forwards a; a hit writes its record and halts the cluster, once (16 R343, 23 R414). -/
def execBrk (n : BitVec 16) (d : Dests) (s : State) : Host.Outcome State Fault Refusal :=
  let f := s.firing
  let x := s.cl f.cl
  .next (if s.idleAction f then s.emitBoth f d (f.passBubble (f.forward f.opA f.tag))
    else if x.brkHit n.toNat then
      let s := (s.jobRecord Code.BRK_HIT f.cl f.unit f.node 0 f.tag 0).sendA f d
      s.haltStart f.cl (x.brk.testBit 16)
    else s.sendA f d)

/-! ## System registers (16 R344) -/

/-- The agent that holds a register, and under which unit number its accesses stand, one for each register; a place that
names none answers at the cluster itself (02 R23, 16 R344). -/
def State.regPlace (s : State) (c : Nat) (r : RegAddr) : Nat × Nat :=
  (if r.block = 0 ∧ s.present? r.unit then r.unit
   else if r.block = 1 ∧ s.dieLive (r.unit % 8) then r.unit % 8 * 256
   else if r.block = 2 then hubAgent else c, 4096 * (r.block + 1) + r.index)

/-- An access to a register travels on channel 5 (16 R344). -/
def State.regAsk (s : State) (i : Instr) (p : Nat) : State :=
  let f := s.firing
  let to_ := s.regPlace f.cl (regOfPtr p)
  match s.ptrCause f.cl [6] p with
  | some k => s.fail f Code.SPACE_ILLEGAL k
  | none => s.ask5 i to_.1 to_.2

/-- SYSRD sends a register. -/
def execSysrd (d : Dests) (s : State) : Host.Outcome State Fault Refusal :=
  .next (s.reading (s.firing.newOuts d) s.firing.opA (s.regAsk (.sysrd d)))

/-- SYSWR writes a register, then forwards a. -/
def execSyswr (d : Dests) (s : State) : Host.Outcome State Fault Refusal :=
  let f := s.firing
  .next (s.reading (f.fwdOuts d) f.opA (fun p =>
    match readOperand f.opB with
    | .error code => s.fail f code
    | .ok _ => s.regAsk (.syswr d) p))

/-- The holder applies an access: a read answers the register's value, a write is made under the register's Access
(16 R344). -/
def State.regApply (s : State) (p : Pend) : State :=
  let r := regOfPtr (p.fir.opA.lane 0)
  match p.instr with
  | .sysrd _ => s.pendSet p.fir.cl p.id (.request (some (s.regRead r)))
  | .syswr _ => (s.regWrite .privForme r (p.fir.opB.lane 0)).pendSet p.fir.cl p.id (.request (some 0))
  | _ => s

/-- A request on channel 5 is applied where it has arrived: a barrier's count, a ring operation, a register access
(10 R217, 16 R336, R344). A unit that has ended has none. -/
def State.serveReq (s : State) (k : Nat) : State :=
  match s.msg k with
  | none => s
  | some m =>
    match m.pay with
    | .request c j =>
      if !s.arrived m then s
      else
        let s := s.dropMsg k
        (match s.pend c j with
        | none => s
        | some p =>
          match p.instr with
          | .barr l _ => let r := s.barrCount c l; r.2.pendSet c j (.barr l.id.toNat r.1)
          | .rawait _ => s.pendSet c j (s.rawaitApply p)
          | .rsrel _ => s.rsrelApply p
          | .rapeek _ => s.pendSet c j (.request (some (s.ringOf (p.fir.opA.lane 0)).peek))
          | _ => s.regApply p)
    | _ => s

/-- A write to a system register by an agent (00 R5). -/
def execRegisterWrite (agent : Agent) (r : RegAddr) (v : Word) (s : State) : Host.Outcome State Fault Refusal :=
  .next (s.regWrite agent r v.toNat)

/-- A write of PE_MODE takes effect only while no forme is loaded (07 R159). -/
def execPeModeWrite (c u : Nat) (v : Word) (s : State) : Host.Outcome State Fault Refusal :=
  .next (if u < 36 then s.peMode c u v.toNat else s)

def execPeXenWrite (c u : Nat) (v : Word) (s : State) : Host.Outcome State Fault Refusal :=
  .next (if u < 36 then s.peXen c u v.toNat else s)

/-- A W1C write of PE_FLAGS (07 R160). -/
def execPeFlagsClear (c u : Nat) (v : Word) (s : State) : Host.Outcome State Fault Refusal :=
  .next (if u < 36 then s.peFlagsClear c u v.toNat else s)

end Sys2Proof.Machine
end

