-- ==== Sys2Proof/Machine/HostPort.lean ====
section
/-!
DEFINITION. The host mailbox: doorbells, submission entries, copies, attestation and completions (25 R420 to R423,
27 R443).
-/
namespace Sys2Proof.Machine

/-! ## The rings (25 R422) -/

/-- A write of HUB_MBX_DB. -/
def execMbxDoorbell (cqhead sqtail : BitVec 32) (s : State) : Host.Outcome State Fault Refusal :=
  .next (s.doorbell cqhead.toNat sqtail.toNat)

/-- Entries of each ring. -/
def Hub.mbxSize (h : Hub) : Nat := 2 ^ (h.mbxLog + 4)
def Hub.sqPa (h : Hub) : Nat := h.mbxBase * 4096 + h.sqHead % h.mbxSize * 64
def Hub.cqPa (h : Hub) : Nat := h.mbxBase * 4096 + h.mbxSize * 64 + h.cqTail % h.mbxSize * 16

/-- The completion ring is full: posting waits, and so does taking submissions (25 R423). -/
def Hub.cqFull (h : Hub) : Bool := (h.cqTail + 2 ^ 32 - h.cqHead % 2 ^ 32) % 2 ^ 32 == h.mbxSize

/-- The submission at the head of the ring. -/
structure Entry where
  opc : Nat
  job : Nat
  cid : Nat
  w : Nat → Nat

/-- The entry at SQHEAD, where Nymtor may take it: the rings are served, the kernel is up and the completion ring has
room (21 R387, 25 R423). -/
def State.entry (s : State) (opc : Nat) : Option Entry :=
  let h := s.hub
  if !h.mbxEn || !h.kernelUp || h.sqHead == h.sqTail || h.cqFull then none
  else
    let w (k : Nat) : Nat := s.mem.word (h.sqPa + 8 * k)
    if bits (w 0) 63 56 = opc then some { opc := opc, job := bits (w 0) 55 44, cid := bits (w 0) 31 0, w := w } else none

/-- SQHEAD passes the entry. -/
def State.taken (s : State) : State := s.modHub (fun h => { h with sqHead := (h.sqHead + 1) % 2 ^ 32, mbxMoved := 0, mbxA := none })

def State.jobSid (s : State) (job : Nat) : Nat := s.hub.jobSids.get 0 job

/-! ## Requests (25 R423) -/

/-- OPC 1: the object goes to the translator service. -/
def execMbxLoadObject (s : State) : Host.Outcome State Fault Refusal :=
  .next (match s.entry 1 with
  | none => s
  | some e => s.taken.modHub (fun h => { h with loads := h.loads ++ [(e.job, e.w 1, e.w 2, e.cid)] }))

/-- A forme's image that a launch from now on runs: the native one where it is recorded (21 R382). -/
def HeapObj.nativeDone (h : HeapObj) (k : Nat) : Bool := ((nth h.dir k).join).isSome

/-- The bind words of a template's launch for a job: FORME, and the job's space and counter. -/
def State.launchWords (s : State) (h : HeapObj) (t : LaunchTpl) (job : Nat) : List Nat :=
  let f := (nth h.obj.formes t.forme).getD {}
  let ptr := if h.nativeDone t.forme then f.nptr else f.ptr
  [setBits (setBits (bindWord t.words 0) 16 16 (s.jobSid job)) 63 1 1, ptr, bindWord t.words 2, bindWord t.words 3,
   setBits (bindWord t.words 4) 16 12 job, bindWord t.words 5, bindWord t.words 6, bindWord t.words 7]

/-- The start-token block of a launch: its forme's start entries, each naming its record's node in the image that the
launch runs (09 R197, 20 R362; log 46). -/
def templateStarts (f : DenseForme) (native : Bool) : List Nat :=
  let l := f.placed
  [f.starts.length, 0] ++ f.starts.flatMap (fun e =>
    let pos := ((nth l e.1).map (·.2.2)).getD noPlace
    let pos := if native then ((f.rootMap.find? (·.1 == pos)).map (·.2)).getD pos else pos
    [(Dest.at_ 0 pos (Port.ofCode (BitVec.ofNat 2 e.2.1))).toBits.toNat * 2 ^ 40 + bn e.2.2.1 39, e.2.2.2])

/-- The parameter page of a launch: the defaults, and the values that the mask names. -/
def launchParams (t : LaunchTpl) (mask : Nat) (w : Nat → Nat) : List Nat :=
  (List.range 64).map (fun k => if k < 6 ∧ mask.testBit k then w (2 + k) else bindWord t.params k)

/-- The lease descriptor of a template's items: each becomes a slot (03 R57, 09 R197). -/
def leaseDesc (l : List (Nat × Nat × Bool)) : Nat :=
  packWords ((List.range 16).flatMap (fun j => match nth l j with
    | some (base, len, wr) => [base, 2 ^ 63 + bn wr 62 + len]
    | none => [0, 0]))

/-- What the firmware stores for a launch before it binds it: the descriptor of its template's items, its start-token
block, and its parameter page. None: a store waits. -/
def State.launchPages (s : State) (t : LaunchTpl) (b : Bind) (starts : List Nat) (page : Nat) : Option State :=
  ((if t.leases.isEmpty then some s
   else s.hubStore 0 1026 b.sid (ptrOff b.lease) 2048 [(0, 2048, leaseDesc t.leases, false)]).bind (fun s =>
    s.hubStore 0 1026 b.sid (ptrOff b.start) (64 * starts.length) [(0, 64 * starts.length, packWords starts, false)])).bind (fun s =>
    if b.param = 0 then some s else s.hubStore 0 1026 b.sid (ptrOff b.param) 4096 [(0, 4096, page, false)])

/-- The stores of a launch that wait for a lost table report it (03 R56). -/
def State.launchStuck (s : State) (b : Bind) (n : Nat) : State :=
  ((s.hubStuck 0 b.sid (ptrOff b.lease) 2048).hubStuck 0 b.sid (ptrOff b.start) (64 * n)).hubStuck 0 b.sid (ptrOff b.param) 4096

/-- A launch's lease is refused: by its template's items, or by the descriptor it names. None: its read waits. -/
def State.launchLease (s : State) (t : LaunchTpl) (b : Bind) : State × Option Bool :=
  if t.leases.isEmpty then s.leaseCheck b
  else (s, some (leaseBad ((List.range 32).map (fun j => bits (leaseDesc t.leases) (64 * j + 63) (64 * j))) b.area
    ((b.hm1 + 1) * (b.wm1 + 1))))

/-- An entry is refused with a status the spec does not name: it is free (log 28). -/
def State.oddStatus (s : State) (cid : Nat) : State :=
  { s.taken.complete cid (1 + Config.free s.freeCtr % 0xFFFF) 0 with freeCtr := s.freeCtr + 1 }

/-- A template's launch: its lease is checked, its pages are stored, and it is bound in a free slot. -/
def State.launchTpl (s : State) (e : Entry) (h : HeapObj) (t : LaunchTpl) : State :=
  let w := s.launchWords h t e.job
  let b := Bind.of w
  let f := (nth h.obj.formes t.forme).getD {}
  let starts := templateStarts f (h.nativeDone t.forme)
  match s.launchLease t b with
  | (s, none) => s
  | (s, some true) => s.taken.complete e.cid Code.LEASE_BAD 0
  | (s, some false) => match s.freeSlot with
    | none => s
    | some k =>
      if s.commitErr w k ≠ 0 ∨ s.bindCancelled b then s.oddStatus e.cid
      else match s.launchPages t b starts (packWords (launchParams t (bits (e.w 1) 45 40) e.w)) with
        | none => s.launchStuck b starts.length
        | some s => ((s.firmCommit w k (decide (b.prio = 8))).1.taken).complete e.cid 0 b.lcnt

/-- OPC 2: the template is bound in a free slot with its parameters. The spec names no status for a launch that names
no object or template, or that COMMIT refuses: it is free (log 28). -/
def execMbxLaunch (s : State) : Host.Outcome State Fault Refusal :=
  .next (match s.entry 2 with
  | none => s
  | some e =>
    match (s.hub.heap.zipIdx).find? (fun p => p.1.sid == s.jobSid e.job && p.1.num == bits (e.w 1) 31 0 && s.heapState p.2 p.1 == 1) with
    | none => s.oddStatus e.cid
    | some (h, _) => match nth h.obj.templates (bits (e.w 1) 39 32) with
      | none => s.oddStatus e.cid
      | some t => s.launchTpl e h t)

/-- OPC 3: a counter is cancelled (20 R360). -/
def execMbxCancel (s : State) : Host.Outcome State Fault Refusal :=
  .next (match s.entry 3 with
  | none => s
  | some e =>
    (s.cntCancel (bits (e.w 1) 11 0)).taken.complete e.cid 0 0)

/-- Bits of a mailbox copy that one step moves: 64 KiB (log 30). -/
def mbxChunk : Nat := 2 ^ 19

/-- A copy's address and length are multiples of 8 (25 R423). -/
def copyOk (va len : Nat) : Bool := va % 8 == 0 && len % 8 == 0 && decide (va + len ≤ 2 ^ 60)

/-- OPC 4: host bytes are stored through galley 1026 under the job's space, in order; at the end it is released at
package scope and the entry completes. -/
def execMbxCopyToProcess (s : State) : Host.Outcome State Fault Refusal :=
  .next (match s.entry 4 with
  | none => s
  | some e =>
    let len := e.w 3; let va := e.w 2; let sid := s.jobSid e.job; let done := s.hub.mbxMoved
    let n := min mbxChunk (len - done)
    if !copyOk va len then s.taken.complete e.cid Code.ALIGN_FAULT 0
    else if n = 0 then (s.releasePkg 1026).taken.complete e.cid 0 0
    else match s.hubPieces 0 sid .write (va + done) n with
      | (s, .error k) => if k = hubWaits then s else s.taken.complete e.cid Code.XLATE_FAULT 0
      | (s, .ok l) =>
        let ps := overlay l 0 [(0, n, leNat (s.hostMem.readList (e.w 1 + done / 8) (n / 8)), false)]
        if s.galRoom 1026 (piecesCut ps).length then
          (s.appendAll 1026 0 7 sid ps).modHub (fun h => { h with mbxMoved := done + n })
        else s.hubWait 1026 (.firm sid (va + done)) (piecesCut ps).length)

/-- OPC 5: a copy read of process memory into the host's buffer. It starts at galley 1026's A and waits until D has
reached it (04 R94). A poisoned source is not delivered. -/
def execMbxCopyToHost (s : State) : Host.Outcome State Fault Refusal :=
  .next (match s.entry 5 with
  | none => s
  | some e =>
    let len := e.w 3; let va := e.w 1; let sid := s.jobSid e.job; let done := s.hub.mbxMoved
    let n := min mbxChunk (len - done)
    let a := s.hub.mbxA.getD (s.gal 1026).a
    if !copyOk va len then s.taken.complete e.cid Code.ALIGN_FAULT 0
    else if n = 0 then s.taken.complete e.cid 0 0
    else if (s.gal 1026).d < a then s.modHub (fun h => { h with mbxA := some a })
    else match s.hubRead 0 sid (va + done) n with
      | (s, .error k) => if k = hubWaits then s else s.taken.complete e.cid Code.XLATE_FAULT 0
      | (s, .ok (v, bad, _)) =>
        if !bad.isEmpty then s.taken.complete e.cid Code.POISON_CONSUMED 0
        else ({ s with hostMem := s.hostMem.writeList (e.w 2 + done / 8) (natBytes (n / 8) v) } : State).modHub (fun h =>
          { h with mbxMoved := done + n, mbxA := some a }))

/-! ## Attestation (27 R443) -/

/-- 64-bit words as bytes. -/
def wordBytes (l : List Nat) : List Byte := l.flatMap (fun w => natBytes 8 (w % 2 ^ 64))

def wordsOf256 (v : Nat) : List Nat := (List.range 4).map (fun k => bits v (64 * k + 63) (64 * k))

/-- The report up to the end of the log, for a nonce. -/
def State.report (s : State) (nonce : Nat) : List Nat :=
  let h := s.hub
  [0x41545354 * 2 ^ 32 + h.bootCount % 2 ^ 32] ++ wordsOf256 nonce ++ wordsOf256 h.measure.toNat ++ [s.healthReg] ++
    (List.range 16).map s.unavailReg ++ [s.identDev] ++
    [h.log.length % 2 ^ 16 + Config.attestPset % 256 * 2 ^ 16 + Config.attestKey % 2 ^ 32 * 2 ^ 32] ++ h.log.flatten

/-- OPC 6: the report and its signature follow the nonce in the host's buffer; RESULT is the report's length in bits. -/
def execMbxAttest (s : State) : Host.Outcome State Fault Refusal :=
  .next (match s.entry 6 with
  | none => s
  | some e =>
    let buf := e.w 1
    let body := wordBytes (s.report (s.hostMem.readBytes buf 32))
    let all := body ++ Config.sign body
    ({ s with hostMem := s.hostMem.writeList (buf + 32) all } : State).taken.complete e.cid 0 (8 * all.length))

/-! ## Completions (25 R423) -/

/-- The oldest completion goes to the ring, where there is room. -/
def execMbxCompletionPost (s : State) : Host.Outcome State Fault Refusal :=
  .next (match s.hub.comps with
  | [] => s
  | c :: rest =>
    if !s.hub.mbxEn || s.hub.cqFull then s
    else
      ({ s with mem := s.mem.writeBytes s.hub.cqPa 16 (c.cid % 2 ^ 32 + c.status % 2 ^ 16 * 2 ^ 32 + c.result % 2 ^ 64 * 2 ^ 64) } : State).modHub
        (fun h => { h with comps := rest, cqTail := (h.cqTail + 1) % 2 ^ 32 }))

end Sys2Proof.Machine
end

