-- ==== Sys2Proof/Machine/Net.lean ====
section
/-!
DEFINITION. The network port's contexts and commands, requests of peers, and the storage port (25 R430 to R435).
-/
namespace Sys2Proof.Machine

/-! ## Contexts (25 R431, R432) -/

def State.netValid (s : State) (ctx : Nat) : Bool := decide (ctx < 1024) && (s.netWord ctx 0).testBit 63

/-- The port is told a doorbell's value, or takes its slots up again: their commands start here (04 R94; log 47). -/
def State.netPost (s : State) (ctx tail : Nat) : State :=
  s.modNet ctx (fun x => { x with tail := tail, posted := (x.posted.filter (fun p => decide (x.tl < p.1))) ++ [(tail, (s.gal 1024).a, s.hub.time)] })

/-- A of galley 1024 and HUB_TIME when a slot's command started. -/
def NetCtx.start (x : NetCtx) (slot : Nat) : Nat × Nat :=
  match x.posted.find? (fun p => decide (slot < p.1)) with | some (_, a, t) => (a, t) | none => (0, 0)

/-- The doorbell's home notifies the port of the doorbell's new value. -/
def execNetDoorbell (ctx : Nat) (s : State) : Host.Outcome State Fault Refusal :=
  .next (if !s.netValid ctx then s
  else match s.hubRead 1 (s.netSid ctx) (ptrOff (s.netWord ctx 3)) 64 with
    | (s, .ok (v, [], _)) => s.netPost ctx v
    | (s, _) => s)

/-- Nymtor has rewritten word 5 of a stopped context's entry to zero; its open commands start anew (25 R434; log 47). -/
def execNetContextRestart (ctx : Nat) (s : State) : Host.Outcome State Fault Refusal :=
  .next (if !s.netValid ctx then s
  else (({ s with mem := s.mem.writeBytes (s.netPa ctx + 40) 8 0 } : State).modNet ctx (fun x =>
    { x with stopped := false, posted := [] })).netPost ctx (s.netCtx ctx).tail)

/-- A command fails: word 5 takes its status and slot, and the context stops (25 R434). -/
def State.netFail (s : State) (ctx slot status : Nat) : State :=
  ({ s with mem := s.mem.writeBytes (s.netPa ctx + 40) 8 (status % 256 + slot % 2 ^ 32 * 2 ^ 8) } : State).modNet ctx (fun x =>
    { x with stopped := true })

/-- A command has been posted and has not completed, on a context that runs: it has not stopped, and its space is not
quiesced (03 R56). -/
def State.netOpen (s : State) (ctx slot : Nat) : Bool :=
  let x := s.netCtx ctx
  s.netValid ctx && !x.stopped && !s.hub.quiesced.contains (s.netSid ctx) && decide (x.tl ≤ slot) && decide (slot < x.tail) && !x.done.contains slot

def State.netDone (s : State) (ctx slot : Nat) : State :=
  s.modNet ctx (fun x => { x with done := x.done ++ [slot], moved := x.moved.del slot })

/-- A command's fields (25 R432). -/
structure NetCmd where
  op : Nat
  localAddr : Nat
  remote : Nat
  len : Nat
deriving DecidableEq, Repr

def NetCmd.of (v : Nat) : NetCmd :=
  { op := bits v 63 60, localAddr := ptrOff (bits v 127 64), remote := bits v 191 128, len := bits v 255 192 }

/-- A command's length is one its operation takes (25 R432). -/
def NetCmd.lenOk (q : NetCmd) : Bool :=
  decide (1 ≤ q.len) && decide (q.len ≤ 2 ^ 32) && (if q.op = 2 ∨ q.op = 3 then q.len == 64 else if 4 ≤ q.op then q.len % 32 == 0 else true)

/-- An address or length that only a K4 takes (25 R430). -/
def NetCmd.unaligned (q : NetCmd) : Bool := q.localAddr % 8 ≠ 0 || q.remote % 8 ≠ 0 || q.len % 8 ≠ 0

/-- The command of a slot, read from the ring in process memory under the context's space; none where it cannot be read.
The outer none: the read waits for a lost table (03 R56). -/
def State.netCmd (s : State) (ctx slot : Nat) : State × Option (Option NetCmd) :=
  let n := 2 ^ (s.netWord ctx 2 % 16)
  match s.hubRead 1 (s.netSid ctx) (ptrOff (s.netWord ctx 1) + slot % n * 512) 512 with
  | (s, .ok (v, [], _)) => (s, some (some (NetCmd.of v)))
  | (s, .ok _) => (s, some none)
  | (s, .error k) => (s, if k = hubWaits then none else some none)

/-! ## Commands (25 R433, R434) -/

/-- A command of an operation is carried out: `status` is what the peer answers, 2 only where an address or length is
no multiple of 8. A command that cannot be read or is malformed fails with status 1. -/
def State.netRun (s : State) (ctx slot op status : Nat) (go : State → NetCmd → State) : State :=
  if !s.netOpen ctx slot then s
  else match s.netCmd ctx slot with
    | (s, none) => s
    | (s, some none) => s.netFail ctx slot 1
    | (s', some (some q)) =>
      if 6 ≤ q.op then s'.netFail ctx slot 1
      else if q.op ≠ op then s
      else if !q.lenOk then s'.netFail ctx slot 1
      else if status = 0 then go s' q
      else if status = 1 ∨ status = 4 ∨ (status = 2 ∧ q.unaligned) then s'.netFail ctx slot status
      else s

/-- A substitution that an access of a context met counts on it (03 R74). -/
def State.netSubst (s : State) (ctx : Nat) (b : Bool) : State :=
  if b then s.modNet ctx (fun x => { x with subst := (x.subst + 1) % 2 ^ 64 }) else s

/-- Local bits are copy-read and go to the peer: the read waits until D of galley 1024 has reached the A held when the
command started (04 R94). -/
def State.netOut (s : State) (ctx slot : Nat) (q : NetCmd) : State :=
  if (s.gal 1024).d < ((s.netCtx ctx).start slot).1 then s
  else match s.hubRead 1 (s.netSid ctx) q.localAddr q.len with
  | (s, .error k) => if k = hubWaits then s else s.netFail ctx slot 1
  | (s, .ok (_, bad, sub)) =>
    let s := s.netSubst ctx sub
    if bad.isEmpty then s.netDone ctx slot else s.netFail ctx slot 4

/-- The peer's bits are appended locally to galley 1024, as they arrive; a full ring makes them wait. -/
def State.netIn (s : State) (ctx slot : Nat) (q : NetCmd) (reply : List Byte) : State :=
  let done := (s.netCtx ctx).moved.get 0 slot
  let n := min (q.len - done) (8 * reply.length)
  let sid := s.netSid ctx
  match s.hubPieces 1 sid .write (q.localAddr + done) n with
  | (s, .error k) => if k = hubWaits then s else s.netFail ctx slot 1
  | (s, .ok l) =>
    let ps := overlay l 0 [(0, n, leNat reply % 2 ^ n, false)]
    if !s.galRoom 1024 (piecesCut ps).length then s.hubWait 1024 (.net ctx slot) (piecesCut ps).length
    else
      let s := s.appendAll 1024 0 7 sid ps
      if q.len ≤ done + n then s.netDone ctx slot
      else s.modNet ctx (fun x => { x with moved := x.moved.put slot (done + n) })

def execPut (ctx slot status : Nat) (_ : List Byte) (s : State) : Host.Outcome State Fault Refusal :=
  .next (s.netRun ctx slot 0 status (fun s q => s.netOut ctx slot q))

def execGet (ctx slot status : Nat) (reply : List Byte) (s : State) : Host.Outcome State Fault Refusal :=
  .next (s.netRun ctx slot 1 status (fun s q => s.netIn ctx slot q reply))

/-- The old value of the peer's word is appended locally. -/
def execNetFadd (ctx slot status : Nat) (reply : List Byte) (s : State) : Host.Outcome State Fault Refusal :=
  .next (s.netRun ctx slot 2 status (fun s q => if reply.length = 8 then s.netIn ctx slot q reply else s))

def execCas (ctx slot status : Nat) (reply : List Byte) (s : State) : Host.Outcome State Fault Refusal :=
  .next (s.netRun ctx slot 3 status (fun s q => if reply.length = 8 then s.netIn ctx slot q reply else s))

def execRaddI32 (ctx slot status : Nat) (_ : List Byte) (s : State) : Host.Outcome State Fault Refusal :=
  .next (s.netRun ctx slot 4 status (fun s q => s.netOut ctx slot q))

def execRaddF32 (ctx slot status : Nat) (_ : List Byte) (s : State) : Host.Outcome State Fault Refusal :=
  .next (s.netRun ctx slot 5 status (fun s q => s.netOut ctx slot q))

/-- A peer has not answered within 1 s of the command's start (25 R434; log 47). -/
def execNetTimeout (ctx slot : Nat) (s : State) : Host.Outcome State Fault Refusal :=
  .next (if s.netOpen ctx slot && decide (((s.netCtx ctx).start slot).2 + 10 ^ 9 ≤ s.hub.time) then s.netFail ctx slot 3 else s)

/-- The timeline passes the next completed slot, with a release of galley 1024 and its stamp (04 R92, 25 R433). -/
def execNetComplete (ctx : Nat) (s : State) : Host.Outcome State Fault Refusal :=
  let x := s.netCtx ctx
  .next (if !s.netValid ctx || !x.done.contains x.tl then s
  else
    let s := s.releasePkg 1024
    let tl := (x.tl + 1) % 2 ^ 64
    ({ s with mem := s.mem.writeBytes (s.netPa ctx + 32) 8 tl } : State).modNet ctx (fun y =>
      { y with tl := tl, done := y.done.filter (· != x.tl), stamp := some { gal := 1024, pos := (s.gal 1024).p } }))

/-! ## Requests of peers (25 R433) -/

/-- One atomic of a peer at a word's home; a poisoned sector changes nothing (03 R74, 13 R292). -/
def State.peerAtomic (s : State) (pba w : Nat) (f : Nat → Nat) : State :=
  if s.bitsBad pba w then s else { s with mem := s.mem.writeBits pba w (f (s.mem.readBits pba w)) }

/-- The words that a peer's atomics name, translated: physical bit addresses (25 R433). -/
def State.peerWords (s : State) (sid addr w : Nat) : Nat → State × List Nat
  | 0 => (s, [])
  | n + 1 => match s.hubPieces 1 sid .atomic addr w with
    | (s, .ok ((pba, _, _) :: _)) => let r := State.peerWords s sid (addr + w) w n; (r.1, pba :: r.2)
    | (s, _) => (s, [])

/-- A request of a peer that reads the base image is issued at galley 1024's A, and goes on once D has reached it: an
atomic's words at their homes each as one step of home order, a GET as a copy read (04 R91, R94, 25 R433). -/
def State.peerAsk (s : State) (ctx : Nat) (q : PeerReq) (homes : List Nat) (go : State → State) : State :=
  match (s.netCtx ctx).peers.find? (·.1 == q) with
  | none => s.modNet ctx (fun x => { x with peers := x.peers ++ [(q, (s.gal 1024).a, homes)] })
  | some (_, a, _) =>
    if (s.gal 1024).d < a then s
    else (go s).modNet ctx (fun x => { x with peers := x.peers.filter (·.1 != q) })

/-- The atomics of a peer's request, each at its word's home. -/
def State.peerAtomics (s : State) (ctx : Nat) (q : PeerReq) (w : Nat) (words : List Nat) (f : Nat → Nat → Nat) : State :=
  s.peerAsk ctx q (words.filterMap (fun p => s.home (p / 8))) (fun s =>
    ((words.zipIdx).foldl (fun s p => s.peerAtomic p.1 w (f p.2)) s).releasePkg 1024)

/-- A peer's request is carried out under its context's space, appended to galley 1024 and released at package scope.
What a GET or an atomic answers leaves the device. A page that does not translate takes nothing. A context of a
quiesced space waits (03 R56). -/
def execPeerRequest (ctx op addr len : Nat) (opnd swap : Word) (data : List Byte) (s : State) : Host.Outcome State Fault Refusal :=
  let sid := s.netSid ctx
  let v := leNat data
  let q : PeerReq := { op := op, addr := addr, len := len, opnd := opnd.toNat, swap := swap.toNat, data := v }
  let atoms (w n : Nat) (f : Nat → Nat → Nat) : State :=
    if addr % w ≠ 0 then s else let r := s.peerWords sid addr w n; r.1.peerAtomics ctx q w r.2 f
  let n := min len (8 * data.length)
  let el (k : Nat) : Nat := bits v (32 * k + 31) (32 * k)
  .next (if !s.netValid ctx || s.hub.quiesced.contains sid then s
  else if op = 0 then
    match s.hubStore 1 1024 sid addr n [(0, n, v, false)] with
    | some s => s.releasePkg 1024
    | none => s.hubStuck 1 sid addr n (.peer sid addr)
  else if op = 1 then
    s.peerAsk ctx q [] (fun s => match s.hubRead 1 sid addr len with
      | (s, .ok (_, _, sub)) => s.netSubst ctx sub
      | (s, .error _) => s)
  else if op = 2 then atoms 64 1 (fun _ old => atomNew .add 64 old opnd.toNat)
  else if op = 3 then atoms 64 1 (fun _ old => if old = opnd.toNat then swap.toNat else old)
  else if op = 4 then atoms 32 (min (len / 32) (data.length / 4)) (fun k old => atomNew .add 32 old (el k))
  else if op = 5 then atoms 32 (min (len / 32) (data.length / 4)) (fun k old => (fatomLane .fadd false old (el k)).code)
  else s)

/-! ## Storage (25 R435) -/

/-- The status of a queue pair's operation under a space. -/
def State.stoEnd (s : State) (qp sid status : Nat) : State :=
  s.modHub (fun h => { h with sto := h.sto.put qp { h.sto.get {} qp with sid := sid, status := status } })

/-- Bits that a read has brought are appended to galley 1025, where its ring has room. -/
def State.stoFill (s : State) (qp sid : Nat) (ps : List (Nat × Nat × Nat × Bool)) : State :=
  if s.galRoom 1025 (piecesCut ps).length then (s.appendAll 1025 0 7 sid ps).stoEnd qp sid 0
  else s.hubWait 1025 (.sto qp) (piecesCut ps).length

/-- An NVMe read of a queue pair fills a frame with stores of galley 1025 (25 R435). An address that is no frame's is
translated under the queue pair's SID by the port; a fault ends the operation with XLATE_FAULT on its context (03 R46). A
queue pair of a quiesced space waits (03 R56). -/
def execStorageReadComplete (qp : Nat) (dst : StorageDst) (data : List Byte) (s : State) :
    Host.Outcome State Fault Refusal :=
  let sid := dst.sid; let addr := dst.addr
  let w := 8 * data.length
  .next (if data.isEmpty || 256 ≤ qp || s.hub.quiesced.contains sid then s
  else if dst.frame then
    if (s.home addr).isNone || (s.home (addr + data.length - 1)).isNone then s
    else s.stoFill qp sid [(8 * addr, w, leNat data, false)]
  else match s.hubPieces 2 sid .write addr w with
    | (s, .error k) => if k = hubWaits then s else s.stoEnd qp sid Code.XLATE_FAULT
    | (s, .ok l) => s.stoFill qp sid (overlay l 0 [(0, w, leNat data, false)]))

end Sys2Proof.Machine
end

