-- ==== Sys2Proof/Machine/Boot.lean ====
section
/-!
DEFINITION. Reset, boot, temperatures and power (22 R398, R402, 27 R441 to R448). What the sensors and meters read, and
whether a signature verifies, are arguments of the events (log 8).
-/
namespace Sys2Proof.Machine

/-! ## Reset and boot -/

/-- What the health record in the always-on island's store keeps of a cluster over a reset (22 R398). -/
def Cluster.healthOnly (x : Cluster) : Cluster :=
  { sp0 := x.sp0, sp1 := x.sp1, sites := x.sites, health := x.health, site := x.site, failed := x.failed }

/-- The lists' union, without repeats. -/
def unionNat (a b : List Nat) : List Nat := b.foldl (fun l x => if l.contains x then l else l ++ [x]) a

/-- The package after a reset that fences the dies of a list; each live die has two stacks, and MS is half their number
(03 R55): every register at its reset value, the health record
applied; the memories and what lies outside the package stay (22 R398, R402, 27 R441). -/
def State.deviceReset (s : State) (fence : List Nat) : State :=
  let h := s.hub
  let fenced := unionNat h.fenced ((h.toFence ++ fence).filter (· < 4))
  let live := s.present.filter (fun d => !fenced.contains d)
  { State.reset with
    agenda := s.agenda
    freeCtr := s.freeCtr
    serial := s.serial
    mem := s.mem
    poison := s.poison
    eccBad := s.eccBad
    hostMem := s.hostMem
    objects := s.objects
    formes := s.formes
    present := s.present
    lpddr := s.lpddr
    cxl := s.cxl
    cls := s.cls.map (fun (p : Nat × Cluster) => (p.1, p.2.healthOnly))
    hub := { tamHigh := h.tamHigh, tamLow := h.tamLow, actSlot := h.actSlot, drones := h.drones,
             bootCount := h.bootCount + 1, fenced := fenced, ptMs := live.length,
             unavail := unionNat h.unavail ((List.range 1024).filter (fun c => fenced.contains (dieOf c))) } }

/-- Reset starts boot from the root of trust. -/
def execDeviceReset (fence : List Nat) (s : State) : Host.Outcome State Fault Refusal := .next (s.deviceReset fence)

/-- Training repairs the lanes found faulty; how many there are is the package's own, 0 to 4 a direction (25 R425). The
module reads 1 until training ends (log 54). -/
def LinkMod.trained (x : LinkMod) (a b : Nat) : LinkMod :=
  { x with stat := 1, repaired := a % 5 + b % 5, up := { x.up with spares := 4 - a % 5 },
           down := { x.down with spares := 4 - b % 5 } }

/-- The two ends of a link are there: dies l and l + 1, or, of links 4 to 7, the hub and die l − 4 (25 R424). -/
def State.linkThere (s : State) (l : Nat) : Bool :=
  if l < 4 then s.dieLive l && s.dieLive ((l + 1) % 4) else s.dieLive (l - 4)

/-- Die-link training of boot stage 2 (27 R441). -/
def State.trainLinks (s : State) : State :=
  let n := s.freeCtr
  let s := (List.range 32).foldl (fun s k =>
    if s.linkThere (k / 4) then
      { s with links := s.links.put k ((s.linkMod (k / 4) (k % 4)).trained (Config.free (n + 2 * k)) (Config.free (n + 2 * k + 1))) }
    else s) s
  { s with freeCtr := n + 64 }

/-- The management firmware's image may raise HUB_TAM_WIN's fields, both together, and never lowers them (21 R379;
log 86). -/
def State.firmwareUpdate (s : State) : State :=
  s.modHub (fun h =>
    let high := max h.tamHigh (Config.firmwareHigh (BitVec.ofNat 256 (packWords (((h.log.getLast?).getD []).drop 1))) % 256)
    { h with tamHigh := high, tamLow := if high = h.tamHigh then h.tamLow else high - 4 })

/-- A stage is entered: stage 2 trains the links; stage 3 starts Nymtor. -/
def State.enterStage (s : State) (stage : Nat) (kslot : Bool) : State :=
  let s := s.modHub (fun h => { h with bootStage := stage })
  if stage = 1 then s.firmwareUpdate
  else if stage = 2 then s.trainLinks
  else if stage = 3 then s.modHub (fun h => { h with kernelUp := true, actSlot := kslot, hostWin := some Config.hostWindow })
  else s

/-- A stage's image is not valid: boot stops; the first kernel slot's failure turns to the other slot (27 R442). -/
def State.stageFailed (s : State) (stage : Nat) (kslot : Bool) : State :=
  s.modHub (fun h => if stage = 3 ∧ h.bootFail.isNone then { h with bootFail := some kslot }
    else { h with bootStopped := true, hostWin := none })

/-- The slot that stage 3 fetches: the active one, then the other. -/
def Hub.bootSlot (h : Hub) : Bool := match h.bootFail with | none => h.actSlot | some b => !b

/-- A stage's image is verified and measured, and entered when it is valid. -/
def execBootStage (stage : Nat) (kslot : Bool) (pset keyid : Nat) (digest : BitVec 256) (verified : Bool) (s : State) :
    Host.Outcome State Fault Refusal :=
  let h := s.hub
  let ok := verified && 1 ≤ pset && pset ≤ 6
  .next (if h.bootStopped || stage ≠ h.bootStage + 1 || 3 < stage || (stage = 3 && kslot != h.bootSlot) then s
  else
    let s := s.measured stage (stage = 3 && kslot) pset keyid digest (!ok)
    if ok then s.enterStage stage kslot else s.stageFailed stage kslot)

/-! ## Die temperatures (27 R445, R446) -/

/-- The temperature at a register field of 12 bits, in 1/8 °C. -/
def degrees (v : Nat) : Int := sext v 12

/-- The greater of two temperatures. -/
def hotter (a b : Nat) : Nat := if degrees a < degrees b then b else a

/-- The level's clock in MHz (27 R444). -/
def levelFreq (level : Nat) : Nat := 850 - 50 * level

def Therm.at_ (t : Therm) (level : Nat) (time : Nat) : Therm := { t with throttle := level, freq := levelFreq level, last := time }

/-- THERM_NOTICE of a die (27 R446). -/
def State.thermNotice (s : State) (d kind : Nat) : State :=
  s.pushFault { queue := nymtorQueue, code := Code.THERM_NOTICE, origin := 5, cause := d + 8 * kind }

def State.setTherm (s : State) (d : Nat) (t : Therm) : State := { s with therm := s.therm.put d t }

/-- The controller's action on TMAX, and the kind of the notice it raises. `old` is TMAX before (27 R446). -/
def Therm.act (t : Therm) (old : Int) (time : Nat) : Therm × Option Nat :=
  let new := degrees t.tmax
  if t.stat ≠ 3 ∧ 880 ≤ new ∧ (old < 880 ∨ t.stat ≠ 2) then
    ({ t.at_ (min 9 (t.throttle + 1)) time with stat := 2 }, if t.stat = 2 then none else some 1)
  else if t.stat = 0 ∧ 800 ≤ new then ({ t with stat := 1 }, some 0)
  else if t.stat = 1 ∧ new < 784 then ({ t with stat := 0 }, none)
  else if t.stat = 2 ∧ new < 840 ∧ 840 ≤ old then ({ t with last := time }, none)
  else (t, none)

/-- A die's 16 sensors update. -/
def execThermSample (d : Nat) (temps : List (BitVec 12)) (s : State) : Host.Outcome State Fault Refusal :=
  .next (if temps.length ≠ 16 || !s.dieLive d then s
  else
    let t := s.thermOf d
    let v := temps.map (·.toNat)
    let hot := (List.range 16).map (fun i => hotter (bindWord t.hotmax i) (bindWord v i))
    let (t', note) := ({ t with temp := v, hotmax := hot, tmax := (v.drop 1).foldl hotter (bindWord v 0) } : Therm).act
      (degrees t.tmax) s.hub.time
    let s := s.setTherm d t'
    match note with | some k => s.thermNotice d k | none => s)

/-- Every 100 µs at or above 108 °C the throttle level rises by one, up to 9. -/
def execThrottleStepUp (d : Nat) (s : State) : Host.Outcome State Fault Refusal :=
  let t := s.thermOf d
  .next (if t.stat = 2 ∧ 864 ≤ degrees t.tmax ∧ t.last + 100000 ≤ s.hub.time ∧ s.dieLive d then
    s.setTherm d (t.at_ (min 9 (t.throttle + 1)) s.hub.time) else s)

/-- Every 1 ms below 105 °C the throttle level falls by one; at 0 the die's STATE is 1. -/
def execThrottleStepDown (d : Nat) (s : State) : Host.Outcome State Fault Refusal :=
  let t := s.thermOf d
  .next (if t.stat = 2 ∧ degrees t.tmax < 840 ∧ t.last + 1000000 ≤ s.hub.time ∧ s.dieLive d then
    let t := t.at_ (t.throttle - 1) s.hub.time
    if t.throttle = 0 then (s.setTherm d { t with stat := 1 }).thermNotice d 2 else s.setTherm d t
  else s)

/-- TMAX reaches 120 °C: every cluster of every fabric die halts as under HALT_FREEZE. -/
def execThermCrit (d : Nat) (s : State) : Host.Outcome State Fault Refusal :=
  let t := s.thermOf d
  .next (if 960 ≤ degrees t.tmax ∧ t.stat ≠ 3 ∧ s.dieLive d then
    let s := s.setTherm d { t with stat := 3 }
    let s := ((List.range 1024).filter s.present?).foldl (fun s c => s.haltStart c true) s
    s.pushFault { queue := nymtorQueue, code := Code.THERM_CRIT, origin := 5, cause := d }
  else s)

/-! ## HBM refresh (27 R447) -/

/-- The band at a temperature: bounds of 85, 95 and 105 °C, crossed upward, and left 2 °C below. -/
def bandAt (band : Nat) (t : Int) : Nat :=
  let enter := if 840 < t then 3 else if 760 < t then 2 else if 680 < t then 1 else 0
  let stay := if 824 < t then 3 else if 744 < t then 2 else if 664 < t then 1 else 0
  max enter (min band stay)

/-- A stack's temperature is reported; its band changes at the next refresh interval. -/
def execHbmBandChange (k : Nat) (temp : BitVec 12) (s : State) : Host.Outcome State Fault Refusal :=
  .next (if !s.dieLive (k / 2) then s
  else
    let x := s.stackOf k
    let b := bandAt x.band (degrees temp.toNat)
    let s := { s with hbmStacks := s.hbmStacks.put k { temp := temp.toNat, hotmax := hotter x.hotmax temp.toNat, band := b } }
    if b = 3 ∧ x.band ≠ 3 then s.pushFault { queue := nymtorQueue, code := Code.HBM_HOT, origin := 5, cause := k } else s)

/-! ## Power (27 R444, R448) -/

/-- A drone unit runs in a slot, and no pre-emption of it is under way. -/
def Slot.droneRuns (x : Slot) : Bool := x.drone && x.state == 2 && x.pre == 0

/-- The most recently started drone unit. -/
def State.lastDrone (s : State) : Option Nat :=
  (s.hub.slots.foldl (fun (b : Option (Nat × Nat)) p =>
    if p.2.droneRuns then
      match b with
      | none => some (p.1, p.2.startOrder)
      | some (k, n) => if n < p.2.startOrder then some (p.1, p.2.startOrder) else some (k, n)
    else b) none).map (·.1)

/-- Every quadrant island of a present die changes (01 R21). -/
def State.modIslands (s : State) (f : Island → Island) : State :=
  ((List.range 16).filter s.islandThere).foldl (fun s i => s.modHub (fun h =>
    { h with islands := h.islands.put i (f (h.islands.get {} i)) })) s

/-- CAP moves one level slower, or one of the levels so taken back. -/
def Island.slower (x : Island) : Island := if x.cap < 9 then { x with cap := x.cap + 1, lowered := x.lowered + 1 } else x
def Island.restored (x : Island) : Island :=
  if x.lowered = 0 then x else { x with cap := x.cap - 1, lowered := x.lowered - 1 }

/-- Each island's own meter is free: the spec states what PWR measures and no value (27 R444; log 2). -/
def State.meterIslands (s : State) : State :=
  let n := s.freeCtr
  let s := ((List.range 24).filter s.islandThere).foldl (fun s i => s.modHub (fun h =>
    { h with islands := h.islands.put i { h.islands.get {} i with pwr := Config.free (n + i) % 4096 } })) s
  { s with freeCtr := n + 24 }

/-- Each millisecond the firmware compares power with the set point: it binds a drone below, pre-empts the latest above,
and moves CAP above 3,200 W. -/
def execPwrEvaluate (watts : Nat) (s : State) : Host.Outcome State Fault Refusal :=
  let w := min watts 4095
  let set := s.hub.pwrSet
  let above := decide (102 * set < 100 * w)
  let drone := s.lastDrone
  let s := s.meterIslands.modHub (fun h => { h with pwrMeas := w, pwrOver := above && drone.isNone })
  .next (if !s.hub.pwrEn then s
  else
    let s := if 3200 < w then s.modIslands Island.slower else if w < 3000 then s.modIslands Island.restored else s
    if 100 * w < 98 * set then s.droneBind
    else match above, drone with
      | true, some k => s.preemptOp k
      | _, _ => s)

/-- An island takes the level max(CAP, its die's throttle level) at a firing boundary of its clusters. -/
def execIslandLevelChange (i : Nat) (s : State) : Host.Outcome State Fault Refusal :=
  .next (if 16 ≤ i || !s.islandThere i then s
  else s.modHub (fun h =>
    let x := h.islands.get {} i
    { h with islands := h.islands.put i { x with lvl := max x.cap (s.thermOf (i / 4)).throttle } }))

end Sys2Proof.Machine
end

