-- ==== Sys2Proof/Machine/Fabric.lean ====
section
/-!
DEFINITION. The die links: arbitration, credits, flits, acknowledgement, replay, and retraining (06 R141, 25 R424 to R429,
26 R437).
-/
namespace Sys2Proof.Machine

def LinkMod.dir (x : LinkMod) (up : Bool) : LinkDir := if up then x.up else x.down
def LinkMod.setDir (x : LinkMod) (up : Bool) (d : LinkDir) : LinkMod := if up then { x with up := d } else { x with down := d }

def State.modLink (s : State) (l m : Nat) (f : LinkMod → LinkMod) : State :=
  { s with links := s.links.put (4 * l + m) (f (s.linkMod l m)) }

/-- The channels in the order a link serves them: those refused in 256 consecutive cycles first, then 1, 3, 2, 0, 4,
5 (06 R141). -/
def vcServed (refused : Tbl Nat) (ready : List Nat) : List Nat :=
  let l := [1, 3, 2, 0, 4, 5].filter (fun v => ready.contains v)
  l.filter (fun v => decide (256 ≤ refused.get 0 v)) ++ l.filter (fun v => decide (refused.get 0 v < 256))

/-- Channels that have been served are refused no longer. -/
def vcClear (refused : Tbl Nat) (served : List Nat) : Tbl Nat := refused.filter (fun p => !served.contains p.1)

/-- The ACK that a direction's flits carry: the last flit the other direction has received in order (25 R426). -/
def LinkMod.ackFor (x : LinkMod) (dir : Bool) : Nat := ((x.dir !dir).rxexp + 4095) % 4096

/-- Flits up to an ACK leave the replay buffer (25 R427). -/
def ackDrop (held : List Flit) (ack : Nat) : List Flit :=
  match held.findIdx? (·.seq == ack) with | some i => held.drop (i + 1) | none => held

/-- The messages that wait in a direction's buffers, in the order of arbitration (06 R141). -/
def State.linkOrder (s : State) (l m : Nat) (dir : Bool) : List Msg :=
  let wait : List Msg := s.waitingFor l m dir
  (vcServed ((s.linkMod l m).dir dir).refused (wait.map (·.vc))).flatMap (fun v => wait.filter (·.vc == v))

/-! ## Flits as bits (25 R426) -/

/-- A message's length in beats, its header included (log 85). -/
def msgBeats (id : Nat) : Nat := 1 + Config.msgBeats id % 127

/-- The beats of a fragment: a header has the channel in [63:61] and the length in [60:54]. -/
def Frag.words (g : Frag) : List Nat :=
  (List.range g.n).map (fun k =>
    if g.first + k = 0 then g.vc * 2 ^ 61 + msgBeats g.id * 2 ^ 54 + Config.beat g.id 0 % 2 ^ 54
    else Config.beat g.id (g.first + k) % 2 ^ 64)

def FlitKind.fk : FlitKind → Nat
  | .data => 0 | .control => 1 | .nak => 2 | .retrain => 3

/-- Bits [2015:0] of a flit; unused beats are zero. -/
def Flit.body (f : Flit) : Nat :=
  packWords (f.frags.flatMap Frag.words) * 2 ^ 64 + f.seq % 4096 * 2 ^ 52 + f.ack % 4096 * 2 ^ 40 + f.kind.fk * 2 ^ 37 +
    (List.range 6).foldl (fun n v => n + f.credit.get 0 v % 64 * 2 ^ (6 * v)) 0

/-- CRC-32C of bits [2015:0], bit 0 first. -/
def crc32c (v : Nat) : Nat :=
  (List.range 2016).foldl (fun c k => if c.testBit 0 != v.testBit k then c / 2 ^^^ 0x82F63B78 else c / 2) 0xFFFFFFFF ^^^ 0xFFFFFFFF

def Flit.word (f : Flit) : Nat := crc32c f.body * 2 ^ 2016 + f.body % 2 ^ 2016

/-- A word as it arrives, with the bits that the wire has flipped. -/
def flipBits (v : Nat) (l : List Nat) : Nat := l.foldl (fun n k => n ^^^ 2 ^ (k % 2048)) v

/-- A word passes CRC. -/
def flitSound (w : Nat) : Bool := w / 2 ^ 2016 == crc32c (w % 2 ^ 2016)

/-! ## Credits (06 R141, 25 R426) -/

/-- The buffers of a channel at a receiver (log 85). -/
def vcBuffers (v : Nat) : Nat := 1 + Config.vcBuffers v % 63

/-- A message has left the buffer that a direction delivered it into. -/
def State.leftBuf (s : State) (e : Nat × Nat × Nat) : Bool :=
  !s.netMsgs.any (fun m => m.id == e.1 && !m.inLink && m.hops.length == e.2.2)

/-- The credits that a direction's flits return: those of the buffers the other direction fills. -/
def State.creditsDue (s : State) (x : LinkMod) (dir : Bool) : Tbl Nat :=
  let l := (x.dir !dir).bufs.filter s.leftBuf
  (List.range 6).filterMap (fun v => let n := l.countP (·.2.1 == v); if n = 0 then none else some (v, n))

/-- A flit of a direction sets out: it carries the ACK and the credits that are due. -/
def State.putFlit (s : State) (l m : Nat) (dir : Bool) (kind : FlitKind) (seq : Nat) (frags : List Frag) : State :=
  let x := s.linkMod l m
  let f : Flit := { seq := seq, ack := x.ackFor dir, kind := kind, credit := s.creditsDue x dir, frags := frags }
  s.modLink l m (fun x =>
    let d := x.dir dir
    let o := x.dir !dir
    (x.setDir dir { d with wire := d.wire ++ [f], heldF := if kind = .data then d.heldF ++ [f] else d.heldF }).setDir (!dir)
      { o with bufs := o.bufs.filter (fun e => !s.leftBuf e) })

/-- Returned credits can be used again. -/
def creditBack (used c : Tbl Nat) : Tbl Nat := used.map (fun p => (p.1, p.2 - c.get 0 p.1))

/-! ## Senders (25 R426, R427, 26 R437) -/

/-- The beats of the messages that are ready, in the order of arbitration, up to a flit's room; a channel without a
credit waits. -/
def fragsOf : Tbl Nat → Nat → List Msg → List Frag
  | _, _, [] => []
  | used, room, m :: rest =>
    if room = 0 then []
    else if used.get 0 m.vc < vcBuffers m.vc then
      let n := min room (msgBeats m.id)
      { id := m.id, vc := m.vc, first := 0, n := n } :: fragsOf (used.put m.vc (used.get 0 m.vc + 1)) (room - n) rest
    else fragsOf used room rest

/-- What is left of the message that a payload's end cuts. -/
def cutOf (l : List Frag) : Option Frag :=
  l.getLast?.bind (fun g =>
    if g.first + g.n < msgBeats g.id then some { g with first := g.first + g.n, n := msgBeats g.id - (g.first + g.n) } else none)

/-- The payload of a direction's next data flit: the rest of a message that was cut, then every message that is ready, up
to 30 beats (26 R437). -/
def State.payload (s : State) (l m : Nat) (dir : Bool) : List Frag :=
  let d := (s.linkMod l m).dir dir
  let old : List Frag := match d.cut with | some g => [{ g with n := min 30 g.n }] | none => []
  old ++ fragsOf d.used (30 - old.foldl (fun n g => n + g.n) 0) (s.linkOrder l m dir)

/-- A data flit sets out, where the module works, no NAK waits for its replay, and the replay buffer has room. -/
def State.sendFlit (s : State) (l m : Nat) (dir : Bool) : State :=
  let x := s.linkMod l m
  let d := x.dir dir
  let go := s.payload l m dir
  if x.stat ≠ 2 || d.nakWire.isSome || decide (256 ≤ d.heldF.length) || go.isEmpty then s
  else
    let new := go.filter (·.first == 0)
    let s := s.putFlit l m dir .data d.txseq go
    let s := { s with netMsgs := s.netMsgs.map (fun (y : Msg) => if new.any (·.id == y.id) then { y with inLink := true } else y) }
    s.modLink l m (fun x => x.setDir dir { x.dir dir with
      txseq := (d.txseq + 1) % 4096, cut := cutOf go, refused := vcClear d.refused (new.map (·.vc))
      used := new.foldl (fun t g => t.put g.vc (t.get 0 g.vc + 1)) d.used })

/-- A sender sends a data flit with the messages that are ready at that slot. -/
def execFlitSend (l m : Nat) (dir : Bool) (s : State) : Host.Outcome State Fault Refusal := .next (s.sendFlit l m dir)

/-- A direction of a link's module, by its number 4l + m, serves a channel that has been refused for 256 consecutive
cycles, first (06 R141). -/
def execVcStarvationPriority (link : Nat) (dir : Bool) (s : State) : Host.Outcome State Fault Refusal :=
  let l := link / 4; let m := link % 4
  let d := (s.linkMod l m).dir dir
  .next (if (s.waitingFor l m dir).any (fun x => decide (256 ≤ d.refused.get 0 x.vc)) then s.sendFlit l m dir else s)

/-- A control flit carries the ACK and the credits that are due (25 R427). -/
def execControlFlit (l m : Nat) (dir : Bool) (s : State) : Host.Outcome State Fault Refusal :=
  .next (if (s.linkMod l m).stat ≠ 2 then s else s.putFlit l m dir .control ((s.linkMod l m).dir dir).txseq [])

/-! ## Receivers (25 R427) -/

/-- The messages that end in a flit have made their crossing, and stand in the receiver's buffers. -/
def State.deliver (s : State) (l m : Nat) (dir : Bool) (f : Flit) : State :=
  let ids := (f.frags.filter (fun g => g.first + g.n == msgBeats g.id)).map (·.id)
  let came := (s.netMsgs.filter (fun (y : Msg) => ids.contains y.id)).map (fun y => (y.id, y.vc, y.hops.length - 1))
  { s with netMsgs := s.netMsgs.map (fun (y : Msg) =>
      if ids.contains y.id then { y with inLink := false, hops := y.hops.drop 1 } else y) }.modLink l m (fun x =>
    x.setDir dir { x.dir dir with bufs := (x.dir dir).bufs ++ came })

/-- The receiver of a direction sends a NAK (25 R427). -/
def State.sendNak (s : State) (l m : Nat) (dir : Bool) : State :=
  (s.putFlit l m (!dir) .nak ((s.linkMod l m).dir !dir).txseq []).modLink l m (fun x => x.setDir dir { x.dir dir with nak := true })

/-- A flit's ACK and credits reach the sender of the other direction. -/
def State.takeAck (s : State) (l m : Nat) (dir : Bool) (f : Flit) : State :=
  s.modLink l m (fun x =>
    let o := x.dir !dir
    x.setDir (!dir) { o with heldF := ackDrop o.heldF f.ack, used := creditBack o.used f.credit })

/-- Both markers have been exchanged and the module is retrained: each receiver sends a NAK (25 R428). -/
def State.retrained (s : State) (l m : Nat) : State :=
  let x := s.linkMod l m
  if x.up.marked && x.down.marked then
    ((s.modLink l m (fun x => { x with stat := 2, up := { x.up with marked := false }, down := { x.down with marked := false } })).sendNak
      l m true).sendNak l m false
  else s

/-- A receiver takes the oldest flit on the wire. One that fails CRC is dropped and counted, and answered with a NAK
unless one is outstanding; the credits of a flit that is not replayed are due again, and a lost retrain marker is sent
again (log 85). A data flit with SEQ = E is delivered, and any other is dropped. `flips` are the bits that the wire has
changed. -/
def execFlitReceive (l m : Nat) (dir : Bool) (flips : List Nat) (s : State) : Host.Outcome State Fault Refusal :=
  let d := (s.linkMod l m).dir dir
  .next (match d.wire with
  | [] => s
  | f :: rest =>
    let s := s.modLink l m (fun x => x.setDir dir { x.dir dir with wire := rest })
    if !flitSound (flipBits f.word flips) then
      let s := s.modLink l m (fun x => x.setDir dir { x.dir dir with err := (d.err + 1) % 2 ^ 48 })
      let s := if f.kind = .data then s else s.modLink l m (fun x =>
        let o := x.dir !dir
        x.setDir (!dir) { o with bufs := o.bufs ++ f.credit.flatMap (fun p => List.replicate p.2 (0, p.1, 9)) })
      let s := if f.kind = .retrain then s.putFlit l m dir .retrain f.seq [] else s
      if d.nak then s else s.sendNak l m dir
    else
      let s := if f.seq = d.rxexp then s.modLink l m (fun x => x.setDir dir { x.dir dir with nak := false }) else s
      match f.kind with
      | .data =>
        if f.seq = d.rxexp then
          ((s.deliver l m dir f).modLink l m (fun x => x.setDir dir { x.dir dir with rxexp := (d.rxexp + 1) % 4096 })).takeAck l m dir f
        else s
      | .control => s.takeAck l m dir f
      | .nak => (s.takeAck l m dir f).modLink l m (fun x => x.setDir (!dir) { x.dir !dir with nakWire := some f.ack })
      | .retrain => ((s.takeAck l m dir f).modLink l m (fun x => x.setDir dir { x.dir dir with marked := true })).retrained l m)

/-- The sender answers a NAK: every held flit above its ACK is sent again, in order, before any new one (25 R427). -/
def execNakReplay (l m : Nat) (dir : Bool) (s : State) : Host.Outcome State Fault Refusal :=
  let d := (s.linkMod l m).dir dir
  .next (match d.nakWire with
  | none => s
  | some a =>
    let held := ackDrop d.heldF a
    s.modLink l m (fun x => x.setDir dir { d with
      heldF := held, wire := d.wire ++ held, rpl := (d.rpl + held.length) % 2 ^ 48, nakWire := none }))

/-! ## Retraining (25 R425, R428) -/

/-- The lower-numbered fabric die of a link (25 R424, R428). -/
def linkDie (l : Nat) : Nat := if l < 4 then min l ((l + 1) % 4) else l - 4

/-- Both ends stop sending data flits and send a retrain marker. -/
def State.startRetrain (s : State) (l m : Nat) (f : LinkMod → LinkMod) : State :=
  let s := s.modLink l m (fun x => { f x with stat := 3, up := { (f x).up with marked := false }, down := { (f x).down with marked := false } })
  (s.putFlit l m true .retrain (s.linkMod l m).up.txseq []).putFlit l m false .retrain (s.linkMod l m).down.txseq []

/-- A retrain is requested, or a lane of a direction fails: a redundant lane of the direction replaces it, or the module
goes to x32 where one half of its lanes is sound; a module that cannot hold x32 is the fault of a die (25 R425, R428,
22 R402). -/
def execLaneFailure (l m : Nat) (dir : Bool) (why : Retrain) (s : State) : Host.Outcome State Fault Refusal :=
  let x := s.linkMod l m
  let d := x.dir dir
  .next (if x.stat ≠ 2 then s
  else match why with
  | .request => s.startRetrain l m id
  | .lane sound =>
    if 0 < d.spares then
      s.startRetrain l m (fun x => { x.setDir dir { x.dir dir with spares := d.spares - 1 } with repaired := x.repaired + 1 })
    else if sound then s.startRetrain l m (fun x => { x with width := 32 })
    else (s.modLink l m (fun x => { x with stat := 0 })).dieFault (linkDie l))

end Sys2Proof.Machine
end

