-- ==== Sys2Proof/Machine/Tasks.lean ====
section
/-!
DEFINITION. The task unit: continuations, join objects, resumption and stealing (10 R221 to R232).
-/
namespace Sys2Proof.Machine

/-! ## Making records (10 R224 to R226) -/

/-- The record that FORK and PARK build of their literal and operand a (10 R224). -/
def buildRec (l : EntryLit) (a : Token) (join : Nat) (st : Stamp) : TaskRec :=
  { entry := BitVec.ofNat 24 (l.entry.toNat * 4), nm1 := l.nm1.toNat, ngm1 := l.ngm1.toNat,
    join := BitVec.ofNat 64 join,
    live := (List.range 4).map (fun k => bits a.pay (64 * k + 63) (64 * k)) ++ List.replicate 12 0,
    pmask := a.pmask, stamps := [st] }

/-- The stamp of the own galley after a release. -/
def State.ownStamp (s : State) (c : Nat) : Stamp := { gal := c, pos := (s.gal c).p }

/-- FORK: lane 0 of b, read as 64 bits, is the record's JOIN, as of a handle operand of any shape (10 R207, R224). -/
def execFork (l : EntryLit) (d : Dests) (s : State) : Host.Outcome State Fault Refusal :=
  let f := s.firing
  .next (if s.idleAction f then s.emitBoth f d (f.passBubble { tag := f.tag })
    else if f.opB.poisoned 0 then s.fail f Code.POISON_CONSUMED
    else
      let s := s.release f.cl
      let r := buildRec l f.opA (f.opB.lane 0) (s.ownStamp f.cl)
      (s.push f.cl r).emitBoth f d (f.new32 0))

/-- What PARK waits for does not exist in the launch (10 R225); the answer is the fault's cause. -/
def State.parkCause (s : State) (c : Nat) (kind : ParkKind) (value obj : Nat) : Option Nat :=
  match kind with
  | .ring => s.ptrCause c [5] value
  | .net => if s.netBound c obj then none else some 5
  | _ => none

/-- PARK takes the frame's join pointer with it. A poisoned OBJ, which `.tl` and `.net` alone read, decides what is
waited for, as a handle does (10 R207, R225). -/
def execPark (kind : ParkKind) (l : EntryLit) (d : Dests) (s : State) : Host.Outcome State Fault Refusal :=
  let f := s.firing
  let b := f.opB
  let value := b.lane 0
  let obj := if 2 ≤ b.g then b.lane 1 else 0
  .next (if s.idleAction f then s.emitBoth f d (f.passBubble { tag := f.tag })
    else if b.poisoned 0 || ((kind == .tl || kind == .net) && decide (2 ≤ b.g) && b.poisoned 1) then s.fail f Code.POISON_CONSUMED
    else match s.parkCause f.cl kind value obj with
      | some k => s.fail f Code.SPACE_ILLEGAL k
      | none =>
        let s := s.release f.cl
        let join := match s.frame f.tag with | some fr => fr.join.toNat | none => 0
        let s := match s.frame f.tag with
          | some fr => s.setFrame f.tag { fr with join := 0 }
          | none => s
        let (k, s) := s.fresh
        let p : Parked := { id := k, rec_ := buildRec l f.opA join (s.ownStamp f.cl), kind := kind, value := value, obj := obj }
        (s.modCtx f.cl (fun x => { x with parked := x.parked ++ [p] })).emitBoth f d (f.new32 0))

/-- The condition of a parked record, with the stamp its object holds (10 R225). -/
def State.parkHolds (s : State) (c : Nat) (p : Parked) : Option (Option Stamp) :=
  let x := s.ctx c
  match p.kind with
  | .tag =>
    let t := p.value % 64
    if x.ready.testBit t then some (x.tagStamps.find t) else none
  | .tl => if p.value ≤ s.chView c (p.obj % 4) then some (x.chan (p.obj % 4)).stamp else none
  | .ring =>
    let r := s.ringOf p.value
    if r.rslot = r.wslot then none else some (r.filled.get none r.rslot)
  | .net => if p.value ≤ (s.netCtx p.obj).tl then some (s.netCtx p.obj).stamp else none

/-- A parked record's condition holds: it goes onto the deque with a second stamp (10 R225). -/
def execParkWake (c k : Nat) (s : State) : Host.Outcome State Fault Refusal :=
  let x := s.ctx c
  .next (if (s.cl c).stopped then s else match x.parked.find? (·.id == k) with
    | none => s
    | some p => match s.parkHolds c p with
      | none => s
      | some st =>
        if 1088 ≤ x.deque.length then s
        else
          let r := { p.rec_ with stamps := p.rec_.stamps ++ st.toList }
          (s.modCtx c (fun x => { x with parked := x.parked.filter (·.id != k) })).push c r)

/-- RESUME reads a record of process memory; the read waits for the galley as a copy read does (10 R226). -/
def execResume (d : Dests) (s : State) : Host.Outcome State Fault Refusal :=
  let f := s.firing
  .next (if s.idleAction f then s.emitBoth f d (f.passBubble (f.forward f.opA f.tag))
    else match ptrOperand f.a with
      | .error code => s.fail f code
      | .ok p =>
        s.access f [0] .read p 1152 (decide (ptrOff p % 64 ≠ 0)) (fun _ va _ =>
          s.pendNew f (.resume d) (.recread (s.gal f.cl).a va false)))

/-! ## Join objects (10 R227) -/

/-- A JOIN on the object at a pointer, by a firing (10 R227). -/
def State.joinAt (s : State) (f : Firing) (d : Dests) (p : Nat) : State :=
  s.access f [0] .atomic p 64 (decide (ptrOff p % 2048 ≠ 0)) (fun _ va l =>
    match l with
    | (pba, _, _) :: _ =>
      let s := s.releasePkg f.cl
      s.pendAsk f (.join d) (.join (s.gal f.cl).a pba va none) pba
    | [] => s)

def execJoin (d : Dests) (s : State) : Host.Outcome State Fault Refusal :=
  let f := s.firing
  .next (if s.idleAction f then s.emitBoth f d (f.passBubble (f.forward f.opA f.tag))
    else match ptrOperand f.a with
      | .error code => s.fail f code
      | .ok p => s.joinAt f d p)

/-- A freed resumed frame's join pointer: the task unit performs a JOIN on it and sends no token (10 R228). -/
def execFrameJoin (c : Nat) (s : State) : Host.Outcome State Fault Refusal :=
  .next (if (s.cl c).stopped then s else match (s.ctx c).joins with
    | [] => s
    | j :: rest =>
      let f : Firing := { cl := c, unit := 37, tag := rootTag c, a := some (scalar64 j.toNat (rootTag c)), seq := s.serial }
      let d : Dests := { da := .sink, db := .sink }
      let p := j.toNat
      match s.check c [0] .atomic p 64 (decide (ptrOff p % 2048 ≠ 0)) with
      | .bad code cause => (s.modCtx c (fun x => { x with joins := rest })).fail f code cause
      | .ok _ off =>
        match s.xlat c .atomic off 64 with
        | .ok ((pba, _, _) :: _) =>
          let s := (s.modCtx c (fun x => { x with joins := rest })).releasePkg c
          s.pendAsk f (.join d) (.join (s.gal c).a pba off none) pba
        | .ok [] => s
        | .miss va => (s.startWalk c va .atomic f none).2
        | .dirty va => (s.startDirty c va).2
        | .fault cause va =>
          (s.modCtx c (fun x => { x with joins := rest })).fail f Code.XLATE_FAULT (xlateCause cause va))

/-! ## Resumption and stealing (10 R228 to R230) -/

/-- The acquires before a resumption's first token (10 R230): each stamp's galley other than the own, and for a joined
record every galley of the launch to the mirror's P. -/
def State.resumeAcquires (s : State) (c : Nat) (r : TaskRec) : List (Nat × Nat) :=
  let a := (r.stamps.filter (fun q => q.gal != c)).map (fun q => (q.gal, q.pos))
  let j := if r.joined then (s.launch c).map (fun g => (g, (s.mirror (dieOf c) g).1)) else []
  mergeStamps (a ++ j)

/-- The task unit may resume the record at its deque's head: the window has room, a frame is free and no earlier
allocation waits for one (06 R126, 10 R228). -/
def State.mayResume (s : State) (c : Nat) : Bool :=
  let x := s.ctx c
  !(s.cl c).stopped && !x.deque.isEmpty && x.resuming.isNone && decide (x.activeTasks < 8) && (lowestFrame x.frames).isSome &&
    !x.pend.any (fun p => p.why == .frame)

/-- The record at the deque's head resumes: every acquire is performed, then the task unit asks the frame table for its
frame on channel 3 (10 R208, R228). -/
def execTaskResume (c : Nat) (s : State) : Host.Outcome State Fault Refusal :=
  .next (match (s.ctx c).deque with
    | [] => s
    | r :: _ =>
      let acqs := s.resumeAcquires c r
      if !s.mayResume c then s
      else if !(acqs.isEmpty || (s.acqSeen c acqs && s.markerRoom c acqs)) then s.acqWait c (s.acqSeen c acqs) acqs
      else
        let s := if acqs.isEmpty then s else s.acquire c acqs
        let s := s.modCtx c (fun x => { x.pop with resuming := some r })
        (s.pendNew { cl := c, unit := 37, tag := rootTag c } (.taskResume c) (.request none)).send 3 c 37 c 64
          (.frameReq c s.serial))

/-- An idle cluster asks its successor in the steal ring (10 R229). -/
def execStealRequest (c : Nat) (s : State) : Host.Outcome State Fault Refusal :=
  let x := s.ctx c
  let v := s.successor c
  .next (if (s.cl c).stat = .running ∧ !(s.cl c).stopped ∧ x.deque.isEmpty ∧ x.resuming.isNone ∧ x.activeTasks < 8 ∧ !x.stealing ∧ v ≠ c then
      (s.modCtx c (fun x => { x with stealing := true })).send 3 c 37 v 37 (.steal c v)
    else s)

/-- A victim serves the oldest steal request that has reached it: its tail record moves to the thief, while both still run
the launch that asked; with no room at the thief the push waits. The last record is the owner's where the owner can
resume it in the cycle, and a halted cluster gives nothing (10 R222, R229, 23 R413). -/
def execStealServe (c : Nat) (s : State) : Host.Outcome State Fault Refusal :=
  .next (match s.netMsgs.find? (fun m => match m.pay with | .steal _ v => v == c && s.arrived m | _ => false) with
    | none => s
    | some m =>
      (match m.pay with
      | .steal t _ =>
        let runs (k : Nat) : Bool := (s.cl k).stat == .running && m.slot.isSome && (s.cl k).slot == m.slot
        if !runs t then s.dropMsg m.id
        else if !runs c then (s.dropMsg m.id).modCtx t (fun x => { x with stealing := false })
        else if (s.cl c).stopped || decide (1088 ≤ (s.ctx t).deque.length) ||
            ((s.ctx c).deque.length == 1 && s.mayResume c) then s
        else
          let s := (s.dropMsg m.id).modCtx t (fun x => { x with stealing := false })
          (match (s.ctx c).deque.getLast? with
          | none => s
          | some r => (((s.modCtx c (fun x => { x with deque := x.deque.dropLast })).push t r).count t 0x0F1 1).active t)
      | _ => s))

end Sys2Proof.Machine
end

