-- ==== Sys2Proof/Machine/Dispatch.lean ====
section
/-!
DEFINITION. One arm for each instruction: its meaning, or its rejection by name.
-/
namespace Sys2Proof.Machine

def exec (i : Instr) (s : State) : Host.Outcome State Fault Refusal :=
  match i with
  | .mov d => Sys2Proof.Machine.execMov d s
  | .const_ sg k d => Sys2Proof.Machine.execConst sg k d s
  | .steer d => Sys2Proof.Machine.execSteer d s
  | .select d => Sys2Proof.Machine.execSelect d s
  | .merge d => Sys2Proof.Machine.execMerge d s
  | .gate d => Sys2Proof.Machine.execGate d s
  | .sync2 d => Sys2Proof.Machine.execSync2 d s
  | .sync3 d => Sys2Proof.Machine.execSync3 d s
  | .loopin nm1 d => Sys2Proof.Machine.execLoopin nm1 d s
  | .iend d => Sys2Proof.Machine.execIend d s
  | .loopout d => Sys2Proof.Machine.execLoopout d s
  | .talloc nm1 d => Sys2Proof.Machine.execTalloc nm1 d s
  | .tfree d => Sys2Proof.Machine.execTfree d s
  | .call nm1 d => Sys2Proof.Machine.execCall nm1 d s
  | .ret_ d => Sys2Proof.Machine.execRet d s
  | .tagget d => Sys2Proof.Machine.execTagget d s
  | .tagset d => Sys2Proof.Machine.execTagset d s
  | .iter d => Sys2Proof.Machine.execIter d s
  | .wave d => Sys2Proof.Machine.execWave d s
  | .waveMarker k => Sys2Proof.Machine.execWaveMarker k s
  | .step_ l d => Sys2Proof.Machine.execStep l d s
  | .stepSnop => Sys2Proof.Machine.execStepSnop s
  | .stepLoop last x csrc count => Sys2Proof.Machine.execStepLoop last x csrc count s
  | .stepSetx x imm => Sys2Proof.Machine.execStepSetx x imm s
  | .stepAddx x imm => Sys2Proof.Machine.execStepAddx x imm s
  | .stepEmit dsel x form sh imm => Sys2Proof.Machine.execStepEmit dsel x form sh imm s
  | .mxseqPatch dsel field x sh imm => Sys2Proof.Machine.execMxseqPatch dsel field x sh imm s
  | .stepOpn node => Sys2Proof.Machine.execStepOpn node s
  | .stepJmp target => Sys2Proof.Machine.execStepJmp target s
  | .stepDone => Sys2Proof.Machine.execStepDone s
  | .barr l d => Sys2Proof.Machine.execBarr l d s
  | .barrGenerationComplete c id => Sys2Proof.Machine.execBarrGenerationComplete c id s
  | .trigger d => Sys2Proof.Machine.execTrigger d s
  | .done d => Sys2Proof.Machine.execDone d s
  | .ckpt n d => Sys2Proof.Machine.execCkpt n d s
  | .fork l d => Sys2Proof.Machine.execFork l d s
  | .join d => Sys2Proof.Machine.execJoin d s
  | .park kind l d => Sys2Proof.Machine.execPark kind l d s
  | .parkWake c k => Sys2Proof.Machine.execParkWake c k s
  | .resume d => Sys2Proof.Machine.execResume d s
  | .taskResume c => Sys2Proof.Machine.execTaskResume c s
  | .frameJoin c => Sys2Proof.Machine.execFrameJoin c s
  | .stealRequest c => Sys2Proof.Machine.execStealRequest c s
  | .stealServe c => Sys2Proof.Machine.execStealServe c s
  | .add sg b d => Sys2Proof.Machine.execAdd sg b d s
  | .sub sg b d => Sys2Proof.Machine.execSub sg b d s
  | .mul sg b d => Sys2Proof.Machine.execMul sg b d s
  | .mulh sg b d => Sys2Proof.Machine.execMulh sg b d s
  | .div sg b d => Sys2Proof.Machine.execDiv sg b d s
  | .rem sg b d => Sys2Proof.Machine.execRem sg b d s
  | .min_ sg b d => Sys2Proof.Machine.execMin sg b d s
  | .max_ sg b d => Sys2Proof.Machine.execMax sg b d s
  | .cmp sg cond b d => Sys2Proof.Machine.execCmp sg cond b d s
  | .and_ b d => Sys2Proof.Machine.execAnd b d s
  | .or_ b d => Sys2Proof.Machine.execOr b d s
  | .xor b d => Sys2Proof.Machine.execXor b d s
  | .andn b d => Sys2Proof.Machine.execAndn b d s
  | .rotl b d => Sys2Proof.Machine.execRotl b d s
  | .rotr b d => Sys2Proof.Machine.execRotr b d s
  | .shl sg b d => Sys2Proof.Machine.execShl sg b d s
  | .shr sg b d => Sys2Proof.Machine.execShr sg b d s
  | .neg d => Sys2Proof.Machine.execNeg d s
  | .abs d => Sys2Proof.Machine.execAbs d s
  | .not_ d => Sys2Proof.Machine.execNot d s
  | .clz d => Sys2Proof.Machine.execClz d s
  | .ctz d => Sys2Proof.Machine.execCtz d s
  | .popc d => Sys2Proof.Machine.execPopc d s
  | .adds sg b d => Sys2Proof.Machine.execAdds sg b d s
  | .subs sg b d => Sys2Proof.Machine.execSubs sg b d s
  | .muls sg b d => Sys2Proof.Machine.execMuls sg b d s
  | .shls sg b d => Sys2Proof.Machine.execShls sg b d s
  | .abss d => Sys2Proof.Machine.execAbss d s
  | .clamp sg d => Sys2Proof.Machine.execClamp sg d s
  | .shrr sg tie b d => Sys2Proof.Machine.execShrr sg tie b d s
  | .rquant sg l d => Sys2Proof.Machine.execRquant sg l d s
  | .bfx sg l d => Sys2Proof.Machine.execBfx sg l d s
  | .bfi l d => Sys2Proof.Machine.execBfi l d s
  | .brev d => Sys2Proof.Machine.execBrev d s
  | .sext wm1 d => Sys2Proof.Machine.execSext wm1 d s
  | .zext wm1 d => Sys2Proof.Machine.execZext wm1 d s
  | .padd n d => Sys2Proof.Machine.execPadd n d s
  | .psub n d => Sys2Proof.Machine.execPsub n d s
  | .paln n d => Sys2Proof.Machine.execPaln n d s
  | .pchk n d => Sys2Proof.Machine.execPchk n d s
  | .pcvt toByte d => Sys2Proof.Machine.execPcvt toByte d s
  | .pspc sel d => Sys2Proof.Machine.execPspc sel d s
  | .fadd rm cls b d => Sys2Proof.Machine.execFadd rm cls b d s
  | .fsub rm cls b d => Sys2Proof.Machine.execFsub rm cls b d s
  | .fmul rm cls b d => Sys2Proof.Machine.execFmul rm cls b d s
  | .fdiv rm cls b d => Sys2Proof.Machine.execFdiv rm cls b d s
  | .fsclb rm cls b d => Sys2Proof.Machine.execFsclb rm cls b d s
  | .fma rm cls d => Sys2Proof.Machine.execFma rm cls d s
  | .fnma rm cls d => Sys2Proof.Machine.execFnma rm cls d s
  | .fsqrt rm cls d => Sys2Proof.Machine.execFsqrt rm cls d s
  | .frsq rm cls d => Sys2Proof.Machine.execFrsq rm cls d s
  | .frcp rm cls d => Sys2Proof.Machine.execFrcp rm cls d s
  | .frint rm cls d => Sys2Proof.Machine.execFrint rm cls d s
  | .fmin cls b d => Sys2Proof.Machine.execFmin cls b d s
  | .fmax cls b d => Sys2Proof.Machine.execFmax cls b d s
  | .fminm cls b d => Sys2Proof.Machine.execFminm cls b d s
  | .fmaxm cls b d => Sys2Proof.Machine.execFmaxm cls b d s
  | .fabs cls d => Sys2Proof.Machine.execFabs cls d s
  | .fneg cls d => Sys2Proof.Machine.execFneg cls d s
  | .fclass cls d => Sys2Proof.Machine.execFclass cls d s
  | .fcpys cls b d => Sys2Proof.Machine.execFcpys cls b d s
  | .fcmp cond cls b d => Sys2Proof.Machine.execFcmp cond cls b d s
  | .cvtff toFd rm cls fd d => Sys2Proof.Machine.execCvtff toFd rm cls fd d s
  | .cvtfi rm cls fd d => Sys2Proof.Machine.execCvtfi rm cls fd d s
  | .cvtif rm cls fd d => Sys2Proof.Machine.execCvtif rm cls fd d s
  | .fexp2 rm cls d => Sys2Proof.Machine.execFexp2 rm cls d s
  | .fexpe rm cls d => Sys2Proof.Machine.execFexpe rm cls d s
  | .flog2 rm cls d => Sys2Proof.Machine.execFlog2 rm cls d s
  | .ftanh rm cls d => Sys2Proof.Machine.execFtanh rm cls d s
  | .fsig rm cls d => Sys2Proof.Machine.execFsig rm cls d s
  | .fsinp rm cls d => Sys2Proof.Machine.execFsinp rm cls d s
  | .fcosp rm cls d => Sys2Proof.Machine.execFcosp rm cls d s
  | .sclmax fd d => Sys2Proof.Machine.execSclmax fd d s
  | .sclget d => Sys2Proof.Machine.execSclget d s
  | .sclset b d => Sys2Proof.Machine.execSclset b d s
  | .vctx qm1 cl2 d => Sys2Proof.Machine.execVctx qm1 cl2 d s
  | .vpack d => Sys2Proof.Machine.execVpack d s
  | .vunpack d => Sys2Proof.Machine.execVunpack d s
  | .vsplat gl2 lane d => Sys2Proof.Machine.execVsplat gl2 lane d s
  | .vperm d => Sys2Proof.Machine.execVperm d s
  | .vext lane d => Sys2Proof.Machine.execVext lane d s
  | .vins lane d => Sys2Proof.Machine.execVins lane d s
  | .vsel d => Sys2Proof.Machine.execVsel d s
  | .vredadd ty d => Sys2Proof.Machine.execVredadd ty d s
  | .vredmin ty d => Sys2Proof.Machine.execVredmin ty d s
  | .vredmax ty d => Sys2Proof.Machine.execVredmax ty d s
  | .vscan ty d => Sys2Proof.Machine.execVscan ty d s
  | .red ty d => Sys2Proof.Machine.execRed ty d s
  | .scan ty d => Sys2Proof.Machine.execScan ty d s
  | .argmax ty d => Sys2Proof.Machine.execArgmax ty d s
  | .argmin ty d => Sys2Proof.Machine.execArgmin ty d s
  | .sortk ty km1 asc d => Sys2Proof.Machine.execSortk ty km1 asc d s
  | .chain l d => Sys2Proof.Machine.execChain l d s
  | .eod n d => Sys2Proof.Machine.execEod n d s
  | .cntr n d => Sys2Proof.Machine.execCntr n d s
  | .rng d => Sys2Proof.Machine.execRng d s
  | .rngf d => Sys2Proof.Machine.execRngf d s
  | .ld sg wm1 w d => Sys2Proof.Machine.execLd sg wm1 w d s
  | .ldv sg wm1 w d => Sys2Proof.Machine.execLdv sg wm1 w d s
  | .ldx sg wm1 k d => Sys2Proof.Machine.execLdx sg wm1 k d s
  | .loadDataReturn c k => Sys2Proof.Machine.execLoadDataReturn c k s
  | .viewCacheFill c line => Sys2Proof.Machine.execViewCacheFill c line s
  | .pref d => Sys2Proof.Machine.execPref d s
  | .ldb n d => Sys2Proof.Machine.execLdb n d s
  | .st wm1 w d => Sys2Proof.Machine.execSt wm1 w d s
  | .stv wm1 w d => Sys2Proof.Machine.execStv wm1 w d s
  | .stx wm1 k d => Sys2Proof.Machine.execStx wm1 k d s
  | .stb n d => Sys2Proof.Machine.execStb n d s
  | .strmgo n d => Sys2Proof.Machine.execStrmgo n d s
  | .streamTokenEmit c port => Sys2Proof.Machine.execStreamTokenEmit c port s
  | .streamTokenAccept c port => Sys2Proof.Machine.execStreamTokenAccept c port s
  | .streamEnd c port => Sys2Proof.Machine.execStreamEnd c port s
  | .strmend n d => Sys2Proof.Machine.execStrmend n d s
  | .strmst n d => Sys2Proof.Machine.execStrmst n d s
  | .atom w64 op w d => Sys2Proof.Machine.execAtom w64 op w d s
  | .atomf op f64 w d => Sys2Proof.Machine.execAtomf op f64 w d s
  | .acas w64 w d => Sys2Proof.Machine.execAcas w64 w d s
  | .atomicHomeExec c k => Sys2Proof.Machine.execAtomicHomeExec c k s
  | .atomicReturn c k => Sys2Proof.Machine.execAtomicReturn c k s
  | .rel scope w d => Sys2Proof.Machine.execRel scope w d s
  | .relScopeReached c k => Sys2Proof.Machine.execRelScopeReached c k s
  | .acq w d => Sys2Proof.Machine.execAcq w d s
  | .acqComplete c k => Sys2Proof.Machine.execAcqComplete c k s
  | .gpos sel d => Sys2Proof.Machine.execGpos sel d s
  | .fence w d => Sys2Proof.Machine.execFence w d s
  | .fencePerformed c k => Sys2Proof.Machine.execFencePerformed c k s
  | .qpush d => Sys2Proof.Machine.execQpush d s
  | .qpop d => Sys2Proof.Machine.execQpop d s
  | .qpopComplete c k => Sys2Proof.Machine.execQpopComplete c k s
  | .remoteAbufAccess k => Sys2Proof.Machine.execRemoteAbufAccess k s
  | .mxcmd n d => Sys2Proof.Machine.execMxcmd n d s
  | .mxseq l d => Sys2Proof.Machine.execMxseq l d s
  | .mxexec d => Sys2Proof.Machine.execMxexec d s
  | .mmul c => Sys2Proof.Machine.execMmul c s
  | .mzero c => Sys2Proof.Machine.execMzero c s
  | .mnop c => Sys2Proof.Machine.execMnop c s
  | .mxeGroup c upset => Sys2Proof.Machine.execMxeGroup c upset s
  | .mxeRetire c move => Sys2Proof.Machine.execMxeRetire c move s
  | .mxin token fp d => Sys2Proof.Machine.execMxin token fp d s
  | .mxout l d => Sys2Proof.Machine.execMxout l d s
  | .mxchk d => Sys2Proof.Machine.execMxchk d s
  | .mxwait d => Sys2Proof.Machine.execMxwait d s
  | .ticketRetired c k => Sys2Proof.Machine.execTicketRetired c k s
  | .mxtl d => Sys2Proof.Machine.execMxtl d s
  | .cpgo ch d => Sys2Proof.Machine.execCpgo ch d s
  | .cpstat ch d => Sys2Proof.Machine.execCpstat ch d s
  | .tlread sel d => Sys2Proof.Machine.execTlread sel d s
  | .tlwait sel d => Sys2Proof.Machine.execTlwait sel d s
  | .wtany d => Sys2Proof.Machine.execWtany d s
  | .wtall d => Sys2Proof.Machine.execWtall d s
  | .wtff d => Sys2Proof.Machine.execWtff d s
  | .tagclr d => Sys2Proof.Machine.execTagclr d s
  | .rawait d => Sys2Proof.Machine.execRawait d s
  | .rsrel d => Sys2Proof.Machine.execRsrel d s
  | .rapeek d => Sys2Proof.Machine.execRapeek d s
  | .waitComplete c k => Sys2Proof.Machine.execWaitComplete c k s
  | .trap endU code d => Sys2Proof.Machine.execTrap endU code d s
  | .flags d => Sys2Proof.Machine.execFlags d s
  | .flclr d => Sys2Proof.Machine.execFlclr d s
  | .perf index d => Sys2Proof.Machine.execPerf index d s
  | .cycl d => Sys2Proof.Machine.execCycl d s
  | .subcnt d => Sys2Proof.Machine.execSubcnt d s
  | .sysq n d => Sys2Proof.Machine.execSysq n d s
  | .sysqRequest k => Sys2Proof.Machine.execSysqRequest k s
  | .brk n d => Sys2Proof.Machine.execBrk n d s
  | .ident sel d => Sys2Proof.Machine.execIdent sel d s
  | .sysrd d => Sys2Proof.Machine.execSysrd d s
  | .syswr d => Sys2Proof.Machine.execSyswr d s
  | .tokenArrive k => Sys2Proof.Machine.execTokenArrive k s
  | .overflowRefill c u => Sys2Proof.Machine.execOverflowRefill c u s
  | .matchPromote c k => Sys2Proof.Machine.execMatchPromote c k s
  | .tagOpApply k => Sys2Proof.Machine.execTagOpApply k s
  | .heldTokenGrant c f slot => Sys2Proof.Machine.execHeldTokenGrant c f slot s
  | .frameAllocWake c k => Sys2Proof.Machine.execFrameAllocWake c k s
  | .vcStarvationPriority link dir => Sys2Proof.Machine.execVcStarvationPriority link dir s
  | .walkComplete c k => Sys2Proof.Machine.execWalkComplete c k s
  | .pteLost c k => Sys2Proof.Machine.execPteLost c k s
  | .quiesceSharedSids pa sids => Sys2Proof.Machine.execQuiesceSharedSids pa sids s
  | .tlbInvPage sid va size => Sys2Proof.Machine.execTlbInvPage sid va size s
  | .tlbInvSid sid => Sys2Proof.Machine.execTlbInvSid sid s
  | .tlbInvAll => Sys2Proof.Machine.execTlbInvAll s
  | .tlbInvDone => Sys2Proof.Machine.execTlbInvDone s
  | .dirtyBitUpdate c k => Sys2Proof.Machine.execDirtyBitUpdate c k s
  | .writeBackScan sid va => Sys2Proof.Machine.execWriteBackScan sid va s
  | .writeBackComplete sid va => Sys2Proof.Machine.execWriteBackComplete sid va s
  | .leaseGranted slot => Sys2Proof.Machine.execLeaseGranted slot s
  | .leaseRelease slot => Sys2Proof.Machine.execLeaseRelease slot s
  | .repairPassStart c => Sys2Proof.Machine.execRepairPassStart c s
  | .drainEntry g => Sys2Proof.Machine.execDrainEntry g s
  | .compactorFold g home => Sys2Proof.Machine.execCompactorFold g home s
  | .galLost g => Sys2Proof.Machine.execGalLost g s
  | .mirrorUpdate d g => Sys2Proof.Machine.execMirrorUpdate d g s
  | .galleyFullResume g => Sys2Proof.Machine.execGalleyFullResume g s
  | .vcInvalAll c => Sys2Proof.Machine.execVcInvalAll c s
  | .vcInvalDone c => Sys2Proof.Machine.execVcInvalDone c s
  | .chHeadWrite c ch v => Sys2Proof.Machine.execChHeadWrite c ch v s
  | .recordFetch c ch => Sys2Proof.Machine.execRecordFetch c ch s
  | .ringSlotClaim c ch => Sys2Proof.Machine.execRingSlotClaim c ch s
  | .copyMove c ch => Sys2Proof.Machine.execCopyMove c ch s
  | .recordRetire c ch => Sys2Proof.Machine.execRecordRetire c ch s
  | .clReadyClear c m => Sys2Proof.Machine.execClReadyClear c m s
  | .ringEnable c r cfg => Sys2Proof.Machine.execRingEnable c r cfg s
  | .ringDisable c r => Sys2Proof.Machine.execRingDisable c r s
  | .peModeWrite c u v => Sys2Proof.Machine.execPeModeWrite c u v s
  | .peXenWrite c u v => Sys2Proof.Machine.execPeXenWrite c u v s
  | .peFlagsClear c u v => Sys2Proof.Machine.execPeFlagsClear c u v s
  | .cntArm n pv parent arg => Sys2Proof.Machine.execCntArm n pv parent arg s
  | .cntAdd n arg => Sys2Proof.Machine.execCntAdd n arg s
  | .cntCancel n => Sys2Proof.Machine.execCntCancel n s
  | .cntFree n => Sys2Proof.Machine.execCntFree n s
  | .cntSignal n => Sys2Proof.Machine.execCntSignal n s
  | .slotCommit => Sys2Proof.Machine.execSlotCommit s
  | .dispatchStart slot => Sys2Proof.Machine.execDispatchStart slot s
  | .unitEnd c => Sys2Proof.Machine.execUnitEnd c s
  | .unitFault c => Sys2Proof.Machine.execUnitFault c s
  | .faultRecordWrite j => Sys2Proof.Machine.execFaultRecordWrite j s
  | .graphReplay g => Sys2Proof.Machine.execGraphReplay g s
  | .queueBind => Sys2Proof.Machine.execQueueBind s
  | .queueAge q => Sys2Proof.Machine.execQueueAge q s
  | .droneBind => Sys2Proof.Machine.execDroneBind s
  | .hang slot => Sys2Proof.Machine.execHang slot s
  | .objectLoad k => Sys2Proof.Machine.execObjectLoad k s
  | .translationRecord obj forme => Sys2Proof.Machine.execTranslationRecord obj forme s
  | .nativeSwap c => Sys2Proof.Machine.execNativeSwap c s
  | .kernelRestart measured => Sys2Proof.Machine.execKernelRestart measured s
  | .checkReplay c u rounds => Sys2Proof.Machine.execCheckReplay c u rounds s
  | .peRetired c u agrees => Sys2Proof.Machine.execPeRetired c u agrees s
  | .stateLost c u structure_ entry => Sys2Proof.Machine.execStateLost c u structure_ entry s
  | .trapStop slot => Sys2Proof.Machine.execTrapStop slot s
  | .stopMap slot => Sys2Proof.Machine.execStopMap slot s
  | .clusterRemap c => Sys2Proof.Machine.execClusterRemap c s
  | .mirrorRebuild d => Sys2Proof.Machine.execMirrorRebuild d s
  | .dieFault d => Sys2Proof.Machine.execDieFault d s
  | .preempt slot => Sys2Proof.Machine.execPreempt slot s
  | .preemptForceHalt c => Sys2Proof.Machine.execPreemptForceHalt c s
  | .contextSwap slot => Sys2Proof.Machine.execContextSwap slot s
  | .liveRangeSave c => Sys2Proof.Machine.execLiveRangeSave c s
  | .restore slot bad => Sys2Proof.Machine.execRestore slot bad s
  | .snapshot slot => Sys2Proof.Machine.execSnapshot slot s
  | .halt c => Sys2Proof.Machine.execHalt c s
  | .resumeHalt c => Sys2Proof.Machine.execResumeHalt c s
  | .haltComplete c => Sys2Proof.Machine.execHaltComplete c s
  | .mbxDoorbell cqhead sqtail => Sys2Proof.Machine.execMbxDoorbell cqhead sqtail s
  | .mbxLoadObject => Sys2Proof.Machine.execMbxLoadObject s
  | .mbxLaunch => Sys2Proof.Machine.execMbxLaunch s
  | .mbxCancel => Sys2Proof.Machine.execMbxCancel s
  | .mbxCopyToProcess => Sys2Proof.Machine.execMbxCopyToProcess s
  | .mbxCopyToHost => Sys2Proof.Machine.execMbxCopyToHost s
  | .mbxAttest => Sys2Proof.Machine.execMbxAttest s
  | .mbxCompletionPost => Sys2Proof.Machine.execMbxCompletionPost s
  | .flitSend l m dir => Sys2Proof.Machine.execFlitSend l m dir s
  | .flitReceive l m dir flips => Sys2Proof.Machine.execFlitReceive l m dir flips s
  | .nakReplay l m dir => Sys2Proof.Machine.execNakReplay l m dir s
  | .controlFlit l m dir => Sys2Proof.Machine.execControlFlit l m dir s
  | .laneFailure l m dir why => Sys2Proof.Machine.execLaneFailure l m dir why s
  | .netDoorbell ctx => Sys2Proof.Machine.execNetDoorbell ctx s
  | .put ctx slot status reply => Sys2Proof.Machine.execPut ctx slot status reply s
  | .get ctx slot status reply => Sys2Proof.Machine.execGet ctx slot status reply s
  | .cas ctx slot status reply => Sys2Proof.Machine.execCas ctx slot status reply s
  | .raddI32 ctx slot status reply => Sys2Proof.Machine.execRaddI32 ctx slot status reply s
  | .raddF32 ctx slot status reply => Sys2Proof.Machine.execRaddF32 ctx slot status reply s
  | .netComplete ctx => Sys2Proof.Machine.execNetComplete ctx s
  | .netTimeout ctx slot => Sys2Proof.Machine.execNetTimeout ctx slot s
  | .storageReadComplete qp dst data => Sys2Proof.Machine.execStorageReadComplete qp dst data s
  | .deviceReset fence => Sys2Proof.Machine.execDeviceReset fence s
  | .bootStage stage kslot pset keyid digest verified => Sys2Proof.Machine.execBootStage stage kslot pset keyid digest verified s
  | .thermSample d temps => Sys2Proof.Machine.execThermSample d temps s
  | .throttleStepUp d => Sys2Proof.Machine.execThrottleStepUp d s
  | .throttleStepDown d => Sys2Proof.Machine.execThrottleStepDown d s
  | .thermCrit d => Sys2Proof.Machine.execThermCrit d s
  | .hbmBandChange k temp => Sys2Proof.Machine.execHbmBandChange k temp s
  | .pwrEvaluate watts => Sys2Proof.Machine.execPwrEvaluate watts s
  | .islandLevelChange arg0 => Sys2Proof.Machine.execIslandLevelChange arg0 s
  | .registerWrite agent r v => Sys2Proof.Machine.execRegisterWrite agent r v s
  | .netFadd ctx slot status reply => Sys2Proof.Machine.execNetFadd ctx slot status reply s
  | .peerRequest ctx op addr len opnd swap data => Sys2Proof.Machine.execPeerRequest ctx op addr len opnd swap data s
  | .netContextRestart ctx => Sys2Proof.Machine.execNetContextRestart ctx s
  | .hdmWindowStore pa data => Sys2Proof.Machine.execHdmWindowStore pa data s
  | .aBufferBankPriority die cl bank => Sys2Proof.Machine.execABufferBankPriority die cl bank s
  | .systemCoreStore sid addr table data => Sys2Proof.Machine.execSystemCoreStore sid addr table data s

end Sys2Proof.Machine
end

