-- ==== Sys2Proof/Machine/Quiet.lean ====
section
/-!
DEFINITION. The quiet count of a partition: cycles without the activity of 20 R375, in which nothing of its clusters is
ready or under way either, so that nothing but another agent could act (20 R375, 22 R397; log 83).
-/
namespace Sys2Proof.Machine

/-- What a firing waits for goes on by itself: memory, a galley, the banks, or an answer under way. -/
def Waiting.underWay : Waiting → Bool
  | .load .. => true | .atomic .. => true | .acq .. => true | .rel .. => true | .remote => true | .banks => true
  | .served _ => true | .acquiring .. => true | .append .. => true | .join .. => true | .recread .. => true
  | .qpush .. => true | .qpop .. => true | .request _ => true | .strmend _ => true | .task => true
  | .trigger p => p.isSome
  | .sysq a => a.isSome
  | _ => false

/-- A BARR's generation is complete. -/
def State.barrFull (s : State) (c : Nat) (l : BarrLit) : Bool :=
  (if l.part then s.launch c else [c]).all (fun k =>
    decide (((s.barrier c l.part l.id.toNat).gen + 1) * (l.arrm1.toNat + 1) ≤
      (s.barrier c l.part l.id.toNat).counts.get 0 (s.barrKey k l.part)))

/-- A firing that has not completed can go on. -/
def State.pendMoves (s : State) (c : Nat) (p : Pend) : Bool :=
  match p.why, p.instr with
  | .wait, i => (s.waitHolds c p.fir i).isSome
  | .barr .., .barr l _ => s.barrFull c l
  | .ticket t, _ => decide (bits t 39 8 ≤ ((s.ctx c).mxSlot (t % 256)).retired)
  | .frame, _ => (lowestFrame (s.ctx c).frames).isSome
  | .fence before, _ => !(s.cl c).issued.any (fun n => before.contains n)
  | w, _ => w.underWay

/-- A message under way that its cluster can take. -/
def State.lands (s : State) (c : Nat) (m : Msg) : Bool :=
  m.toCluster c && !s.stray m && (match m.pay with
    | .token (.node _ u n p) _ t => (s.arrive c u n p t).isSome
    | _ => true)

/-- A stream has a token to send or to take; frozen, the one in progress still leaves. -/
def State.portMoves (s : State) (c : Nat) (p : Nat × StrPort) : Bool :=
  match p.2.stream, s.ep c p.1 with
  | some y, some e =>
    if e.out then !p.2.queue.isEmpty && !(s.cl c).frozenPorts
    else y.issued.isSome || (!(s.cl c).frozenPorts && !y.holding)
  | _, _ => false

/-- Something of a cluster is ready or under way: a match, a step, a token, an access, a stream, a channel, a command, a
task, or the unit's end. -/
def State.working (s : State) (c : Nat) : Bool :=
  let x := s.cl c
  let k := x.ctx
  let unit (u : Nat) : Bool := x.mayFire u && ((x.ready u).any (fun e => !s.queueWaits c e) || !(k.stepMatches u).isEmpty)
  x.stat == .faulting || x.stat == .ending || !x.replaying.isEmpty || (List.range 40).any unit ||
    x.walks.any (fun w => !w.orphan) || !x.banks.isEmpty || k.pend.any (s.pendMoves c) ||
    k.held.any (fun h => match k.frames.find h.frame with | some fr => !fr.occ.testBit h.slot | none => true) ||
    k.ports.any (s.portMoves c) || k.chans.any (fun p => p.2.busy && !p.2.waiting) ||
    k.mxCmds.any (fun m => m.done || (m.started && (isArrayOp m.op || (isOutOp m.op && !m.holding)))) ||
    !k.joins.isEmpty || k.parked.any (fun p => (s.parkHolds c p).isSome) || s.mayResume c ||
    s.netMsgs.any (s.lands c) || (x.slot.isSome && s.drained c)

/-- A quiet cycle of a partition's lowest-numbered cluster counts in each of its clusters that is not halted. -/
def State.quietLaunch (s : State) (l : List Nat) (sl : Slot) : State :=
  if sl.state ≠ 2 || !l.contains sl.lead || sl.clusters.any s.working then s
  else sl.clusters.foldl (fun s c => s.modCl c (fun x => match x.halt with | .run => { x with quiet := x.quiet + 1 } | _ => x)) s

/-- The quiet counts of every running launch whose lowest-numbered cluster completes a cycle (20 R375). -/
def State.quietCycle (s : State) (l : List Nat) : State := s.hub.slots.foldl (fun s p => s.quietLaunch l p.2) s

end Sys2Proof.Machine
end

