-- ==== Sys2Proof/Machine/Fetch.lean ====
section
/-!
DEFINITION. Fetching what a move of the agenda runs: a match or a step chosen by a unit's selector, a performance of a
replay, or a machine step; and the cycle that passes with an empty agenda (06 R137, 08 R181, R182, 20 R375, 22 R393).
-/
namespace Sys2Proof.Machine

/-- What a move has fetched. -/
inductive Fetched where
  | nothing
  | noRecord
  /-- the move is made -/
  | done (s : State)
  | run (i : Instr) (s : State)
deriving DecidableEq, Repr

/-- An activation of a PE, the k-th of those it runs. -/
def State.activation (s : State) (c u k : Nat) : Option Activation :=
  nth ((s.ctx c).acts.filter (fun a => a.fir.unit == u)) k

/-- The step entry an activation stands at; none past the list's end (08 R179). -/
def Cluster.entryOf (x : Cluster) (a : Activation) : Option (BitVec 32) :=
  if a.idx ≤ a.list.lenm1.toNat then x.forme.steps.find (a.fir.unit * 64 + a.list.start.toNat + a.idx) else none

/-- One performance of a replay: what it computes leaves nothing (22 R393). -/
def Cluster.replayOne (x : Cluster) (u : Nat) : Cluster :=
  match x.replaying.find u with
  | some (n, k) => { x with replaying := x.replaying.put u (n - 1, k), quiet := 0 }
  | none => x

/-- An activation's step takes a firing slot of its PE (08 R181, 23 R413). -/
def State.latchStep (s : State) (c u : Nat) (a : Activation) : State :=
  { s.modCl c (fun x =>
      let y := x.note u a.fir
      { y with
        ctx := { y.ctx with
          acts := y.ctx.acts.map (fun (b : Activation) => if b.seq = a.seq then { b with age := 0, promoted := false } else b)
          lastNode := y.ctx.lastNode.put u a.fir.node }
        stepLeft := y.stepLeft - 1, quiet := 0, replaying := y.replaying.del u }) with
    cur := some a.fir, curAct := some (c, a.seq) }

/-- What a unit fires of the match its selector has chosen. -/
def State.fetchMatch (s : State) (c u : Nat) (e : MEntry) : Fetched :=
  match (s.cl c).instr u e.fir.node with
  | none => .noRecord
  | some i => .run i (s.latch c u e)

/-- What a PE runs of an activation. -/
def State.fetchStep (s : State) (c u : Nat) (a : Activation) : Fetched :=
  match (s.cl c).entryOf a with
  | none => .run .stepDone (s.latchStep c u a)
  | some w => match decodeStep w with
    | .ok i => .run i (s.latchStep c u a)
    | .error _ => .noRecord

/-- Fetch for one move. -/
def State.fetch (s : State) : Act → Fetched
  | .event i => .run i s
  | .serve k => .done (s.serveReq k)
  | .fire c u =>
    if !(s.cl c).mayFire u then .nothing
    else if (s.cl c).inReplay u then .done (s.modCl c (fun x => x.replayOne u))
    else match s.select c u with
      | none => .nothing
      | some e => s.fetchMatch c u e
  | .stepEntry c u k =>
    if !(s.cl c).mayFire u then .nothing
    else match s.activation c u k, s.choose c u with
      | some a, some e => if e.seq = a.seq then s.fetchStep c u a else .nothing
      | _, _ => .nothing

/-- A cluster's cycle: the ages of its matches and steps, its waits for line requests and appends, its banks and wave
tables (02 R34, R43, 04 R96, 06 R130, R137, 13 R275, 16 R335). -/
def Cluster.cycleOnce (x : Cluster) : Cluster :=
  let x := x.bankCycle
  let k := x.ctx
  let held := k.held.length + (k.ports.filter (fun p => match p.2.stream with | some y => y.holding | none => false)).length +
    k.mxCmds.countP (·.holding)
  let reqs := k.reqWait.length + x.prefWait.length
  let perf := if held = 0 then x.perf else x.perf.put 0x0E2 ((x.perf.get 0 0x0E2 + held) % 2 ^ 48)
  { x with
    oldSids := if x.inFlight then x.oldSids else []
    gal := { x.gal with stall := (x.gal.stall + k.appWait.length) % 2 ^ 48 }
    perf := if reqs = 0 then perf else perf.put 0x041 ((perf.get 0 0x041 + reqs) % 2 ^ 48)
    ctx := { k.tagCycle.waveSpread with
      matches_ := k.matches_.map (fun e => { e with
        age := if e.inTable && x.complete e.fir then e.age + 1 else 0, wait := e.wait + 1 })
      acts := k.acts.map (fun (a : Activation) => { a with age := a.age + 1 })
      pend := k.pend.map (fun p => { p with age := p.age + 1 })
      pe := k.pe.map (fun (p : Nat × PeReg) => (p.1, { p.2 with now := 0 }))
      freed := false } }

/-- Seventeenths of an arithmetic cycle that a quadrant island makes in one cycle of 850 MHz: at level L its clock is
850 - 50 L MHz (27 R444). -/
def State.quadRate (s : State) (q : Nat) : Nat := 17 - (s.island q).lvl

/-- A quadrant island completes a cycle of its own (16 R340, 27 R444). -/
def State.quadMoves (s : State) (q : Nat) : Bool := decide (17 ≤ (s.hub.quads.get (0, 0) q).2 + s.quadRate q)

/-- The cycle counts of the quadrant islands go on. -/
def State.quadCycle (s : State) : State :=
  s.modHub (fun h => { h with quads := (List.range 16).map (fun q =>
    let p := h.quads.get (0, 0) q
    let n := p.2 + s.quadRate q
    (q, if 17 ≤ n then ((p.1 + 1) % 2 ^ 64, n - 17) else (p.1, n))) })

/-- The clusters that complete a cycle. -/
def State.moving (s : State) : List Nat := (s.cls.map (·.1)).filter (fun c => s.quadMoves (quadIsland c))

/-- One arithmetic cycle of 20/17 ns passes with no agent moving: the waits are tested, whichever island their object is
of, and every cluster whose island completes a cycle goes on (00 R4, 16 R330, R335, R345, 20 R375). -/
def State.tick (s : State) : State :=
  let l := s.moving
  let t := ((((s.cls.map (·.1)).foldl State.testWaits s).quietCycle l).refuseCycle.hubStall).swapCycle l
  l.foldl (fun s c => (s.bankSettleAll c).prefRetry c)
    { t.quadCycle with
      cls := t.cls.map (fun p => if l.contains p.1 then (p.1, p.2.cycleOnce) else p)
      hub := { t.quadCycle.hub with time := (s.hub.time + (s.hub.frac + 20) / 17) % 2 ^ 64, frac := (s.hub.frac + 20) % 17 } }

/-- The match that a placed record fires on: its ports hold zero scalars under the root tag, port c a control
operand's zero, so that the record is complete. -/
def placedMatch (i : Instr) : Firing :=
  let p := portsOf i
  let t : Token := scalar64 0 (rootTag 0)
  { cl := 0, unit := 0, node := 0, tag := rootTag 0, a := if p.a then some t else none,
    b := if p.b then some t else none, c := if p.c then some t else none,
    t := if p == ⟨false, false, false⟩ then some t else none }

/-- The lowest unit an opcode's class admits (08 R176). -/
def homeUnit (i : Instr) : Nat := ((List.range 39).find? (classOf i).admits).getD 0

/-- Place an instruction of the opcode table so that the next step runs it: a step entry in PE 0's step memory
with an activation at it, or a node record with a complete match. -/
def State.placeWord (s : State) (nbits w : Nat) : State :=
  if nbits = 96 then
    match decodeTableWord 96 w with
    | none => s
    | some i =>
      let u := homeUnit i
      let f := { placedMatch i with unit := u, seq := s.serial }
      let s := s.modCl 0 (fun x => { x with
        stat := .running, halt := .run, savedWait := false,
        forme := { x.forme with nodes := x.forme.nodes.put (u * 512) (BitVec.ofNat 96 w) },
        replaying := []
        ctx := { x.ctx with matches_ := [{ seq := f.seq, fir := f }], pend := [], acts := [] } })
      { s with agenda := [.fire 0 u], serial := s.serial + 1 }
  else
    let f : Firing := { cl := 0, tag := rootTag 0, seq := s.serial, a := some (scalar64 0 (rootTag 0)) }
    let l : ListLit := { start := 0, lenm1 := 15 }
    let a : Activation := { seq := s.serial, fir := f, list := l, dests := { da := .sink, db := .sink },
                            mxseq := decide (bits w 31 28 = 4 ∧ bits w 21 20 = 3), v := scalar64 0 (rootTag 0) }
    let s := s.modCl 0 (fun x => { x with
      stat := .running, halt := .run, savedWait := false,
      forme := { x.forme with steps := x.forme.steps.put 0 (BitVec.ofNat 32 w) },
      replaying := []
      ctx := { x.ctx with acts := [a], matches_ := [] } })
    { s with agenda := [.stepEntry 0 0 0], serial := s.serial + 1 }

end Sys2Proof.Machine
end

