-- ==== Sys2Proof/Machine/Step.lean ====
section
/-!
DEFINITION. One step of the machine: the agenda's next move; with an empty agenda one cycle passes (log 1).
-/
namespace Sys2Proof.Machine

/-- Perform what a move has fetched. -/
def runFetched (s : State) : Fetched → Host.Outcome State Fault Refusal
  | .nothing => .next s
  | .noRecord => .fault .noRecord
  | .done s' => .next s'
  | .run i s' => exec i s'

/-- One step. -/
def step (s : State) : Host.Outcome State Fault Refusal :=
  match s.agenda with
  | [] => .next (s.tick)
  | a :: rest => runFetched { s with agenda := rest } (State.fetch { s with agenda := rest } a)

/-- The state with an instruction of the opcode table placed to be the next to run. -/
def State.withFetchWord (s : State) (nbits w : Nat) : State := s.placeWord nbits w

end Sys2Proof.Machine
end

