-- ==== Sys2Proof/Certificates/Slice0/Obligations.lean ====
section
/-!
DEFINITION. The statements for the provers. Each says what an instruction, a machine step or the machine as a whole does,
in the spec's terms; the definitions of `Sys2Proof.Claims` are what the statements share.
-/
namespace Sys2Proof.Claims
open Sys2Proof.Machine

/-! ## What the statements share -/

/-- f is the firing whose operands are latched, and none of them is a bubble. -/
def Latched (s : State) (f : Firing) : Prop := s.cur = some f ∧ f.hasBubble = false

/-- exec answers the state in which the firing has set its flags, raised its trap, and sent `ta` to DA and `tb` to DB. -/
def Results (i : Instr) (s : State) (f : Firing) (d : Dests) (flags : Nat) (force : Bool) (ta tb : List Token) : Prop :=
  exec i s = .next ((s.raise f flags force).emit f (ta.map (d.da, ·) ++ tb.map (d.db, ·)))

/-- One token to both destinations, with no flag raised. -/
def Sends (i : Instr) (s : State) (f : Firing) (d : Dests) (t : Token) : Prop := exec i s = .next (s.emitBoth f d t)

/-- The node makes a token of these lanes: a lane with an enabled flag or ForceTrap leaves poisoned (22 R396). -/
def LaneResults (i : Instr) (s : State) (f : Firing) (d : Dests) (gl2 cl2 : Nat) (l : List Lane) : Prop :=
  let t := f.laneTok gl2 cl2 (l.map (Lane.sent (s.peOf f)))
  Results i s f d (orFlags l) (anyForce l) [t] [t]

/-- The unit ends with a fault code. -/
def Ends (i : Instr) (s : State) (f : Firing) (code cause : Nat) : Prop := exec i s = .next (s.fail f code cause)

/-- Operands a and b have one grant and one container, where b comes from its port. -/
def Fits (f : Firing) (b : BSrc) : Prop := b = .port → f.opA.gl2 = f.opB.gl2 ∧ f.opA.cl2 = f.opB.cl2

/-- The code of operand b at a lane of c bits: the port's, or the literal extended by its sign or by zeros. -/
def codeB (f : Firing) (b : BSrc) (signed : Bool) (c j : Nat) : Nat :=
  match b with
  | .port => f.opB.lane j
  | .lit v => if signed then zextInt (sext v.toNat 32) c else v.toNat % 2 ^ c

def badB (f : Firing) (b : BSrc) (j : Nat) : Bool :=
  match b with
  | .port => f.opB.poisoned j
  | .lit _ => false

/-- A shift amount: the lane of b as an unsigned number, or the literal. -/
def amountB (f : Firing) (b : BSrc) (j : Nat) : Nat :=
  match b with
  | .port => f.opB.lane j
  | .lit v => v.toNat

/-- Lane by lane over a and b: a lane with a poisoned operand is poisoned, the others hold g c x y. -/
def lanesAB (f : Firing) (b : BSrc) (signed : Bool) (g : Nat → Nat → Nat → Lane) : List Lane :=
  (List.range (2 ^ f.opA.gl2)).map (fun j =>
    if f.opA.poisoned j || badB f b j then Lane.poisoned else g (2 ^ f.opA.cl2) (f.opA.lane j) (codeB f b signed (2 ^ f.opA.cl2) j))

/-- The same with the amount of a shift. -/
def lanesShift (f : Firing) (b : BSrc) (g : Nat → Nat → Nat → Lane) : List Lane :=
  (List.range (2 ^ f.opA.gl2)).map (fun j =>
    if f.opA.poisoned j || badB f b j then Lane.poisoned else g (2 ^ f.opA.cl2) (f.opA.lane j) (amountB f b j))

/-- Lane by lane over a alone. -/
def lanesA (f : Firing) (g : Nat → Nat → Lane) : List Lane :=
  (List.range (2 ^ f.opA.gl2)).map (fun j => if f.opA.poisoned j then Lane.poisoned else g (2 ^ f.opA.cl2) (f.opA.lane j))

/-- A lane's integer: two's complement under SG, else unsigned. -/
def valueOf (sg : Bool) (c x : Nat) : Int := if sg then sext x c else ((x % 2 ^ c : Nat) : Int)

/-- An integer reduced to the lane's c bits, with the flags of the operation. -/
def wrapped (c : Nat) (v : Int) (flags : Nat := 0) : Lane := { code := (v % ((2 ^ c : Nat) : Int)).toNat, flags := flags }

/-- An integer saturated to the lane's range, SAT where that changes it. -/
def saturated (sg : Bool) (c : Nat) (v : Int) : Lane :=
  let lo : Int := if sg then -((2 ^ (c - 1) : Nat) : Int) else 0
  let hi : Int := if sg then ((2 ^ (c - 1) : Nat) : Int) - 1 else ((2 ^ c : Nat) : Int) - 1
  wrapped c (if v < lo then lo else if hi < v then hi else v) (if v < lo ∨ hi < v then Flag.SAT else 0)

end Sys2Proof.Claims

open Sys2Proof Sys2Proof.Machine Sys2Proof.Claims

/-- 11 R236 to R238: integer arithmetic, lane by lane. Sums, differences and products depend on the codes alone. -/
def Obligations.IntegerArithmetic : Prop :=
  ∀ (sg : Bool) (cond : Cond) (b : BSrc) (d : Dests) (s : State) (f : Firing), Latched s f → Fits f b →
    let go (i : Instr) (g : Nat → Nat → Nat → Lane) : Prop :=
      LaneResults i s f d f.opA.gl2 f.opA.cl2 (lanesAB f b sg g)
    go (.add sg b d) (fun c x y => { code := (x + y) % 2 ^ c }) ∧
    go (.sub sg b d) (fun c x y => { code := (x + (2 ^ c - y)) % 2 ^ c }) ∧
    go (.mul sg b d) (fun c x y => { code := x * y % 2 ^ c }) ∧
    go (.mulh sg b d) (fun c x y => wrapped c (valueOf sg c x * valueOf sg c y / ((2 ^ c : Nat) : Int))) ∧
    go (.div sg b d) (fun c x y =>
      if valueOf sg c y = 0 then { code := 2 ^ c - 1, flags := Flag.DZ }
      else wrapped c ((valueOf sg c x).tdiv (valueOf sg c y))) ∧
    go (.rem sg b d) (fun c x y =>
      if valueOf sg c y = 0 then { code := x, flags := Flag.DZ }
      else wrapped c (valueOf sg c x - valueOf sg c y * (valueOf sg c x).tdiv (valueOf sg c y))) ∧
    go (.min_ sg b d) (fun c x y => { code := if valueOf sg c x ≤ valueOf sg c y then x else y }) ∧
    go (.max_ sg b d) (fun c x y => { code := if valueOf sg c x ≤ valueOf sg c y then y else x }) ∧
    go (.cmp sg cond b d) (fun c x y =>
      let p := valueOf sg c x
      let q := valueOf sg c y
      let holds := match cond with
        | .eq => decide (p = q) | .ne => decide (p ≠ q) | .lt => decide (p < q)
        | .le => decide (p ≤ q) | .gt => decide (q < p) | .ge => decide (q ≤ p)
      { code := if holds then 2 ^ c - 1 else 0 }) ∧
    (let variant : Nat := match cond with | .eq => 0 | .ne => 1 | .lt => 2 | .le => 3 | .gt => 4 | .ge => 5
     let lit : BitVec 32 := match b with | .port => 0 | .lit v => v
     encode (.cmp sg cond b d) = nodeBits 0x048 (BitVec.ofNat 7 ((if b = .port then 0 else 64) + (if sg then 32 else 0) + variant)) d lit) ∧
    (∀ r : NodeWord, r.op = 0x048 → 6 ≤ r.mod.toNat % 32 → decodeNode r = .error .unassignedMod)

/-- 11 R236, R239: logic, rotations and shifts, and the one-operand integer instructions. -/
def Sys2Proof.Claims.BitLogic : Prop :=
  ∀ (sg : Bool) (b : BSrc) (d : Dests) (s : State) (f : Firing), Latched s f → Fits f b →
    let sends (l : List Lane) : State := (s.raise f (orFlags l) (anyForce l)).emit f
      [(d.da, f.laneTok f.opA.gl2 f.opA.cl2 (l.map (Lane.sent (s.peOf f)))), (d.db, f.laneTok f.opA.gl2 f.opA.cl2 (l.map (Lane.sent (s.peOf f))))]
    let logic (i : Instr) (g : Nat → Nat → Nat → Nat) : Prop :=
      exec i s = .next (sends (lanesAB f b true (fun c x y => { code := g c x y })))
    let shift (i : Instr) (g : Nat → Nat → Nat → Nat) : Prop :=
      exec i s = .next (sends (lanesShift f b (fun c x k => { code := g c x k })))
    let one (i : Instr) (g : Nat → Nat → Nat) : Prop :=
      exec i s = .next (sends (lanesA f (fun c x => { code := g c x })))
    logic (.and_ b d) (fun _ x y => x &&& y) ∧
    logic (.or_ b d) (fun _ x y => x ||| y) ∧
    logic (.xor b d) (fun _ x y => x ^^^ y) ∧
    logic (.andn b d) (fun c x y => x &&& (2 ^ c - 1 - y)) ∧
    shift (.rotl b d) (fun c x k => (x * 2 ^ (k % c) + x / 2 ^ (c - k % c)) % 2 ^ c) ∧
    shift (.rotr b d) (fun c x k => (x * 2 ^ (c - k % c) + x / 2 ^ (k % c)) % 2 ^ c) ∧
    shift (.shl sg b d) (fun c x k => x * 2 ^ k % 2 ^ c) ∧
    shift (.shr sg b d) (fun c x k => (wrapped c (valueOf sg c x / ((2 ^ k : Nat) : Int))).code) ∧
    one (.neg d) (fun c x => (2 ^ c - x) % 2 ^ c) ∧
    one (.abs d) (fun c x => if x < 2 ^ (c - 1) then x else 2 ^ c - x) ∧
    one (.not_ d) (fun c x => 2 ^ c - 1 - x) ∧
    one (.clz d) (fun c x => (if x = 0 then c else c - 1 - Nat.log2 x) % 2 ^ c) ∧
    one (.ctz d) (fun c x => (((List.range c).find? (fun i => x.testBit i)).getD c) % 2 ^ c) ∧
    one (.popc d) (fun c x => ((List.range c).filter (fun i => x.testBit i)).length % 2 ^ c) ∧
    encode (.neg d) = nodeBits 0x051 0 d 0 ∧ encode (.abs d) = nodeBits 0x052 0 d 0 ∧ encode (.not_ d) = nodeBits 0x053 0 d 0 ∧
    encode (.clz d) = nodeBits 0x054 0 d 0 ∧ encode (.ctz d) = nodeBits 0x055 0 d 0 ∧ encode (.popc d) = nodeBits 0x056 0 d 0


namespace Sys2Proof.Claims
open Sys2Proof.Machine

/-- Lane by lane over a, b and c. -/
def lanesABC (f : Firing) (g : Nat → Nat → Nat → Nat → Lane) : List Lane :=
  (List.range (2 ^ f.opA.gl2)).map (fun j =>
    if f.opA.poisoned j || f.opB.poisoned j || f.opC.poisoned j then Lane.poisoned
    else g (2 ^ f.opA.cl2) (f.opA.lane j) (f.opB.lane j) (f.opC.lane j))

/-- Port c has port a's grant and container. -/
def FitsC (f : Firing) : Prop := f.opA.gl2 = f.opC.gl2 ∧ f.opA.cl2 = f.opC.cl2

/-- x / 2^k rounded to nearest: the floor, or one more above the middle or where the tie goes up. -/
def nearest (tie : TieMode) (x : Int) (k : Nat) : Int :=
  let q := x / ((2 ^ k : Nat) : Int)
  let twice := 2 * (x - q * ((2 ^ k : Nat) : Int))
  if twice < ((2 ^ k : Nat) : Int) then q
  else if ((2 ^ k : Nat) : Int) < twice then q + 1
  else match tie with
    | .up => q + 1
    | .even => q + q % 2
    | .away => if 0 ≤ x then q + 1 else q

end Sys2Proof.Claims

open Sys2Proof Sys2Proof.Machine Sys2Proof.Claims

/-- 11 R240 to R244: the saturating forms, CLAMP, the rounding shift and RQUANT. -/
def Obligations.SaturatingAndRounding : Prop :=
  ∀ (sg : Bool) (tie : TieMode) (rq : RqLit) (b : BSrc) (d : Dests) (s : State) (f : Firing), Latched s f → Fits f b →
    let go (i : Instr) (l : List Lane) : Prop := LaneResults i s f d f.opA.gl2 f.opA.cl2 l
    go (.adds sg b d) (lanesAB f b sg (fun c x y => saturated sg c (valueOf sg c x + valueOf sg c y))) ∧
    go (.subs sg b d) (lanesAB f b sg (fun c x y => saturated sg c (valueOf sg c x - valueOf sg c y))) ∧
    go (.muls sg b d) (lanesAB f b sg (fun c x y => saturated sg c (valueOf sg c x * valueOf sg c y))) ∧
    go (.shls sg b d) (lanesShift f b (fun c x k => saturated sg c (valueOf sg c x * ((2 ^ k : Nat) : Int)))) ∧
    go (.shrr sg tie b d) (lanesShift f b (fun c x k => wrapped c (nearest tie (valueOf sg c x) k))) ∧
    go (.abss d) (lanesA f (fun c x => saturated true c (sext x c).natAbs)) ∧
    (b = .port → FitsC f → go (.clamp sg d) (lanesABC f (fun c x y z =>
      let v := min (max (valueOf sg c x) (valueOf sg c y)) (valueOf sg c z)
      wrapped c v (if v = valueOf sg c x then 0 else Flag.SAT)))) ∧
    (b = .port → f.opA.cl2 = 5 →
      LaneResults (.rquant sg rq d) s f d f.opA.gl2 (Fd.contL2 rq.ow.toNat) (lanesAB f b sg (fun _ x y =>
        let z := sext rq.zp.toNat 8
        let w := rq.ow.toNat
        let lo : Int := if sg then -((2 ^ (w - 1) : Nat) : Int) else 0
        let hi : Int := if sg then ((2 ^ (w - 1) : Nat) : Int) - 1 else ((2 ^ w : Nat) : Int) - 1
        let t := (sext x 32 * sext y 32 + ((2 ^ rq.s.toNat / 2 : Nat) : Int)) / ((2 ^ rq.s.toNat : Nat) : Int)
        let r := if t + z < lo then lo else if hi < t + z then hi else t + z
        { code := (wrapped (2 ^ Fd.contL2 w) r).code, flags := if r = t + z then 0 else Flag.SAT })))

/-- 11 R239: the assembled lines of the rule with their results, on scalars of c bits. -/
def Sys2Proof.Claims.BitLines : Prop :=
  ∀ (d : Dests) (s : State) (f : Firing) (c a : Nat), Latched s f → f.opA.gl2 = 0 → f.opA.cl2 = c → f.opA.lane 0 = a → f.opA.poisoned 0 = false →
    let sends (i : Instr) (l : Lane) : Prop := LaneResults i s f d 0 c [l]
    let withB (b : Nat) : Prop := f.opB.gl2 = 0 ∧ f.opB.cl2 = c ∧ f.opB.lane 0 = b ∧ f.opB.poisoned 0 = false
    (c = 5 → a = 0xFFFFFFFE → sends (.add false (.lit 5) d) { code := 3 }) ∧
    (c = 3 → a = 0x03 → withB 0x05 → sends (.sub false .port d) { code := 0xFE }) ∧
    (c = 3 → a = 0xFF → withB 0xFF → sends (.mulh false .port d) { code := 0xFE } ∧ sends (.mulh true .port d) { code := 0 }) ∧
    (c = 3 → a = 0x07 → sends (.div true (.lit 0xFFFFFFFE) d) { code := 0xFD }) ∧
    (c = 3 → a = 0xF9 → sends (.rem true (.lit 0xFFFFFFFE) d) { code := 0xFF }) ∧
    (c = 3 → a = 0x09 → withB 0 → sends (.div false .port d) { code := 0xFF, flags := Flag.DZ }) ∧
    (c = 4 → a = 0x8000 → sends (.cmp true .lt (.lit 0) d) { code := 0xFFFF }) ∧
    (c = 3 → a = 0x96 → sends (.andn (.lit 0x0F) d) { code := 0x90 } ∧ sends (.rotl (.lit 3) d) { code := 0xB4 } ∧ sends (.popc d) { code := 4 }) ∧
    (c = 3 → a = 0x90 → sends (.shr true (.lit 3) d) { code := 0xF2 } ∧ sends (.shr false (.lit 3) d) { code := 0x12 }) ∧
    (c = 4 → a = 0x0010 → sends (.clz d) { code := 0x000B })

/-- 11 R245, R246: bit fields, bit reversal and extension. -/
def Sys2Proof.Claims.BitFields : Prop :=
  ∀ (sg : Bool) (l : FieldLit) (wm1 : BitVec 6) (d : Dests) (s : State) (f : Firing), Latched s f →
    let go (i : Instr) (l : List Lane) : Prop := exec i s = .next ((s.raise f (orFlags l) (anyForce l)).emit f
      [(d.da, f.laneTok f.opA.gl2 f.opA.cl2 (l.map (Lane.sent (s.peOf f)))), (d.db, f.laneTok f.opA.gl2 f.opA.cl2 (l.map (Lane.sent (s.peOf f))))])
    let n := l.lenm1.toNat + 1
    go (.bfx sg l d) (lanesA f (fun c x => wrapped c (valueOf sg n (x / 2 ^ l.pos.toNat)))) ∧
    (f.opA.gl2 = f.opB.gl2 → go (.bfi l d) (lanesAB f .port false (fun c x y =>
      { code := maskOf ((List.range c).map (fun i =>
          if l.pos.toNat ≤ i ∧ i < l.pos.toNat + n then y.testBit (i - l.pos.toNat) else x.testBit i)) }))) ∧
    go (.brev d) (lanesA f (fun c x =>
      { code := maskOf ((List.range c).map (fun i => x.testBit (c - 1 - i))) })) ∧
    go (.sext wm1 d) (lanesA f (fun c x =>
      if wm1.toNat + 1 < c then wrapped c (sext x (wm1.toNat + 1)) else { code := x })) ∧
    go (.zext wm1 d) (lanesA f (fun c x => { code := x % 2 ^ (wm1.toNat + 1) % 2 ^ c }))

namespace Sys2Proof.Claims
open Sys2Proof.Machine

/-- Width of a pointer's arithmetic field. -/
def fieldW (p : Nat) : Nat := if p / 2 ^ 60 = 5 ∨ p / 2 ^ 60 = 7 then 50 else 60

/-- A pointer with its arithmetic field replaced by an integer modulo the field's size. -/
def withField (p : Nat) (v : Int) : Nat :=
  p / 2 ^ fieldW p * 2 ^ fieldW p + (v % ((2 ^ fieldW p : Nat) : Int)).toNat

/-- What PCVT.tobyte refuses of a lane: another space than process memory, or a bit pointer inside a byte. -/
def tobyteFault (poisoned : Bool) (p : Nat) : Option (Nat × Nat) :=
  if poisoned then none else if p / 2 ^ 60 ≠ 0 then some (0x100, 2) else if p % 8 ≠ 0 then some (0x101, 0) else none

/-- The first lane of a grant at which a check fails, with the code and cause value it gives. -/
def firstFault (g : Nat) (chk : Nat → Option (Nat × Nat)) (j code cause : Nat) : Prop :=
  j < g ∧ chk j = some (code, cause) ∧ ∀ k < j, chk k = none

end Sys2Proof.Claims

open Sys2Proof Sys2Proof.Machine Sys2Proof.Claims

/-- 11 R247 to R251: the pointer instructions on 64-bit lanes. -/
def Sys2Proof.Claims.PointerArithmetic : Prop :=
  ∀ (n al : BitVec 16) (w : BitVec 7) (tag : BitVec 4) (d : Dests) (s : State) (f : Firing), Latched s f → f.opA.cl2 = 6 →
    let go (i : Instr) (l : List Lane) : Prop := LaneResults i s f d f.opA.gl2 6 l
    (f.opA.gl2 = f.opB.gl2 → go (.padd n d) (lanesAB f .port false (fun _ p i =>
      { code := withField p ((p % 2 ^ fieldW p : Nat) + sext i (2 ^ f.opB.cl2) * n.toNat) }))) ∧
    (n ≠ 0 → Fits f .port →
      (∀ j < 2 ^ f.opA.gl2, f.opA.poisoned j = false → f.opB.poisoned j = false →
        f.opA.lane j / 2 ^ fieldW (f.opA.lane j) = f.opB.lane j / 2 ^ fieldW (f.opA.lane j)) →
      go (.psub n d) (lanesAB f .port false (fun _ p q =>
        wrapped 64 (((p % 2 ^ fieldW p : Nat) - (q % 2 ^ fieldW q : Nat) : Int) / (n.toNat : Int))))) ∧
    (al ≠ 0 → go (.paln al d) (lanesA f (fun _ p => { code := p - p % 2 ^ fieldW p % al.toNat }))) ∧
    (1 ≤ w.toNat → w.toNat ≤ 64 → go (.pchk w d) (lanesA f (fun _ p =>
      let o := p % 2 ^ fieldW p
      { code := (if o % 2 ^ Fd.contL2 w.toNat = 0 then 0 else
                 if [3, 5, 6, 7].contains w.toNat ∧ o % w.toNat = 0 then 1 else 2) +
                (if 512 < o % 512 + w.toNat then 4 else 0) }))) ∧
    ((∀ j < 2 ^ f.opA.gl2, f.opA.poisoned j = false → f.opA.lane j < 2 ^ 57) →
      go (.pcvt false d) (lanesA f (fun _ u => { code := u * 8 }))) ∧
    ((∀ j < 2 ^ f.opA.gl2, f.opA.poisoned j = false → f.opA.lane j < 2 ^ 60 ∧ f.opA.lane j % 8 = 0) →
      go (.pcvt true d) (lanesA f (fun _ p => { code := p / 8 }))) ∧
    go (.pspc .get d) (lanesA f (fun _ p => { code := p / 2 ^ 60 })) ∧
    (f.opA.gl2 = f.opB.gl2 → tag ≠ 5 → tag ≠ 7 → go (.pspc (.set tag) d) (lanesA f (fun _ p =>
      { code := tag.toNat * 2 ^ 60 + p % 2 ^ fieldW p }))) ∧
    (f.opA.gl2 = f.opB.gl2 → tag = 5 ∨ tag = 7 → go (.pspc (.set tag) d) (lanesAB f .port false (fun _ p q =>
      { code := tag.toNat * 2 ^ 60 + q % 2 ^ 10 * 2 ^ 50 + p % 2 ^ 50 })))

/-- 11 R247, R248, R250: PSUB and PCVT end the unit at the first failing lane, and send nothing. -/
def Sys2Proof.Claims.PointerFaults : Prop :=
  ∀ (n : BitVec 16) (d : Dests) (s : State) (f : Firing) (j : Nat), Latched s f → f.opA.cl2 = 6 →
    (Fits f .port →
      firstFault (2 ^ f.opA.gl2) (fun k =>
        if f.opA.poisoned k = false ∧ f.opB.poisoned k = false ∧
           f.opA.lane k / 2 ^ fieldW (f.opA.lane k) ≠ f.opB.lane k / 2 ^ fieldW (f.opA.lane k)
        then some (0x100, 2) else none) j 0x100 2 →
      Ends (.psub n d) s f 0x100 (2 + 256 * j)) ∧
    (firstFault (2 ^ f.opA.gl2) (fun k =>
        if f.opA.poisoned k = false ∧ 2 ^ 57 ≤ f.opA.lane k then some (0x100, 4) else none) j 0x100 4 →
      Ends (.pcvt false d) s f 0x100 (4 + 256 * j)) ∧
    (firstFault (2 ^ f.opA.gl2) (fun k => tobyteFault (f.opA.poisoned k) (f.opA.lane k)) j 0x100 2 →
      Ends (.pcvt true d) s f 0x100 (2 + 256 * j)) ∧
    (firstFault (2 ^ f.opA.gl2) (fun k => tobyteFault (f.opA.poisoned k) (f.opA.lane k)) j 0x101 0 →
      Ends (.pcvt true d) s f 0x101 (256 * j))

namespace Sys2Proof.Claims
open Sys2Proof.Machine

/-- The code a literal gives a float lane: that of its class, where FP64 widens an FP32 code. -/
def floatB (f : Firing) (cls : FCls) (b : BSrc) (j : Nat) : Nat :=
  match b with
  | .port => f.opB.lane j
  | .lit v => if cls = .f64 then (round (laneFmt .f64) .rne (decode (laneFmt .f32) v.toNat)).code
              else v.toNat % 2 ^ 2 ^ laneCl2 cls

/-- Lane by lane over a and b, read as numbers of the class: the exact result and its flags, rounded once. -/
def fltAB (f : Firing) (b : BSrc) (cls : FCls) (m : RMode) (g : ExtNum → ExtNum → ExtNum × Nat) : List Lane :=
  (List.range (2 ^ f.opA.gl2)).map (fun j =>
    if f.opA.poisoned j || badB f b j then Lane.poisoned
    else fltOut cls m (g (fnum cls (f.opA.lane j)) (fnum cls (floatB f cls b j))))

/-- The same over codes that are not rounded. -/
def codesAB (f : Firing) (b : BSrc) (cls : FCls) (g : Nat → Nat → Lane) : List Lane :=
  (List.range (2 ^ f.opA.gl2)).map (fun j =>
    if f.opA.poisoned j || badB f b j then Lane.poisoned else g (f.opA.lane j) (floatB f cls b j))

/-- The lesser code of two that are not NaN, with −0 below +0. -/
def lesser (cls : FCls) (x y : Nat) : Nat :=
  let p := fnum cls x
  let q := fnum cls y
  if ExtNum.lt q p || (p.isZero && q.isZero && q.neg && !p.neg) then y else x

/-- The greater code of two that are not NaN, with −0 below +0. -/
def greater (cls : FCls) (x y : Nat) : Nat :=
  let p := fnum cls x
  let q := fnum cls y
  if ExtNum.lt p q || (p.isZero && q.isZero && p.neg && !q.neg) then y else x

/-- A choice between two codes, past NaN: a NaN yields to the other operand, two give the canonical NaN. -/
def pastNaN (cls : FCls) (g : Nat → Nat → Nat) (x y : Nat) : Nat :=
  match (fnum cls x).isNan, (fnum cls y).isNan with
  | true, true => (laneFmt cls).nanCode
  | true, false => y
  | false, true => x
  | false, false => g x y

/-- A code's bit, below and at the sign of its class. -/
def signOf (cls : FCls) : Nat := 2 ^ (2 ^ laneCl2 cls - 1)

end Sys2Proof.Claims

open Sys2Proof Sys2Proof.Machine Sys2Proof.Claims

/-- 12 R253, R255: the rounding arithmetic instructions, on lanes of their class, in their mode. -/
def Sys2Proof.Claims.FloatArithmetic : Prop :=
  ∀ (rm : RMode) (cls : FCls) (b : BSrc) (d : Dests) (s : State) (f : Firing), Latched s f →
    f.opA.cl2 = laneCl2 cls →
    let m := resolveRm rm (s.peOf f).mode
    let go (i : Instr) (l : List Lane) : Prop := LaneResults i s f d f.opA.gl2 f.opA.cl2 l
    let one (g : ExtNum → ExtNum × Nat) : List Lane := lanesA f (fun _ x => fltOut cls m (g (fnum cls x)))
    let three (g : ExtNum → ExtNum → ExtNum → ExtNum × Nat) : List Lane :=
      lanesABC f (fun _ x y z => fltOut cls m (g (fnum cls x) (fnum cls y) (fnum cls z)))
    (Fits f b →
      go (.fadd rm cls b d) (fltAB f b cls m (fun x y => ExtNum.add x y m)) ∧
      go (.fsub rm cls b d) (fltAB f b cls m (fun x y => ExtNum.sub x y m)) ∧
      go (.fmul rm cls b d) (fltAB f b cls m ExtNum.mul) ∧
      go (.fdiv rm cls b d) (fltAB f b cls m ExtNum.div)) ∧
    ((b = .port → f.opA.gl2 = f.opB.gl2) →
      go (.fsclb rm cls b d) ((List.range (2 ^ f.opA.gl2)).map (fun j =>
        if f.opA.poisoned j || badB f b j then Lane.poisoned
        else
          let n := match b with | .port => sext (f.opB.lane j) (2 ^ f.opB.cl2) | .lit v => v.toInt
          fltOut cls m (ExtNum.mulPow2 (fnum cls (f.opA.lane j)) n, 0)))) ∧
    (Fits f .port → FitsC f →
      go (.fma rm cls d) (three (fun x y z => ExtNum.fma x y z m)) ∧
      go (.fnma rm cls d) (three (fun x y z => ExtNum.fma x.flip y z m))) ∧
    go (.fsqrt rm cls d) (one ExtNum.sqrt) ∧
    go (.frsq rm cls d) (one ExtNum.rsqrt) ∧
    go (.frcp rm cls d) (one ExtNum.recip) ∧
    go (.frint rm cls d) (lanesA f (fun _ x =>
      match fnum cls x with
      | .fin neg n e =>
        let q := roundMag neg n e 0 m
        { code := (round (laneFmt cls) .rne (.fin neg q 1)).code, flags := if q * e = n then 0 else Flag.INX }
      | v => { code := (round (laneFmt cls) .rne v).code }))

/-- 12 R256: the instructions that select, compare and act on sign bits; only FCMP sets a flag. -/
def Sys2Proof.Claims.FloatSelection : Prop :=
  ∀ (cond : Cond) (cls : FCls) (b : BSrc) (d : Dests) (s : State) (f : Firing), Latched s f →
    f.opA.cl2 = laneCl2 cls →
    let go (i : Instr) (l : List Lane) : Prop := LaneResults i s f d f.opA.gl2 f.opA.cl2 l
    let two (g : Nat → Nat → Nat) : List Lane := codesAB f b cls (fun x y => { code := g x y })
    let lessMagn (x y : Nat) : Bool := ExtNum.ltMag (fnum cls x) (fnum cls y)
    (Fits f b →
      go (.fmin cls b d) (two (pastNaN cls (lesser cls))) ∧
      go (.fmax cls b d) (two (pastNaN cls (greater cls))) ∧
      go (.fminm cls b d) (two (pastNaN cls (fun x y =>
        if lessMagn x y then x else if lessMagn y x then y else lesser cls x y))) ∧
      go (.fmaxm cls b d) (two (pastNaN cls (fun x y =>
        if lessMagn y x then x else if lessMagn x y then y else greater cls x y))) ∧
      go (.fcpys cls b d) (two (fun x y => x % signOf cls + y / signOf cls % 2 * signOf cls)) ∧
      go (.fcmp cond cls b d) (codesAB f b cls (fun x y =>
        let p := fnum cls x
        let q := fnum cls y
        if p.isNan || q.isNan then
          match cond with
          | .ne => { code := 2 * signOf cls - 1 }
          | .eq => { code := 0 }
          | _ => { code := 0, flags := Flag.INV }
        else
          let holds := match cond with
            | .lt => ExtNum.lt p q
            | .gt => ExtNum.lt q p
            | .le => !ExtNum.lt q p
            | .ge => !ExtNum.lt p q
            | .eq => !ExtNum.lt p q && !ExtNum.lt q p
            | .ne => ExtNum.lt p q || ExtNum.lt q p
          { code := if holds then 2 * signOf cls - 1 else 0 }))) ∧
    go (.fabs cls d) (lanesA f (fun _ x => { code := x % signOf cls })) ∧
    go (.fneg cls d) (lanesA f (fun _ x => { code := (x + signOf cls) % (2 * signOf cls) })) ∧
    go (.fclass cls d) (lanesA f (fun _ x => { code := 2 ^ (match fnum cls x with
      | .nan _ => 8
      | .inf neg => if neg then 0 else 7
      | .fin neg n _ =>
        if n = 0 then (if neg then 3 else 4)
        else if x / 2 ^ (laneFmt cls).m % 2 ^ (laneFmt cls).e = 0 then (if neg then 2 else 5)
        else (if neg then 1 else 6)) }))

/-- 12 R257, R258, R260, R261: the conversions scale, round once and place the code; the block scales. -/
def Obligations.ConversionAndScale : Prop :=
  ∀ (rm : RMode) (cls : FCls) (fd : BitVec 32) (sc : BitVec 16) (b : BSrc) (d : Dests) (s : State) (f : Firing), Latched s f →
    let m := resolveRm rm (s.peOf f).mode
    let lane (x y : BitVec 32) : List Lane := lanesA f (fun _ code =>
      let put (r : Nat) : Nat := widen (Fd.cls y = 1) (Fd.codeWidth y) (Fd.contL2 (Fd.codeWidth y)) r
      let v := decode (Fmt.of x) code
      if scaleInvalid f.opA.scale then Lane.poisoned
      else if scaleZero f.opA.scale then { code := put (round (Fmt.of y) m (.fin v.neg 0 1)).code }
      else
        let r := round (Fmt.of y) m (v.timesScale f.opA.scale)
        { code := put r.code, flags := r.flags, force := r.force })
    let fits (x y : BitVec 32) : Prop :=
      f.opA.cl2 = Fd.contL2 (Fd.codeWidth x) ∧ 2 ^ f.opA.gl2 * 2 ^ Fd.contL2 (Fd.codeWidth y) ≤ 256
    let conv (i : Instr) (x y : BitVec 32) : Prop :=
      fits x y → LaneResults i s f d f.opA.gl2 (Fd.contL2 (Fd.codeWidth y)) (lane x y)
    conv (.cvtff false rm cls fd d) fd (laneFd cls) ∧
    conv (.cvtff true rm cls fd d) (laneFd cls) fd ∧
    conv (.cvtfi rm cls fd d) (laneFd cls) fd ∧
    conv (.cvtif rm cls fd d) fd (laneFd cls) ∧
    (f.opA.cl2 = 5 → (∃ j, j < 2 ^ f.opA.gl2 ∧ f.opA.poisoned j = false) →
      (∀ j < 2 ^ f.opA.gl2, f.opA.poisoned j = false → ∃ neg n e, fnum .f32 (f.opA.lane j) = .fin neg n e) →
      (Fmt.of fd).top.1 ≠ 0 →
      ∃ j n e, j < 2 ^ f.opA.gl2 ∧ f.opA.poisoned j = false ∧
        (∃ neg, fnum .f32 (f.opA.lane j) = .fin neg n e) ∧
        (∀ k < 2 ^ f.opA.gl2, f.opA.poisoned k = false → ExtNum.ltMag (.fin false n e) (fnum .f32 (f.opA.lane k)) = false) ∧
        LaneResults (.sclmax fd d) s f d 0 4
          [Lane.ofRounded (encodeScale (.fin false (n * (Fmt.of fd).top.2) (e * (Fmt.of fd).top.1)))]) ∧
    Sends (.sclget d) s f d (f.stamp { tag := f.tag, cl2 := 4, pay := f.opA.scale.toNat }) ∧
    (b = .lit (BitVec.setWidth 32 sc) ∨ (b = .port ∧ f.opB.poisoned 0 = false ∧ f.opB.lane 0 % 2 ^ 16 = sc.toNat) →
      Sends (.sclset b d) s f d (f.stamp { f.opA with
        tag := f.tag
        scale := sc
        pmask := if sc.toNat / 256 = 255 then 2 ^ 2 ^ f.opA.gl2 - 1 else f.opA.pmask })) ∧
    (f.opB.poisoned 0 = true → Ends (.sclset .port d) s f 0x106 0)

/-- 12 R259: each special function in its class and mode, with the special values the rule lists. -/
def Sys2Proof.Claims.SpecialFunctions : Prop :=
  ∀ (rm : RMode) (cls : FCls) (d : Dests) (s : State) (f : Firing), Latched s f → f.opA.cl2 = laneCl2 cls →
    let m := resolveRm rm (s.peOf f).mode
    let go (i : Instr) (fn : Fn) : Prop := LaneResults i s f d f.opA.gl2 f.opA.cl2
      (lanesA f (fun _ x => Lane.ofRounded (special fn (laneFmt cls) m (fnum cls x))))
    go (.fexp2 rm cls d) .exp2 ∧ go (.fexpe rm cls d) .expe ∧ go (.flog2 rm cls d) .log2 ∧
    go (.ftanh rm cls d) .tanh ∧ go (.fsig rm cls d) .sig ∧ go (.fsinp rm cls d) .sinp ∧ go (.fcosp rm cls d) .cosp

/-- 12 R259: the special values, whatever the class and the mode. -/
def Sys2Proof.Claims.SpecialValues : Prop :=
  ∀ (rm : RMode) (cls : FCls) (neg : Bool) (e : Nat), e ≠ 0 →
    let F := laneFmt cls
    let inv : Rounded := { code := F.nanCode, flags := Flag.INV }
    let same (fn : Fn) (x y : ExtNum) : Prop := special fn F rm x = { code := (round F .rne y).code }
    same .exp2 (.inf true) (.fin false 0 1) ∧ same .exp2 (.inf false) (.inf false) ∧
    same .expe (.inf true) (.fin false 0 1) ∧ same .expe (.inf false) (.inf false) ∧
    special .log2 F rm (.fin neg 0 e) = { code := F.infCode true, flags := Flag.DZ } ∧
    (∀ n, n ≠ 0 → special .log2 F rm (.fin true n e) = inv) ∧
    special .log2 F rm (.inf true) = inv ∧ same .log2 (.inf false) (.inf false) ∧ same .log2 (.fin false e e) (.fin false 0 1) ∧
    same .tanh (.inf neg) (.fin neg 1 1) ∧ same .tanh (.fin neg 0 e) (.fin neg 0 1) ∧
    same .sig (.inf true) (.fin false 0 1) ∧ same .sig (.inf false) (.fin false 1 1) ∧
    special .sinp F rm (.inf neg) = inv ∧ (∀ n, same .sinp (.fin neg (n * e) e) (.fin neg 0 1)) ∧
    special .cosp F rm (.inf neg) = inv ∧ (∀ n, same .cosp (.fin neg ((2 * n + 1) * e) (2 * e)) (.fin false 0 1))

namespace Sys2Proof.Claims
open Sys2Proof.Machine

/-- The token of a grant and a container whose lane j is g j: its code and its poison. -/
def lanesTok (f : Firing) (gl2 cl2 : Nat) (g : Nat → Nat × Bool) : Token :=
  f.laneTok gl2 cl2 ((List.range (2 ^ gl2)).map g)

/-- A lane of a token with its poison. -/
def laneOf (t : Token) (j : Nat) : Nat × Bool := (t.lane j, t.poisoned j)

/-- A list summed in a tree of the given depth, neighbours first, each step rounded; the flags of every step. -/
def tree (add : Nat → Nat → Lane) : Nat → (Nat → Nat) → Lane
  | 0, l => { code := l 0 }
  | n + 1, l =>
    let x := tree add n l
    let y := tree add n (fun j => l (2 ^ n + j))
    let r := add x.code y.code
    { code := r.code, flags := x.flags ||| y.flags ||| r.flags }

/-- The sum of lanes 0 to j in sequence; the flags of its last step. -/
def running (add : Nat → Nat → Lane) (l : Nat → Nat) : Nat → Lane
  | 0 => { code := l 0 }
  | j + 1 => add (running add l j).code (l (j + 1))

/-- One lane drawn from every lane of a: poisoned if any is. -/
def fromAll (f : Firing) (r : Lane) : List Lane :=
  [if (List.range (2 ^ f.opA.gl2)).any f.opA.poisoned then Lane.poisoned else r]

/-- The random integer of a key and a counter: three rounds of mixing. -/
def mixed (k c : Nat) : Nat :=
  let step (x : Nat) : Nat :=
    let y := (x ^^^ x / 2 ^ 32) * 0xB4C53A976E1D29F3 % 2 ^ 64
    y ^^^ y / 2 ^ 29
  step (step (step (c ^^^ (k * 0x9E3779B97F4A7C15 % 2 ^ 64)))) % 2 ^ 32

end Sys2Proof.Claims

open Sys2Proof Sys2Proof.Machine Sys2Proof.Claims

/-- 12 R262, R263: colours and lane moves. Codes and poison move together and no flag is set. VPACK of two tokens of
32 lanes is the model's LANE_MISMATCH (log 15), and so is no part of this. -/
def Obligations.LaneMoves : Prop :=
  ∀ (qm1 lane : BitVec 5) (c gl2 : BitVec 3) (d : Dests) (s : State) (f : Firing), Latched s f →
    let a := f.opA
    let b := f.opB
    let G := 2 ^ a.gl2
    let sends2 (i : Instr) (ta tb : Token) : Prop := Results i s f d 0 false [ta] [tb]
    let sends (i : Instr) (t : Token) : Prop := Results i s f d 0 false [t] [t]
    (let q := 2 ^ min (Nat.log2 (qm1.toNat + 1)) (8 - c.toNat)
     let colour : Token := f.stamp { a with
       tag := f.tag
       scale := 0x7F00
       gl2 := min (Nat.log2 (qm1.toNat + 1)) (8 - c.toNat)
       cl2 := c.toNat
       pmask := maskOf ((List.range q).map (fun j =>
         (List.range G).any (fun i => a.poisoned i && decide (i * 2 ^ a.cl2 < (j + 1) * 2 ^ c.toNat) &&
           decide (j * 2 ^ c.toNat < (i + 1) * 2 ^ a.cl2))))
       pay := a.pay % 2 ^ (q * 2 ^ c.toNat) }
     sends2 (.vctx qm1 c d) colour (f.stamp (scalarTok 5 q f.tag))) ∧
    (Fits f .port → 2 * G * 2 ^ a.cl2 ≤ 256 → a.gl2 ≠ 5 →
      sends (.vpack d) (lanesTok f (a.gl2 + 1) a.cl2 (fun j => if j < G then laneOf a j else laneOf b (j - G)))) ∧
    (a.gl2 ≠ 0 → sends2 (.vunpack d) (lanesTok f (a.gl2 - 1) a.cl2 (laneOf a))
      (lanesTok f (a.gl2 - 1) a.cl2 (fun j => laneOf a (G / 2 + j)))) ∧
    (2 ^ gl2.toNat * 2 ^ a.cl2 ≤ 256 → lane.toNat < G →
      sends (.vsplat gl2 lane d) (lanesTok f gl2.toNat a.cl2 (fun _ => laneOf a lane.toNat))) ∧
    (lane.toNat < G → sends (.vext lane d) (lanesTok f 0 a.cl2 (fun _ => laneOf a lane.toNat))) ∧
    (lane.toNat < G → a.cl2 = b.cl2 → sends (.vins lane d)
      (lanesTok f a.gl2 a.cl2 (fun j => if j = lane.toNat then laneOf b 0 else laneOf a j))) ∧
    (a.gl2 = b.gl2 → sends (.vperm d) (lanesTok f a.gl2 a.cl2 (fun j =>
      if b.poisoned j then (0, true) else laneOf a (b.lane j % 32 % G)))) ∧
    (a.gl2 = b.gl2 → b.gl2 = f.opC.gl2 → b.cl2 = f.opC.cl2 → sends (.vsel d) (lanesTok f b.gl2 b.cl2 (fun j =>
      if a.poisoned j then (0, true) else if a.lane j = 0 then laneOf f.opC j else laneOf b j)))

/-- 12 R264, R272: the in-token reductions of integer and float lanes, and the random numbers. -/
def Obligations.LaneReductions : Prop :=
  ∀ (sg : Bool) (rm : RMode) (cls : FCls) (d : Dests) (s : State) (f : Firing), Latched s f →
    let a := f.opA
    let m := resolveRm rm (s.peOf f).mode
    let ints : ElemTy := if sg then .sgn else .uns
    let flts : ElemTy := .flt rm cls
    let add (x y : Nat) : Lane := fltOut cls m (ExtNum.add (fnum cls x) (fnum cls y) m)
    let best (g : Nat → Nat → Nat) : Lane :=
      { code := (List.range (2 ^ a.gl2 - 1)).foldl (fun x j => g x (a.lane (j + 1))) (a.lane 0) }
    let scan (plus : Nat → Nat → Lane) : List Lane := (List.range (2 ^ a.gl2)).map (fun j =>
      if (List.range (j + 1)).any a.poisoned then Lane.poisoned else running plus a.lane j)
    let val (x : Nat) : Int := valueOf sg (2 ^ a.cl2) x
    LaneResults (.vredadd ints d) s f d 0 6
      (fromAll f (wrapped 64 ((List.range (2 ^ a.gl2)).foldl (fun n j => n + val (a.lane j)) 0))) ∧
    LaneResults (.vredmin ints d) s f d 0 a.cl2 (fromAll f (best (fun x y => if val y < val x then y else x))) ∧
    LaneResults (.vredmax ints d) s f d 0 a.cl2 (fromAll f (best (fun x y => if val x < val y then y else x))) ∧
    LaneResults (.vscan ints d) s f d a.gl2 a.cl2 (scan (fun x y => { code := (x + y) % 2 ^ 2 ^ a.cl2 })) ∧
    (a.cl2 = laneCl2 cls →
      LaneResults (.vredadd flts d) s f d 0 a.cl2 (fromAll f
        (tree add a.gl2 a.lane)) ∧
      LaneResults (.vredmin flts d) s f d 0 a.cl2 (fromAll f (best (pastNaN cls (lesser cls)))) ∧
      LaneResults (.vredmax flts d) s f d 0 a.cl2 (fromAll f (best (pastNaN cls (greater cls)))) ∧
      LaneResults (.vscan flts d) s f d a.gl2 a.cl2 (scan add)) ∧
    (a.cl2 = 6 → f.opB.cl2 = 6 →
      LaneResults (.rng d) s f d a.gl2 5 ((List.range (2 ^ a.gl2)).map (fun j =>
        if a.poisoned j || f.opB.poisoned 0 then Lane.poisoned else { code := mixed (f.opB.lane 0) (a.lane j) })) ∧
      LaneResults (.rngf d) s f d a.gl2 5 ((List.range (2 ^ a.gl2)).map (fun j =>
        if a.poisoned j || f.opB.poisoned 0 then Lane.poisoned
        else { code := (round (laneFmt .f32) .rne (.fin false (mixed (f.opB.lane 0) (a.lane j) / 256) (2 ^ 24))).code })))

namespace Sys2Proof.Claims
open Sys2Proof.Machine

/-- The destinations of a node that computes (groups 001 to 101 without the sequence nodes, lists and EOD). -/
def resultDests (i : Instr) : Option Dests :=
  match i with
  | .neg d | .abs d | .not_ d | .clz d | .ctz d | .popc d => some d
  | .abss d | .brev d | .sclget d | .vpack d | .vunpack d | .vperm d => some d
  | .vsel d | .rng d | .rngf d => some d
  | .and_ _ d | .or_ _ d | .xor _ d | .andn _ d | .rotl _ d | .rotr _ d => some d
  | .clamp _ d | .bfi _ d | .sext _ d | .zext _ d | .padd _ d | .psub _ d => some d
  | .paln _ d | .pchk _ d | .pcvt _ d | .pspc _ d | .fabs _ d | .fneg _ d => some d
  | .fclass _ d | .sclmax _ d | .sclset _ d | .vext _ d | .vins _ d | .vredadd _ d => some d
  | .vredmin _ d | .vredmax _ d | .vscan _ d => some d
  | .add _ _ d | .sub _ _ d | .mul _ _ d | .mulh _ _ d | .div _ _ d | .rem _ _ d => some d
  | .min_ _ _ d | .max_ _ _ d | .shl _ _ d | .shr _ _ d | .adds _ _ d | .subs _ _ d => some d
  | .muls _ _ d | .shls _ _ d | .rquant _ _ d | .bfx _ _ d | .fma _ _ d | .fnma _ _ d => some d
  | .fsqrt _ _ d | .frsq _ _ d | .frcp _ _ d | .frint _ _ d | .fmin _ _ d | .fmax _ _ d => some d
  | .fminm _ _ d | .fmaxm _ _ d | .fcpys _ _ d | .fexp2 _ _ d | .fexpe _ _ d | .flog2 _ _ d => some d
  | .ftanh _ _ d | .fsig _ _ d | .fsinp _ _ d | .fcosp _ _ d | .vctx _ _ d | .vsplat _ _ d => some d
  | .cmp _ _ _ d | .shrr _ _ _ d | .fcmp _ _ _ d | .fsclb _ _ _ d | .fadd _ _ _ d | .fsub _ _ _ d => some d
  | .fmul _ _ _ d | .fdiv _ _ _ d | .cvtfi _ _ _ d | .cvtif _ _ _ d => some d
  | .cvtff _ _ _ _ d => some d
  | _ => none

/-- The frame of a firing: memory, the dies, the links and every other cluster are as before; messages, fault records
and the launch's stop may be added; of its own cluster only the status and one unit's PE_FLAGS may change. -/
structure OnlySends (s t : State) (f : Firing) : Prop where
  rest : ∃ cls netMsgs serial hub, t = { s with cls := cls, netMsgs := netMsgs, serial := serial, hub := hub }
  bytes : ∀ a, t.mem.read a = s.mem.read a
  sent : ∃ l, t.netMsgs = s.netMsgs ++ l
  others : ∀ c, c ≠ f.cl → t.cl c = s.cl c
  own : ∃ pe stat, t.cl f.cl = { s.cl f.cl with ctx := { (s.cl f.cl).ctx with pe := pe }, stat := stat }
  flags : ∃ fl now, t.peOf f = { s.peOf f with flags := fl, now := now } ∧ (s.peOf f).flags &&& fl = (s.peOf f).flags
  units : ∀ u, u ≠ f.unit → (t.ctx f.cl).peReg u = (s.ctx f.cl).peReg u
  hub : ∃ faults slots, t.hub = { s.hub with faults := s.hub.faults ++ faults, slots := slots }

end Sys2Proof.Claims

open Sys2Proof Sys2Proof.Machine Sys2Proof.Claims

/-- The frame of every computing node: only its results leave it, only its unit's sticky flags change. -/
def Obligations.ComputingNodesOnlySend : Prop :=
  ∀ (i : Instr) (d : Dests) (s t : State) (f : Firing), resultDests i = some d → s.cur = some f →
    exec i s = .next t → OnlySends s t f

/-- 03 R65: a computing node that takes a bubble computes nothing and sends a bubble to every destination. -/
def Obligations.BubblesPassThrough : Prop :=
  ∀ (i : Instr) (d : Dests) (s : State) (f : Firing), resultDests i = some d → s.cur = some f → f.hasBubble = true →
    let hull (sel : Token → Nat) (pick : Nat → Nat → Nat) : Nat :=
      match f.bubbles with
      | [] => 0
      | b :: rest => rest.foldl (fun m t => pick m (sel t)) (sel b)
    let port := match f.bubbles with | [] => 0 | b :: _ => b.bport
    exec i s = .next (s.emitBoth f d
      (f.stamp (bubbleTok (hull Token.olo min) (hull Token.ohi max) port f.tag)))

/-- 06 R145, 11 R247, 12 R252: operands that do not fit end the unit with LANE_MISMATCH; the node sends nothing. -/
def Sys2Proof.Claims.MismatchEndsUnit : Prop :=
  ∀ (sg : Bool) (rm : RMode) (cls : FCls) (n : BitVec 16) (rq : RqLit) (d : Dests) (s : State) (f : Firing), Latched s f →
    let ends (i : Instr) : Prop := Ends i s f 0x203 0
    (¬ Fits f .port →
      ends (.add sg .port d) ∧ ends (.and_ .port d) ∧ ends (.adds sg .port d) ∧ ends (.shl sg .port d) ∧
      ends (.clamp sg d) ∧ ends (.fadd rm cls .port d) ∧ ends (.fmin cls .port d) ∧ ends (.psub n d) ∧ ends (.vpack d)) ∧
    (f.opA.gl2 ≠ f.opB.gl2 → ends (.padd n d) ∧ ends (.vperm d) ∧ ends (.fsclb rm cls .port d)) ∧
    (f.opA.cl2 ≠ 6 → ends (.padd n d) ∧ ends (.psub n d) ∧ ends (.paln n d) ∧ ends (.pcvt sg d) ∧ ends (.pspc .get d) ∧
      ends (.rng d) ∧ ends (.rngf d)) ∧
    (f.opA.cl2 ≠ laneCl2 cls → ends (.fadd rm cls .port d) ∧ ends (.fma rm cls d) ∧ ends (.fsqrt rm cls d) ∧
      ends (.fexp2 rm cls d) ∧ ends (.fcmp .lt cls .port d) ∧ ends (.vredadd (.flt rm cls) d)) ∧
    (f.opA.cl2 ≠ 5 → ends (.rquant sg rq d)) ∧
    (f.opA.gl2 = 0 → ends (.vunpack d)) ∧
    (256 < 2 * 2 ^ f.opA.gl2 * 2 ^ f.opA.cl2 → ends (.vpack d))

/-- 20 R367, 22 R390: a fault that ends a unit adds one record, its header filled from the launch, and marks the
unit; once it is ending, a further fault changes nothing. -/
def Sys2Proof.Claims.TakingAFault : Prop :=
  ∀ (s : State) (f : Firing) (code cause : Nat),
    let x := s.cl f.cl
    let r : FaultRec := {
      queue := match s.bindOf f.cl with | some b => b.jcnt | none => 4095
      code := code, cl := f.cl, unit := f.unit, node := f.node, origin := 0
      sid := if (s.bindOf f.cl).isSome then x.sid else 0, tag := f.tag
      slot := x.slot.getD 0, launch := match s.bindOf f.cl with | some b => b.lcnt | none => 0
      time := s.hub.time, cause := cause }
    (x.stat = .running ∨ x.stat = .idle →
      s.fail f code cause = { s with
        hub := { s.hub with faults := s.hub.faults ++ [r] }
        cls := s.cls.put f.cl { x with stat := .faulting } }) ∧
    (x.stat ≠ .running → x.stat ≠ .idle → s.fail f code cause = s)

/-- 07 R160, 22 R396: the flags a firing raises are sticky; an enabled one, or ForceTrap, adds one ARITH_TRAP record. -/
def Obligations.FlagsAndTraps : Prop :=
  ∀ (s : State) (f : Firing) (flags : Nat) (force : Bool), flags < 128 →
    let p := s.peOf f
    let t := s.raise f flags force
    t.peOf f = { p with flags := p.flags ||| flags, now := p.now ||| flags } ∧
    (force = false → flags &&& p.xen = 0 → t.hub.faults = s.hub.faults) ∧
    (force = true ∨ flags &&& p.xen ≠ 0 → ∃ r, t.hub.faults = s.hub.faults ++ [r] ∧ r.code = 0x300 ∧ r.cl = f.cl ∧
      r.unit = f.unit ∧ r.node = f.node ∧ r.tag = f.tag ∧
      r.cause = flags + 128 * (flags &&& p.xen) + (if force then 2 ^ 14 else 0))

namespace Sys2Proof.Claims
open Sys2Proof.Machine

/-- An operand forwarded under a tag: SCALE 0x7F00 and the firing's outer index. -/
def forwarded (f : Firing) (t : Token) (tag : Tag) : Token := f.stamp { t with tag := tag, scale := 0x7F00 }

/-- A new scalar of a firing in a container of 2^cl2 bits. -/
def newScalar (f : Firing) (cl2 v : Nat) : Token := f.stamp { tag := f.tag, cl2 := cl2, pay := v % 2 ^ 2 ^ cl2 }

/-- Every lane of a token poisoned. -/
def allPoisoned (t : Token) : Token := { t with pmask := 2 ^ 2 ^ t.gl2 - 1 }

/-- The lowest entry of a cluster's frame table that is free. -/
def LowestFree (s : State) (c slot : Nat) : Prop :=
  slot < 1024 ∧ (s.ctx c).frames.find slot = none ∧ ∀ k < slot, ((s.ctx c).frames.find k).isSome

/-- No firing of a cluster waits for a frame entry. -/
def NoFrameWait (s : State) (c : Nat) : Prop := (s.ctx c).pend.all (fun p => p.why != .frame) = true

/-- The tag of iteration i in an entry of a cluster's frame table. -/
def frameTag (c slot i : Nat) : Tag := BitVec.ofNat 32 (c / 256 * 2 ^ 29 + c % 256 * 2 ^ 21 + slot * 2 ^ 8 + i)

/-- A frame allocated in an entry for a firing: N iterations, PARENT its tag, AGE the allocation counter, slot 0 occupied. -/
def withFrame (s : State) (f : Firing) (slot n : Nat) (link : Option (BitVec 24)) : State :=
  s.modCtx f.cl (fun x =>
    let fr : Frame := { n := n, parent := some f.tag, retlink := link, age := x.allocCtr, occ := 1, newest := 0, pend := 0 }
    { x with
      frames := x.frames.put slot fr
      allocCtr := (x.allocCtr + 1) % 2 ^ 64
      framesHigh := max x.framesHigh (x.frames.put slot fr).length })

/-- What an allocation sends under its own tag: the new tag as a scalar, with AUX naming its frame. -/
def tagScalar (f : Firing) (new : Tag) : Token :=
  { newScalar f 5 new.toNat with aux := BitVec.ofNat 24 (new.toNat / 2 ^ 29 * 2 ^ 21 + new.toNat / 2 ^ 8 % 2 ^ 21) }

/-- The owner of a tag's frame is a present cluster of the firing's launch (06 R128). -/
def Owned (s : State) (f : Firing) (t : Tag) : Prop :=
  t.toNat / 2 ^ 29 < 4 ∧ s.present? (tagCluster t) = true ∧ tagCluster t ∈ s.launch f.cl

/-- A firing asks a frame's owner: it waits, and its request leaves for the owner on channel 3 (06 R141, 10 R208). -/
def asked (s : State) (f : Firing) (i : Instr) (owner : Nat) : State :=
  (s.pendNew f i (.request none)).send 3 f.cl f.unit owner 64 (.frameReq f.cl s.serial)

/-- A firing's request to another cluster's registers, rings or barriers leaves on channel 5 (16 R336, R344, 10 R217). -/
def requested (s : State) (f : Firing) (i : Instr) (owner unit : Nat) : State :=
  (s.pendNew f i (.request none)).send 5 f.cl f.unit owner unit (.request f.cl s.serial)

/-- A message that has arrived for a unit that runs. -/
def Taken (s : State) (k : Nat) (m : Msg) : Prop :=
  s.netMsgs.find? (·.id == k) = some m ∧ s.arrived m = true ∧ s.stray m = false

end Sys2Proof.Claims

open Sys2Proof Sys2Proof.Machine Sys2Proof.Claims

/-- 10 R207, R209, R210: steering, with and without a poisoned control. -/
def Obligations.Steering : Prop :=
  ∀ (sg : Bool) (k : BitVec 32) (d : Dests) (s : State) (f : Firing), Latched s f →
    let a := forwarded f f.opA f.tag
    let b := forwarded f f.opB f.tag
    Sends (.mov d) s f d a ∧
    Sends (.const_ sg k d) s f d { tag := f.tag, cl2 := 6, pay := if sg then (BitVec.signExtend 64 k).toNat else k.toNat } ∧
    Sends (.gate d) s f d a ∧
    (f.opB.poisoned 0 = false → f.opB.lane 0 ≠ 0 → exec (.steer d) s = .next (s.emit f [(d.da, a)])) ∧
    (f.opB.poisoned 0 = false → f.opB.lane 0 = 0 → exec (.steer d) s = .next (s.emit f [(d.db, a)])) ∧
    (f.opB.poisoned 0 = true → Sends (.steer d) s f d (allPoisoned a)) ∧
    (f.opB.gl2 = f.opC.gl2 → f.opB.cl2 = f.opC.cl2 →
      (f.opA.poisoned 0 = false → f.opA.lane 0 ≠ 0 → Sends (.select d) s f d b) ∧
      (f.opA.poisoned 0 = false → f.opA.lane 0 = 0 → Sends (.select d) s f d (forwarded f f.opC f.tag)) ∧
      (f.opA.poisoned 0 = true → Sends (.select d) s f d { allPoisoned b with pay := 0 })) ∧
    (f.a.isSome → Sends (.merge d) s f d a) ∧
    (f.a = none → Sends (.merge d) s f d b) ∧
    exec (.sync2 d) s = .next (s.emit f [(d.da, a), (d.db, b)]) ∧
    exec (.sync3 d) s = .next (s.emit f [(d.da, a), (d.db, b)])

/-- 06 R126 to R129, 10 R208, R212, R213: a firing asks the owner of its frame; there an allocation takes the lowest free
entry, and waits where none is free; IEND, LOOPOUT, RET and TFREE act on the frame. -/
def Obligations.FrameAllocation : Prop :=
  ∀ (nm1 : BitVec 8) (d : Dests) (s : State) (f : Firing), f.hasBubble = false →
    let n := nm1.toNat + 1
    let g : Tag := BitVec.ofNat 32 (f.opA.lane 0)
    let stale (i : Instr) : Prop := exec i s = .next (s.endUnit 0x200 f.cl f.unit 0 3 f.tag 0)
    (s.cur = some f →
      (Owned s f (frameTag f.cl 0 0) → f.cl < 1024 →
        exec (.loopin nm1 d) s = .next (asked s f (.loopin nm1 d) f.cl) ∧
        exec (.talloc nm1 d) s = .next (asked s f (.talloc nm1 d) f.cl) ∧
        exec (.call nm1 d) s = .next (asked s f (.call nm1 d) f.cl)) ∧
      (Owned s f f.tag →
        exec (.iend d) s = .next (asked s f (.iend d) (tagCluster f.tag)) ∧
        exec (.loopout d) s = .next (asked s f (.loopout d) (tagCluster f.tag)) ∧
        exec (.ret_ d) s = .next (asked s f (.ret_ d) (tagCluster f.tag))) ∧
      (f.opA.poisoned 0 = false → Owned s f g → exec (.tfree d) s = .next (asked s f (.tfree d) (tagCluster g))) ∧
      (f.opA.poisoned 0 = true → Ends (.tfree d) s f 0x106 0) ∧
      (¬ Owned s f f.tag → stale (.iend d) ∧ stale (.loopout d) ∧ stale (.ret_ d))) ∧
    (∀ k m j q, Taken s k m → m.pay = .frameReq f.cl j → s.pend f.cl j = some q → q.fir = f →
      let t := (s.dropMsg k).pendDel f.cl j
      let goes (t' : State) : Prop := exec (.tagOpApply k) s = .next t'
      (∀ slot, LowestFree s f.cl slot → NoFrameWait s f.cl →
        let new := frameTag f.cl slot 0
        (q.instr = .loopin nm1 d → goes ((withFrame t f slot n none).emit f
          [(d.da, forwarded f f.opA new), (d.db, tagScalar f new)])) ∧
        (q.instr = .talloc nm1 d → goes ((withFrame t f slot n none).emit f [(d.da, tagScalar f new), (d.db, tagScalar f new)])) ∧
        (q.instr = .call nm1 d → goes ((withFrame t f slot n (some d.db.toBits)).emit f [(d.da, forwarded f f.opA new)]))) ∧
      ((∀ slot < 1024, ((s.ctx f.cl).frames.find slot).isSome) →
        q.instr = .loopin nm1 d ∨ q.instr = .talloc nm1 d ∨ q.instr = .call nm1 d → goes ((s.dropMsg k).modCtx f.cl (fun x =>
          { x with pend := x.pend.filter (fun y => y.id != j) ++ [{ q with why := .frame }] }))) ∧
      (∀ fr, s.frame f.tag = some fr →
        (q.instr = .iend d → fr.occ.testBit (f.tag.toNat % 256) = true →
          let fr' := { fr with occ := fr.occ - 2 ^ (f.tag.toNat % 256) }
          goes (if fr'.occ = 0 ∧ fr'.pend = 0 then (t.setFrame f.tag fr').freeFrame f.tag else t.setFrame f.tag fr')) ∧
        (∀ p, fr.parent = some p →
          (q.instr = .loopout d → goes (t.emitBoth f d (forwarded f f.opA p))) ∧
          (q.instr = .ret_ d → fr.retlink.isSome → goes (t.emit f [(.ret, forwarded f f.opA f.tag)])))) ∧
      (∀ fr, q.instr = .tfree d → s.frame g = some fr → fr.parent.isSome → fr.pend = 0 →
        goes ((t.freeFrame g).emitBoth f d (forwarded f f.opA f.tag))) ∧
      (s.frame f.tag = none → q.instr = .iend d ∨ q.instr = .loopout d ∨ q.instr = .ret_ d →
        goes (t.endUnit 0x200 f.cl f.unit 0 3 f.tag 0))) ∧
    (∀ k m j q, s.netMsgs.find? (·.id == k) = some m → s.arrived m = true → s.stray m = true → m.pay = .frameReq f.cl j →
      s.pend f.cl j = some q → q.fir = f →
      exec (.tagOpApply k) s = .next (((s.dropMsg k).pendDel f.cl j).endUnit 0x200 f.cl f.unit 0 3 f.tag 0))

/-- 10 R214, R215: tags read and set, and waves opened. -/
def Sys2Proof.Claims.TagsAndWaves : Prop :=
  ∀ (d : Dests) (s : State) (f : Firing), Latched s f →
    Sends (.tagget d) s f d (newScalar f 5 f.tag.toNat) ∧
    Sends (.iter d) s f d (newScalar f 5 (f.tag.toNat % 256)) ∧
    (f.opB.poisoned 0 = false →
      let t : Tag := BitVec.ofNat 32 (f.opB.lane 0)
      (t.toNat / 2 ^ 29 < 4 → Sends (.tagset d) s f d { forwarded f f.opA t with aux := 0 }) ∧
      (4 ≤ t.toNat / 2 ^ 29 → Ends (.tagset d) s f 0x201 0)) ∧
    exec (.wave d) s = .next (([32, 33, 34, 35].foldl
      (fun s u => s.send 2 f.cl f.unit f.cl u (.waveMark f.cl u f.tag)) s).emitBoth f d (forwarded f f.opA f.tag)) ∧
    (∀ k m u tag, Taken s k m → m.pay = .waveMark f.cl u tag → 32 ≤ u → u ≤ 35 →
      let older (e : WaveEnt) : Bool := e.tag == tag && decide (e.born ≤ k)
      let gone (e : Option WaveEnt) : Bool := match e with | some e => older e | none => false
      exec (.waveMarker k) s = .next ((s.dropMsg k).modCtx f.cl (fun x => { x with
        waves := x.waves.put u ((x.waves.get [] u).filter (fun e => !older e))
        waveNotes := x.waveNotes.map (fun (n : WaveNote) => if gone n.old || gone n.new then { n with not := u :: n.not } else n) })))

/-- 10 R217 to R220, 03 R69: arrivals at a barrier, its generations, the trigger, the exit value and checkpoints. -/
def Obligations.LaunchPoints : Prop :=
  ∀ (l : BarrLit) (n : BitVec 8) (d : Dests) (s : State) (f : Firing), Latched s f →
    let id := l.id.toNat
    let b := (s.ctx f.cl).barriers.get {} id
    let cnt := b.counts.get 0 0
    let a := forwarded f f.opA f.tag
    (l.part = false → exec (.barr l d) s = .next ((s.modCtx f.cl (fun x => { x with
      barriers := x.barriers.put id { b with counts := b.counts.put 0 (cnt + 1) } })).pendNew f (.barr l d)
        (.barr id (cnt / (l.arrm1.toNat + 1))))) ∧
    (l.part = true → exec (.barr l d) s = .next (requested s f (.barr l d) ((s.launch f.cl).foldl min f.cl) 67)) ∧
    (∀ k m c j q slot sl, s.netMsgs.find? (·.id == k) = some m → m.pay = .request c j → s.arrived m = true → s.pend c j = some q →
      q.instr = .barr l d → l.part = true → s.slotOf c = some (slot, sl) →
      let at_ := (s.launch c).idxOf c
      let bp := sl.barrs.get {} id
      s.serveReq k = (((s.dropMsg k).modSlot slot (fun y => { y with
        barrs := y.barrs.put id { bp with counts := bp.counts.put at_ (bp.counts.get 0 at_ + 1) } })).pendSet c j
          (.barr id (bp.counts.get 0 at_ / (l.arrm1.toNat + 1))))) ∧
    (l.part = false → (s.ctx f.cl).barrLit id = some l → (b.gen + 1) * (l.arrm1.toNat + 1) ≤ cnt →
      exec (.barrGenerationComplete f.cl id) s = .next
        ((s.modCtx f.cl (fun x => { x with barriers := x.barriers.put id { b with gen := b.gen + 1 } })).barrRelease f.cl id b.gen)) ∧
    (s.idleAction f = false → (s.ctx f.cl).trigFired = true → Sends (.trigger d) s f d a) ∧
    (s.idleAction f = false → (s.ctx f.cl).trigFired = false →
      let s1 := s.modCtx f.cl (fun x => { x with trigFired := true })
      ((s.ctx f.cl).skips = true → exec (.trigger d) s = .next (s1.pendNew f (.trigger d) (.trigger none))) ∧
      ((s.ctx f.cl).skips = false →
        let s2 := (s1.release f.cl).countTrigger f.cl
        exec (.trigger d) s = .next (s2.pendNew f (.trigger d) (.trigger (some { gal := f.cl, pos := (s2.gal f.cl).p }))))) ∧
    ((s.ctx f.cl).exitVal = none →
      exec (.done d) s = .next (s.modCtx f.cl (fun x => { x with
        exitVal := some (if f.opA.poisoned 0 then 0xFFFFFFFF else f.opA.lane 0 % 2 ^ 32) }))) ∧
    (∀ v, (s.ctx f.cl).exitVal = some v → ∃ t, exec (.done d) s = .next t ∧ (t.ctx f.cl).exitVal = some v) ∧
    ((s.cl f.cl).preReq = false → Sends (.ckpt n d) s f d a) ∧
    ((s.cl f.cl).preReq = true → (s.cl f.cl).ckSel = none →
      exec (.ckpt n d) s = .next ((s.emitBoth f d a).modCl f.cl (fun x => { x with ckSel := some n.toNat, halt := .halting })))

/-- 06 R128, R130: the owner of a frame applies tag-ops, holds a token whose slot is taken, and grants freed slots. -/
def Sys2Proof.Claims.TagOps : Prop :=
  ∀ (s : State) (k : Nat) (m : Msg) (dst : Place) (top : Nat) (t : Token) (fr : Frame), Taken s k m → m.pay = .token dst top t →
    let on (tag : Tag) (s : State) : State :=
      (s.dropMsg m.id).send 2 m.dst 64 dst.cluster (s.placeUnit dst) (.token dst 0 { t with tag := tag, aux := 0 })
    let i := (t.tag.toNat % 256 + 1) % fr.n
    let iter (j : Nat) : Tag := BitVec.ofNat 32 (t.tag.toNat / 256 * 256 + j)
    (top = 1 → s.frame t.tag = some fr → s.grantDue t.tag fr = false →
      (t.tag.toNat % 256 ≠ fr.newest → exec (.tagOpApply k) s = .next (on (iter i) s)) ∧
      (t.tag.toNat % 256 = fr.newest → fr.occ.testBit i = false →
        exec (.tagOpApply k) s = .next (on (iter i) (s.setFrame t.tag { fr with occ := fr.occ + 2 ^ i, newest := i }))) ∧
      (t.tag.toNat % 256 = fr.newest → fr.occ.testBit i = true → (s.ctx m.dst).resv ≤ (s.ctx m.dst).ovfUsed →
        exec (.tagOpApply k) s = .next s) ∧
      (t.tag.toNat % 256 = fr.newest → fr.occ.testBit i = true → (s.ctx m.dst).ovfUsed < (s.ctx m.dst).resv → ∃ s', exec (.tagOpApply k) s = .next s' ∧
        (s'.netMsgs = s.netMsgs.filter (fun x => x.id != m.id)) ∧
        (∃ h, (s'.ctx m.dst).held = ((s.setFrame t.tag { fr with pend := fr.pend + 1 }).ctx m.dst).held ++ [h] ∧ h.frame = t.tag.toNat / 256 % 2 ^ 13 ∧
          h.slot = i ∧ h.dst = dst ∧ h.tok = t))) ∧
    (top = 2 → ∀ p, s.frame t.tag = some fr → fr.parent = some p → exec (.tagOpApply k) s = .next (on p s)) ∧
    (top = 3 → s.frame (auxTag t.aux) = some fr → fr.occ.testBit 0 = true →
      exec (.tagOpApply k) s = .next (on (auxTag t.aux) s)) ∧
    (top = 1 ∨ top = 2 → s.frame t.tag = none →
      exec (.tagOpApply k) s = .next ((s.dropMsg m.id).endUnit 0x200 m.src m.emitter 0 3 t.tag 0))

/-- 06 R126, R130 to R132, R137: waiting allocations, granted tokens, arriving tokens, refills and promotions. -/
def Obligations.Matching : Prop :=
  ∀ (s : State) (c u : Nat),
    (∀ slot p d n, LowestFree s c slot → (s.ctx c).pend.find? (fun p => p.why == .frame) = some p → p.instr = .talloc n d → p.fir.cl = c →
      exec (.frameAllocWake c p.id) s = .next ((s.pendDel c p.id).allocate p.fir .talloc n.toNat d slot)) ∧
    (∀ fr e slot h, s.frame (frameTag c fr slot) = some e → e.occ.testBit slot = false →
      (s.ctx c).held.filter (fun h => h.frame == fr && h.slot == slot) = [h] →
      exec (.heldTokenGrant c fr slot) s = .next
        (((s.setFrame (frameTag c fr slot) { e with occ := e.occ + 2 ^ slot, newest := slot, pend := e.pend - 1 }).modCtx c
          (fun x => { x with held := x.held.filter (fun h => !(h.frame == fr && h.slot == slot)) })).send 2 c 64 h.dst.cluster
            (s.placeUnit h.dst) (.token h.dst 0 { h.tok with
              tag := BitVec.ofNat 32 (h.tok.tag.toNat / 256 * 256 + slot), aux := 0 }))) ∧
    (∀ k m n p t, Taken s k m → m.pay = .token (.node c u n p) 0 t → (s.ctx c).matches_ = [] → (s.ctx c).pend = [] →
      (s.ctx c).acts = [] → (s.cl c).replaying.find u = none → (s.ctx c).tableUsed u < tableSize u →
      let f : Firing := { cl := c, unit := u, node := n, tag := t.tag, seq := s.serial }
      let e : MEntry := { seq := s.serial, fir := f.setPort p t }
      ∃ s', exec (.tokenArrive k) s = .next s' ∧ (s'.ctx c).matches_ = [e] ∧
        s'.netMsgs = s.netMsgs.filter (fun x => x.id != k)) ∧
    (∀ k m n p t a, Taken s k m → m.pay = .token (.node c u n p) 0 t → (s.cl c).inReplay u = false → a ∈ (s.ctx c).acts →
      a.fir.unit = u → a.fir.node = n → a.fir.tag = t.tag → (a.fir.port p).isSome →
      exec (.tokenArrive k) s = .next ((s.endUnit 0x202 c u n 0 t.tag 0).dropMsg k)) ∧
    (∀ k m p t, Taken s k m → m.pay = .token (.stream c p) 0 t → ∃ s', exec (.tokenArrive k) s = .next s' ∧
      ((s'.ctx c).port p).queue = ((s.ctx c).port p).queue ++ [{ tok := t }] ∧
      s'.netMsgs = s.netMsgs.filter (fun x => x.id != k)) ∧
    (∀ e, (s.ctx c).tableUsed u < tableSize u → (s.cl c).refill u = some e →
      exec (.overflowRefill c u) s = .next (s.modCtx c (fun x => { x with
        matches_ := x.matches_.map (fun y => if y.seq = e.seq then { e with inTable := true } else y) }))) ∧
    (∀ k e, (s.ctx c).matches_.find? (fun x => x.seq == k) = some e → 1024 ≤ e.age → e.promoted = false →
      exec (.matchPromote c k) s = .next ((s.count c 0x0E4 1).modCtx c (fun x => { x with
        matches_ := x.matches_.map (fun y => if y.seq = e.seq then { e with promoted := true } else y) }))) ∧
    (∀ a, (s.ctx c).matches_.find? (fun x => x.seq == a.seq) = none → a ∈ (s.ctx c).acts → 1024 ≤ a.age → a.promoted = false →
      exec (.matchPromote c a.seq) s = .next ((s.count c 0x0E4 1).modCtx c (fun x => { x with
        acts := x.acts.map (fun (b : Activation) => if b.seq = a.seq then { b with promoted := true } else b) }))) ∧
    (let l := ((s.cl c).ready u).filter (fun e => !s.queueWaits c e) ++ (s.ctx c).stepMatches u
     (∀ n q, (s.cl c).replaying.find u = some (n + 1, q) → s.choose c u = none) ∧
     (∀ q e, (s.cl c).replaying.find u = some (0, q) → l.find? (fun y => y.seq == q) = some e → s.choose c u = some e) ∧
     (∀ e, (s.cl c).replaying.find u = none → s.choose c u = some e → e ∈ l ∧
      ((∃ y ∈ l, y.promoted = true) → e.promoted = true ∧ (e.age < 2 ^ 64 → ∀ y ∈ l, y.promoted = true → y.age ≤ e.age))))

namespace Sys2Proof.Claims
open Sys2Proof.Machine

/-- The activation whose step runs. -/
def Stepping (s : State) (c : Nat) (a : Activation) : Prop := s.act = some (c, a)

/-- A register of an activation set to a value modulo 2^32. -/
def setX (a : Activation) (k v : Nat) : Activation := { a with x := mapNth a.x k (fun _ => v % 2 ^ 32) }

def xReg (a : Activation) (k : Nat) : Nat := (nth a.x k).getD 0

/-- The pieces of a control token's payload that a patch step names: lowest bit and width. -/
def patchPlace : Nat → Nat × Nat
  | 0 => (104, 24)
  | 1 => (80, 24)
  | 2 => (135, 17)
  | 3 => (56, 8)
  | 4 => (48, 8)
  | 5 => (40, 8)
  | _ => (192, 32)

end Sys2Proof.Claims

open Sys2Proof Sys2Proof.Machine Sys2Proof.Claims

/-- 08 R179, R181, 10 R216, 15 R322: the step entries, on a list with no open loop (stepOn is the loop tests at the
step's index, which `Sys2Proof.Claims.LoopTests` states), and the firings that start an activation. -/
def Sys2Proof.Claims.StepEntries : Prop :=
  ∀ (s : State) (c : Nat) (a : Activation) (x form : BitVec 2) (dsel flag : Bool) (sh last target : BitVec 4)
    (imm count : BitVec 16) (field : BitVec 3), Stepping s c a →
    let simm : Int := sext imm.toNat 16
    let n := if dsel then a.fir.opA.pay % 2 ^ 32 else count.toNat
    exec .stepSnop s = .next (s.stepOn c a) ∧
    exec (.stepSetx x imm) s = .next (s.stepOn c (setX a x.toNat (simm % 2 ^ 32).toNat)) ∧
    exec (.stepAddx x imm) s = .next (s.stepOn c (setX a x.toNat ((xReg a x.toNat + simm) % 2 ^ 32).toNat)) ∧
    (let sends (t : Token) : Prop := exec (.stepEmit dsel x form sh imm) s =
        .next ((s.emit a.fir [(if dsel then a.dests.db else a.dests.da, t)]).stepOn c a)
     (form = 0 → sends (newScalar a.fir 5 (xReg a x.toNat))) ∧
     (form = 1 → sends { newScalar a.fir 6 (((a.fir.opA.pay % 2 ^ 64 : Nat) + xReg a x.toNat * simm * 2 ^ sh.toNat : Int) % 2 ^ 64).toNat with
       pmask := if a.fir.opA.poisoned 0 then 1 else 0 }) ∧
     (form ≠ 0 → form ≠ 1 → a.mxseq = false → sends (a.fir.stamp
       { tag := a.fir.tag, gl2 := a.v.gl2, cl2 := a.v.cl2, pmask := a.v.pmask, pay := a.v.pay })) ∧
     (form ≠ 0 → form ≠ 1 → a.mxseq = true → sends (a.fir.stamp
       { tag := a.fir.tag, kind := .control, gl2 := 0, cl2 := 0, pay := a.v.pay }))) ∧
    (n ≠ 0 → (∀ p ∈ a.loops, p.2.1 ≠ a.idx) → exec (.stepLoop last x dsel count) s = .next (s.putAct c
      { setX a x.toNat 0 with idx := a.idx + 1, loops := (a.idx, last.toNat, x.toNat, n) :: a.loops })) ∧
    (n = 0 → a.loops = [] → exec (.stepLoop last x dsel count) s =
      .next ((s.endMarker c (setX a x.toNat 0) a.idx last.toNat).putAct c
        { setX a x.toNat 0 with idx := last.toNat + 1, loops := [] })) ∧
    (a.loops = [] → exec (.stepJmp target) s = .next (s.putAct c { a with idx := target.toNat, loops := [] })) ∧
    exec .stepDone s = .next (s.modCtx c (fun y => { y with acts := y.acts.filter (fun b => b.seq != a.seq) })) ∧
    (let v := a.v.pay
     let p := patchPlace field.toNat
     let old := v / 2 ^ p.1 % 2 ^ p.2
     let put (lo w u : Nat) : Nat := v - v / 2 ^ lo % 2 ^ w * 2 ^ lo + u * 2 ^ lo
     let new := if field = 7 then put 31 1 (imm.toNat % 2)
       else put p.1 p.2 ((old + simm * 2 ^ sh.toNat) % 2 ^ p.2).toNat
     exec (.mxseqPatch flag field x sh imm) s = .next (s.stepOn c { a with v := { a.v with pay := new } }))

/-- 08 R182: the loop tests after a step: none open, control passes on; the innermost loop goes round again while its
register is below its count; else it sends its end marker and the next one out is tested. -/
def Sys2Proof.Claims.LoopTests : Prop :=
  ∀ (s : State) (c : Nat) (a : Activation) (i last r n : Nat) (rest : List (Nat × Nat × Nat × Nat)),
    (a.loops = [] → s.stepOn c a = s.putAct c { a with idx := a.idx + 1, loops := [] }) ∧
    (a.loops = (i, last, r, n) :: rest →
      (last ≠ a.idx → s.stepOn c a = s.putAct c { a with idx := a.idx + 1 }) ∧
      (last = a.idx → (xReg a r + 1) % 2 ^ 32 < n → r < a.x.length →
        s.stepOn c a = s.putAct c { setX a r (xReg a r + 1) with idx := i + 1 }) ∧
      (last = a.idx → n ≤ (xReg a r + 1) % 2 ^ 32 → r < a.x.length → rest = [] → a.mxseq = false →
        let inner := ((s.cl c).listLoops a).filter (fun p => decide (i < p.1) && decide (p.1 < last))
        s.stepOn c a = (s.emit a.fir [(a.dests.da, { newScalar a.fir 6 0 with eod := min 3 (1 + inner.length) })]).putAct c
          { setX a r (xReg a r + 1) with idx := a.idx + 1, loops := [] }))

/-- 08 R179, R181, 10 R216, 12 R271, 15 R322: activations start with X0 to X3 zero and V the operand; OPN and CHAIN fire
a node of the same PE on a value and take the token it makes for DA. -/
def Obligations.LinksAndLists : Prop :=
  ∀ (s : State) (f : Firing) (l : ListLit) (cl : ChainLit) (d : Dests), Latched s f →
    let start (mx : Bool) : State := s.modCtx f.cl (fun x => { x with acts := x.acts ++
      [({ seq := f.seq, fir := f, list := l, mxseq := mx, dests := d, idx := 0, x := [0, 0, 0, 0], v := f.opA, loops := [] } :
        Activation)] })
    let link (f : Firing) (n : Nat) (v : Token) : Firing :=
      { f with node := n, a := some { v with tag := f.tag }, b := none, c := none, t := none }
    exec (.step_ l d) s = .next (start false) ∧
    exec (.mxseq l d) s = .next (start true) ∧
    (∀ i g m t, cl.cntm1 = 0 → (s.cl f.cl).instr f.unit cl.node0.toNat = some i → Machine.computes i = some g →
      g (s.peOf f) (link f cl.node0.toNat f.opA) = .made m → m.toA = [t] →
      exec (.chain cl d) s = .next ((s.raise (link f cl.node0.toNat f.opA) m.flags m.force).emitBoth f d t)) ∧
    (∀ n rest v i g m t, (s.cl f.cl).instr f.unit n = some i → Machine.computes i = some g →
      g (s.peOf f) (link f n v) = .made m → m.toA = [t] →
      s.chainRun f (n :: rest) v = (s.raise (link f n v) m.flags m.force).chainRun f rest t) ∧
    (∀ c a n i g m t, Stepping s c a → (s.cl c).instr a.fir.unit n.toNat = some i → Machine.computes i = some g →
      g (s.peOf (link a.fir n.toNat a.v)) (link a.fir n.toNat a.v) = .made m → m.toA = [t] →
      exec (.stepOpn n) s = .next ((s.raise (link a.fir n.toNat a.v) m.flags m.force).stepOn c { a with v := t })) ∧
    (∀ c a n i g code cause, Stepping s c a → (s.cl c).instr a.fir.unit n.toNat = some i → Machine.computes i = some g →
      g (s.peOf (link a.fir n.toNat a.v)) (link a.fir n.toNat a.v) = .ends code cause →
      exec (.stepOpn n) s = .next (s.fail (link a.fir n.toNat a.v) code cause))

namespace Sys2Proof.Claims
open Sys2Proof.Machine

/-- A data member of a dimension with no bubble in it, of the shape the dimension has; e is its entry with the token
seen and its shape and poison noted. -/
def Member (s : State) (f : Firing) (ty : ElemTy) (e : SeqEnt) : Prop :=
  ∃ e0, s.openSeq f = .ok e0 ∧ (e0.see f.opA).bubbled = false ∧
    (match (e0.see f.opA).shape with
      | some h => h = (f.opA.gl2, f.opA.cl2)
      | none => match ty with | .flt _ cls => f.opA.cl2 = laneCl2 cls | _ => True) ∧
    e = { e0.see f.opA with
      shape := some (f.opA.gl2, f.opA.cl2)
      pm := (e0.see f.opA).pm ||| f.opA.pmask % 2 ^ 2 ^ f.opA.gl2 }

/-- The entry once its member is taken: the count goes up; an EOD of 1 or more empties the dimension's state. -/
def taken (f : Firing) (e : SeqEnt) : SeqEnt :=
  if f.opA.eod = 0 then { e with count := e.count + 1, k := e.k + 1 }
  else { e with
    count := e.count + 1
    k := 0
    shape := none
    parts := []
    kept := []
    pm := 0
    bubbled := false
    bport := 0
    hull := none }

/-- Codes of the lanes of operand a. -/
def codesA (f : Firing) : List Nat := (List.range (2 ^ f.opA.gl2)).map f.opA.lane

/-- Two lists of codes added lane by lane; a poisoned lane holds 0. -/
def addLanes (add : Nat → Nat → Lane) (pm : Nat) (x y : List Nat) : List Lane :=
  (x.zip y).zipIdx.map (fun p => if pm.testBit p.2 then Lane.poisoned else add p.1.1 p.1.2)

/-- The token a dimension sends: codes, poison of the dimension, and an EOD. -/
def dimTok (f : Firing) (gl2 cl2 pm eod : Nat) (l : List Nat) : Token :=
  { f.laneTok gl2 cl2 (l.zipIdx.map (fun p => if pm.testBit p.2 then (0, true) else (p.1, false))) with eod := eod }

/-- The new state of the sequence entry in place. -/
def keepSeq (s : State) (f : Firing) (e : SeqEnt) : State := s.modCtx f.cl (fun x => x.putSeq (taken f e))

end Sys2Proof.Claims

open Sys2Proof Sys2Proof.Machine Sys2Proof.Claims

/-- 12 R266, R267: RED and SCAN over integer members, and over float members with no trap enabled. -/
def Sys2Proof.Claims.SumsOfDimensions : Prop :=
  ∀ (sg : Bool) (rm : RMode) (cls : FCls) (d : Dests) (s : State) (f : Firing) (e : SeqEnt), Latched s f →
    let t := f.opA
    let ints : ElemTy := if sg then .sgn else .uns
    let flts : ElemTy := .flt rm cls
    let plus (x y : Nat) : Lane := { code := (x + y) % 2 ^ 2 ^ t.cl2 }
    let fadd (x y : Nat) : Lane :=
      let m := resolveRm rm (s.peOf f).mode
      fltOut cls m (ExtNum.add (fnum cls x) (fnum cls y) m)
    (Member s f ints e →
      let sum := match e.parts with | [] => codesA f | p :: _ => (addLanes plus 0 p (codesA f)).map (·.code)
      let s' := keepSeq s f { e with parts := [sum] }
      (t.eod = 0 → exec (.red ints d) s = .next s') ∧
      (1 ≤ t.eod → exec (.red ints d) s = .next (s'.emitBoth f d (dimTok f t.gl2 t.cl2 e.pm (t.eod - 1) sum))) ∧
      (let run := match e.parts with | [] => codesA f | p :: _ => (addLanes plus e.pm p (codesA f)).map (·.code)
       exec (.scan ints d) s = .next ((keepSeq s f { e with parts := [run] }).emitBoth f d (dimTok f t.gl2 t.cl2 e.pm t.eod run)))) ∧
    (Member s f flts e →
      (t.eod = 0 → nth e.parts (e.k % 4) = none →
        exec (.red flts d) s = .next (keepSeq s f { e with parts := e.parts ++ [codesA f] })) ∧
      (∀ p, t.eod = 0 → nth e.parts (e.k % 4) = some p →
        let l := addLanes fadd e.pm p (codesA f)
        exec (.red flts d) s = .next ((keepSeq s f { e with parts := mapNth e.parts (e.k % 4) (fun _ => l.map (·.code)) }).raise f
          (orFlags l) false)) ∧
      (1 ≤ t.eod → e.parts = [] → e.k % 4 = 0 →
        exec (.red flts d) s = .next ((keepSeq s f { e with parts := [codesA f] }).emitBoth f d
          (dimTok f t.gl2 t.cl2 e.pm (t.eod - 1) (codesA f)))) ∧
      (∀ p0 p1 p2 p3, 1 ≤ t.eod → e.parts = [p0, p1, p2, p3] → (s.peOf f).xen = 0 →
        let parts := mapNth e.parts (e.k % 4) (fun p => (addLanes fadd e.pm p (codesA f)).map (·.code))
        let part (k : Nat) : List Nat := (nth parts k).getD []
        let both (x y : List Nat) : List Nat := (addLanes fadd e.pm x y).map (·.code)
        ∃ flags, exec (.red flts d) s = .next (((keepSeq s f { e with parts := parts }).raise f flags false).emitBoth f d
          (dimTok f t.gl2 t.cl2 e.pm (t.eod - 1) (both (both (part 0) (part 1)) (both (part 2) (part 3)))))) ∧
      (∀ p, e.parts = [p] → (s.peOf f).xen = 0 →
        let l := addLanes fadd e.pm p (codesA f)
        ∃ flags, exec (.scan flts d) s = .next (((keepSeq s f { e with parts := [l.map (·.code)] }).raise f flags false).emitBoth f d
          (dimTok f t.gl2 t.cl2 e.pm t.eod (l.map (·.code))))))

/-- 12 R268 to R270: winners by lane, the K best elements, and the count of a dimension's members. -/
def Sys2Proof.Claims.OrdersOfDimensions : Prop :=
  ∀ (ty : ElemTy) (km1 : BitVec 6) (asc : Bool) (n : BitVec 16) (d : Dests) (s : State) (f : Firing) (e : SeqEnt), Latched s f →
    let t := f.opA
    let c := 2 ^ t.cl2
    let better (big : Bool) (x y : Nat) : Bool := if big then tyLess ty c y x else tyLess ty c x y
    let arg (big : Bool) (i : Instr) : Prop :=
      let old := if e.kept = [] then List.replicate (2 ^ t.gl2) none else e.kept
      let won := (old.zip (codesA f)).map (fun p =>
        if tyNan ty p.2 then p.1
        else match p.1 with
          | none => some (p.2, e.k)
          | some w => if better big p.2 w.1 then some (p.2, e.k) else some w)
      (t.eod = 0 → exec i s = .next (keepSeq s f { e with kept := won })) ∧
      (1 ≤ t.eod → exec i s = .next ((keepSeq s f { e with kept := won }).emit f
        [(d.da, dimTok f t.gl2 t.cl2 e.pm (t.eod - 1) (won.map (fun w => (w.map (·.1)).getD (tyNanCode ty)))),
         (d.db, dimTok f t.gl2 5 e.pm (t.eod - 1) (won.map (fun w => (w.map (·.2)).getD 0xFFFFFFFF)))]))
    (Member s f ty e → t.gl2 ≤ 3 → arg true (.argmax ty d) ∧ arg false (.argmin ty d)) ∧
    (Member s f ty e →
      let cnt := km1.toNat + 1
      let best := ((codesA f).zipIdx.foldl (fun l p => sortInsert ty asc c (p.1, e.k * 2 ^ t.gl2 + p.2) l) (e.kept.filterMap id)).take cnt
      let s' := keepSeq s f { e with kept := best.map some }
      let lanes (gl2 cl2 fill : Nat) (l : List Nat) : List Token :=
        let m := (cnt + 2 ^ gl2 - 1) / 2 ^ gl2
        (List.range m).map (fun i => dimTok f gl2 cl2 (if e.pm = 0 then 0 else 2 ^ 2 ^ gl2 - 1) (if i + 1 = m then t.eod - 1 else 0)
          ((List.range (2 ^ gl2)).map (fun j => (nth l (i * 2 ^ gl2 + j)).getD fill)))
      (t.eod = 0 → exec (.sortk ty km1 asc d) s = .next s') ∧
      (1 ≤ t.eod → exec (.sortk ty km1 asc d) s = .next (s'.emit f
        ((lanes t.gl2 t.cl2 0 (best.map (·.1))).map (d.da, ·) ++ (lanes (min t.gl2 3) 5 0xFFFFFFFF (best.map (·.2))).map (d.db, ·))))) ∧
    (s.openSeq f = .ok e →
      let m := e.count % (n.toNat + 1)
      exec (.cntr n d) s = .next ((s.modCtx f.cl (fun x => x.putSeq { e with count := e.count + 1 })).emit f
        [(d.da, { forwarded f t f.tag with eod := if m = n.toNat then 1 else t.eod }), (d.db, newScalar f 5 m)])) ∧
    (4 ≤ f.tag.toNat / 2 ^ 29 ∨ tagCluster f.tag ≠ f.cl →
      Ends (.red ty d) s f 0x201 0 ∧ Ends (.scan ty d) s f 0x201 0 ∧ Ends (.argmax ty d) s f 0x201 0 ∧
      Ends (.argmin ty d) s f 0x201 0 ∧ Ends (.sortk ty km1 asc d) s f 0x201 0 ∧ Ends (.cntr n d) s f 0x201 0)

namespace Sys2Proof.Claims
open Sys2Proof.Machine

/-- The firing acts: it holds no bubble, and the repair pass does not pass it over (03 R65, R68). -/
def Acts (s : State) (f : Firing) : Prop := s.cur = some f ∧ s.idleAction f = false

/-- Port a holds a pointer: a data token of 64-bit lanes whose lane 0 is not poisoned. -/
def Pointer (f : Firing) (p : Nat) : Prop :=
  ∃ t, f.a = some t ∧ t.kind = .data ∧ t.cl2 = 6 ∧ t.poisoned 0 = false ∧ t.lane 0 = p

/-- An access of w bits at a process address that the lease grants and the TLBs translate to physical pieces. -/
def Reaches (s : State) (c : Nat) (kind : AccKind) (p w : Nat) (l : List (Nat × Nat × Bool)) : Prop :=
  p / 2 ^ 60 = 0 ∧ leaseOk (s.leaseOf c) kind (p % 2 ^ 60) w = true ∧ s.xlat c kind (p % 2 ^ 60) w = .ok l

/-- The record FORK and PARK build: entry, frame and group sizes, join pointer and four live words. -/
def recordOf (l : EntryLit) (a : Token) (join : Nat) (st : Stamp) : TaskRec :=
  { entry := BitVec.ofNat 24 (l.entry.toNat * 4)
    nm1 := l.nm1.toNat
    ngm1 := l.ngm1.toNat
    join := BitVec.ofNat 64 join
    live := (List.range 4).map (fun k => a.pay / 2 ^ (64 * k) % 2 ^ 64) ++ List.replicate 12 0
    pmask := a.pmask
    stamps := [st] }

end Sys2Proof.Claims

open Sys2Proof Sys2Proof.Machine Sys2Proof.Claims

/-- 10 R222, R224 to R227: FORK, PARK, RESUME and JOIN, the wake of a parked record, and the deque, whose records past
64 lie in the cluster's area of memory. -/
def Obligations.Continuations : Prop :=
  ∀ (l : EntryLit) (kind : ParkKind) (d : Dests) (s : State) (f : Firing), Acts s f →
    let r := s.release f.cl
    let st : Stamp := { gal := f.cl, pos := (r.gal f.cl).p }
    let value := f.opB.lane 0
    let obj := if f.opB.gl2 = 0 then 0 else f.opB.lane 1
    (f.opB.poisoned 0 = false →
      exec (.fork l d) s = .next ((r.push f.cl (recordOf l f.opA value st)).emitBoth f d (newScalar f 5 0))) ∧
    (f.opB.poisoned 0 = true → Ends (.fork l d) s f 0x106 0 ∧ Ends (.park kind l d) s f 0x106 0) ∧
    (f.opB.poisoned 0 = false → (kind = .tl ∨ kind = .net → f.opB.gl2 ≠ 0 → f.opB.poisoned 1 = false) →
      let parked (join : Nat) (t : State) : State := (({ t with serial := t.serial + 1 } : State).modCtx f.cl (fun x => { x with
        parked := x.parked ++ [{ id := s.serial, rec_ := recordOf l f.opA join st, kind := kind, value := value, obj := obj }] })).emitBoth
          f d (newScalar f 5 0)
      (s.parkCause f.cl kind value obj = none →
        (s.frame f.tag = none → exec (.park kind l d) s = .next (parked 0 r)) ∧
        (∀ fr, s.frame f.tag = some fr →
          exec (.park kind l d) s = .next (parked fr.join.toNat (r.setFrame f.tag { fr with join := 0 })))) ∧
      (kind = .tag ∨ kind = .tl → s.parkCause f.cl kind value obj = none) ∧
      (∀ n, s.parkCause f.cl kind value obj = some n → Ends (.park kind l d) s f 0x100 n)) ∧
    (∀ k p g, (s.ctx f.cl).parked.find? (fun x => x.id == k) = some p → s.parkHolds f.cl p = some g →
      (s.cl f.cl).stopped = false → (s.ctx f.cl).deque.length < 1088 → exec (.parkWake f.cl k) s = .next
        ((s.modCtx f.cl (fun x => { x with parked := x.parked.filter (fun y => y.id != k) })).push f.cl
          { p.rec_ with stamps := p.rec_.stamps ++ g.toList })) ∧
    (∀ k p, (s.ctx f.cl).parked.find? (fun x => x.id == k) = some p → s.parkHolds f.cl p = none →
      exec (.parkWake f.cl k) s = .next s) ∧
    (∀ p pieces, Pointer f p → p % 64 = 0 → Reaches s f.cl .read p 1152 pieces →
      exec (.resume d) s = .next ((s.pendNew f (.resume d) (.recread (s.gal f.cl).a (p % 2 ^ 60) false)).tlbUse f.cl (p % 2 ^ 60) 1152)) ∧
    (∀ k p a va joined l s1, s.pend f.cl k = some p → p.why = .recread a va joined → p.instr = .resume d ∨ p.instr = .join d →
      a ≤ (s.gal f.cl).d → s.xlat f.cl .read va 1152 = .ok l → s.fetchLines f.cl (8192 + k) 2 (linesOf l) = (true, s1) →
      let bad := (s1.readBase l).2.1
      meetsBad bad 0 128 = false → (s1.ctx f.cl).deque.length < 1088 →
      let t := (((s1.tlbUse f.cl va 1152).substIf f.cl (s1.readBase l).2.2).pendDel f.cl k).release f.cl
      exec (.loadDataReturn f.cl k) s = .next ((t.push f.cl { recOf (s1.readBase l).1 with
        poison := maskOf ((List.range 16).map (fun i => meetsBad bad (128 + 64 * i) 64))
        stamps := [⟨f.cl, (t.gal f.cl).p⟩], joined := joined }).sendA p.fir d)) ∧
    (∀ p pba n e rest, Pointer f p → p % 2048 = 0 → Reaches s f.cl .atomic p 64 ((pba, n, e) :: rest) →
      exec (.join d) s = .next (((s.releasePkg f.cl).pendAsk f (.join d)
        (.join ((s.releasePkg f.cl).gal f.cl).a pba (p % 2 ^ 60) none) pba).tlbUse f.cl (p % 2 ^ 60) 64)) ∧
    (∀ p, Pointer f p → p / 2 ^ 60 = 0 → p % 2048 ≠ 0 → Ends (.join d) s f 0x101 0) ∧
    (∀ c q, let t := s.push c q
      (t.ctx c).deque = q :: (s.ctx c).deque ∧ ((s.ctx c).deque.length < 64 → t.mem = s.mem) ∧
      ∀ o, nth (s.ctx c).deque 63 = some o → t.mem = s.mem.writeBytes
        ((s.gal c).base * 4096 + 2 ^ 24 + 2 ^ 16 + (s.ctx c).spillTop % 1024 * 256) 256 o.slotBits)

/-- 10 R228, R229: resumption in the window of eight, a freed frame's join, and stealing round the ring. -/
def Obligations.TaskUnit : Prop :=
  ∀ (s : State) (c : Nat),
    (∀ r rest slot, (s.ctx c).deque = r :: rest → LowestFree s c slot → NoFrameWait s c → (s.cl c).stopped = false →
      (s.ctx c).resuming = none → (s.ctx c).activeTasks < 8 → s.resumeAcquires c r = [] →
      exec (.taskResume c) s = .next (asked (s.modCtx c (fun x => { x with
          deque := rest, spillTop := if 64 ≤ rest.length then x.spillTop - 1 else x.spillTop, resuming := some r }))
        { cl := c, unit := 37, tag := frameTag c 0 0 } (.taskResume c) c)) ∧
    (∀ k m j q r slot, Taken s k m → m.pay = .frameReq c j → s.pend c j = some q → q.instr = .taskResume c → q.fir.cl = c →
      (s.ctx c).resuming = some r → LowestFree s c slot → NoFrameWait s c → r.ngm1 = 0 →
      exec (.tagOpApply k) s = .next ((((s.dropMsg k).pendDel c j).modCtx c (fun x =>
        let fr : Frame := {
          n := r.nm1 + 1, parent := some (frameTag c 0 0), retlink := none, join := r.join, resumed := true, age := x.allocCtr
          occ := 1, newest := 0, pend := 0 }
        { x with
          resuming := none
          frames := x.frames.put slot fr
          allocCtr := (x.allocCtr + 1) % 2 ^ 64
          framesHigh := max x.framesHigh (x.frames.put slot fr).length })).sendGroup c slot r 0)) ∧
    (∀ j rest pba n e more, (s.ctx c).joins = j :: rest → (s.cl c).stopped = false → j.toNat % 2048 = 0 →
      Reaches s c .atomic j.toNat 64 ((pba, n, e) :: more) → ∃ t, exec (.frameJoin c) s = .next t ∧
        (t.ctx c).joins = rest ∧ ∃ p, (t.ctx c).pend = (s.ctx c).pend ++ [p] ∧ p.fir.unit = 37 ∧
          p.instr = .join { da := .sink, db := .sink } ∧
          p.why = .join (s.gal c).a pba (j.toNat % 2 ^ 60) none) ∧
    ((s.cl c).stat = .running → (s.cl c).stopped = false → (s.ctx c).deque = [] → (s.ctx c).activeTasks < 8 →
      (s.ctx c).resuming = none → (s.ctx c).stealing = false → s.successor c ≠ c →
      exec (.stealRequest c) s = .next ((s.modCtx c (fun x => { x with stealing := true })).send 3 c 37 (s.successor c) 37
        (.steal c (s.successor c)))) ∧
    (∀ m thief, s.netMsgs.find? (fun m => match m.pay with | .steal _ v => v == c && s.arrived m | _ => false) = some m →
      m.pay = .steal thief c → thief ≠ c →
      let runs (k : Nat) : Prop := (s.cl k).stat = .running ∧ m.slot.isSome ∧ (s.cl k).slot = m.slot
      let t := (s.dropMsg m.id).modCtx thief (fun x => { x with stealing := false })
      (∀ r, runs thief → runs c → (s.ctx c).deque.getLast? = some r → (s.ctx thief).deque.length < 1088 →
        (s.cl c).stopped = false → (s.ctx c).deque.length ≠ 1 ∨ s.mayResume c = false →
        exec (.stealServe c) s = .next ((((t.modCtx c (fun x => { x with deque := x.deque.dropLast })).push thief r).count thief 0x0F1 1).modCl
          thief (fun x => { x with quiet := 0 }))) ∧
      (runs thief → runs c → (s.ctx c).deque.length = 1 → s.mayResume c = true → exec (.stealServe c) s = .next s) ∧
      (runs thief → runs c → (s.cl c).stopped = true → exec (.stealServe c) s = .next s) ∧
      (runs thief → runs c → (s.ctx c).deque = [] → (s.ctx thief).deque.length < 1088 → (s.cl c).stopped = false →
        exec (.stealServe c) s = .next t) ∧
      (runs thief → ¬ runs c → exec (.stealServe c) s = .next t) ∧
      (¬ runs thief → exec (.stealServe c) s = .next (s.dropMsg m.id)))

namespace Sys2Proof.Claims
open Sys2Proof.Machine

/-- A pointer into the own A-buffer, at a bit offset. -/
def abufPtr (off : Nat) : Nat := 2 ^ 60 + off

/-- A pointer's arithmetic field moved by a displacement. -/
def moved (p : Nat) (k : Int) : Nat := withField p ((p % 2 ^ fieldW p : Nat) + k)

/-- The state with another memory. -/
def setMem (s : State) (m : Memory) : State := { s with mem := m }

/-- The wave, if the instruction is a member of one, goes on. -/
def waveOn (s : State) (f : Firing) (i : Instr) : State :=
  match waveOf i with
  | some w => s.modCtx f.cl (fun x => x.wavePerform (waveTile f.unit) w f.tag s.serial)
  | none => s

/-- The token of loaded lanes: n codes of w bits of v, widened into their container; none is poisoned. -/
def loadedTok (f : Firing) (sg : Bool) (w gl2 v : Nat) : Token :=
  f.laneTok gl2 (Fd.contL2 w) ((List.range (2 ^ gl2)).map (fun j =>
    (if sg then (sext (v / 2 ^ (j * w)) w % ((2 ^ 2 ^ Fd.contL2 w : Nat) : Int)).toNat else v / 2 ^ (j * w) % 2 ^ w, false)))

/-- A firing waits for the banks of its own A-buffer, which its access asks word by word (02 R34 to R36). -/
def banked (s : State) (f : Firing) (i : Instr) (off w : Nat) (store : Option Nat) : State :=
  (s.pendNew f i .banks).bankAsk f.cl s.serial (bankPlace f.unit) off w store

/-- Operand b holds lanes that a store of w bits takes, none of them poisoned. -/
def Stores (f : Firing) (vec : Bool) (w : Nat) : Prop :=
  ∃ b, f.b = some b ∧ (if vec then b.cl2 = Fd.contL2 w else w ≤ 2 ^ b.cl2) ∧
    ∀ j, j < (if vec then 2 ^ b.gl2 else 1) → b.poisoned j = false

/-- The bits a store writes: w of each lane, lane 0 lowest. -/
def storedBits (f : Firing) (vec : Bool) (w : Nat) : Nat :=
  packLanes w ((List.range (if vec then 2 ^ f.opB.gl2 else 1)).map f.opB.lane)

/-- Bits a store writes. -/
def storedLen (f : Firing) (vec : Bool) (w : Nat) : Nat := (if vec then 2 ^ f.opB.gl2 else 1) * w

end Sys2Proof.Claims

open Sys2Proof Sys2Proof.Machine Sys2Proof.Claims

/-- 02 R34 to R36, R41, R43, 04 R80, 13 R278, R279, R281: loads ask the banks of the A-buffer, or take their snapshot of
A and wait for their lines; the return, the fill and the prefetch. -/
def Obligations.Loads : Prop :=
  ∀ (sg : Bool) (wm1 : BitVec 6) (wave : WaveLit) (k : BitVec 32) (d : Dests) (s : State) (f : Firing), Acts s f →
    let w := wm1.toNat + 1
    let vl := min 5 (8 - Fd.contL2 w)
    let x := s.cl f.cl
    let h := holderOf f.unit
    let form (i : Instr) (gl2 : Nat) (disp : Int) : Prop :=
      (∀ p off, Pointer f p → moved p disp = abufPtr off → off + w * 2 ^ gl2 ≤ 2 ^ 23 →
        exec i s = .next (banked s f i off (w * 2 ^ gl2) none)) ∧
      (∀ p off, Pointer f p → moved p disp / 2 ^ 60 = 7 →
        s.check f.cl [0, 1, 7, 6] .read (moved p disp) (w * 2 ^ gl2) false = .ok 7 off →
        exec i s = .next ((s.pendNew f i .remote).send 0 f.cl f.unit (moved p disp / 2 ^ 50 % 2 ^ 10) 65
          (.abuf (moved p disp / 2 ^ 50 % 2 ^ 10) (moved p disp % 2 ^ 23) (w * 2 ^ gl2) none (f.cl, s.serial)))) ∧
      (∀ p pieces, Pointer f p → Reaches s f.cl .read (moved p disp) (w * 2 ^ gl2) pieces →
        (x.gal.a - x.gal.d ≤ 1024 → s.loadRoom f.cl h (loadPieces pieces) = true →
          ∃ t id, exec i s = .next t ∧ (t.ctx f.cl).pend = (s.ctx f.cl).pend ++
            [⟨id, f, i, .load w (2 ^ gl2) sg x.gal.a false ((loadPieces pieces).map x.probe), 0⟩] ∧
            t.mem = s.mem ∧ (t.cl f.cl).gal = x.gal) ∧
        (1024 < x.gal.a - x.gal.d → exec i s = .next ((s.pendNew f i (.load w (2 ^ gl2) sg x.gal.a true (loadPieces pieces))).tlbUse
          f.cl (moved p disp % 2 ^ 60) (w * 2 ^ gl2))))
    form (.ld sg wm1 wave d) 0 0 ∧
    form (.ldv sg wm1 wave d) vl 0 ∧
    form (.ldx sg wm1 k d) 0 (sext k.toNat 32) ∧
    (∀ c id p lanes snap ps, s.pend c id = some p → p.why = .load w lanes sg snap false ps →
      p.instr = .ld sg wm1 wave d → ps.all (·.got.isSome) = true →
      let r := gather ps 0
      exec (.loadDataReturn c id) s = .next (((s.substIf c r.2.2).pendDel c id).emitBoth p.fir d
        (p.fir.loaded w lanes sg r.1 r.2.1))) ∧
    (∀ c id p v, s.pend c id = some p → p.why = .served v → p.instr = .ld sg wm1 wave d →
      exec (.loadDataReturn c id) s = .next ((s.pendDel c id).emitBoth p.fir d (loadedTok p.fir sg w 0 v))) ∧
    (∀ c id p lanes snap ps, s.pend c id = some p → p.why = .load w lanes sg snap true ps → p.fir.cl = c →
      ((s.gal c).d + 1024 < snap → exec (.loadDataReturn c id) s = .next s) ∧
      (snap ≤ (s.gal c).d + 1024 → s.loadRoom c (holderOf p.fir.unit) ps = true → s.waveFree p.fir p.instr = true →
        ∃ t, exec (.loadDataReturn c id) s = .next t ∧ (t.ctx c).pend = (s.ctx c).pend.map (fun (y : Pend) =>
          if y.id = id then { y with why := .load w lanes sg (s.gal c).a false (ps.map (s.cl c).probe) } else y))) ∧
    (∀ c line fill, (s.cl c).fills.find? (fun g => g.line == line) = some fill → fill.reissue = false →
      (s.cl c).vcBusy = false → s.exchange c 100 line = .idle → ∃ t, exec (.viewCacheFill c line) s = .next t ∧
        (t.cl c).vc.find line = some (s.lineNow c line) ∧ (t.cl c).fills = (s.cl c).fills.filter (fun g => g.line != line) ∧
        t.mem = s.mem) ∧
    (∀ p pba n e, Pointer f p → Reaches s f.cl .read p 1 [(pba, n, e)] → x.vc.has (pba / 2048) = false →
      (x.fills.any (fun g => g.line == pba / 2048)) = false →
      (x.lineRooms h 1 = true → ∃ t, exec (.pref d) s = .next t ∧
        (t.cl f.cl).fills.map (fun (g : Fill) => g.line) = x.fills.map (fun (g : Fill) => g.line) ++ [pba / 2048]) ∧
      (x.lineRooms h 1 = false → ∃ t, exec (.pref d) s = .next t ∧ (t.cl f.cl).fills = x.fills ∧
        (t.cl f.cl).prefWait = x.prefWait ++ [(h, pba / 2048)]))

/-- 02 R34 to R36, 04 R77, R78, R96, 13 R278: stores ask the banks of the A-buffer; stores to process memory append to
the own galley, whole or not at all, and the base image keeps every bit. -/
def Sys2Proof.Claims.StoreRules : Prop :=
  ∀ (wm1 : BitVec 6) (wave : WaveLit) (k : BitVec 32) (d : Dests) (s : State) (f : Firing), s.cur = some f → f.hasBubble = false →
    let w := wm1.toNat + 1
    let x := s.cl f.cl
    let src := if f.unit = 35 then 5 else 4
    let out (i : Instr) (t : State) : State := (waveOn t f i).emitBoth f d (forwarded f f.opA f.tag)
    let form (i : Instr) (vec : Bool) (disp : Int) : Prop :=
      Claims.Stores f vec w →
      (∀ p off, Pointer f p → moved p disp = abufPtr off → off + storedLen f vec w ≤ 2 ^ 23 →
        exec i s = .next (banked s f i off (storedLen f vec w) (some (storedBits f vec w)))) ∧
      (∀ p pba e, Pointer f p → Reaches s f.cl .write (moved p disp) (storedLen f vec w) [(pba, storedLen f vec w, e)] →
        pba % 512 + storedLen f vec w ≤ 512 →
        let one := [(pba, storedLen f vec w, storedBits f vec w, false)]
        (s.mayAppend f.cl (src - 4) 1 = true → s.waveFree f i = true →
          exec i s = .next ((out i ((s.appendAll f.cl 0 src x.sid one).waitApp f.cl (src - 4) false)).tlbUse
            f.cl (moved p disp % 2 ^ 60) (storedLen f vec w))) ∧
        (s.mayAppend f.cl (src - 4) 1 = false → ∃ t q, exec i s = .next t ∧ (t.ctx f.cl).pend = (s.ctx f.cl).pend ++ [q] ∧
          q.fir = f ∧ q.instr = i ∧ q.why = .append one x.sid src ∧ (src - 4) ∈ (t.ctx f.cl).appWait ∧ t.mem = s.mem)) ∧
      (∀ p, Pointer f p → moved p disp / 2 ^ 60 = 0xF → Ends i s f 0x100 0)
    form (.st wm1 wave d) false 0 ∧ form (.stv wm1 wave d) true 0 ∧ form (.stx wm1 k d) false (sext k.toNat 32) ∧
    (∀ g p pieces sid, (s.ctx g).pend = [p] → p.why = .append pieces sid 4 → p.fir.unit ≠ 35 → p.fir.cl = g →
      (s.mayAppend g 0 (piecesCut pieces).length = true → s.waveFree p.fir p.instr = true →
        exec (.galleyFullResume g) s = .next ((((((s.appendAll g 0 4 sid pieces).waitApp g 0 false).storeDone p.fir p.instr).pendDel
          g p.id).waitApp g 0 false).waitApp g 1 false)) ∧
      (s.mayAppend g 0 (piecesCut pieces).length = false → ∃ t, exec (.galleyFullResume g) s = .next t ∧ (t.ctx g).pend = [p] ∧
        0 ∈ (t.ctx g).appWait ∧ t.mem = s.mem))

/-- 04 R76 to R78, R83: one append takes position A, writes the ring's slot and no other byte of memory but a full
segment's summary, and leaves P and D where they were. -/
def Sys2Proof.Claims.AppendTakesPosition : Prop :=
  ∀ (s : State) (g : Nat) (e : GEnt), s.mem.wf = true →
    let y := s.gal g
    let t := s.append1 g e
    (t.gal g).a = y.a + 1 ∧ (t.gal g).p = y.p ∧ (y.ents ≠ [] → (t.gal g).d = y.d) ∧ (y.ents = [] → (t.gal g).d = y.a) ∧
    (∃ e', (t.gal g).ents = y.ents ++ [e'] ∧ e'.pos = y.a ∧ e'.kind = e.kind ∧ e'.pba = e.pba ∧ e'.len = e.len ∧ e'.source = e.source ∧
      e'.sid = e.sid ∧ e'.poison = e.poison ∧ e'.data = if e.poison then 0 else e.data % 2 ^ e.len) ∧
    (∀ a, a < y.base * 4096 + y.a % 209715 * 80 ∨ y.base * 4096 + y.a % 209715 * 80 + 80 ≤ a →
      a < y.base * 4096 + 2 ^ 24 + y.a / 4096 % 64 * 512 ∨ y.base * 4096 + 2 ^ 24 + y.a / 4096 % 64 * 512 + 512 ≤ a →
      t.mem.read a = s.mem.read a) ∧
    (∀ h, h ≠ g → t.gal h = s.gal h)

/-- 04 R91, 13 R291: an atomic is issued at the A of its firing; at the home, once D has reached that, it writes its new
word; the old value returns. Its computation: -/
def Obligations.Atomics : Prop :=
  ∀ (w64 : Bool) (op : AtomOp) (fop : FAtomOp) (wave : WaveLit) (d : Dests) (s : State) (f : Firing), Acts s f →
    let w := if w64 then 64 else 32
    let issued (i : Instr) : Prop := ∀ p pba n e rest, Pointer f p → p % w = 0 → Reaches s f.cl .atomic p w ((pba, n, e) :: rest) →
      exec i s = .next ((s.pendAsk f i (.atomic (s.gal f.cl).a pba (s.cl f.cl).sid none) pba).tlbUse f.cl (p % 2 ^ 60) w)
    (f.opB.poisoned 0 = false →
      (w ≤ 2 ^ f.opB.cl2 → issued (.atom w64 op wave d)) ∧
      (w = 2 ^ f.opB.cl2 → issued (.atomf fop w64 wave d)) ∧
      (f.opC.poisoned 0 = false → w ≤ 2 ^ f.opB.cl2 → w ≤ 2 ^ f.opC.cl2 → issued (.acas w64 wave d))) ∧
    (∀ c id p a pba sid, s.pend c id = some p → p.why = .atomic a pba sid none → p.instr = .atom w64 op wave d →
      a ≤ (s.gal c).d → s.exchange c 101 id = .idle → s.bitsBad pba w = false →
      let old := s.mem.readBits pba w
      let v := p.fir.opB.lane 0 % 2 ^ w
      let new := match op with
        | .add => (old + v) % 2 ^ w
        | .and => old &&& v
        | .or => old ||| v
        | .xor => old ^^^ v
        | .smin => if sext old w ≤ sext v w then old else v
        | .smax => if sext v w ≤ sext old w then old else v
        | .umin => min old v
        | .umax => max old v
        | .swp => v
      exec (.atomicHomeExec c id) s = .next ((setMem s (s.mem.writeBits pba w new)).pendSet c id
        (.atomic a pba sid (some (old, false, 0, false))))) ∧
    (∀ c id p a pba sid, s.pend c id = some p → p.why = .atomic a pba sid none → p.instr = .acas w64 wave d →
      a ≤ (s.gal c).d → s.exchange c 101 id = .idle → s.bitsBad pba w = false →
      let old := s.mem.readBits pba w
      exec (.atomicHomeExec c id) s = .next ((setMem s (s.mem.writeBits pba w
        (if old = p.fir.opB.lane 0 % 2 ^ w then p.fir.opC.lane 0 % 2 ^ w else old))).pendSet c id
          (.atomic a pba sid (some (old, false, 0, false))))) ∧
    (∀ c id p a pba sid, s.pend c id = some p → p.why = .atomic a pba sid none → a ≤ (s.gal c).d →
      p.instr = .atom w64 op wave d → s.exchange c 101 id = .idle → s.bitsBad pba w = true →
      exec (.atomicHomeExec c id) s = .next (s.pendSet c id (.atomic a pba sid (some (0, true, 0, false))))) ∧
    (∀ c id p a pba sid old, s.pend c id = some p → p.why = .atomic a pba sid (some (old, false, 0, false)) →
      p.instr = .atom w64 op wave d → s.exchange c 101 id = .idle → s.waveFree p.fir p.instr = true →
      exec (.atomicReturn c id) s = .next ((waveOn ((s.dropLine c (pba / 2048)).pendDel c id) p.fir p.instr).emitBoth p.fir d
        (p.fir.laneTok 0 (if w64 then 6 else 5) [(old, false)])))

/-- 04 R82, R84, R85, 13 R292 to R295: releases, acquires, positions and fences. -/
def Obligations.Publishing : Prop :=
  ∀ (scope : RelScope) (sel : GposSel) (wave : WaveLit) (d : Dests) (s : State) (f : Firing), Acts s f →
    let r := s.release f.cl
    let g := f.opA.lane 0
    exec (.rel scope wave d) s = .next (r.pendNew f (.rel scope wave d) (.rel scope (r.gal f.cl).p)) ∧
    (∀ c id p pos, s.pend c id = some p → p.why = .rel scope pos → p.instr = .rel scope wave d →
      (match scope with
        | .cluster => pos ≤ (s.gal c).p
        | .die => pos ≤ (s.mirror (dieOfAgent c) c).1
        | .package => ∀ m ∈ 4 :: s.liveDies, pos ≤ (s.mirror m c).1
        | .system => (∀ m ∈ 4 :: s.liveDies, pos ≤ (s.mirror m c).1) ∧ pos ≤ (s.gal c).d) →
      s.waveFree p.fir p.instr = true →
      exec (.relScopeReached c id) s = .next (((s.pendDel c id).waveDone p.fir wave).sendA p.fir.atS0 d)) ∧
    (f.opB.cl2 = 6 → f.opB.gl2 = f.opA.gl2 → f.opA.gl2 ≤ 2 → (f.opA.pmask ||| f.opB.pmask) % 2 ^ 2 ^ f.opA.gl2 = 0 →
      (∀ e ∈ s.acqNames f.cl f.opA f.opB, s.galOk e.1 = true) →
      exec (.acq wave d) s = .next (s.pendNew f (.acq wave d) (.acq (s.acqNames f.cl f.opA f.opB) [] false false))) ∧
    (∀ c id p l pages full adv, s.pend c id = some p → p.why = .acq l pages full adv → p.instr = .acq wave d →
      let r := s.acquireAll c (l.filter (fun e => s.acqSeen c [e]))
      let left := l.filter (fun e => !s.acqSeen c [e])
      let t := r.1.pendSet c id (.acq left (pages ++ r.2.1) (full || r.2.2.1) (adv || r.2.2.2))
      (left ≠ [] → exec (.acqComplete c id) s = .next t) ∧
      (left = [] → t.waveFree p.fir p.instr = true →
        let go (u : State) : Prop := exec (.acqComplete c id) s = .next (((u.pendDel c id).waveDone p.fir wave).emit p.fir.atS0
          [(d.da, forwarded p.fir p.fir.opA p.fir.tag), (d.db, forwarded p.fir p.fir.opB p.fir.tag)])
        p.fir.hasBubble = false →
        ((adv || r.2.2.2) = false → go t) ∧
        ((adv || r.2.2.2) = true → t.mayAppend c 6 1 = true →
          go ((t.marker c (pages ++ r.2.1) (full || r.2.2.1)).waitApp c 6 false)) ∧
        ((adv || r.2.2.2) = true → t.mayAppend c 6 1 = false → exec (.acqComplete c id) s = .next (t.waitApp c 6 true)))) ∧
    (∀ c a pos, s.acqSeen c [(a, pos)] = true ↔ (s.die (dieOf c)).mirrorBad = false ∧ pos ≤ (s.mirror (dieOf c) a).1 ∧
      pos ≤ (s.mirror (dieOf c) a).2) ∧
    (f.opA.poisoned 0 = false → s.galOk g = true →
      (g = f.cl → Sends (.gpos sel d) s f d (newScalar f 6 (match sel with
        | .a => (s.gal g).a
        | .p => (s.gal g).p
        | .d => (s.gal g).d))) ∧
      (g ≠ f.cl → sel ≠ .a → Sends (.gpos sel d) s f d (newScalar f 6 (match sel with
        | .p => (s.mirror (dieOf f.cl) g).1
        | _ => (s.mirror (dieOf f.cl) g).2))) ∧
      (g ≠ f.cl → Ends (.gpos .a d) s f 0x100 2)) ∧
    exec (.fence wave d) s = .next (s.pendNew f (.fence wave d) (.fence (s.cl f.cl).issued)) ∧
    (∀ c id p before, s.pend c id = some p → p.why = .fence before → p.instr = .fence wave d →
      (∀ n ∈ (s.cl c).issued, n ∉ before) → s.waveFree p.fir p.instr = true →
      exec (.fencePerformed c id) s = .next (((s.pendDel c id).waveDone p.fir wave).sendA p.fir.atS0 d))

/-- 02 R39, 13 R296, R297: queues in rings, and accesses to another cluster's A-buffer. -/
def Obligations.Queues : Prop :=
  ∀ (d : Dests) (s : State) (f : Firing) (p : Nat), Acts s f → s.queueHandle f true = .ok p →
    let owner := p / 2 ^ 50 % 2 ^ 10
    let ring := p % 16
    let r := (s.ctx owner).ring ring
    let n := min r.slot 256
    let src := if f.unit = 35 then 5 else 4
    let en := s.entryOf f
    let slot := match en.claim with | none => r.claim | some q => q.2.2
    let s1 : State := match en.claim with
      | none => { s.modRing owner ring (fun r => { r with claim := r.claim + 1 }) with
          curEnt := some { en with claim := some (owner, ring, r.claim) } }
      | some _ => s
    (∀ pba e, (r.full = true → en.claim ≠ none) → r.base.toNat / 2 ^ 60 = 0 →
      Reaches s f.cl .write (r.slotPtr slot) n [(pba, n, e)] →
      let ps := overlay [(pba, n, e)] 0 (pushRuns f.opB n)
      let place := src - 4 + 8 * (512 + f.seq)
      (s1.mayAppend f.cl place (piecesCut ps).length = true →
        exec (.qpush d) s = .next ((((s1.waitApp f.cl place false).appendAll f.cl 0 src (s.cl f.cl).sid ps).pushDone
          f d owner ring slot).tlbUse f.cl (r.slotPtr slot % 2 ^ 60) n)) ∧
      (s1.mayAppend f.cl place (piecesCut ps).length = false →
        exec (.qpush d) s = .next (((s1.waitApp f.cl place true).rehold f none).tlbUse f.cl (r.slotPtr slot % 2 ^ 60) n))) ∧
    (r.full = true → en.claim = none → exec (.qpush d) s = .next (s.rehold f none)) ∧
    (r.popc = r.wslot → exec (.qpop d) s = .next (s.rehold f none)) ∧
    (r.popc ≠ r.wslot → exec (.qpop d) s = .next ((s.modRing owner ring (fun r => { r with popc := r.popc + 1 })).pendNew f (.qpop d)
      (.qpop owner ring r.popc (r.filled.get none r.popc) none false []))) ∧
    (∀ c id q o rg slot st, s.pend c id = some q → q.why = .qpop o rg slot (some st) none false [] → q.instr = .qpop d →
      s.acqSeen c [(st.gal, st.pos)] = true → s.markerRoom c [(st.gal, st.pos)] = true →
      let t := s.acquire c [(st.gal, st.pos)]
      exec (.qpopComplete c id) s = .next (t.pendSet c id (.qpop o rg slot (some st) (some (t.gal c).a) false []))) ∧
    (∀ c id q o rg slot st, s.pend c id = some q → q.why = .qpop o rg slot (some st) none false [] → q.instr = .qpop d →
      s.acqSeen c [(st.gal, st.pos)] = false → exec (.qpopComplete c id) s = .next s) ∧
    (∀ c id q o rg slot st a ps, s.pend c id = some q → q.why = .qpop o rg slot st (some a) true ps → q.instr = .qpop d → q.fir.cl = c →
      q.id = id → ∀ m v, s.reply c id = some (m, v) →
      let k := min ((s.ctx o).ring rg).slot 256
      exec (.qpopComplete c id) s = .next ((((s.dropMsg m).pendDel c id).modRing o rg (fun r => r.release slot)).emitBoth q.fir.atS0 d
        (q.fir.laneTok 2 6 ((List.range 4).map (fun j => (v % 2 ^ k / 2 ^ (64 * j) % 2 ^ 64, false)))))) ∧
    (∀ c id q o rg slot st a ps l s1 v, s.pend c id = some q → q.why = .qpop o rg slot st (some a) false ps → q.instr = .qpop d →
      q.fir.cl = c → q.id = id →
      let rr := (s.ctx o).ring rg
      let k := min rr.slot 256
      rr.base.toNat / 2 ^ 60 = 0 → leaseOk (s.leaseOf c) .read (rr.slotPtr slot % 2 ^ 60) k = true →
      s.xlat c .read (rr.slotPtr slot % 2 ^ 60) k = .ok l →
      (ps = [] → exec (.qpopComplete c id) s = .next (s.pendSet c id (.qpop o rg slot st (some (s.gal c).a) false (loadPieces l)))) ∧
      (ps ≠ [] → (s.gal c).d + 1024 < a → exec (.qpopComplete c id) s = .next s) ∧
      (ps ≠ [] → a ≤ (s.gal c).d + 1024 →
        s.fetchLines c (8192 + id) (holderOf q.fir.atS0.unit) (linesOf l) = (true, s1) → s1.readPieces c a ps = (v, [], false) →
        exec (.qpopComplete c id) s = .next ((((s1.tlbUse c (rr.slotPtr slot % 2 ^ 60) k).pendDel c id).modRing o rg
          (fun r => r.release slot)).emitBoth q.fir.atS0 d
            (q.fir.laneTok 2 6 ((List.range 4).map (fun j => (v % 2 ^ k / 2 ^ (64 * j) % 2 ^ 64, false))))))) ∧
    (∀ k m t off w v from_, Taken s k m → m.pay = .abuf t off w v from_ → (s.cl t).banks.all (fun q => q.key != k) = true →
      exec (.remoteAbufAccess k) s = .next (s.bankAsk t k 8 off w v)) ∧
    (∀ k m t off w v c q, Taken s k m → (s.cl t).banks.any (fun q => q.key == k) = true → (s.cl t).bankDone k = true →
      s.pend t k = none → s.pend c q = none →
      let s1 := (s.bankDrop t k).dropMsg k
      (m.pay = .abuf t off w (some v) (c, q) → exec (.remoteAbufAccess k) s = .next s1) ∧
      (m.pay = .abuf t off w none (c, q) →
        exec (.remoteAbufAccess k) s = .next (s1.send 1 t 65 m.src m.srcUnit (.abufVal c q ((s.cl t).bankValue k)))))

namespace Sys2Proof.Claims
open Sys2Proof.Machine

/-- The stream on a cluster's port. -/
def streamAt (s : State) (c port : Nat) : Option Stream := ((s.ctx c).port port).stream

/-- A cluster whose streams may move: it is not stopped, and its ports are not frozen. -/
def Flows (s : State) (c : Nat) : Prop := (s.cl c).stopped = false ∧ (s.cl c).frozenPorts = false

end Sys2Proof.Claims

open Sys2Proof Sys2Proof.Machine Sys2Proof.Claims

/-- 06 R147, 13 R282 to R290: streams start with the shape their configuration gives; elements move at base + k0 w +
k1 s1 + k2 s2; at the end the count leaves. -/
def Obligations.Streams : Prop :=
  ∀ (n : BitVec 8) (d : Dests) (s : State) (f : Firing) (e : Ep), s.cur = some f → f.hasBubble = false →
    s.ep f.cl n.toNat = some e →
    let a := f.opA
    let l (j : Nat) : Nat := a.lane j
    let started (x : Stream) (t : State) : Prop :=
      t = s.modCtx f.cl (fun y => { y with ports := y.ports.put n.toNat { y.port n.toNat with stream := some x, lastMoved := 0, ran := true } })
    let go : Stream := {
      fir := f, instr := .strmgo n d, base := l 0, c0 := l 1 % 2 ^ 32, c1 := max 1 (l 1 / 2 ^ 32), c2 := max 1 (l 3 % 2 ^ 16)
      s1 := sext (l 2 % 2 ^ 32) 32, s2 := sext (l 2 / 2 ^ 32) 32, drl := (l 3).testBit 16 }
    let blk (i : Instr) (p : Nat) : Stream := {
      fir := f, instr := i, base := p, c0 := 2 ^ e.gl2 * e.burst, c1 := 1, c2 := 1, s1 := 0, s2 := 0, block := true }
    (a.gl2 = 2 → a.cl2 = 6 → a.poisoned 0 = false → go.c0 % (if e.scm = 2 then 2 ^ e.gl2 * e.burst else 2 ^ e.gl2) = 0 → l 3 / 2 ^ 17 = 0 →
      (go.drl = true → e.out = true) → unpacked e.w go = false → ∃ t, exec (.strmgo n d) s = .next t ∧ started go t) ∧
    (∀ p, Pointer f p → s.ptrCause f.cl [0, 1, 7, 6] p = none → (p / 2 ^ 60 = 6 → e.w = 64) → unpacked e.w (blk (.ldb n d) p) = false →
      (∃ t, exec (.ldb n d) s = .next t ∧ started (blk (.ldb n d) p) t) ∧
      (∃ t, exec (.stb n d) s = .next t ∧ started (blk (.stb n d) p) t)) ∧
    (∀ c port x q off tag fr, s.ep c port = some q → streamAt s c port = some x → Flows s c → q.out = false → q.scm = 0 →
      x.j < x.total q → x.stopping = false → s.streamTag c x.fir.tag x.j x.holding = .go tag fr → x.block = false → x.instr = .strmgo n d →
      (s.ctx c).repair = false → x.base / 2 ^ 60 = 1 → x.base / 2 ^ 23 % 2 ^ 37 = 0 →
      x.offsets q x.j = (((off : Nat) : Int), x.row (x.at_ q x.j).2.1 (x.at_ q x.j).2.2) → off + q.w * 2 ^ q.gl2 ≤ 2 ^ 23 →
      (x.issued = none → (s.cl c).streamStalled port q.unit = false → s.bufClear c q.unit c = true →
        ∃ t, exec (.streamTokenEmit c port) s = .next t ∧
          (t.cl c).banks = ((s.bankAsk c s.serial (bankPlace q.unit) off (q.w * 2 ^ q.gl2) none).cl c).banks ∧
          streamAt t c port = some { x with issued := some s.serial, missed := false } ∧ t.mem = s.mem) ∧
      (∀ k, x.issued = some k → (s.cl c).bankDone k = true →
        exec (.streamTokenEmit c port) s = .next ((s.bankDrop c k).streamSend c port x q tag fr { loadedTok x.fir (Fd.cls q.fd = 1) q.w q.gl2
          ((s.cl c).bankValue k) with ov := true, oidx := x.outer q x.j })) ∧
      (∀ k, x.issued = some k → (s.cl c).bankDone k = false → exec (.streamTokenEmit c port) s = .next s)) ∧
    (∀ c port x q tag fr t, x.told = false → x.instr = .ldb n d → x.total q ≤ x.j + 1 →
      s.streamSend c port x q tag fr t =
        (s.emitBoth x.fir d (newScalar x.fir 6 (x.endPtr q))).streamSend c port { x with told := true } q tag fr t) ∧
    (∀ c port x q pt rest, s.ep c port = some q → streamAt s c port = some x → ((s.ctx c).port port).queue = pt :: rest → Flows s c →
      q.out = true → x.stopping = false → x.j < x.total q → (s.cl c).acceptHeld port x q.unit = false → pt.tok.kind = .bubble →
      ∃ t, exec (.streamTokenAccept c port) s = .next t ∧
        ((t.ctx c).port port).queue = rest ∧ (streamAt t c port).map (fun (y : Stream) => y.j) = some (x.j + 1) ∧ t.mem = s.mem ∧ (t.cl c).abuf = (s.cl c).abuf ∧
        ((s.ctx c).repair = false → t.ctx c = { (s.ctx c).skipAdd q.unit pt.tok.olo pt.tok.ohi with ports := (t.ctx c).ports })) ∧
    (∀ c port x q pt rest off, s.ep c port = some q → streamAt s c port = some x → ((s.ctx c).port port).queue = pt :: rest → Flows s c →
      q.out = true → q.scm = 0 → x.stopping = false → x.j < x.total q → (s.cl c).acceptHeld port x q.unit = false → x.block = false →
      pt.tok.kind = .data → pt.tok.gl2 = q.gl2 → pt.tok.cl2 = q.cl2 → x.tileLeft = 0 →
      pt.tok.pmask = 0 → pt.tile = none → x.base / 2 ^ 60 = 1 → x.base / 2 ^ 23 % 2 ^ 37 = 0 → x.offsets q x.j = (((off : Nat) : Int), x.row (x.at_ q x.j).2.1 (x.at_ q x.j).2.2) →
      off + q.w * 2 ^ q.gl2 ≤ 2 ^ 23 → s.bufClear c q.unit c = true →
      ∃ t, exec (.streamTokenAccept c port) s = .next t ∧ ((t.ctx c).port port).queue = rest ∧ t.mem = s.mem ∧
        (streamAt t c port).map (fun (y : Stream) => y.j) = some (x.j + 1) ∧
        (t.cl c).banks = ((s.bankAsk c s.serial (bankPlace q.unit) off (q.w * 2 ^ q.gl2)
          (some (packLanes q.w ((List.range (2 ^ q.gl2)).map pt.tok.lane)))).cl c).banks) ∧
    (∀ c port x q, s.ep c port = some q → streamAt s c port = some x → (s.cl c).stopped = false → x.total q ≤ x.j → x.held = [] →
      x.tileLeft = 0 → x.holding = false → x.drl = false → (q.out = true → x.base / 2 ^ 60 = 0) → x.instr = .strmgo n d →
      let s1 := if q.out then s.waitApp c ((if q.unit = 38 then 5 else if q.unit = 35 then 1 else 0) + 8 * (1 + port)) false else s
      exec (.streamEnd c port) s = .next ((((s1.active c).setPort c port
        (fun y => { y with stream := none, lastMoved := x.j * 2 ^ q.gl2 })).emitBoth x.fir d { newScalar x.fir 5 (x.j * 2 ^ q.gl2) with
          pmask := if x.fir.opA.pmask % 16 = 0 then 0 else 1 }).strmendDone c port)) ∧
    (s.idleAction f = false →
      (streamAt s f.cl n.toNat = none → Sends (.strmend n d) s f d (forwarded f a f.tag)) ∧
      (∀ x, streamAt s f.cl n.toNat = some x → x.block = false → exec (.strmend n d) s = .next ((s.setPort f.cl n.toNat
        (fun q => { q with stream := some { x with stopping := true } })).pendNew f (.strmend n d) (.strmend n.toNat))) ∧
      (let q := (s.ctx f.cl).port n.toNat
       Sends (.strmst n d) s f d (newScalar f 6 (q.lastMoved % 2 ^ 32 * 2 ^ 32 +
         (match q.stream with | none => 0 | some x => if x.stopping then 2 else 1)))))

namespace Sys2Proof.Claims
open Sys2Proof.Machine

/-- A field of w bits at lo of a payload replaced. -/
def placed (v lo w x : Nat) : Nat := v - v / 2 ^ lo % 2 ^ w * 2 ^ lo + x % 2 ^ w * 2 ^ lo

/-- The first n lanes of a token may be read as 64-bit words. -/
def Words (t : Token) (n : Nat) : Prop := t.cl2 = 6 ∧ t.pmask % 2 ^ min n (2 ^ t.gl2) = 0

/-- A command accepted into a slot: the slot's generation goes up, and its predecessors are the latest commands of the
two slots that have not retired. -/
def accepted (s : State) (f : Firing) (d : Dests) (slot p1 p2 cookie : Nat) (op : MxOp) : State :=
  let bind (p : Nat) : List (Nat × Nat) :=
    let k := (s.ctx f.cl).mxSlots.get {} p
    if p = 255 ∨ k.gen = k.retired then [] else [(p, k.gen)]
  let k := (s.ctx f.cl).mxSlots.get {} slot
  s.modCtx f.cl (fun x => { x with
    mxSlots := x.mxSlots.put slot { k with gen := k.gen + 1 }
    mxCmds := x.mxCmds ++ [{
      slot := slot, gen := k.gen + 1, op := op, fir := f, dests := d, preds := bind p1 ++ bind p2, cookie := cookie }] })

/-- A command waits for reads of the A-buffer that a requester asks of its banks, under one key (02 R35, 15 R308). -/
def readsAsked (s : State) (c who : Nat) (m : MxCmd) (l : List (Nat × Nat)) : State :=
  let (k, s) := s.fresh
  (l.foldl (fun s p => s.bankAsk c k who p.1 p.2 none) s).putCmd c { m with started := true, key := some k }

/-- A command's reads are back, and this is the A-buffer as they found it. -/
def HasRead (s : State) (c : Nat) (m : MxCmd) (l : List (Nat × Nat)) (view : Tbl Nat) : Prop :=
  (l = [] ∧ view = []) ∨ ∃ k, l ≠ [] ∧ m.key = some k ∧ (s.cl c).bankDone k = true ∧ view = viewOf l ((s.cl c).bankValue k) []

/-- The command has used them. -/
def readsUsed (s : State) (c : Nat) (m : MxCmd) : State := match m.key with | some k => s.bankDrop c k | none => s

end Sys2Proof.Claims

open Sys2Proof Sys2Proof.Machine Sys2Proof.Claims

/-- 15 R305, R320, R321, R323 to R326: commands built, accepted and asked about. -/
def Obligations.MatrixCommands : Prop :=
  ∀ (n : BitVec 4) (fp : Bool) (l : MxoutLit) (d : Dests) (s : State) (f : Firing), Latched s f →
    let a := f.opA
    let b := f.opB
    let c := f.opC
    let fm := (s.cl f.cl).forme
    let gen (slot : Nat) : Nat := ((s.ctx f.cl).mxSlots.get {} slot).gen
    let ticket (slot : Nat) : Nat := slot % 256 + (gen slot + 1) % 2 ^ 32 * 256
    let v := wordsOf4 ((nth fm.templates n.toNat).getD [])
    (Words a 1 → Words b 1 → Words c 1 → a.gl2 = b.gl2 → a.gl2 = c.gl2 →
      a.lane 0 / 2 ^ 60 = (if (Ctl.of v).asrc = 0 then 2 else if (Ctl.of v).asrc = 1 then 1 else 3) →
      b.lane 0 / 2 ^ 60 = (if (Ctl.of v).bsrc = 0 then 2 else 1) →
      let v1 := placed (placed v 104 24 (a.lane 0 % 2 ^ 24)) 80 24 (b.lane 0 % 2 ^ 24)
      let v2 := placed (placed (placed v1 56 8 (c.lane 0 % 2 ^ 8)) 48 8 (c.lane 0 / 2 ^ 8 % 2 ^ 8)) 40 8 (c.lane 0 / 2 ^ 16 % 2 ^ 8)
      Sends (.mxcmd n d) s f d (f.stamp {
        tag := f.tag, kind := .control, gl2 := 0, cl2 := 0
        pay := placed v2 135 17 (c.lane 0 / 2 ^ 24 % 2 ^ 17) % 2 ^ 256 })) ∧
    (a.kind = .control → (Ctl.of a.pay).cause fm = none →
      let q := Ctl.of a.pay
      let w := (List.range 4).map (fun k => a.pay / 2 ^ (64 * k) % 2 ^ 64)
      exec (.mxexec d) s = .next ((accepted s f d q.cmdid q.pred1 q.pred2 q.cookie
        (if q.mop = 0 then .mmul w else if q.mop = 1 then .mzero w else .mnop)).emitBoth f d (newScalar f 6 (ticket q.cmdid)))) ∧
    (let r := Region.of (a.lane 0)
     (Words a 1 → Words b 2 → 1 ≤ b.gl2 → r.zero = 0 → s.ptrCause f.cl [1] (b.lane 0) = none → r.cbase + r.m * r.n ≤ 131072 →
       b.lane 0 % 2 ^ 23 + (r.m - 1) * b.lane 1 + 32 * r.n ≤ 2 ^ 23 →
       exec (.mxin false fp d) s = .next (accepted s f d r.cmdid r.pred1 r.pred2 0 (.mxin (a.lane 0) false fp (b.lane 0) (b.lane 1) b))) ∧
     (Words a 1 → b.cl2 = 5 → r.zero = 0 → r.m16 = 0 → r.n16 = 0 → r.cbase + 2 ^ b.gl2 ≤ 131072 → (fp = true ∨ b.scale = 0x7F00) →
       exec (.mxin true fp d) s = .next (accepted s f d r.cmdid r.pred1 r.pred2 0 (.mxin (a.lane 0) true fp 0 0 b))) ∧
     (let p := Profile.of ((nth fm.profiles l.prof.toNat).getD [])
      let vb := a.lane 1 % 2 ^ 23
      Words a 2 → 1 ≤ a.gl2 → r.zero = 0 → a.lane 1 / 2 ^ 23 = 0 → r.cbase + r.m * r.n ≤ 131072 → p.blockBad vb r.m r.n = false →
       (l.dmode = 2 → exec (.mxout l d) s = .next (accepted s f d r.cmdid r.pred1 r.pred2 0 (.mxout (a.lane 0) vb l 0 0))) ∧
       (l.dmode = 1 → r.n % (match s.ep f.cl l.port.toNat with | some e => 2 ^ e.gl2 | none => 1) = 0 →
         exec (.mxout l d) s = .next (accepted s f d r.cmdid r.pred1 r.pred2 0 (.mxout (a.lane 0) vb l 0 0))) ∧
       (l.dmode = 0 → Words b 2 → 1 ≤ b.gl2 → s.ptrCause f.cl [1] (b.lane 0) = none →
         b.lane 0 % 2 ^ 23 + (r.m - 1) * b.lane 1 + r.n * p.w ≤ 2 ^ 23 →
         (p.w ∈ [3, 5, 6, 7] → b.lane 0 % 2 ^ 23 % p.w = 0 ∧ b.lane 1 % p.w = 0) →
         exec (.mxout l d) s = .next (accepted s f d r.cmdid r.pred1 r.pred2 0 (.mxout (a.lane 0) vb l (b.lane 0) (b.lane 1)))))) ∧
    (s.idleAction f = false → Words a 1 →
      exec (.mxchk d) s = .next (s.pendNew f (.mxchk d) (.ticket (a.lane 0))) ∧
      exec (.mxwait d) s = .next (s.pendNew f (.mxwait d) (.ticket (a.lane 0))) ∧
      Sends (.mxtl d) s f d (newScalar f 6 (s.mxView f.cl (a.lane 0 % 4)))) ∧
    (∀ k id p t, s.pend k id = some p → p.why = .ticket t → (s.cl k).stopped = false →
      let x := (s.ctx k).mxSlots.get {} (t % 256)
      let done := x.done.get (0, 0, 0) (t / 256 % 2 ^ 32)
      t / 256 % 2 ^ 32 ≤ x.retired →
      (p.instr = .mxchk d → exec (.ticketRetired k id) s = .next ((s.pendDel k id).emitBoth p.fir d
        (newScalar p.fir 6 (done.1 * 2 ^ 32 + done.2.1 * 2 ^ 16 + done.2.2 % 128)))) ∧
      (p.instr = .mxwait d → exec (.ticketRetired k id) s = .next ((s.pendDel k id).emitBoth p.fir d (forwarded p.fir p.fir.opA p.fir.tag))))

/-- 15 R306 to R319: commands started by their resources in order of acceptance, the groups of a product with their
check, and retirement. -/
def Obligations.MatrixArray : Prop :=
  ∀ (s : State) (c : Nat) (m : MxCmd), (s.cl c).stopped = false →
    let x := s.cl c
    (∀ w, (s.ctx c).startable isArrayOp = some m → m.op = .mmul w → exec (.mmul c) s = .next (s.putCmd c { m with started := true })) ∧
    (∀ w, (s.ctx c).startable isArrayOp = some m → m.op = .mzero w →
      let q := Ctl.of (wordsOf4 w)
      ∃ t, exec (.mzero c) s = .next t ∧ (t.ctx c).mxCmds = setCmd (s.ctx c).mxCmds { m with started := true, done := true } ∧
        ∀ e, (t.cl c).cstore.get {} e = if q.cbase ≤ e ∧ e < q.cbase + q.m * q.n then {} else x.cstore.get {} e) ∧
    ((s.ctx c).mxCmds.find? (fun m => isNopOp m.op && (s.ctx c).predsDone m) = some m → exec (.mnop c) s = .next (s.retireCmd c m)) ∧
    (∀ w upset, (s.ctx c).mxCmds.find? (fun m => m.started && !m.done && isArrayOp m.op) = some m → m.op = .mmul w →
      let q := Ctl.of (wordsOf4 w)
      let l := q.reads x.forme m.next
      let checked := q.ck || !x.forme.priv
      let s1 := s.count c 0x196 8
      (l ≠ [] → m.key = none → exec (.mxeGroup c upset) s = .next (readsAsked s c 0 m l)) ∧
      (∀ view, HasRead s c m l view →
        let y : Cluster := { x with abuf := view }
        let r := y.group q m.next upset
        let sound := groupSound q x.forme r upset
        (checked = true → sound = false → m.retried = false →
          exec (.mxeGroup c upset) s = .next ((s1.count c 0x197 1).putCmd c { m with retried := true })) ∧
        (checked = true → sound = false → m.retried = true →
          exec (.mxeGroup c upset) s = .next (((s1.putCmd c { m with done := true }).endUnit 0x401 c 36 0 2 m.fir.tag 0).degrade c)) ∧
        (checked = false ∨ sound = true →
          exec (.mxeGroup c upset) s = .next ((((readsUsed s1 c m).modCl c
            (fun y => r.2.2.zipIdx.foldl (fun y e => y.cstoreSet (q.cbase + e.2) e.1.ent) y)).active c).putCmd c
            { m with
              next := m.next + 1
              done := decide (q.groups x.forme ≤ m.next + 1)
              key := none
              flags := r.2.2.foldl (fun n e => n ||| e.flags) (r.1.foldl (fun n e => n ||| e.flags) m.flags)
              force := m.force || r.2.2.any (·.force) || r.1.any (·.force) })))) ∧
    (∀ reads upset, (s.ctx c).mxCmds.find? (fun y => y.slot == m.slot) = some m → m.done = true →
      let ticket := newScalar m.fir 6 (m.slot % 256 + m.gen % 2 ^ 32 * 256)
      let retires (t : State) : Prop := exec (.mxeRetire c ⟨m.slot, reads, upset⟩) s = .next t
      (∀ w, m.op = .mmul w ∨ m.op = .mzero w → retires (s.retireCmd c m)) ∧
      (∀ r tk fp src pitch t, m.op = .mxin r tk fp src pitch t → retires ((s.retireCmd c m).emitBoth m.fir m.dests ticket)) ∧
      (∀ r vb l dst pitch, m.op = .mxout r vb l dst pitch →
        (l.dmode = 2 → retires ((s.retireCmd c m).emit m.fir [(m.dests.db, ticket)])) ∧
        (l.dmode = 0 → (∀ q ∈ x.banks, q.who = 1 → q.store ≠ none → q.got ≠ none) → retires ((s.retireCmd c m).emitBoth m.fir m.dests ticket)) ∧
        (s.outTaken c m = true → l.dmode = 1 → retires ((s.retireCmd c m).emitBoth m.fir m.dests ticket)) ∧
        (s.outTaken c m = false → retires s))) ∧
    (∀ rw fp src pitch t reads upset, (s.ctx c).mxCmds.find? (fun y => y.slot == m.slot) = some m → m.done = false →
      m.op = .mxin rw false fp src pitch t → (m.started = true ∨ (s.ctx c).startable isInOp = some m) →
      let r := Region.of rw
      let off := src % 2 ^ 23 + m.next * pitch
      (m.key = none → exec (.mxeRetire c ⟨m.slot, reads, upset⟩) s = .next (readsAsked s c 2 m [(off, 32 * r.n)])) ∧
      (∀ k, m.key = some k → x.bankDone k = true →
        ∃ u, exec (.mxeRetire c ⟨m.slot, reads, upset⟩) s = .next u ∧
          (∀ j < r.n, (u.cl c).cstore.get {} (r.cbase + m.next * r.n + j) =
            { code := x.bankValue k / 2 ^ (32 * j) % 2 ^ 32, ty := fp, pz := false }) ∧
          (u.ctx c).mxCmds = setCmd (s.ctx c).mxCmds { m with
            started := true, key := none, next := m.next + 1, done := decide (r.m ≤ m.next + 1) })) ∧
    (∀ rw fp src pitch t reads upset, (s.ctx c).mxCmds.find? (fun y => y.slot == m.slot) = some m → m.done = false →
      m.op = .mxin rw true fp src pitch t → (m.started = true ∨ (s.ctx c).startable isInOp = some m) → fp = false →
      ∃ u, exec (.mxeRetire c ⟨m.slot, reads, upset⟩) s = .next u ∧
        ∀ j < 2 ^ t.gl2, (u.cl c).cstore.get {} ((Region.of rw).cbase + j) = { code := t.lane j, ty := false, pz := t.poisoned j }) ∧
    (∀ rw vb l dst pitch reads upset, (s.ctx c).mxCmds.find? (fun y => y.slot == m.slot) = some m → m.done = false →
      m.op = .mxout rw vb l dst pitch → (m.started = true ∨ (s.ctx c).startable isOutOp = some m) → l.dmode = 0 →
      let p := Profile.of ((nth x.forme.profiles l.prof.toNat).getD [])
      let r := Region.of rw
      let m1 := x.outReads r m reads
      let s1 := s.putCmd c m1
      let ready := ∀ j < r.n, m1.read.has (m.next * r.n + j) = true
      (∀ e, m1.read.get {} e = if m.read.has e = false ∧ e ∈ reads ∧ e < r.m * r.n then x.cstore.get {} (r.cbase + e) else m.read.get {} e) ∧
      (¬ ready → exec (.mxeRetire c ⟨m.slot, reads, upset⟩) s = .next s1) ∧
      (ready → p.reads r vb m.next ≠ [] → m.key = none →
        exec (.mxeRetire c ⟨m.slot, reads, upset⟩) s = .next (readsAsked s1 c 1 m1 (p.reads r vb m.next))) ∧
      (∀ view, ready → HasRead s c m1 (p.reads r vb m.next) view →
        let row := p.outRow x.forme.tables r m1.read view vb m.next
        let out := upsetRow row upset
        let sums := addRow m.sums p.w m.next row
        let written := addRow m.written p.w m.next out
        let ends (s : State) (code : Nat) : State := (s.putCmd c { m1 with done := true }).endUnit code c 36 0 2 m.fir.tag 0
        ((∃ y ∈ row, y.bad = true) → exec (.mxeRetire c ⟨m.slot, reads, upset⟩) s = .next (ends s1 0x106)) ∧
        ((∀ y ∈ row, y.bad = false) →
          ∃ v, (∀ j y, out[j]? = some y → v / 2 ^ (p.w * j) % 2 ^ p.w = y.code % 2 ^ p.w) ∧
            let (k, s2) := (readsUsed (s1.active c) c m1).fresh
            let s3 := (s2.bankAsk c k 1 (dst % 2 ^ 23 + m.next * pitch) (r.n * p.w) (some v)).putCmd c { m1 with
              next := m.next + 1
              done := decide (r.m ≤ m.next + 1)
              flags := row.foldl (fun n e => n ||| e.flags) m.flags
              force := m.force || row.any (·.force)
              key := none, sent := 0, sums := sums, written := written }
            exec (.mxeRetire c ⟨m.slot, reads, upset⟩) s = .next (if r.m ≤ m.next + 1 ∧ sums ≠ written then ends s3 0x401 else s3)))) ∧
    (let t := s.retireCmd c m
     let k := (s.ctx c).mxSlots.get {} m.slot
     (t.ctx c).mxSlots.get {} m.slot = ⟨k.gen, k.retired + 1, k.done.put m.gen (m.cookie, if m.retried then 1 else 0, m.flags)⟩ ∧
     (t.cl c).mxTl.get 0 (m.slot / 64) = x.mxTl.get 0 (m.slot / 64) + 1 ∧
     (m.force = false → t.hub.faults = s.hub.faults))

namespace Sys2Proof.Claims
open Sys2Proof.Machine

/-- Lane 0 of an operand, read in a 64-bit container (16 R329). -/
def Holds (t : Token) (v : Nat) : Prop := t.cl2 = 6 ∧ t.poisoned 0 = false ∧ t.lane 0 = v

/-- A handle of an enabled copy ring of a cluster (16 R336). -/
def RingHandle (s : State) (f : Firing) (o n : Nat) (r : Ring) : Prop :=
  ∃ p, Holds f.opA p ∧ s.ptrCause f.cl [5] p = none ∧ o = p / 2 ^ 50 % 2 ^ 10 ∧ n = p % 16 ∧
    r = (s.ctx o).rings.get {} n ∧ r.en = true ∧ r.mode = false

/-- The copy tags of a mask cleared with their stamps, in the cycle that holds their clearing (05 R112, 16 R335). -/
def tagsCleared (x : Ctx) (m : Nat) : Ctx :=
  { x with
    ready := x.ready - (x.ready &&& m)
    tagStamps := x.tagStamps.filter (fun p => !m.testBit p.1)
    clrNow := x.clrNow ||| m }

/-- A tag that a retirement set in the cycle of its clearing ends at 1, with that retirement's stamp (16 R335). -/
def setAfter (x : Ctx) (b : Nat) (st : Option Stamp) : Ctx :=
  { x with
    ready := x.ready ||| 2 ^ b
    tagStamps := match st with | some q => x.tagStamps.put b q | none => x.tagStamps.del b }

/-- A cluster's entry of a wait that stands for a firing, on a cluster that runs. -/
def Waits (s : State) (c k : Nat) (f : Firing) (i : Instr) (w : Waiting) : Prop :=
  (s.cl c).stopped = false ∧ ∃ p, s.pend c k = some p ∧ p.fir = f ∧ p.instr = i ∧ p.why = w

/-- The wait completes: its entry goes, its node has fired, and its outputs leave. -/
def Completes (s : State) (c k : Nat) (f : Firing) (outs : List (Dest × Token)) : Prop :=
  exec (.waitComplete c k) s = .next (((s.pendDel c k).waitFired c f).emit f outs)

/-- The test that a cluster's next cycle makes of a wait leaves it so (16 R330). -/
def Tested (s : State) (c k : Nat) (w : Waiting) : Prop := ∃ p, s.tick.pend c k = some p ∧ p.why = w

/-- A request of a firing has arrived where it acts; `s1` is the machine without its message. -/
def Arrives (s : State) (k c j : Nat) (q : Pend) (s1 : State) : Prop :=
  s1 = s.dropMsg k ∧ s.pend c j = some q ∧ ∃ m, s.msg k = some m ∧ m.pay = .request c j ∧ s.arrived m = true

/-- A firing whose request has been answered sends its outputs (06 R141). -/
def Answered (s : State) (f : Firing) (i : Instr) (v : Nat) (outs : List (Dest × Token)) : Prop :=
  ∀ c k p, s.pend c k = some p → p.fir = f → p.instr = i → p.why = .request (some v) →
    exec (.waitComplete c k) s = .next ((s.pendDel c k).emit f outs)

/-- None of these stamps is of another galley: the acquire names nothing (16 R334). -/
def OwnStamps (c : Nat) (l : List Stamp) : Prop := ∀ q ∈ l, q.gal = c

end Sys2Proof.Claims

open Sys2Proof Sys2Proof.Machine Sys2Proof.Claims

/-- 16 R331, R332, R334, R336: channels started and read, copy tags cleared, ring slots released and counted. -/
def Obligations.ChannelsAndRings : Prop :=
  ∀ (ch : BitVec 2) (d : Dests) (s : State) (f : Firing), Acts s f →
    let h := (s.ctx f.cl).chan ch.toNat
    let serving := ch.toNat = 3 ∧ (s.cl f.cl).serving = true
    (∀ v, Holds f.opA v →
      (h.busy = true ∨ h.frozen = true ∨ serving → exec (.cpgo ch d) s = .next
        ((s.modChan f.cl ch.toNat (fun h => { h with lastStat := 4 })).emitBoth f d (newScalar f 6 0))) ∧
      (h.busy = false → h.frozen = false → ¬ serving →
        (v = 0 → Sends (.cpgo ch d) s f d (newScalar f 6 2)) ∧
        (v ≠ 0 → exec (.cpgo ch d) s = .next ((s.modChan f.cl ch.toNat (fun h => { h with
          busy := true, head := BitVec.ofNat 64 v, cur := 0, rec_ := none, issueA := (s.gal f.cl).a
          waiting := decide ((s.gal f.cl).d < (s.gal f.cl).a) })).emitBoth f d (newScalar f 6 1))))) ∧
    exec (.cpstat ch d) s = .next (s.emit f [
      (d.da, newScalar f 6 ((if h.busy then 2 ^ 63 else 0) + (if h.frozen then 2 ^ 62 else 0) + (if h.waiting then 2 ^ 61 else 0) +
        h.lastStat % 256 * 2 ^ 48 + h.retired % 2 ^ 48)),
      (d.db, newScalar f 6 h.head.toNat)]) ∧
    (∀ m, Holds f.opA m →
      let goes (y : Ctx) : Prop := exec (.tagclr d) s = .next ((s.modCtx f.cl (fun _ => y)).emitBoth f d (forwarded f f.opA f.tag))
      ((∀ p ∈ (s.ctx f.cl).setNow, m.testBit p.1 = false) → goes (tagsCleared (s.ctx f.cl) m)) ∧
      (∀ b st, (s.ctx f.cl).setNow = [(b, st)] → m.testBit b = true → goes (setAfter (tagsCleared (s.ctx f.cl) m) b st))) ∧
    (∀ o n r, RingHandle s f o n r →
      exec (.rsrel d) s = .next (requested s f (.rsrel d) o 68) ∧ exec (.rapeek d) s = .next (requested s f (.rapeek d) o 68)) ∧
    (∀ k c j q s1, Arrives s k c j q s1 →
      let p := q.fir.opA.lane 0
      let o := p / 2 ^ 50 % 2 ^ 10
      let n := p % 16
      let r := (s.ctx o).rings.get {} n
      (q.instr = .rsrel d → r.rslot ≠ r.wslot → s.serveReq k = (s1.modCtx o (fun x => { x with
        rings := x.rings.put n { r with rslot := r.rslot + 1, filled := r.filled.del r.rslot } })).pendSet q.fir.cl q.id (.request (some 0))) ∧
      (q.instr = .rsrel d → r.rslot = r.wslot → s.serveReq k = (s1.pendDel q.fir.cl q.id).fail q.fir 0x205 0) ∧
      (q.instr = .rapeek d → s.serveReq k =
        s1.pendSet c j (.request (some ((r.wslot - r.rslot) % 2 ^ 32 + (r.claim - r.rslot) % 2 ^ 32 * 2 ^ 32))))) ∧
    Answered s f (.rsrel d) 0 [(d.da, forwarded f f.opA f.tag), (d.db, forwarded f f.opA f.tag)] ∧
    (∀ v, Answered s f (.rapeek d) v [(d.da, newScalar f 6 v), (d.db, newScalar f 6 v)]) ∧
    (f.opA.cl2 ≠ 6 → Ends (.cpgo ch d) s f 0x203 0 ∧ Ends (.tagclr d) s f 0x203 0 ∧ Ends (.rsrel d) s f 0x203 0 ∧ Ends (.rapeek d) s f 0x203 0) ∧
    (f.opA.cl2 = 6 → f.opA.poisoned 0 = true → Ends (.cpgo ch d) s f 0x106 0 ∧ Ends (.tagclr d) s f 0x106 0)

/-- 16 R330, R333, R334, R336, R342: a wait takes an entry, which the cluster tests each cycle; from the cycle in which
its condition holds it acquires, and then its outputs leave. -/
def Obligations.WaitsAndSubmission : Prop :=
  ∀ (sel : TlSel) (q : BitVec 10) (d : Dests) (s : State) (f : Firing),
    let bound := match sel with | .net k => s.netBound f.cl k.toNat = true | _ => True
    let enters (i : Instr) : Prop := exec i s = .next (s.pendNew f i .wait)
    let a := forwarded f f.opA f.tag
    (Acts s f →
      (bound → Sends (.tlread sel d) s f d (newScalar f 6 (s.timeline f.cl sel).1)) ∧
      (¬ bound → Ends (.tlread sel d) s f 0x100 5) ∧
      (∀ n, Holds f.opB n → (bound → enters (.tlwait sel d)) ∧ (¬ bound → Ends (.tlwait sel d) s f 0x100 5)) ∧
      (∀ m, Holds f.opA m → enters (.wtany d) ∧ enters (.wtall d) ∧ enters (.wtff d)) ∧
      (∀ o n r, RingHandle s f o n r → exec (.rawait d) s = .next (requested s f (.rawait d) o 68)) ∧
      (∀ p, Holds f.opB p → s.ptrCause f.cl [0] p = none → p % 512 = 0 → leaseOk (s.leaseOf f.cl) .read (p % 2 ^ 60) 512 = true →
        let s1 := s.releasePkg f.cl
        exec (.sysq q d) s = .next ((s1.pendNew f (.sysq q d) (.sysq none)).send 5 f.cl f.unit 1024 0
          (.sysq (match s1.bindOf f.cl with | some b => b.jcnt | none => 4096) (s1.cl f.cl).sid s1.serial q.toNat (p % 2 ^ 60)
            { gal := f.cl, pos := (s1.gal f.cl).p })))) ∧
    (∀ k c j q s1, Arrives s k c j q s1 → q.instr = .rawait d →
      let p := q.fir.opA.lane 0
      let r := (s.ctx (p / 2 ^ 50 % 2 ^ 10)).rings.get {} (p % 16)
      let ptr := r.base.toNat + r.rslot % 2 ^ r.log2n * r.slot
      ((s.cl q.fir.cl).stopped = false → ptr < 2 ^ 60 → r.rslot ≠ r.wslot →
        s.serveReq k = s1.pendSet c j (.acquiring (r.filled.get none r.rslot).toList ptr)) ∧
      ((s.cl q.fir.cl).stopped = true ∨ r.rslot = r.wslot → s.serveReq k = s1.pendSet c j .wait)) ∧
    (∀ c k, Waits s c k f (.tlwait sel d) .wait →
      (f.opB.lane 0 ≤ (s.timeline c sel).1 → Tested s c k (.acquiring (s.timeline c sel).2.toList (s.timeline c sel).1)) ∧
      ((s.timeline c sel).1 < f.opB.lane 0 → Tested s c k .wait)) ∧
    (∀ c k,
      let x := s.ctx c
      let m := f.opA.lane 0
      let r := x.ready &&& m
      let stamps (m : Nat) : List Stamp := (x.tagStamps.filter (fun p => m.testBit p.1)).map (·.2)
      (Waits s c k f (.wtany d) .wait →
        (r ≠ 0 ∨ m = 0 → Tested s c k (.acquiring (stamps r) r)) ∧ (r = 0 → m ≠ 0 → Tested s c k .wait)) ∧
      (Waits s c k f (.wtall d) .wait →
        (r = m → Tested s c k (.acquiring (stamps m) 0)) ∧ (r ≠ m → Tested s c k .wait)) ∧
      (Waits s c k f (.wtff d) .wait →
        (∀ b < 64, r.testBit b = true → (∀ j < b, r.testBit j = false) → Tested s c k (.acquiring (stamps (2 ^ b)) b)) ∧
        (m = 0 → Tested s c k (.acquiring [] 64)) ∧ (r = 0 → m ≠ 0 → Tested s c k .wait))) ∧
    (∀ c k,
      let p := f.opA.lane 0
      let r := (s.ctx (p / 2 ^ 50 % 2 ^ 10)).rings.get {} (p % 16)
      let ptr := r.base.toNat + r.rslot % 2 ^ r.log2n * r.slot
      Waits s c k f (.rawait d) .wait →
      (ptr < 2 ^ 60 → r.rslot ≠ r.wslot → Tested s c k (.acquiring (r.filled.get none r.rslot).toList ptr)) ∧
      (r.rslot = r.wslot → Tested s c k .wait)) ∧
    (∀ c k l v i, Waits s c k f i (.acquiring l v) →
      (OwnStamps c l →
        (i = .tlwait sel d → Completes s c k f [(d.da, a), (d.db, newScalar f 6 v)]) ∧
        (i = .wtall d → Completes s c k f [(d.da, a), (d.db, a)]) ∧
        (i = .wtany d ∨ i = .wtff d ∨ i = .rawait d → Completes s c k f [(d.da, newScalar f 6 v), (d.db, newScalar f 6 v)])) ∧
      (¬ OwnStamps c l → s.acqReady c (acqOf c l) = true → s.markerRoom c (acqOf c l) = true → i = .tlwait sel d →
        exec (.waitComplete c k) s = .next ((((s.acquire c (acqOf c l)).pendDel c k).waitFired c f).emit f [(d.da, a), (d.db, newScalar f 6 v)])) ∧
      (¬ OwnStamps c l → s.acqReady c (acqOf c l) = false → exec (.waitComplete c k) s = .next s)) ∧
    (∀ c k v, Waits s c k f (.sysq q d) (.sysq (some v)) → Completes s c k f [(d.da, a), (d.db, newScalar f 6 v)])

/-- 12 R270, 16 R337 to R344: traps, flags, counters, identity, breakpoints and system registers. -/
def Obligations.SystemNodes : Prop :=
  ∀ (n16 : BitVec 16) (reg : BitVec 12) (lev : BitVec 2) (d : Dests) (s : State) (f : Firing), Acts s f →
    let a := forwarded f f.opA f.tag
    let x := s.cl f.cl
    let record (code cause : Nat) (s : State) : State := s.jobRecord code f.cl f.unit f.node 0 f.tag cause
    let trap := n16.toNat + f.opA.lane 0 % 2 ^ 64 * 2 ^ 64 + f.opA.pmask % 2 ^ 32 * 2 ^ 128
    let address (p : Nat) : RegAddr := { block := p / 2 ^ 48 % 2 ^ 4, unit := p / 2 ^ 38 % 2 ^ 10, index := p / 2 ^ 6 % 2 ^ 12 }
    let hit := x.brk.testBit 18 = true ∧ (x.brk.testBit 17 = true ∨ x.brk % 2 ^ 16 = n16.toNat)
    (f.opA.cl2 = 6 → exec (.trap false n16 d) s = .next ((record 0x301 trap s).emitBoth f d a) ∧ Ends (.trap true n16 d) s f 0x301 trap) ∧
    (f.opA.cl2 ≠ 6 → ∀ e, Ends (.trap e n16 d) s f 0x203 0) ∧
    Sends (.flags d) s f d (newScalar f 6 ((s.peOf f).flags % 128)) ∧
    (∀ m, Holds f.opA m → exec (.flclr d) s = .next ((s.modPe f.cl f.unit (fun p => { p with
      flags := p.flags - (p.flags &&& (m % 128)), now := p.now - (p.now &&& (m % 128)) })).emitBoth f d a)) ∧
    Sends (.perf reg d) s f d (newScalar f 6 (if reg.toNat = 0x0F8 then s.cycles f.cl else x.reg reg.toNat)) ∧
    Sends (.cycl d) s f d (newScalar f 6 (s.cycles f.cl)) ∧
    Sends (.subcnt d) s f d (newScalar f 6 x.ctx.subst) ∧
    Sends (.ident .cl d) s f d (newScalar f 6 (f.cl / 256 * 2 ^ 10 + f.cl)) ∧
    Sends (.ident .unit d) s f d (newScalar f 6 f.unit) ∧
    (∀ b k sl, s.slotOf f.cl = some (k, sl) → b = Bind.of sl.words → Sends (.ident .part d) s f d (newScalar f 6
      ((b.hm1 + 1) * 2 ^ 24 + (b.wm1 + 1) * 2 ^ 16 + (gridY (f.cl % 256) - b.row0) * 2 ^ 8 + (gridX (f.cl % 256) - b.col0)))) ∧
    ((∀ k ∈ s.present, k < 4) → ∃ dies, dies < 16 ∧ (∀ k < 4, dies.testBit k = s.liveDies.contains k) ∧ Sends (.ident .dev d) s f d (newScalar f 6 (dies * 2 ^ 24 + 4))) ∧
    (¬ hit → Sends (.brk n16 d) s f d a) ∧
    (hit → exec (.brk n16 d) s = .next (((record 0x303 0 s).emitBoth f d a).haltStart f.cl (x.brk.testBit 16))) ∧
    (∀ p, Holds f.opA p → s.ptrCause f.cl [6] p = none →
      let to_ := s.regPlace f.cl (address p)
      exec (.sysrd d) s = .next (requested s f (.sysrd d) to_.1 to_.2) ∧
      (∀ v, Holds f.opB v → exec (.syswr d) s = .next (requested s f (.syswr d) to_.1 to_.2))) ∧
    (∀ k c j q s1, Arrives s k c j q s1 →
      let r := address (q.fir.opA.lane 0)
      (q.instr = .sysrd d → s.serveReq k = s1.pendSet q.fir.cl q.id (.request (some (s1.regRead r)))) ∧
      (q.instr = .syswr d → s.serveReq k =
        (s1.regWrite .privForme r (q.fir.opB.lane 0)).pendSet q.fir.cl q.id (.request (some 0)))) ∧
    (∀ v, Answered s f (.sysrd d) v [(d.da, newScalar f 6 v), (d.db, newScalar f 6 v)]) ∧
    Answered s f (.syswr d) 0 [(d.da, a), (d.db, a)] ∧
    (∀ p k, Holds f.opA p → s.ptrCause f.cl [6] p = some k →
      Ends (.sysrd d) s f 0x100 k ∧ ((∃ v, Holds f.opB v) → Ends (.syswr d) s f 0x100 k)) ∧
    Sends (.eod lev d) s f d { a with eod := lev.toNat }

namespace Sys2Proof.Claims
open Sys2Proof.Machine

/-- The fields of a ring's configuration word: SLOT, LOG2N, MODE (05 R114). -/
def ringFields (cfg : Nat) (g : Ring) : Ring :=
  { g with slot := cfg / 2 ^ 16 % 2 ^ 25, log2n := cfg / 2 ^ 12 % 2 ^ 4, mode := cfg.testBit 2 }

/-- The words of a launch record at a PRIO. -/
def atPrio (w : List Nat) (prio : Nat) : List Nat :=
  setBits (bindWord w 0) 58 4 prio :: w.drop 1

/-- Channels in the order that a link serves them (06 R141). -/
def servedFirst (refused : Tbl Nat) (ready : List Nat) : Option Nat :=
  match [1, 3, 2, 0, 4, 5].find? (fun v => ready.contains v && decide (256 ≤ refused.get 0 v)) with
  | some v => some v
  | none => [1, 3, 2, 0, 4, 5].find? (fun v => ready.contains v)

end Sys2Proof.Claims

open Sys2Proof Sys2Proof.Machine Sys2Proof.Claims

/-- 00 R5, 05 R102, R112, R114, 07 R159, R160, 25 R420: writes of registers by agents, under each register's own
conditions. -/
def Sys2Proof.Claims.RegisterWrites : Prop :=
  ∀ (who : Agent) (c k u : Nat) (v : Word) (s : State),
    let x := s.cl c
    let n := v.toNat
    let ring := x.ctx.rings.get {} (k % 16)
    let withRing (g : Ring) : State := s.modCtx c (fun y => { y with rings := y.rings.put (k % 16) g })
    let pe (p : PeReg) : State := s.modCtx c (fun y => { y with pe := y.pe.put u p })
    let old := x.ctx.pe.get {} u
    (u < 36 →
      (x.slot = none → n % 8 ≤ 4 → exec (.peModeWrite c u v) s = .next (pe { old with mode := n % 8 })) ∧
      (x.slot = none → exec (.peXenWrite c u v) s = .next (pe { old with xen := n % 128 })) ∧
      (x.slot ≠ none → exec (.peModeWrite c u v) s = .next s ∧ exec (.peXenWrite c u v) s = .next s) ∧
      (4 < n % 8 → exec (.peModeWrite c u v) s = .next s) ∧
      exec (.peFlagsClear c u v) s = .next (pe { old with flags := (old.flags - (old.flags &&& (n % 128))) ||| old.now })) ∧
    (let h := x.ctx.chan (k % 4)
     h.busy = false → h.frozen = false → (k % 4 = 3 → x.serving = false) → n ≠ 0 →
      exec (.chHeadWrite c k v) s = .next (s.modCtx c (fun y => { y with chans := y.chans.put (k % 4) { h with
        busy := true, head := v, cur := 0, rec_ := none, issueA := (s.gal c).a, waiting := decide ((s.gal c).d < (s.gal c).a) } }))) ∧
    ((∀ p ∈ x.ctx.setNow, n.testBit p.1 = false) → exec (.clReadyClear c v) s = .next (s.modCtx c (fun y => tagsCleared y n))) ∧
    (∀ b st, x.ctx.setNow = [(b, st)] → n.testBit b = true →
      exec (.clReadyClear c v) s = .next (s.modCtx c (fun y => setAfter (tagsCleared y n) b st))) ∧
    (ring.en = false → n / 2 ^ 16 % 2 ^ 25 ≠ 0 → n / 2 ^ 12 % 2 ^ 4 ≤ 10 → ring.base.toNat / 2 ^ 60 ≤ 1 →
      exec (.ringEnable c k v) s = .next (withRing { ringFields n ring with en := true })) ∧
    (ring.en = true → exec (.ringDisable c k) s = .next (withRing { ring with
      en := false, wslot := 0, rslot := 0, claim := 0, popc := 0, filled := [], released := [] })) ∧
    (s.present? c = true → who ≠ .host →
      exec (.registerWrite who { block := 0, unit := c, index := 0x0FA } v) s = .next (s.modCl c (fun y => { y with quietLimit := n % 2 ^ 40 }))) ∧
    (who = .host → exec (.registerWrite who { block := 0, unit := c, index := u } v) s = .next s) ∧
    exec (.registerWrite who { block := 2, unit := c, index := 0x161 } v) s = .next (s.modHub (fun h => { h with
      cqHead := n / 2 ^ 32 % 2 ^ 32, sqTail := n % 2 ^ 32 }))

/-- 16 R342, 20 R371 to R374: requests answered and queued, graphs replayed, heads bound by level, ageing and drones. -/
def Sys2Proof.Claims.FirmwareQueues : Prop :=
  ∀ (s : State) (q : Nat),
    let sq := s.queue q
    (∀ k m job sid pend ptr st, s.netMsgs.find? (·.id == k) = some m → m.pay = .sysq job sid pend q ptr st → s.arrived m = true →
      let seen := (s.die 4).mirrorBad = false ∧ st.pos ≤ (s.mirror 4 st.gal).1 ∧ st.pos ≤ (s.mirror 4 st.gal).2
      (¬ seen → exec (.sysqRequest k) s = .next s) ∧
      (∀ s1, seen → s.sysqRead sid ptr q = (s1, none) → exec (.sysqRequest k) s = .next s1) ∧
      (∀ s1 w bad, seen → s.sysqRead sid ptr q = (s1, some (w, bad)) →
        let full := (s1.queue q).depth ≤ (s1.queue q).reqs.length
        let other := (s1.queue q).job ≠ job
        let serial := s1.hub.jobSerials.get 0 job
        let request := w.bind (fun w => s1.requestOf q w bad)
        ∃ t status, exec (.sysqRequest k) s = .next t ∧ status ≤ 3 ∧ (status = 1 → full) ∧ (status = 2 → other) ∧
          (status = 3 → request = none) ∧ (full ∨ other ∨ request = none → status ≠ 0) ∧
          t.hub.jobSerials.get 0 job = (serial + 1) % 2 ^ 32 ∧
          t.netMsgs = s1.netMsgs.filter (fun x => x.id != k) ∧
          (∀ c, (t.ctx c).pend = (s1.ctx c).pend.map (fun (p : Pend) => if p.id = pend then
            { p with why := .sysq (some (serial * 2 ^ 32 + status)) } else p)) ∧
          (status ≠ 0 → (t.queue q).reqs = (s1.queue q).reqs) ∧
          (status = 0 → ∃ r, request = some r ∧ (t.queue q).reqs = (s1.queue q).reqs ++ [{ r with serial := serial }]))) ∧
    (∀ g, let gr := s.hub.graphs.get {} g
      s.hub.graphs.has g = true → gr.queue = q → gr.nodes.length + gr.groups.length ≤ (s.spareCnts sq.job).length →
      (s.gal 1026).d = (s.gal 1026).a → ∀ s1 v bad sub, s.hubRead 0 sq.sid gr.params 4096 = (s1, .ok (v, bad, sub)) →
      (s1.hubStore 0 1026 sq.sid gr.page 4096 [(0, 4096, v, !bad.isEmpty)]).isSome = true →
      ∃ t l, exec (.graphReplay g) s = .next t ∧ t.hub.nodesHeld = s.hub.nodesHeld ++ l ∧ l.length = gr.nodes.length ∧
        (∀ r ∈ l, r.kind = 0 ∧ r.queue = q ∧ (Bind.of r.words).param = gr.page) ∧
        (t.hub.graphs.get {} g).page = gr.page + 4096) ∧
    (∀ r, s.hub.nodesHeld = [r] →
      (s.afterFailed r = false → s.afterDone r = true → s.releaseNodes.hub.nodesHeld = [] ∧
        (s.releaseNodes.queue r.queue).reqs = (s.queue r.queue).reqs ++ [{ r with since := s.hub.time }]) ∧
      (s.afterFailed r = false → s.afterDone r = false → s.releaseNodes = s)) ∧
    (∀ lvl r k, s.hub.nodesHeld = [] → s.hub.due = [] → (s.hub.preStat = 0 → s.dueHolder = none) → lvl < 8 → (∀ j < lvl, s.headsAt j = []) →
      s.headsAt lvl = [(q, r)] → s.hub.rr.get 0 lvl ≤ q → r.cost ≤ sq.deficit → r.kind = 0 →
      s.bindCancelled (Bind.of (atPrio r.words sq.level)) = false → s.freeSlot = some k → sq.level < 16 →
      let paid := ((s.modHub (fun h => { h with queues := h.queues.put q { sq with deficit := sq.deficit - r.cost } })).modHub (fun h => { h with
        rr := h.rr.put lvl q })).popHead q
      (∀ t, paid.leaseCheck (Bind.of (atPrio r.words sq.level)) = (t, some true) → exec .queueBind s = .next t) ∧
      (∀ s1, paid.leaseCheck (Bind.of (atPrio r.words sq.level)) = (s1, some false) → s1.commitErr (atPrio r.words sq.level) k = 0 →
        ∃ t, exec .queueBind s = .next t ∧ (t.slot k).state = 1 ∧ (t.slot k).words = atPrio r.words sq.level ∧
          (t.slot k).drone = false ∧ (t.slot k).order = s1.hub.commits ∧ t.hub.commits = s1.hub.commits + 1 ∧
          t.hub.slotSel = k ∧ t.hub.slotErr = 0 ∧
          (t.queue q).deficit = (s1.queue q).deficit ∧ (t.queue q).reqs = (s1.queue q).reqs) ∧
      (paid.queue q).deficit = sq.deficit - r.cost ∧ (paid.queue q).reqs.length = sq.reqs.length - 1) ∧
    (∀ r rest, sq.reqs = r :: rest → sq.level < 8 → r.age < 7 → r.since + (r.age + 1) * s.hub.tAge * 1000000 ≤ s.hub.time →
      exec (.queueAge q) s = .next (s.modHub (fun h => { h with
        queues := h.queues.put q { sq with reqs := { r with age := r.age + 1 } :: rest }
        due := if r.age = 6 then h.due ++ [q] else h.due }))) ∧
    (s.hub.pwrEn = true → 98 * s.hub.pwrSet ≤ 100 * s.hub.pwrMeas → exec .droneBind s = .next s) ∧
    (∀ w more k s1, (s.hub.pwrEn = true → 100 * s.hub.pwrMeas < 98 * s.hub.pwrSet) → (s.hub.pwrEn = false → s.hub.pwrMeas < 3000) →
      s.headsAt 8 = [] → s.hub.drones = w :: more → s.freeSlot = some k → s.droneRoom 0 w = true →
      s.leaseCheck (Bind.of (atPrio w 8)) = (s1, some false) → s1.commitErr (atPrio w 8) k = 0 →
      ∃ t, exec .droneBind s = .next t ∧ (t.slot k).state = 1 ∧ (t.slot k).drone = true ∧ (t.slot k).words = atPrio w 8)

/-- 06 R141, 25 R425 to R429, 26 R437, 22 R402: arbitration, credits, flits, acknowledgement, replay, retraining and lane
failures on a module of a die link. -/
def Obligations.DieLinks : Prop :=
  ∀ (s : State) (l m : Nat) (dir : Bool), m < 4 →
    let x := s.linkMod l m
    let side (t : State) : LinkDir := if dir then (t.linkMod l m).up else (t.linkMod l m).down
    let other (t : State) : LinkDir := if dir then (t.linkMod l m).down else (t.linkMod l m).up
    let d := side s
    let o := other s
    let put (d' o' : LinkDir) (y : LinkMod) : LinkMod := if dir then { y with up := d', down := o' } else { y with down := d', up := o' }
    let with_ (y : LinkMod) (s : State) : State := { s with links := s.links.put (4 * l + m) y }
    let ackOf (y : LinkDir) : Nat := (y.rxexp + 4095) % 4096
    let drop (held : List Flit) (ack : Nat) : List Flit :=
      match held.findIdx? (fun f => f.seq == ack) with | some i => held.drop (i + 1) | none => held
    let wait := s.netMsgs.filter (fun y => !y.inLink && y.hops.head? == some (l, m, dir))
    let go := s.payload l m dir
    (let t := s.refuseCycle
     (∀ v < 6, (side t).refused.get 0 v = if ∃ q ∈ wait, q.vc = v then d.refused.get 0 v + 1 else 0) ∧
     (t.linkMod l m).stat = if x.stat = 1 then 2 else x.stat) ∧
    ((∀ q ∈ wait, d.refused.get 0 q.vc < 256) → exec (.vcStarvationPriority (4 * l + m) dir) s = .next s) ∧
    ((∃ q ∈ wait, 256 ≤ d.refused.get 0 q.vc) → exec (.vcStarvationPriority (4 * l + m) dir) s = exec (.flitSend l m dir) s) ∧
    (go.map (fun g => g.n)).sum ≤ 30 ∧
    (d.cut = none →
      (∀ g ∈ go, ∃ y ∈ wait, y.id = g.id ∧ y.vc = g.vc ∧ g.first = 0) ∧
      ((∀ q ∈ wait, vcBuffers q.vc ≤ d.used.get 0 q.vc) → exec (.flitSend l m dir) s = .next s) ∧
      (∀ v q, servedFirst d.refused (wait.map (fun q => q.vc)) = some v → wait.find? (fun q => q.vc == v) = some q →
        d.used.get 0 v < vcBuffers v → go.head? = some ⟨q.id, v, 0, min 30 (msgBeats q.id)⟩)) ∧
    (x.stat = 2 → d.nakWire = none → d.heldF.length < 256 → go ≠ [] → ∃ t f, exec (.flitSend l m dir) s = .next t ∧
      (side t).txseq = (d.txseq + 1) % 4096 ∧ (side t).wire = d.wire ++ [f] ∧ (side t).heldF = d.heldF ++ [f] ∧
      f = { seq := d.txseq, ack := ackOf o, kind := .data, credit := s.creditsDue x dir, frags := go } ∧
      (∀ v, (side t).used.get 0 v = d.used.get 0 v + (go.filter (fun g => g.first == 0 && g.vc == v)).length) ∧
      t.netMsgs = s.netMsgs.map (fun (y : Msg) => if (go.filter (fun g => g.first == 0)).any (fun g => g.id == y.id) then
        { y with inLink := true } else y)) ∧
    (x.stat ≠ 2 ∨ d.nakWire ≠ none ∨ 256 ≤ d.heldF.length → exec (.flitSend l m dir) s = .next s) ∧
    (∀ f rest flips, d.wire = f :: rest →
      let sound := flitSound (flipBits f.word flips)
      let ended := (f.frags.filter (fun g => g.first + g.n == msgBeats g.id)).map (fun g => g.id)
      (flips = [] → sound = true) ∧
      (sound = true → f.kind = .data → f.seq = d.rxexp → ∃ t, exec (.flitReceive l m dir flips) s = .next t ∧
        (side t).wire = rest ∧ (side t).rxexp = (d.rxexp + 1) % 4096 ∧ (side t).nak = false ∧
        (other t).heldF = drop o.heldF f.ack ∧ (other t).used = o.used.map (fun p => (p.1, p.2 - f.credit.get 0 p.1)) ∧
        t.netMsgs = s.netMsgs.map (fun (y : Msg) => if ended.contains y.id then { y with inLink := false, hops := y.hops.drop 1 } else y)) ∧
      (sound = true → f.kind = .data → f.seq ≠ d.rxexp →
        exec (.flitReceive l m dir flips) s = .next (with_ (put { d with wire := rest } o x) s)) ∧
      (sound = true → f.kind = .control ∨ f.kind = .nak → ∃ t, exec (.flitReceive l m dir flips) s = .next t ∧
        (side t).wire = rest ∧ (side t).rxexp = d.rxexp ∧ (other t).heldF = drop o.heldF f.ack ∧
        (other t).nakWire = (if f.kind = .nak then some f.ack else o.nakWire) ∧ t.netMsgs = s.netMsgs) ∧
      (sound = true → f.kind = .retrain → ∃ t, exec (.flitReceive l m dir flips) s = .next t ∧
        (o.marked = false → (side t).marked = true ∧ (t.linkMod l m).stat = x.stat) ∧
        (o.marked = true → (side t).marked = false ∧ (other t).marked = false ∧ (t.linkMod l m).stat = 2 ∧
          (side t).nak = true ∧ (other t).nak = true ∧
          ∃ g h, (other t).wire = o.wire ++ [g] ∧ g.kind = .nak ∧ (side t).wire = rest ++ [h] ∧ h.kind = .nak)) ∧
      (sound = false → ∃ t, exec (.flitReceive l m dir flips) s = .next t ∧ (side t).err = (d.err + 1) % 2 ^ 48 ∧
        (side t).rxexp = d.rxexp ∧ (side t).nak = true ∧ t.netMsgs = s.netMsgs ∧ (other t).heldF = o.heldF ∧
        (d.nak = true → (other t).wire = o.wire) ∧
        (d.nak = false → ∃ g, (other t).wire = o.wire ++ [g] ∧ g.kind = .nak ∧ g.ack = ackOf d ∧ g.frags = []))) ∧
    (∀ a, d.nakWire = some a → exec (.nakReplay l m dir) s = .next (with_ (put { d with
      heldF := drop d.heldF a, wire := d.wire ++ drop d.heldF a
      rpl := (d.rpl + (drop d.heldF a).length) % 2 ^ 48, nakWire := none } o x) s)) ∧
    (x.stat = 2 → ∃ t, exec (.controlFlit l m dir) s = .next t ∧ (side t).heldF = d.heldF ∧ (side t).txseq = d.txseq ∧
      (side t).wire = d.wire ++ [{ seq := d.txseq, ack := ackOf o, kind := .control, credit := s.creditsDue x dir, frags := [] }] ∧
      t.netMsgs = s.netMsgs) ∧
    (∀ why, x.stat = 2 →
      let y (t : State) := t.linkMod l m
      let again (i : Instr) (spares width repaired : Nat) : Prop := ∃ t g h, exec i s = .next t ∧ (y t).stat = 3 ∧
        (y t).width = width ∧ (y t).repaired = repaired ∧ (side t).spares = spares ∧ (other t).spares = o.spares ∧
        (y t).up.wire = x.up.wire ++ [g] ∧ (y t).down.wire = x.down.wire ++ [h] ∧ g.kind = .retrain ∧ h.kind = .retrain ∧
        (y t).up.marked = false ∧ (y t).down.marked = false ∧ (y t).up.heldF = x.up.heldF ∧ (y t).down.heldF = x.down.heldF
      (why = .request → again (.laneFailure l m dir why) d.spares x.width x.repaired) ∧
      (∀ sound, why = .lane sound → 0 < d.spares → again (.laneFailure l m dir why) (d.spares - 1) x.width (x.repaired + 1)) ∧
      (why = .lane true → d.spares = 0 → again (.laneFailure l m dir why) 0 32 x.repaired) ∧
      (why = .lane false → d.spares = 0 → exec (.laneFailure l m dir why) s =
        .next ((with_ { x with stat := 0 } s).dieFault (if l < 4 then min l ((l + 1) % 4) else l - 4))))

namespace Sys2Proof.Claims
open Sys2Proof.Machine

/-- An entry lies in the scope of an invalidation (03 R54): 0 one page of a size, 1 a SID, 2 all. -/
def Covered (scope sid va size : Nat) (e : TlbEnt) : Prop :=
  (scope = 0 ∧ e.sid = sid ∧ e.size = size ∧ e.page = va / 8 / 2 ^ (if size = 0 then 16 else if size = 1 then 21 else 30)) ∨
  (scope = 1 ∧ e.sid = sid) ∨ scope = 2

/-- After it, a TLB holds the entries it held that are out of scope. -/
def Invalidated (scope sid va size : Nat) (old new : List TlbEnt) : Prop :=
  (∀ e, e ∈ new ↔ e ∈ old ∧ ¬ Covered scope sid va size e)

/-- The invalidation starts: every TLB drops what is in scope, and BUSY rises. -/
def StartsInvalidation (i : Instr) (s : State) (scope sid va size : Nat) : Prop :=
  ∃ t, exec i s = .next t ∧ t.hub.invBusy = true ∧ (∀ c, Invalidated scope sid va size (s.cl c).tlb (t.cl c).tlb) ∧
    (∀ c, (t.cl c).walkCache = []) ∧
    (∀ d, Invalidated scope sid va size (s.die d).l2 (t.die d).l2) ∧
    Invalidated scope sid va size s.hub.hubTlb t.hub.hubTlb ∧ Invalidated scope sid va size s.hub.netTlb t.hub.netTlb ∧
    Invalidated scope sid va size s.hub.stoTlb t.hub.stoTlb ∧ t.mem = s.mem ∧ ∀ c, (t.cl c).ctx = (s.cl c).ctx

/-- A SID is quiesced: the clusters that run a launch of it begin to halt. -/
def Quiesces (s t : State) (sid : Nat) : Prop :=
  sid ∈ t.hub.quiesced ∧ (sid ∉ s.hub.quiesced → ∀ c ∈ s.clustersOf sid, (s.cl c).halt = .run →
    (t.cl c).halt = .halting ∧ (t.cl c).quiesced = true)

/-- A sound walk's leaf for an address: its entry and where it stands. -/
def Leaf (s : State) (sid va e ptr : Nat) : Prop := ∃ lvl m, s.walk sid va = .leaf e ptr lvl m

end Sys2Proof.Claims

open Sys2Proof Sys2Proof.Machine Sys2Proof.Claims

/-- 03 R50 to R53, R56: a walk ends in a translation, in a fault or at a lost table, which quiesces its SIDs. -/
def Sys2Proof.Claims.Walks : Prop :=
  ∀ (s : State) (c k : Nat),
    (∀ w s1, ((s.cl c).walks.take 4).find? (fun w => w.id == k && w.lost.isNone) = some w →
      let cache := (s.cl c).walkCache
      s.fetchLines c (4096 + k) w.holder (((s.walkReads cache w.sid w.va).map (fun p => p / 256)).eraseDups) = (true, s1) →
      (∀ e p lvl m, s1.walkVia cache w.sid w.va = .leaf e p lvl m →
        let sz := e / 2 ^ 6 % 4
        let ob := if sz = 0 then 16 else if sz = 1 then 21 else 30
        let frame := e / 2 ^ 16 % 2 ^ 28
        let pa := frame * 2 ^ 16 + w.va / 8 % 2 ^ ob
        let user := (s1.cl c).forme.priv = false
        let allowed := (w.kind = .read ∨ e.testBit 4 = true) ∧ (w.kind = .write ∨ e.testBit 3 = true) ∧ (user → e.testBit 5 = true)
        let placed := (lvl = 0 ∧ sz ≤ 1 ∨ lvl = 1 ∧ sz = 2) ∧ frame % 2 ^ (ob - 16) = 0
        (placed → allowed → (s1.home pa).isSome → w.prefs = [] → ∃ t ent, exec (.walkComplete c k) s = .next t ∧
          (t.cl c).tlb.head? = some ent ∧ (t.die (c / 256)).l2.head? = some ent ∧ ent.sid = w.sid ∧ ent.pba w.va = pa * 8 + w.va % 8 ∧
          ent.rd = e.testBit 3 ∧ ent.wr = e.testBit 4 ∧ ent.user = e.testBit 5 ∧ ent.dirty = e.testBit 60 ∧ ent.cp = e.testBit 61 ∧
          (t.cl c).walks = (s1.cl c).walks.filter (fun x => x.id != k) ∧
          (t.cl c).walkCache = s1.walkCached cache w.sid w.va ∧ (t.cl c).walkCache.length ≤ 32) ∧
        (∀ cause, (¬ placed ∧ cause = 2) ∨ (placed ∧ ¬ allowed ∧ cause = 3) ∨ (placed ∧ allowed ∧ s1.home pa = none ∧ cause = 4) →
          (w.orphan = true → ∃ t, exec (.walkComplete c k) s = .next t ∧ t.hub.faults = s1.hub.faults ∧ (t.cl c).stat = (s1.cl c).stat) ∧
          (w.orphan = false → w.chan = none → w.port = none → isPref ((s1.cl c).instr w.fir.unit w.fir.node) = false → w.fir.cl = c →
            (s1.cl c).stat = .running → ∃ t r, exec (.walkComplete c k) s = .next t ∧ (t.cl c).stat = .faulting ∧ t.hub.faults = s1.hub.faults ++ [r] ∧
              r.code = 0x104 ∧ r.cause = xlateCause cause w.va))) ∧
      (∀ p m, s1.walkVia cache w.sid w.va = .lost p m → ∃ t, exec (.walkComplete c k) s = .next t ∧ (t.ctx c).matches_ = (s1.ctx c).matches_ ∧
        (t.cl c).walks = (s1.cl c).walks.map (fun v => if v.id = k then { v with lost := some p } else v))) ∧
    (∀ w p, (s.cl c).walks.find? (fun w => w.id == k && !w.reported) = some w → w.lost = some p → ∃ t r l,
      exec (.pteLost c k) s = .next t ∧ t.hub.faults = s.hub.faults ++ r :: l ∧ r.queue = 4095 ∧ r.code = 0x505 ∧ r.cause = lostCause p ∧
        (∀ q ∈ l, q.code = 0x505 ∧ q.cause = lostCause p) ∧ Quiesces s t w.sid) ∧
    (∀ pa sids, (∃ p ∈ s.cls, ∃ w ∈ p.2.walks, w.reported = true ∧ w.lost = some pa) →
      ∃ t, exec (.quiesceSharedSids pa sids) s = .next t ∧ ∀ sid ∈ sids, sid ∈ t.hub.quiesced)

/-- 03 R54, R56, R71, R72, R58, R61: invalidation, dirty bits, write-back, and the life of a lease. -/
def Sys2Proof.Claims.Invalidation : Prop :=
  ∀ (s : State) (sid va size : Nat),
    (s.hub.invBusy = false →
      StartsInvalidation (.tlbInvPage sid va size) s 0 sid va size ∧ StartsInvalidation (.tlbInvSid sid) s 1 sid 0 0 ∧
      StartsInvalidation .tlbInvAll s 2 0 0 0) ∧
    (s.hub.invBusy = true → exec (.tlbInvPage sid va size) s = .next s ∧ exec (.tlbInvSid sid) s = .next s ∧ exec .tlbInvAll s = .next s) ∧
    (let r := s.hub.invRun
     let covers (q : Nat) : Prop := r.1 = 2 ∨ q = r.2.1
     s.hub.invBusy = true →
      (∀ c x, (c, x) ∈ s.cls → (x.inFlight = true → ∀ q ∈ x.sid :: x.oldSids, ¬ covers q) ∧ ∀ f ∈ x.fills, ¬ covers f.sid) →
        ∃ t, exec .tlbInvDone s = .next t ∧ t.hub.invBusy = false ∧
          (r.1 ≠ 0 → ∀ q, q ∈ t.hub.quiesced ↔ q ∈ s.hub.quiesced ∧ ¬ (r.1 = 2 ∨ q = r.2.1)) ∧
          (r.1 = 0 → t.hub.quiesced = s.hub.quiesced ∧ t.cls = s.cls)) ∧
    (∀ c x q, s.hub.invBusy = true → (c, x) ∈ s.cls → s.hub.invRun.1 = 2 ∨ q = s.hub.invRun.2.1 →
      (q ∈ x.sid :: x.oldSids ∧ x.inFlight = true) ∨ (∃ f ∈ x.fills, f.sid = q) → exec .tlbInvDone s = .next s) ∧
    (∀ c k w ent e p, (s.cl c).dirties.find? (fun w => w.id == k) = some w → s.tlbFind c w.sid w.va = some ent → Leaf s w.sid w.va e p →
      ∃ t, exec (.dirtyBitUpdate c k) s = .next t ∧ (t.cl c).tlb.head? = some { ent with dirty := true, cp := false } ∧
        (t.cl c).dirties = (s.cl c).dirties.filter (fun x => x.id != k) ∧
        t.mem = (s.updatePte p (fun v => setBits (setBits v 60 1 1) 61 1 0)).mem) ∧
    (∀ e p, Leaf s sid va e p → s.hub.invBusy = false → e.testBit 62 = true → e.testBit 60 = true →
      (∀ x ∈ s.hub.scans, ¬ (x.1 = sid ∧ x.2.1 = va)) → ∃ t, exec (.writeBackScan sid va) s = .next t ∧ t.hub.invBusy = true ∧
        t.hub.invRun = (0, sid, va, e / 2 ^ 6 % 4) ∧ t.hub.scans = s.hub.scans ++ [(sid, va, none)] ∧
        t.mem = (s.updatePte p (fun v => setBits v 61 1 1)).mem) ∧
    (∀ e p lvl m pos, s.hub.scans.find? (fun x => x.1 == sid && x.2.1 == va) = some (sid, va, some pos) →
      (∀ q ∈ pos, q.2 ≤ (s.gal q.1).d) → s.walk sid va = .leaf e p lvl m →
      let s1 := (s.modHub (fun h => { h with scans := h.scans.filter (fun x => !(x.1 == sid && x.2.1 == va)) })).storageRead sid va e lvl
      (e.testBit 61 = true → exec (.writeBackComplete sid va) s = .next (s1.updatePte p (fun v => setBits (setBits v 60 1 0) 61 1 0))) ∧
      (e.testBit 61 = false → exec (.writeBackComplete sid va) s = .next s1)) ∧
    (∀ k v bad sub s1, (s.slot k).state = 1 → (s.slot k).leaseGranted = false →
      s.hubRead 0 (Bind.of (s.slot k).words).sid (ptrOff (Bind.of (s.slot k).words).lease) 2048 = (s1, .ok (v, bad, sub)) →
      let l := (List.range 16).filterMap (fun j =>
        if (v / 2 ^ (128 * j + 127)) % 2 = 1 then some (v / 2 ^ (128 * j) % 2 ^ 60, v / 2 ^ (128 * j + 64) % 2 ^ 60, decide ((v / 2 ^ (128 * j + 126)) % 2 = 1))
        else none)
      (∀ pages, s1.leasePages (Bind.of (s.slot k).words).sid l = some pages → exec (.leaseGranted k) s = .next
        ((s1.modHub (fun h => h.countLeases pages true)).modSlot k (fun x => { x with leaseGranted := true, lease := l, pages := pages }))) ∧
      (s1.leasePages (Bind.of (s.slot k).words).sid l = none → exec (.leaseGranted k) s = .next s1)) ∧
    (∀ (h : Hub) p, (h.countLeases [p] true).leases.get 0 p = h.leases.get 0 p + 1 ∧
      (h.countLeases [p] false).leases.get 0 p = h.leases.get 0 p - 1) ∧
    (∀ k, (s.slot k).state = 3 → s.signalling (s.slot k) = false → (∀ p ∈ (s.slot k).endA, p.2 ≤ (s.gal (endGal p.1)).d) →
      exec (.leaseRelease k) s = .next (((s.modHub (fun h => h.countLeases (s.slot k).pages false)).modCnt (Bind.of (s.slot k).words).lcnt
        (fun y => { y with trigs := (s.slot k).trig.map (·.2) })).modSlot k (fun _ => {}))) ∧
    (∀ k p, p ∈ (s.slot k).endA → (s.gal (endGal p.1)).d < p.2 → exec (.leaseRelease k) s = .next s)

open Sys2Proof Sys2Proof.Machine Sys2Proof.Claims

/-- 04 R81, R82, R98: entries drained in order of position, folded per home in galley order, markers, lost entries, and
the positions that the mirrors hold. -/
def Sys2Proof.Claims.Draining : Prop :=
  ∀ (s : State) (g : Nat),
    let y := s.gal g
    let engine := if g < 1024 then g else 256 * s.hubHome
    let without (e : GEnt) (s : State) : State := s.modGal g (fun y => { y with ents := y.ents.filter (fun x => x.pos != e.pos) })
    (∀ e, y.ents.find? (fun x => !x.sent) = some e →
      ((s.entryBad g e.pos).1 = false →
        (e.kind = 2 → exec (.drainEntry g) s = .next (without e s)) ∧
        (e.kind ≠ 2 → ∃ t, exec (.drainEntry g) s = .next t ∧ t.mem = s.mem ∧
          (t.gal g).ents = y.ents.map (fun x => if x.pos = e.pos then { x with sent := true, poison := e.poison || (s.entryBad g e.pos).2 } else x) ∧
          ∃ l, t.netMsgs = s.netMsgs ++ l ∧ (s.farHome engine e.pba = false → l = []) ∧
            (s.farHome engine e.pba = true → ∃ m, l = [m] ∧ m.pay = .drained g e.pos ∧ m.vc = 4))) ∧
      ((s.entryBad g e.pos).1 = true → exec (.drainEntry g) s = .next s ∧
        (∃ t r l, exec (.galLost g) s = .next t ∧ t.hub.faults = s.hub.faults ++ r :: l ∧ r.queue = 4095 ∧ r.code = 0x504 ∧
          r.cause = Config.cause 0x504 [g, e.pos] ∧ (e.owner = none → l = [] ∧ r.sid = 0 ∧ r.slot = 0 ∧ r.launch = 0) ∧
          (∀ slot queue sid launch, e.owner = some (slot, queue, sid, launch) →
            l = [{ r with queue := queue }] ∧ r.sid = sid ∧ r.slot = slot ∧ r.launch = launch) ∧ t.mem = s.mem ∧ (t.gal g).ents = y.ents.filter (fun x => x.pos != e.pos)))) ∧
    (∀ home e, y.ents.find? (fun x => x.kind != 2 && s.home (x.pba / 8) == some home) = some e →
      (e.sent = false → exec (.compactorFold g home) s = .next s) ∧
      (s.atomicHolds g e.pos home = true ∨ s.drainAway g e.pos = true → exec (.compactorFold g home) s = .next s) ∧
      (e.sent = true → s.atomicHolds g e.pos home = false → s.drainAway g e.pos = false → e.left ≠ [] → ∃ i ∈ e.left, ∃ t,
        exec (.compactorFold g home) s = .next t ∧
        (let lo := max e.pba (e.pba / 512 * 512 + 64 * i)
         let hi := min (e.pba + e.len) (e.pba / 512 * 512 + 64 * i + 64)
         t.mem = s.mem.writeBits lo (hi - lo) (e.data / 2 ^ (lo - e.pba) % 2 ^ (hi - lo))) ∧
        (e.left = [i] → (∀ x ∈ y.ents, x.pos = e.pos → x = e) → (t.gal g).ents = y.ents.filter (fun x => x.pos != e.pos)) ∧
        (e.left ≠ [i] → (∀ x ∈ y.ents, x.pos = e.pos → x = e) →
          (t.gal g).ents = y.ents.map (fun x => if x.pos = e.pos then { x with folded := x.folded ||| 2 ^ i } else x)) ∧
        (e.poison = true → t.sectorBad (e.pba / 512) = true) ∧
        (e.poison = false → s.sectorBad (e.pba / 512) = false → t.poison = s.poison))) ∧
    (∀ d, (s.die d).mirrorBad = false → d = 4 ∨ s.dieLive d = true →
      let kept : Nat × Nat := ((s.die d).mirror.get (0, 0) g)
      (dieOfAgent g = d → exec (.mirrorUpdate d g) s = .next (s.modDie d (fun x => { x with mirror := x.mirror.put g (y.p, y.d) }))) ∧
      (dieOfAgent g ≠ d → s.mirrorMsg d g = none → kept ≠ (y.p, y.d) →
        exec (.mirrorUpdate d g) s = .next (s.send 5 g 0 (256 * d) 0 (.mirrorPD d g y.p y.d))) ∧
      (dieOfAgent g ≠ d → ∀ m p q, s.mirrorMsg d g = some m → s.arrived m = true → m.pay = .mirrorPD d g p q →
        exec (.mirrorUpdate d g) s = .next ((s.dropMsg m.id).modDie d (fun x => { x with
          mirror := x.mirror.put g (max p kept.1, max q kept.2) })))) ∧
    (∀ d c, s.present? c = true → c < 1024 → ∃ t, exec (.mirrorRebuild d) s = .next t ∧ (t.die d).mirrorBad = false ∧
      (t.die d).mirror.get (0, 0) c = ((s.cl c).gal.p, (s.cl c).gal.d))

/-- 02 R28, R29, R35, R42, 25 R421: direct stores to base images, the view cache's invalidation, and the banks. -/
def Sys2Proof.Claims.StoresAndBanks : Prop :=
  ∀ (s : State) (c : Nat) (sid addr : Nat) (data : List Byte), s.mem.wf = true →
    let x := s.cl c
    let image (pa : Nat) (t : State) : Prop := (∀ a, t.mem.read a =
      if pa ≤ a ∧ a < pa + data.length then (nth data (a - pa)).getD 0 else s.mem.read a) ∧ t.cls = s.cls ∧ t.netMsgs = s.netMsgs
    ((s.home addr).isSome → (s.home (addr + data.length - 1)).isSome →
      ∃ t, exec (.systemCoreStore sid addr true data) s = .next t ∧ image addr t ∧ t.poison = s.poison) ∧
    (∀ t, s.hubStore 0 1026 sid addr (8 * data.length) [(0, 8 * data.length, leNat data, false)] = some t →
      exec (.systemCoreStore sid addr false data) s = .next t) ∧
    (s.hubStore 0 1026 sid addr (8 * data.length) [(0, 8 * data.length, leNat data, false)] = none →
      exec (.systemCoreStore sid addr false data) s = .next (s.hubStuck 0 sid addr (8 * data.length))) ∧
    (∀ base size, s.hub.hostWin = some (base, size) →
      let inHbm := ∀ k < data.length, ∃ d < 4, s.home (addr + k) = some d
      (base ≤ addr → addr + data.length ≤ base + size → inHbm → ∃ t, exec (.hdmWindowStore addr data) s = .next t ∧ image addr t ∧ t.poison = s.poison) ∧
      (addr < base ∨ base + size < addr + data.length ∨ ¬ inHbm → exec (.hdmWindowStore addr data) s = .next s)) ∧
    (x.vcBusy = false → ∃ t, exec (.vcInvalAll c) s = .next t ∧ (t.cl c).vc = [] ∧ (t.cl c).vcBusy = true ∧
      (∀ f ∈ (t.cl c).fills, f.reissue = true) ∧ (t.cl c).ctx = x.ctx) ∧
    (x.vcBusy = true → ∃ t, exec (.vcInvalAll c) s = .next t ∧ ∀ k, t.cl k = s.cl k) ∧
    exec (.vcInvalDone c) s = .next (s.modCl c (fun x => { x with vcBusy := false })) ∧
    (∀ (die : BitVec 2) (cl : BitVec 8) (bank : BitVec 5), c = 256 * die.toNat + cl.toNat →
      let b := bank.toNat
      let waiting := x.banks.filter (fun q => q.got.isNone && q.off / 256 % 32 == b && !(q.store.isSome && x.marked 0 (q.off / 256)))
      let refused (q : BankReq) : Nat := x.bankRefused.get 0 (b * 16 + q.who)
      (x.bankBusy.has b = true ∨ waiting = [] → exec (.aBufferBankPriority die cl bank) s = .next s) ∧
      (x.bankBusy.has b = false → waiting ≠ [] → (∀ q ∈ waiting, q.who < 9) →
        ∃ q ∈ waiting, ∃ v y, exec (.aBufferBankPriority die cl bank) s = .next (s.modCl c (fun _ => y)) ∧
          (∀ r ∈ waiting, r.who < q.who → refused r < 16) ∧
          (∀ r ∈ waiting, r.who = q.who → some r.key = x.saveKey → some q.key = x.saveKey) ∧
          (refused q < 16 → ∀ r ∈ waiting, refused r < 16 ∧ q.who ≤ r.who) ∧
          y.banks = x.banks.map (fun p => if p = q then { p with got := some v } else p) ∧
          (q.store = none → v = bufRead x.abuf q.off q.w ∧ y.abuf = x.abuf) ∧
          (∀ d, q.store = some d → y.abuf = bufWrite x.abuf q.off q.w d) ∧
          y.bankBusy = x.bankBusy.put b (if q.store ≠ none ∧ q.w < 256 then 2 else 1, q.who) ∧
          y.bankRefused.get 0 (b * 16 + q.who) = 0) ∧
      (∀ n who, x.bankBusy = [(b, n, who)] → (∀ q ∈ waiting, q.who < 9) →
        let y := x.bankCycle
        let more := ((waiting.map (·.who)).eraseDups).filter (· != who)
        (∀ q ∈ waiting, y.bankRefused.get 0 (b * 16 + q.who) = if q.who = who then refused q else refused q + 1) ∧
        (more ≠ [] → y.perf.get 0 0x040 = (x.perf.get 0 0x040 + more.length) % 2 ^ 48) ∧
        y.banks = x.banks.map (fun q => { q with done := q.got.isSome }) ∧
        y.bankBusy = if 1 < n then [(b, n - 1, 9)] else []))

namespace Sys2Proof.Claims
open Sys2Proof.Machine

/-- The counter after a signal that does not complete it, and its status where it does (20 R359). -/
def signalled (c : Counter) (flt : Bool) : Counter := { c with remain := c.remain - 1, flt := c.flt || flt }
def finalStatus (c : Counter) (flt : Bool) : Nat := if c.status = 5 then 4 else if (c.flt || flt) = true then 3 else 2

/-- No slot is bound, so that a counter's end frees none (20 R370). -/
def NoneBound (s : State) : Prop := ∀ k < 256, (s.slot k).state ≠ 1

/-- ERR of a COMMIT of the staging words into a slot, in order of its codes (20 R361, R363). -/
def errOf (s : State) (k : Nat) : Nat :=
  let w (j : Nat) : Nat := bindWord s.hub.slotW j
  let f (j lo n : Nat) : Nat := w j / 2 ^ lo % 2 ^ n
  let die := f 0 55 3; let row := f 0 51 4; let col := f 0 47 4; let hm1 := f 0 43 4; let wm1 := f 0 39 4
  let ptr (j m : Nat) : Bool := w j / 2 ^ 60 % 2 ^ 4 == 0 && w j % m == 0
  if f 0 63 1 = 0 ∨ f 0 32 7 ≠ 0 ∨ f 0 0 16 ≠ 0 ∨ f 4 0 16 ≠ 0 ∨ f 5 0 38 ≠ 0 then 1
  else if 8 < f 0 58 4 then 2
  else if 15 < row + hm1 ∨ 15 < col + wm1 ∨ s.dieLive die = false ∨ ∃ c ∈ partClusters die row col hm1 wm1, s.present? c = false then 3
  else if ptr 1 2048 = false ∨ ptr 2 128 = false ∨ ptr 3 2048 = false ∨ ptr 6 2048 = false ∨ w 7 / 2 ^ 60 % 2 ^ 4 ≠ 0 then 4
  else if f 4 52 12 = 0xFFF ∨ f 4 16 12 = 0xFFF ∨ (s.hub.cnts.get {} (f 4 52 12)).status ≠ 0 then 5
  else if (s.slot k).state ≠ 0 then 6
  else 0

end Sys2Proof.Claims

open Sys2Proof Sys2Proof.Machine Sys2Proof.Claims

/-- 20 R358 to R360, R363, R369: counters armed, added to, signalled, cancelled and freed, and bind records committed. -/
def Obligations.Counters : Prop :=
  ∀ (s : State) (n : Nat) (pv : Bool) (parent arg : Nat),
    let c := s.hub.cnts.get {} n
    let with_ (c : Counter) (s : State) : State := s.modHub (fun h => { h with cnts := h.cnts.put n c })
    (n < 4095 → c.status = 0 → exec (.cntArm n pv parent arg) s = .next (with_ { c with
      status := 1, remain := arg % 2 ^ 23, pv := pv, parent := parent % 2 ^ 12, flt := false, ln := false, trigLeft := 0, err := false } s)) ∧
    (n = 4095 ∨ c.status ≠ 0 → exec (.cntArm n pv parent arg) s = .next s) ∧
    (c.status = 1 →
      (c.remain + arg % 2 ^ 23 < 2 ^ 23 → exec (.cntAdd n arg) s = .next (with_ { c with remain := c.remain + arg % 2 ^ 23, err := false } s)) ∧
      (2 ^ 23 ≤ c.remain + arg % 2 ^ 23 → exec (.cntAdd n arg) s = .next (with_ { c with err := true } s))) ∧
    (c.status ≠ 1 → exec (.cntAdd n arg) s = .next s ∧ exec (.cntCancel n) s = .next s) ∧
    (c.status = 2 ∨ c.status = 3 ∨ c.status = 4 → exec (.cntFree n) s = .next
      ((with_ { c with status := 0 } s).modHub (fun h => { h with jobs := h.jobs.filter (fun j => j != n) }))) ∧
    (c.status ≠ 2 → c.status ≠ 3 → c.status ≠ 4 → exec (.cntFree n) s = .next s) ∧
    (∀ m flt, s.netMsgs.find? (fun m => m.pay.counter == some n && s.arrived m) = some m → m.pay = .signal n flt →
      (c.status ≠ 1 → c.status ≠ 5 → exec (.cntSignal n) s = .next (s.dropMsg m.id)) ∧
      (c.status = 1 ∨ c.status = 5 →
        (1 < c.remain → exec (.cntSignal n) s = .next (with_ (signalled c flt) (s.dropMsg m.id))) ∧
        (c.remain ≤ 1 → NoneBound s → (c.pv = true → c.parent ≠ n ∧ (s.counter c.parent).pv = false) → ∃ t, exec (.cntSignal n) s = .next t ∧
          t.counter n = { signalled c flt with status := finalStatus c flt } ∧
          (n ≠ 0xFFF → n ∈ s.hub.jobs ∨ s.hub.jobSids.has n = true ∨ (∃ p ∈ s.hub.queues, p.2.job = n) → c.pv = false → t.hub.comps = s.hub.comps ++ [{ cid := 0xFFFFFFFF, status := 0, result := n }]) ∧
          (c.pv = true → (s.counter c.parent).status = 1 → 1 < (s.counter c.parent).remain →
            t.counter c.parent = signalled (s.counter c.parent) (finalStatus c flt ≠ 2))))) ∧
    (∀ m k idx g pos s1, s.netMsgs.find? (fun m => m.pay.counter == some n && s.arrived m) = some m → m.pay = .trig n k idx g pos →
      s.hubStore 0 1026 (Bind.of (s.slot k).words).sid ((Bind.of (s.slot k).words).area + 64 * idx) 64 [(0, 64, pos, false)] = some s1 →
      ∃ t, exec (.cntSignal n) s = .next t ∧ t.mem = s1.mem ∧ (t.counter n).trigLeft = c.trigLeft - 1 ∧ (t.counter n).remain = c.remain ∧
        (t.slot k).trig.get (0, 0) idx = (g, pos) ∧ t.netMsgs = s1.netMsgs.filter (fun x => x.id != m.id)) ∧
    (c.status = 1 → ∀ k < 256, (∀ j < 256, j ≠ k → (s.slot j).state = 0 ∨ (Bind.of (s.slot j).words).names n = false) →
      ((s.slot k).state = 0 ∨ (Bind.of (s.slot k).words).names n = false → (∀ p ∈ s.hub.queues, ∀ r ∈ p.2.reqs, s.hub.under p.2.job n r = false) → (∀ r ∈ s.hub.nodesHeld, s.hub.under 0xFFF n r = false) →
        ∃ t, exec (.cntCancel n) s = .next t ∧ t.counter n = { c with status := 5 } ∧ ∀ j, t.slot j = s.slot j) ∧
      ((Bind.of (s.slot k).words).names n = true → (s.slot k).state = 1 → ∃ t, exec (.cntCancel n) s = .next t ∧ t.slot k = {}) ∧
      ((Bind.of (s.slot k).words).names n = true → (s.slot k).state = 2 → (s.slot k).pre = 2 ∨ (s.slot k).pre = 3 →
        ∃ t, exec (.cntCancel n) s = .next t ∧ (t.slot k).state = 3 ∧ (t.slot k).pre = 0) ∧
      ((Bind.of (s.slot k).words).names n = true → (s.slot k).state = 2 → (s.slot k).pre ≠ 2 → (s.slot k).pre ≠ 3 → ∃ t, exec (.cntCancel n) s = .next t ∧
        ∀ d ∈ (s.slot k).clusters, (s.cl d).slot = some k → (s.cl d).stat = .running → (t.cl d).stat = .faulting)) ∧
    (let k := s.hub.slotSel
     (errOf s k ≠ 0 → exec .slotCommit s = .next (s.modHub (fun h => { h with slotErr := errOf s k }))) ∧
     (errOf s k = 0 → ∃ t, exec .slotCommit s = .next t ∧ t.hub.slotErr = 0 ∧ (t.slot k).state = 1 ∧ (t.slot k).words = s.hub.slotW ∧
       (t.slot k).order = s.hub.commits ∧ t.hub.commits = s.hub.commits + 1 ∧ (t.slot k).leaseGranted = false))

/-- 20 R364 to R367, 03 R68, R69: a ready slot starts, its tokens are injected, and units end by completion and by fault. -/
def Obligations.LaunchesAndEnds : Prop :=
  ∀ (s : State) (k c : Nat),
    let sl := s.slot k
    let b := Bind.of sl.words
    let n := sl.clusters.length
    (sl.state = 1 → s.doomed k = false → s.hub.toFence = [] → s.slotReady k = true → s.firstFor k = true →
      (∀ d ∈ sl.clusters, s.present? d = true ∧ (s.cl d).slot = none ∧ (s.cl d).health ≠ 2) →
      let s1 := s.startSlot k
      (∀ g ex, s.formeAt b.sid (b.forme % 2 ^ 60) = some (g, ex) → g.loadErr (fun d => sl.clusters.contains d) = none → g.fits = true →
        exec (.dispatchStart k) s = .next (s1.startTokensOf k) ∧ (s1.slot k).state = 2 ∧ (s1.slot k).waiting = true ∧
        s1.counter b.lcnt = { s.counter b.lcnt with
          status := 1, remain := n, pv := true, flt := false, ln := true, trigLeft := n, err := false, trigs := []
          parent := if b.gcnt ≠ 0xFFF then b.gcnt else if b.pcnt ≠ 0xFFF then b.pcnt else b.jcnt } ∧
        ∀ d ∈ sl.clusters, (s1.cl d).slot = some k ∧ (s1.cl d).stat = .running ∧ (s1.cl d).sid = b.sid ∧
          (s1.ctx d).frames.map (·.1) = [0] ∧ (s1.ctx d).ready = 0 ∧ (s1.ctx d).resv = g.budget ∧ (s1.ctx d).mxCmds = [] ∧
          (s1.ctx d).matches_ = [] ∧ ∀ u < 36, (s1.ctx d).peReg u = { mode := g.peMode.get 0 u, xen := g.peXen.get 0 u, flags := 0 })) ∧
    (sl.state = 2 → sl.waiting = true → sl.pre = 0 → b.pred1 = 0xFFF → b.pred2 = 0xFFF → b.param = 0 →
      let s1 := sl.clusters.foldl (fun s d => s.clearViews d) s
      ∀ g ex v0 v bad l o, s.formeAt b.sid (b.forme % 2 ^ 60) = some (g, ex) →
        (s1.hubRead 0 b.sid (b.start % 2 ^ 60) 128).2 = .ok (v0, o) →
        ((s1.hubRead 0 b.sid (b.start % 2 ^ 60) 128).1.hubRead 0 b.sid (b.start % 2 ^ 60) (128 * (min 64 (v0 % 2 ^ 7) + 1))).2 = .ok (v, bad) →
        startTokens g none v bad.1 = .ok l →
        ∃ t, exec (.dispatchStart k) s = .next t ∧ (t.slot k).waiting = false ∧ (t.slot k).starts = l ∧
          (t.netMsgs.drop s.netMsgs.length).map (fun m => m.pay) = sl.clusters.flatMap (fun d => l.map (fun e =>
            .token (.node d e.1 e.2.1 e.2.2.1) 0 { tag := frameTag d 0 0, cl2 := 6, pay := e.2.2.2.1 % 2 ^ 64, pmask := if e.2.2.2.2 then 1 else 0 }))) ∧
    ((s.cl c).slot = some k → s.recordsPending c = false →
      (∀ l, (((s.releasePkg c).fillClaims c).hubStore 0 1026 b.sid (b.area + 64 * n + 32 * sl.clusters.idxOf c) 32 l).isSome) →
      let ended (flt : Bool) : Prop := ∃ t m, exec (.unitEnd c) s = .next t ∧ (t.cl c).slot = none ∧ (t.cl c).stat = .idle ∧
        (t.ctx c).frames = [] ∧ m ∈ t.netMsgs ∧ m.pay = .signal b.lcnt flt ∧ m.dst = 1024 ∧ m.vc = 5 ∧ (t.gal c).p = (t.gal c).a ∧
        (t.slot k).endA.get 0 (2048 * sl.clusters.idxOf c + c) = (t.gal c).a
      c < 1024 → (s.gal c).p ≤ (s.gal c).a → ((s.cl c).stat = .ending → (∀ p ∈ (s.ctx c).chans, p.2.busy = false) →
        (∀ q ∈ (s.cl c).banks, q.who = 1 → q.store ≠ none → q.got ≠ none) → ended true) ∧
      ((s.cl c).stat = .running → sl.waiting = false → (s.cl c).stopped = false → s.drained c = true → (s.ctx c).repair = false →
        (s.ctx c).skips = false ∨ (s.ctx c).repaired = true → (s.ctx c).pend = [] → ended false)) ∧
    ((s.cl c).slot = some k → s.recordsPending c = false → (s.cl c).stat = .running → sl.waiting = false → (s.cl c).stopped = false →
      s.drained c = true → (s.ctx c).repair = true → (s.ctx c).pend ≠ [] →
      exec (.unitEnd c) s = .next (s.modCtx c (fun y => { y with repair := false, repaired := true }))) ∧
    ((s.cl c).stat = .faulting → (s.ctx c).ports = [] → ∃ t, exec (.unitFault c) s = .next t ∧ (t.cl c).stat = .ending ∧
      (t.ctx c).matches_ = [] ∧ (t.ctx c).pend = [] ∧ (t.ctx c).acts = [] ∧ (t.ctx c).deque = [] ∧ (t.ctx c).mxCmds = [] ∧
      (t.ctx c).frames = (s.ctx c).frames.filter (fun p => p.1 == 0) ∧
      ∀ d ∈ s.launch c, d ≠ c → (s.cl d).slot = (s.cl c).slot → (s.cl d).stat = .running → (t.cl d).stat = .faulting) ∧
    ((s.cl c).slot = some k → (s.cl c).stat = .running → (s.cl c).stopped = false → sl.waiting = false → s.drained c = true →
      (s.ctx c).repair = false → (s.ctx c).repaired = false → (s.ctx c).skips = true → ∃ t, exec (.repairPassStart c) s = .next t ∧
        (t.ctx c).repair = true ∧ (t.netMsgs.drop s.netMsgs.length).map (fun m => m.pay) = sl.starts.map (fun e =>
          .token (.node c e.1 e.2.1 e.2.2.1) 0 { tag := frameTag c 0 0, cl2 := 6, pay := e.2.2.2.1 % 2 ^ 64, pmask := if e.2.2.2.2 then 1 else 0 }))

namespace Sys2Proof.Claims
open Sys2Proof.Machine

/-- A copy channel that may fetch: it is busy, holds no record, and nothing keeps its unit from fetching; the galley
has drained to where its fetch was issued (05 R103). -/
def MayFetch (s : State) (c k : Nat) : Prop :=
  let h := (s.ctx c).chan k
  h.busy = true ∧ h.frozen = false ∧ h.rec_ = none ∧ (s.cl c).preHalt = false ∧ (s.cl c).freezing = false ∧
    (s.cl c).unitOver = false ∧ h.issueA ≤ (s.gal c).d

/-- The record at CH_HEAD lies at physical pieces whose lines are there, in `t`, and hold sound bits. -/
def Fetches (s : State) (c k v : Nat) (t : State) : Prop :=
  let p := ((s.ctx c).chan k).head.toNat
  ∃ l, p % 512 = 0 ∧ Reaches s c .read p 512 l ∧ s.ptrCause c [0] p = none ∧ s.fetchLines c (64 + k) 2 (linesOf l) = (true, t) ∧
    (∀ q ∈ l, t.bitsBad q.1 q.2.1 = false) ∧ (t.readBase l).1 = v

/-- A channel in a record, whose elements may move. -/
def Moving (s : State) (c k : Nat) (r : CopyRec) : Prop :=
  ((s.ctx c).chan k).rec_ = some r ∧ ((s.ctx c).chan k).busy = true ∧ r.started = true ∧ (s.cl c).preHalt = false

end Sys2Proof.Claims

open Sys2Proof Sys2Proof.Machine Sys2Proof.Claims

/-- 05 R101 to R111, R113, R116: records fetched and checked, ring slots claimed, elements moved, records retired. -/
def Obligations.CopyEngine : Prop :=
  ∀ (s : State) (c k : Nat),
    let x := s.cl c
    let h := x.ctx.chan k
    let withChan (h : Channel) (s : State) : State := s.modCtx c (fun y => { y with chans := y.chans.put k h })
    let fetching := withChan { h with waiting := false } s
    (∀ v s0, MayFetch s c k → Fetches fetching c k v s0 →
      let s1 := s0.tlbUse c (h.head.toNat % 2 ^ 60) 512
      let r : CopyRec := { ptr := h.head.toNat, words := (List.range 8).map (fun i => v / 2 ^ (64 * i) % 2 ^ 64) }
      let word (i : Nat) : Nat := v / 2 ^ (64 * i) % 2 ^ 64
      (v.testBit 63 = false → exec (.recordFetch c k) s = .next (withChan { h with busy := false, waiting := false, lastStat := 1, cur := 0 } s1)) ∧
      (v.testBit 63 = true → v.testBit 48 = false → s1.recBad c r = false →
        (s1.ptrCause c (kindTags r.kind).1 (word 2) = none → s1.ptrCause c (kindTags r.kind).2 (word 3) = none → r.unaligned (word 3) = false →
          exec (.recordFetch c k) s = .next (withChan { h with
            cur := h.head, head := BitVec.ofNat 64 (word 1), issueA := (s.gal c).a, waiting := false
            rec_ := some { r with dst := word 3, started := true } } s1)) ∧
        (∀ n, s1.ptrCause c (kindTags r.kind).1 (word 2) = some n → x.stat = .running → ∃ t q, exec (.recordFetch c k) s = .next t ∧
          (t.cl c).stat = .faulting ∧ t.hub.faults = s.hub.faults ++ [q] ∧ q.code = 0x100 ∧ q.origin = 1 ∧ q.unit = 38 ∧
          q.cause / 2 ^ 192 = h.head.toNat ∧ q.cause % 2 ^ 110 = n ∧ ((t.ctx c).chan k).busy = false ∧ ((t.ctx c).chan k).lastStat = 9 ∧
          ((t.ctx c).chan k).cur = h.head ∧ ((t.ctx c).chan k).head = h.head))) ∧
    (h.busy = true → h.frozen = false → h.rec_ = none → x.preHalt = false →
      (x.unitOver = true → exec (.recordFetch c k) s = .next (withChan { h with busy := false, waiting := false } s)) ∧
      (x.unitOver = false → x.freezing = true → exec (.recordFetch c k) s = .next (withChan { h with frozen := true, waiting := false } s)) ∧
      (x.unitOver = false → x.freezing = false → (s.gal c).d < h.issueA → exec (.recordFetch c k) s = .next (withChan { h with waiting := true } s))) ∧
    (∀ r, h.rec_ = some r → h.busy = true → r.ringEn = true → r.claim = none → x.preHalt = false →
      let g := (s.ctx r.ringOwner).rings.get {} r.ringNo
      let slot := g.base.toNat + g.claim % 2 ^ g.log2n * g.slot
      (2 ^ g.log2n ≤ g.claim - g.rslot → exec (.ringSlotClaim c k) s = .next (withChan { h with waiting := true } s)) ∧
      (g.claim - g.rslot < 2 ^ g.log2n → slot < 2 ^ 60 → 0 ≤ r.span.1 → r.span.2 ≤ g.slot →
        let s1 := s.modCtx r.ringOwner (fun y => { y with rings := y.rings.put r.ringNo { g with claim := g.claim + 1 } })
        exec (.ringSlotClaim c k) s = .next (s1.modCtx c (fun y => { y with chans := y.chans.put k { (y.chan k) with
          issueA := (s.gal c).a, waiting := false
          rec_ := some { r with claim := some (r.ringOwner, r.ringNo, g.claim), dst := slot, started := true } } })))) ∧
    (∀ r, Moving s c k r → r.j < r.total →
      (∀ l off s1, r.kind = 4 → r.dst / 2 ^ 60 = 1 → h.issueA ≤ (s.gal c).d → r.src / 2 ^ 60 % 2 ^ 4 = 0 → 0 ≤ r.dstAt r.j →
        r.dstAt r.j + r.width ≤ 2 ^ 23 → fetching.elems c [0] .read r.src (r.srcAt r.j) r.width 1 = .ok 0 off l →
        fetching.fetchLines c (64 + k) 2 (linesOf l) = (true, s1) → r.held = [] → (s1.readBase l).2.1 = [] → 0 < r.width →
        let o := (r.dstAt r.j).toNat
        let w := r.width
        let v := (s1.readBase l).1 % 2 ^ w
        let moves (banks : List BankReq) (r' : CopyRec) : Prop := ∃ t, exec (.copyMove c k) s = .next t ∧ t.mem = s.mem ∧
          (t.cl c).banks = x.banks ++ banks ∧ ((t.ctx c).chan k).rec_ = some { r' with key := none, j := r.j + 1 }
        (r.run = none → o % 256 + w < 256 → moves [] { r with run := some (o, w, v) }) ∧
        (r.run = none → o % 256 + w = 256 → moves [{ key := r.wkey.getD s1.serial, who := 7, off := o, w := w, store := some v }]
          { r with wkey := some (r.wkey.getD s1.serial) }) ∧
        (∀ o' w' v', r.run = some (o', w', v') → o' + w' = o → o % 256 ≠ 0 → o % 256 + w < 256 →
          moves [] { r with run := some (o', w' + w, v' + 2 ^ w' * v) })) ∧
      (∀ e port pt rest, r.kind = 2 → r.src = 4 * 2 ^ 60 + port → port < 256 → s.ep c port = some e → x.frozenPorts = false →
        (x.ctx.port port).stream = none → (x.ctx.port port).queue = pt :: rest → pt.tok.kind = .bubble →
        ∃ t, exec (.copyMove c k) s = .next t ∧ ((t.ctx c).port port).queue = rest ∧ t.mem = s.mem ∧ (t.cl c).abuf = x.abuf ∧
          ((t.ctx c).chan k).rec_ = some { r with j := r.j + 2 ^ e.gl2, skipped := true }) ∧
      (r.kind = 0 ∨ r.kind = 1 ∨ r.kind = 4 → (s.gal c).d < h.issueA → exec (.copyMove c k) s = .next (withChan { h with waiting := true } s))) ∧
    (∀ r o w v, Moving s c k r → r.total ≤ r.j → r.run = some (o, w, v) → r.word = none → bufOwner c r.dst = c → 0 < w →
      o % 256 + w ≤ 256 → v < 2 ^ w → ∃ t, exec (.recordRetire c k) s = .next t ∧ t.mem = s.mem ∧
        (t.cl c).banks = x.banks ++ [{ key := r.wkey.getD s.serial, who := 7, off := o, w := w, store := some v }] ∧
        ((t.ctx c).chan k).rec_ = some { r with run := none, wkey := some (r.wkey.getD s.serial) }) ∧
    (∀ r n, Moving s c k r → r.total ≤ r.j → r.run = none → r.word = none → r.wkey = some n → s.bufPending c n = true →
      exec (.recordRetire c k) s = .next s) ∧
    (∀ r pba et, Moving s c k r → r.total ≤ r.j → r.retiring = none → r.held = [] → r.claim = none → r.tagCluster c = c → x.unitOver = false →
      r.run = none → r.word = none → (∀ n, r.wkey = some n → s.bufPending c n = false) →
      x.freezing = false → r.ptr % 512 = 0 → Reaches s c .write r.ptr 64 [(pba, 64, et)] → s.ptrCause c [0] r.ptr = none → pba % 512 ≤ 448 →
      s.mayAppend c (2 + k) 2 = true → (r.tagEn = true → x.ctx.ready.testBit r.tag = false ∧ x.ctx.clrNow.testBit r.tag = false) → c < 1024 → (s.gal c).p ≤ (s.gal c).a →
      ∃ t e, exec (.recordRetire c k) s = .next t ∧ (t.gal c).ents = (s.gal c).ents ++ [e] ∧ e.kind = 1 ∧ e.source = k ∧ e.pba = pba ∧ e.len = 64 ∧
        e.data = r.w 0 % 2 ^ 63 ∧ (t.gal c).a = (s.gal c).a + 1 ∧ (t.gal c).p = (t.gal c).a ∧
        (let q := (t.ctx c).chan k
         q.tl = h.tl + 1 ∧ q.retired = (h.retired + 1) % 2 ^ 48 ∧ q.cur = 0 ∧ q.rec_ = none ∧
         q.lastStat = (if r.poisoned then 3 else if r.skipped then 2 else 0) ∧ q.head = BitVec.ofNat 64 r.next ∧
         q.stamp = some ⟨c, (t.gal c).a⟩ ∧ q.busy = (!r.last && r.next != 0)) ∧
        (r.tagEn = true → (t.ctx c).ready.testBit r.tag = true ∧ (t.ctx c).tagStamps.find r.tag = some ⟨c, (t.gal c).a⟩))

namespace Sys2Proof.Claims
open Sys2Proof.Machine

/-- The 512 bits of a fault record in its queue (16 R345). -/
def recordBits (r : FaultRec) (seq : Nat) : Nat :=
  let w0 := r.code * 2 ^ 48 + r.cl % 2 ^ 10 * 2 ^ 38 + r.unit % 2 ^ 6 * 2 ^ 32 + r.node % 2 ^ 9 * 2 ^ 23 + r.origin % 2 ^ 3 * 2 ^ 20 + r.sid % 2 ^ 16
  let w1 := r.tag.toNat * 2 ^ 32 + r.slot % 2 ^ 8 * 2 ^ 24 + r.launch % 2 ^ 12 * 2 ^ 12
  w0 + 2 ^ 64 * w1 + 2 ^ 128 * (r.time % 2 ^ 64) + 2 ^ 192 * (r.cause % 2 ^ 256) + 2 ^ 448 * (seq % 2 ^ 32 * 2 ^ 32)

/-- Where a launch's map records stand, with their number: the cause data of a hang and of a stop (20 R368, R376). -/
def mapCause (s : State) (k : Nat) : Nat :=
  let n := (s.slot k).clusters.length
  (Bind.of (s.slot k).words).area + (96 * n + 2047) / 2048 * 2048 + n * 2 ^ 64

/-- A fault record of the hub about a launch's map. -/
def MapRecord (s : State) (k code : Nat) (r : FaultRec) : Prop :=
  let b := Bind.of (s.slot k).words
  r.queue = b.jcnt ∧ r.code = code ∧ r.origin = 5 ∧ r.cl = (s.slot k).clusters.head?.getD 0 ∧ r.unit = 0 ∧ r.node = 0 ∧ r.tag = 0 ∧
    r.sid = b.sid ∧ r.slot = k ∧ r.launch = b.lcnt ∧ r.cause = mapCause s k

/-- Records of one fault to Nymtor's queue and to the job's, and the unit's end (22 R390). -/
def EndsBoth (s t : State) (c code cause : Nat) : Prop :=
  (s.cl c).slot.isSome → (s.cl c).stat = .running →
    (t.cl c).stat = .faulting ∧ (∃ r ∈ t.hub.faults, r.queue = 4095 ∧ r.code = code ∧ r.cl = c ∧ r.cause = cause) ∧
      ∃ r ∈ t.hub.faults, r.queue = s.jobQueue c ∧ r.code = code ∧ r.cl = c ∧ r.cause = cause

end Sys2Proof.Claims

open Sys2Proof Sys2Proof.Machine Sys2Proof.Claims

/-- 16 R345, 22 R389: the fault agent writes the records of a queue in order, and counts those that do not fit. -/
def Obligations.FaultAgent : Prop :=
  ∀ (s : State) (j : Nat) (r : FaultRec) (before after : List FaultRec), s.hub.faults = before ++ r :: after → r.queue = j →
    (∀ q ∈ before, q.queue ≠ j) →
    let e := s.hub.fqBase * 4096 + 32 * j
    let log2 := s.mem.word e / 2 ^ 44 % 2 ^ 4 + 6
    let wptr := s.mem.word (e + 8) / 2 ^ 32 % 2 ^ 32
    let rptr := s.mem.word (e + 8) % 2 ^ 32
    let full := (wptr + 2 ^ 32 - rptr) % 2 ^ 32 = 2 ^ log2
    let s1 := s.modHub (fun h => { h with faults := before ++ after })
    (s.hub.fqEn = true → (s.mem.word e).testBit 63 = true → ¬ full →
      exec (.faultRecordWrite j) s = .next (setMem s1
        ((s.mem.writeBytes (s.mem.word e / 2 ^ 12 % 2 ^ 32 * 4096 + wptr % 2 ^ log2 * 64) 64 (recordBits r wptr)).writeBytes (e + 12) 4 ((wptr + 1) % 2 ^ 32)))) ∧
    (s.hub.fqEn = true → (s.mem.word e).testBit 63 = false ∨ full →
      exec (.faultRecordWrite j) s = .next (setMem s1 (s.mem.writeBytes (e + 16) 8 ((s.mem.word (e + 16) + 1) % 2 ^ 64))))

/-- 20 R375, R376, 22 R397: a hang and a trap stop halt their partition, write its map and a record. -/
def Obligations.HangsAndStops : Prop :=
  ∀ (s : State) (k : Nat),
    let sl := s.slot k
    let halts (t : State) : Prop := ∀ c ∈ sl.clusters, (s.cl c).halt = .run → (t.cl c).halt = .halting ∧ (t.cl c).haltAs = true
    (sl.state = 2 → sl.pre = 0 → sl.trapSeen = false → (∀ c ∈ sl.clusters, (s.cl c).halt = .run) → s.quietLimit sl ≠ 0 →
      (∀ c ∈ sl.clusters, s.quietLimit sl ≤ (s.cl c).quiet) → (∃ c ∈ sl.clusters, (s.cl c).holds = true) →
      ∀ s1, (s.freezeSlot k).writeMap k false = some s1 → ∃ t r, exec (.hang k) s = .next t ∧ halts t ∧ t.mem = s1.mem ∧
        t.hub.faults = s.hub.faults ++ [r] ∧ MapRecord s k 0x206 r) ∧
    (sl.state = 2 → sl.pre = 0 → sl.trapSeen = false → (∀ c ∈ sl.clusters, (s.cl c).halt = .run) → s.quietLimit sl ≠ 0 →
      (∀ c ∈ sl.clusters, s.quietLimit sl ≤ (s.cl c).quiet) → (∃ c ∈ sl.clusters, (s.cl c).holds = true) →
      (s.freezeSlot k).writeMap k false = none → exec (.hang k) s = .next (s.mapStuck k)) ∧
    (s.quietLimit sl = 0 ∨ (∃ c ∈ sl.clusters, (s.cl c).quiet < s.quietLimit sl) ∨ (∃ c ∈ sl.clusters, (s.cl c).halt ≠ .run) →
      exec (.hang k) s = .next s) ∧
    (sl.state = 2 → sl.trapStop = true → sl.trapSeen = false → ∃ t, exec (.trapStop k) s = .next t ∧ (t.slot k).trapSeen = true ∧
      (∀ c ∈ sl.clusters, (t.cl c).frozenPorts = true ∧ (t.cl c).stat = (s.cl c).stat ∧ (t.cl c).ctx = (s.cl c).ctx) ∧
      ∀ c, c ∉ sl.clusters → t.cl c = s.cl c) ∧
    (sl.trapSeen = true → exec (.trapStop k) s = .next s) ∧
    ((∃ c ∈ sl.clusters, (s.cl c).quiet < 4096) → exec (.stopMap k) s = .next s) ∧
    (sl.state = 2 → sl.pre ≤ 1 → sl.trapSeen = true → sl.mapDone = false →
      (∀ c ∈ sl.clusters, 4096 ≤ (s.cl c).quiet) →
      ∀ s1, (s.freezeSlot k).writeMap k true = some s1 → ∃ t r, exec (.stopMap k) s = .next t ∧ halts t ∧ t.mem = s1.mem ∧
        (t.slot k).mapDone = true ∧ t.hub.faults = s.hub.faults ++ [r] ∧ MapRecord s k 0x304 r)

/-- 22 R392, R393, R399 to R402: replays, retired PEs, lost structures, remapped clusters and the fault of a die. -/
def Obligations.CheckingAndSparing : Prop :=
  ∀ (s : State) (c u : Nat) (f : Firing), s.present? c = true → c < 1024 →
    let x := s.cl c
    let count (i n : Nat) : Nat := (x.perf.get 0 i + n) % 2 ^ 48
    let record (t : State) (queue code cause : Nat) : Prop := ∃ r ∈ t.hub.faults, r.queue = queue ∧ r.code = code ∧ r.cl = c ∧ r.cause = cause
    (∀ rounds, s.firingNow c u = some f → x.replaying.find u = none → u ≤ 35 → rounds = 1 ∨ rounds = 2 →
      x.mayFire u = true → s.wornOut c u = false → ∃ t, exec (.checkReplay c u rounds) s = .next t ∧
      (t.cl c).replaying = x.replaying.put u (rounds * (min 7 (x.hist.get [] u).length + 1), f.seq) ∧
      (t.cl c).perf.get 0 0x0FC = count 0x0FC rounds ∧ (t.cl c).perf.get 0 0x0FD = count 0x0FD rounds ∧ (t.cl c).ctx = x.ctx ∧ t.netMsgs = s.netMsgs ∧
      (x.lastReplay.find u = none → record t 4095 0x500 (u + f.node * 2 ^ 6 + rounds * 2 ^ 15) ∧ (t.cl c).lastReplay.find u = some (s.cycles c)) ∧
      (∀ n, x.lastReplay.find u = some n → s.cycles c < n + 2 ^ 20 → t.hub.faults = s.hub.faults)) ∧
    (x.mayFail u = false → s.wornOut c u = false → ∀ agrees, exec (.peRetired c u agrees) s = .next s) ∧
    (u < 32 → s.firingNow c u = some f → x.mayFail u = true ∨ s.wornOut c u = true → x.sp0 = 0x3F → x.sp1 ≠ u → (40 ∉ x.failed) → x.health ≤ 1 → ∀ agrees, ∃ t, exec (.peRetired c u agrees) s = .next t ∧
      (t.cl c).sp0 = u ∧ (t.cl c).sp1 = x.sp1 ∧ u ∈ (t.cl c).failed ∧ (t.cl c).health = 1 ∧
      (let left := if x.sp1 = 0x3F ∧ 41 ∉ x.failed then 1 else 0
       record t 4095 0x501 (u + left * 2 ^ 7) ∧ record t (s.jobQueue c) 0x501 (u + left * 2 ^ 7)) ∧
      (agrees = true → (t.cl c).stat = x.stat ∧ (t.cl c).ctx = x.ctx ∧
        (t.cl c).replaying = x.replaying.put u (min 7 (x.hist.get [] u).length + 1, f.seq)) ∧
      (agrees = false → x.slot.isSome → x.stat = .running → (t.cl c).stat = .faulting)) ∧
    (u ≤ 35 → s.firingNow c u = some f → x.mayFail u = true ∨ s.wornOut c u = true → x.idleSpares = [] ∨ 32 ≤ u → ∀ agrees, ∃ t, exec (.peRetired c u agrees) s = .next t ∧
      EndsBoth s t c 0x502 u ∧ (t.cl c).health = 2) ∧
    (∀ k,
      let entries (inTable : Bool) (l : List MEntry) : List MEntry := l.map (fun e =>
        if e.seq = k / 4 ∧ e.inTable = inTable then { e with fir := match e.fir.port (portOfNat (k % 4)) with
          | some q => e.fir.setPort (portOfNat (k % 4)) q.poisonAll
          | none => e.fir } else e)
      exec (.stateLost c u 1 (some k)) s = .next (s.modCtx c (fun y => { y with matches_ := entries true y.matches_ })) ∧
      exec (.stateLost c u 2 (some k)) s = .next (s.modCtx c (fun y => { y with
        matches_ := entries false y.matches_
        held := y.held.map (fun h => if h.seq = k / 4 then { h with tok := h.tok.poisonAll } else h) }))) ∧
    (∀ k, exec (.stateLost c u 9 (some k)) s = .next (s.modDie (c / 256) (fun y => { y with l2 := y.l2.eraseIdx k })) ∧
      exec (.stateLost c u 10 (some k)) s = .next (s.modCl c (fun y => { y with walkCache := y.walkCache.eraseIdx k })) ∧
      (u < 5 → exec (.stateLost c u 11 (some k)) s = .next (s.modDie u (fun y => { y with mirrorBad := true })))) ∧
    (∀ st e, st = 3 ∨ st = 8 → ∃ t, exec (.stateLost c u st e) s = .next t ∧ EndsBoth s t c 0x503 (u % 64 + st * 2 ^ 6)) ∧
    (∀ st e, st = 5 ∨ st = 6 ∨ st = 7 → ∃ t, exec (.stateLost c u st e) s = .next t ∧ EndsBoth s t c 0x503 (u % 64 + st * 2 ^ 6) ∧
      (t.cl c).health = 2) ∧
    (x.health = 2 → x.slot = none → x.gal.a = x.gal.d → x.shadowBusy = false →
      (0 < x.sites → ∃ t, exec (.clusterRemap c) s = .next t ∧ (t.cl c).health = 0 ∧ (t.cl c).gal.a = x.gal.a ∧ (t.cl c).gal.base = x.gal.base ∧
        (t.cl c).mxTl = x.mxTl ∧ (t.cl c).perf = x.perf ∧ (t.cl c).failed = [] ∧ ∀ d < 1024, d / 64 = c / 64 → (t.cl d).sites = (s.cl d).sites - 1) ∧
      (x.sites = 0 → ∃ t, exec (.clusterRemap c) s = .next t ∧ t.hub.unavail = s.hub.unavail ++ [c] ∧ t.present? c = false)) ∧
    (∀ d, s.dieLive d = true → ∃ t, exec (.dieFault d) s = .next t ∧ t.hub.toFence = s.hub.toFence ++ [d] ∧
      (∃ r ∈ t.hub.faults, r.queue = 4095 ∧ r.code = 0x508 ∧ r.cause = d) ∧
      (∀ k y, (k, y) ∈ s.cls → (s.cl k).stat = .running → (t.cl k).stat = .faulting) ∧
      (∀ k y, (k, y) ∈ s.cls → (s.cl k).halt = .run → (t.cl k).halt = .halting))

namespace Sys2Proof.Claims
open Sys2Proof.Machine

/-- A token's place under a root map (21 R383). -/
def readdressed (map : List (Nat × Nat)) (f : Firing) : Firing :=
  match map.find? (fun p => p.1 == f.unit * 512 + f.node) with
  | some p => { f with unit := p.2 / 512, node := p.2 % 512 }
  | none => f

end Sys2Proof.Claims

open Sys2Proof Sys2Proof.Machine Sys2Proof.Claims

/-- 21 R379 to R387: objects checked and kept, native images recorded and swapped in, and the kernel's restart. -/
def Obligations.CodeAndKernel : Prop :=
  ∀ (s : State) (k c : Nat),
    (∀ job len cid rest, s.hub.loads = (job, k, len, cid) :: rest →
      let sid := s.hub.jobSids.get 0 job
      let o := s.readObject k (s.objects.get {} k)
      let key := s.hub.keys.find? (fun x => x.1 == job && x.2.1 == o.keyid)
      let refused (code place : Nat) : Prop := exec (.objectLoad k) s = .next (s.modHub (fun h => { h with
        loads := rest, placing := none, comps := h.comps ++ [{ cid := cid, status := code, result := place }] }))
      let wellFormed := o.tableErr len = none
      let signed := 1 ≤ o.pset ∧ o.pset ≤ 6 ∧ key.isSome ∧ o.sigOk = true
      let version := s.hub.tamLow ≤ o.tamv ∧ o.tamv ≤ s.hub.tamHigh
      (s.hub.placing = none →
        (o.magic ≠ 0x2E746D6F ∨ o.length ≠ len ∨ len % 512 ≠ 0 ∨ o.nsect < 2 ∨ 32 < o.nsect → refused 8 0) ∧
        (∀ n, o.tableErr len = some n → refused 8 n) ∧ (wellFormed → ¬ signed → refused 6 0) ∧
        (wellFormed → signed → ¬ version → refused 7 0) ∧
        (wellFormed → signed → version → o.priv = true → (∀ q, key = some q → q.2.2 = false) → refused 2 0) ∧
        (wellFormed → signed → version → o.priv = false → (∃ f ∈ o.formes, f.conf.priv = true) → refused 2 0) ∧
        (∀ e, s.objectErr job sid len o = some e → refused e.1 e.2) ∧
        (s.objectErr job sid len o = none → exec (.objectLoad k) s = .next (s.placeNext job sid k cid o 0))) ∧
      (∀ o done, s.hub.placing = some (o, done) → exec (.objectLoad k) s = .next (s.placeNext job sid k cid o done))) ∧
    (∀ job sid cid o done,
      let t := s.placeNext job sid k cid o done
      let holding (n : Nat) (s : State) : State := s.modHub (fun h => { h with placing := some (o, n) })
      (∀ va n v, imagePiece o.images done = some (va, n, v) →
        (s.hubStore 0 1026 sid va n [(0, n, v, false)] = none → t = holding done (s.hubStuck 0 sid va n)) ∧
        (∀ s1, s.hubStore 0 1026 sid va n [(0, n, v, false)] = some s1 → t = holding (done + n) s1)) ∧
      (imagePiece o.images done = none →
        let s1 := s.releasePkg 1026
        t.hub.loads = s.hub.loads.drop 1 ∧ t.hub.placing = none ∧ t.cls = s1.cls ∧
        t.hub.comps = s.hub.comps ++ [{ cid := cid, status := 0, result := s.hub.objNum.get 0 sid + 1 }] ∧
        t.hub.objNum.get 0 sid = s.hub.objNum.get 0 sid + 1 ∧ (s.hub.handover = 0 → t.mem = s1.mem) ∧
        (∃ h, t.hub.heap = s.hub.heap ++ [h] ∧ h.num = s.hub.objNum.get 0 sid + 1 ∧ h.sid = sid ∧ h.obj = o ∧ h.job = job ∧ h.state = 1) ∧
        (∀ d ∈ o.formes, (s.annexUsed o = false → (sid, d.ptr, d.expansion, true) ∈ t.formes) ∧
          (s.annexUsed o = true → ∀ g, d.annex = some g → (sid, d.ptr, g, false) ∈ t.formes ∧ (sid, d.nptr, g, false) ∈ t.formes)))) ∧
    (∀ f h d g n, nth s.hub.heap k = some h → s.heapState k h = 1 → nth h.obj.formes f = some d → nth h.dir f = some none →
      nth h.trans f = some (some n) → d.native = some g →
      ((s.counter n).status = 2 → g.acceptErr = none → ∃ t, exec (.translationRecord k f) s = .next t ∧
        (h.sid, d.nptr, g, false) ∈ t.formes ∧ (t.counter n).status = 0 ∧
        ∃ h', nth t.hub.heap k = some h' ∧ nth h'.dir f = some (some g) ∧ h'.obj = h.obj) ∧
      ((s.counter n).status ≠ 2 ∨ g.acceptErr ≠ none → exec (.translationRecord k f) s = .next s)) ∧
    (let x := s.cl c
     ∀ d g, x.expanded = true → x.stat = .running → s.safePoint c = true → s.nativeOf x.sid (x.formePtr.toNat % 2 ^ 60) = some (d, g) →
      (g.budget ≤ x.ctx.resv → exec (.nativeSwap c) s = .next (s.modCl c (fun x => { x with
        forme := g.installed, formePtr := BitVec.ofNat 64 d.nptr, expanded := false
        ctx := { x.ctx with matches_ := x.ctx.matches_.map (fun e => { e with fir := readdressed d.rootMap e.fir }) } }))) ∧
      (x.ctx.resv < g.budget → exec (.nativeSwap c) s = .next s)) ∧
    (∀ measured, let table := s.hub.handover * 4096
     let w1 := s.mem.word (table + 8)
     let act := w1.testBit 0
     (s.hub.restarting = none → s.mem.word table % 2 = 0 → act ≠ s.hub.actSlot → w1.testBit (if act then 2 else 1) = true →
      s.hub.kernelUp = true →
      exec (.kernelRestart measured) s = .next (s.modHub (fun h => { h with kernelUp := false, restarting := some act }))) ∧
     (∀ slot, s.hub.restarting = some slot → ∃ t e, exec (.kernelRestart measured) s = .next t ∧ t.hub.kernelUp = true ∧
      t.hub.restarting = none ∧ t.hub.actSlot = (if measured then slot else s.hub.actSlot) ∧
      t.hub.heap.map (fun h => h.obj) = s.hub.heap.map (fun h => h.obj) ∧ t.hub.symbols = s.hub.symbols ∧ t.hub.objNum = s.hub.objNum ∧
      t.cls = s.cls ∧ t.mem = s.mem ∧ t.hub.log = s.hub.log ++ [e] ∧ (e.headD 0) % 2 ^ 8 = 3 ∧ (e.headD 0).testBit 16 = slot ∧
      (e.headD 0).testBit 17 = !measured ∧ ∃ digest, t.hub.measure = Config.measure s.hub.measure digest))

open Sys2Proof Sys2Proof.Machine Sys2Proof.Claims

namespace Sys2Proof.Claims
open Sys2Proof.Machine

/-- An image's context holds the waits of the cluster's as ready matches, and its other firings as they were (16 R330). -/
def WaitsAsMatches (x im : Ctx) : Prop :=
  let wait (p : Pend) : Prop := p.why = .wait ∨ ∃ a b, p.why = .acquiring a b
  (∀ p, p ∈ im.pend ↔ p ∈ x.pend ∧ ¬ wait p) ∧ (∀ e ∈ x.matches_, e ∈ im.matches_) ∧
    (∀ p ∈ x.pend, wait p → ({ seq := p.fir.seq, fir := p.fir, wait := p.age } : MEntry) ∈ im.matches_) ∧
    ∀ e ∈ im.matches_, e ∈ x.matches_ ∨ ∃ p ∈ x.pend, wait p ∧ e.fir = p.fir

end Sys2Proof.Claims

open Sys2Proof Sys2Proof.Machine Sys2Proof.Claims

/-- 23 R404 to R406, R413: halts of a debugger, and a pre-emption from its acceptance to its swap. -/
def Obligations.HaltsAndPreemption : Prop :=
  ∀ (s : State) (c k : Nat),
    let x := s.cl c
    let sl := s.slot k
    (x.halt = .run → exec (.halt c) s = .next (s.modCl c (fun x => { x with
      halt := .halting, haltAs := x.haltMode, brkMark := true }))) ∧
    (x.halt ≠ .run → exec (.halt c) s = .next s) ∧
    (x.halt = .halted → s.critHold = false → s.hub.toFence = [] → ∃ t, exec (.resumeHalt c) s = .next t ∧ (t.cl c).halt = (if x.stepN = 0 then .run else .stepping) ∧
      (t.cl c).stepLeft = x.stepN ∧ (t.cl c).quiet = 0 ∧ (t.cl c).brkMark = false ∧ (t.cl c).frozenPorts = false ∧ (∀ p ∈ (t.ctx c).chans, p.2.frozen = false) ∧
      (t.ctx c).matches_ = x.ctx.matches_) ∧
    (let pending := s.recordsPending c = true ∨ (x.slot = some k ∧ ∃ r ∈ s.hub.faults, r.slot = k ∧ r.launch = (Bind.of sl.words).lcnt)
     (x.halt = .halting → x.slot = some k → ¬ pending → x.replaying = [] → x.ctx.pend.all (fun p => p.why.rests) = true →
       (∀ p ∈ x.ctx.ports, ∀ y, p.2.stream = some y → y.issued = none) →
       (∀ p ∈ x.ctx.chans, x.preHalt = true ∨ p.2.busy = false ∨ (x.haltAs = true ∧ p.2.frozen = true)) →
       exec (.haltComplete c) s = .next (s.setCl c { x with halt := .halted })) ∧
     (pending ∨ x.replaying ≠ [] → ∃ t, exec (.haltComplete c) s = .next t ∧ ((t.cl c).halt = .halted → x.halt = .halted))) ∧
    (s.hub.preStat = 0 →
      (sl.state ≠ 2 ∨ sl.pre ≠ 0 → exec (.preempt k) s = .next (s.modHub (fun h => { h with
        preSlot := k, preRes := 1, preStat := 0 }))) ∧
      (sl.state = 2 → sl.pre = 0 →
        ((∃ d ∈ sl.clusters, (s.cl d).shadowBusy = true) → exec (.preempt k) s = .next (s.modHub (fun h => { h with
          preSlot := k, preRes := 2, preStat := 0 }))) ∧
        ((∀ d ∈ sl.clusters, (s.cl d).shadowBusy = false) → ∃ t, exec (.preempt k) s = .next t ∧ t.hub.preSlot = k ∧ t.hub.preStat = 1 ∧
          t.hub.preRun = k ∧ (t.slot k).pre = 1 ∧ (t.slot k).preArea = s.hub.preArea ∧ (t.slot k).preTime = s.hub.time ∧
          ∀ d ∈ sl.clusters, ((s.cl d).slot = some k → (t.cl d).preReq = true ∧ (t.cl d).ckSel = none ∧ (t.cl d).ctx = (s.cl d).ctx) ∧
            ((s.cl d).slot ≠ some k → t.cl d = s.cl d)))) ∧
    (s.hub.preStat ≠ 0 → exec (.preempt k) s = .next s) ∧
    (x.slot = some k → sl.pre = 1 → x.preReq = true → x.forced = false → x.halt ≠ .halted →
      (sl.preTime + 5000 ≤ s.hub.time → exec (.preemptForceHalt c) s = .next (s.modCl c (fun x => { x with
        halt := .halting, haltAs := x.haltAs && x.brkMark, forced := true }))) ∧
      (s.hub.time < sl.preTime + 5000 → exec (.preemptForceHalt c) s = .next s)) ∧
    (s.hub.preStat = 1 → s.hub.preRun = k → sl.state ≠ 2 →
      exec (.contextSwap k) s = .next (s.modHub (fun h => { h with preRes := 1, preStat := 0 }))) ∧
    (∀ s1, sl.state = 2 → sl.pre = 1 → sl.clusters.Nodup → (∀ p ∈ s.heldBy k, s.swappable p.1 = true ∧ p.1 < 1024) →
      (s.heldBy k).foldl (fun r p => r.bind (fun s => s.flushAll p.1)) (some s) = some s1 →
      ∃ t, exec (.contextSwap k) s = .next t ∧ (t.slot k).pre = 2 ∧ t.hub.preRes = 0 ∧ t.hub.preStat = 0 ∧
        ∀ d i, (d, i) ∈ s.heldBy k → (t.cl d).slot = none ∧ (t.cl d).stat = .idle ∧ (t.cl d).halt = .run ∧ (t.ctx d).matches_ = [] ∧
          ∃ im, (t.cl d).shadow = some im ∧ im.cluster = d ∧ im.slot = k ∧ im.index = i ∧ im.complete = false ∧ im.forced = (s.cl d).forced ∧
            im.halted = (s.cl d).brkMark ∧
            im.area = sl.preArea ∧ im.gpos = (s1.gal d).a ∧ im.ctx.frames = (s1.ctx d).frames ∧ WaitsAsMatches (s1.ctx d) im.ctx ∧
            im.ctx.tlBias.get 0 0 = s1.chView d 0)

/-- 23 R407 to R412: an image's HBM copy, restoring on a partition, and snapshots. -/
def Obligations.ImagesAndRestores : Prop :=
  ∀ (s : State) (c k : Nat), s.mem.wf = true →
    let x := s.cl c
    let sl := s.slot k
    let h := s.hub
    (∀ im, x.shadow = some im → im.complete = false →
      (x.marks = [] → ∃ t, exec (.liveRangeSave c) s = .next t ∧
        (t.cl c).ctx = x.ctx ∧ (t.cl c).shadow = some { im with complete := true } ∧ t.images.find im.pa = some { im with complete := true } ∧
        t.mem.word im.pa = (2 ^ 63 + (if im.forced then 2 ^ 62 else 0) + (if im.halted then 2 ^ 61 else 0) +
          (if im.forced then 0 else im.ckid % 2 ^ 8 * 2 ^ 53) + im.cluster % 2 ^ 10 * 2 ^ 43) ∧
        t.mem.word (im.pa + 8) = im.gpos % 2 ^ 64 ∧ t.mem.word (im.pa + 16) = im.forme.toNat ∧ t.mem.word (im.pa + 24) = im.time % 2 ^ 64) ∧
      (∀ st lo hi rest, x.marks = (st, lo, hi) :: rest →
        let n := if st = 2 then 64 else 8
        let words := (List.range (min hi (lo + n - 1) + 1 - lo)).map (· + lo)
        let left : List SaveMark := if lo + n ≤ hi then [(st, lo + n, hi)] else []
        let reads (v : Nat → Nat) (s : State) : State := s.modCl c (fun y => { y with
          marks := left ++ rest
          shadow := some { im with
            reading := none
            saved := im.saved ++ (words.map (fun k => (st, k, v k))).filter (fun p => !im.saved.any (fun e => e.1 == p.1 && e.2.1 == p.2.1)) } })
        (st ≠ 0 → exec (.liveRangeSave c) s = .next (reads (x.stored st) s)) ∧
        (st = 0 → im.reading = none → exec (.liveRangeSave c) s = .next ((({ s with serial := s.serial + 1 } : State).bankAsk c s.serial 7
          (256 * lo) (256 * words.length) none).modCl c (fun y => { y with shadow := some { im with reading := some s.serial } }))) ∧
        (∀ k, st = 0 → im.reading = some k →
          (x.bankDone k = true → exec (.liveRangeSave c) s = .next
            (reads (fun j => x.bankValue k / 2 ^ (256 * (j - lo)) % 2 ^ 256) (s.bankDrop c k))) ∧
          (x.bankDone k = false → exec (.liveRangeSave c) s = .next s)))) ∧
    (let w := movePart sl.words h.preDie h.preRow h.preCol
     let part := partClusters h.preDie h.preRow h.preCol (Bind.of w).hm1 (Bind.of w).wm1
     sl.pre ≠ 3 → h.preStat = 0 → w.length = 8 → h.preDie < 8 → h.preRow < 16 → h.preCol < 16 →
      (sl.state ≠ 2 ∨ sl.pre ≠ 2 → exec (.restore k []) s = .next (s.modHub (fun h => { h with preSlot := k, preRes := 1, preStat := 0 }))) ∧
      (sl.state = 2 → sl.pre = 2 → h.preRow + (Bind.of w).hm1 ≤ 15 → h.preCol + (Bind.of w).wm1 ≤ 15 →
        ((∃ d ∈ part, s.present? d = false ∨ (s.cl d).slot ≠ none) → exec (.restore k []) s = .next (s.modHub (fun h => { h with
          preSlot := k, preRes := 3, preStat := 0 }))) ∧
        ((∀ d ∈ part, s.present? d = true ∧ (s.cl d).slot = none) → ∃ t, exec (.restore k []) s = .next t ∧ t.hub.preStat = 3 ∧ t.hub.preRun = k ∧
          (t.slot k).pre = 3 ∧ (t.slot k).target = (h.preDie, h.preRow, h.preCol) ∧ (t.slot k).preArea = h.preArea ∧ (t.slot k).loading = none ∧
          ∀ d ∈ part, (t.cl d).slot = some k ∧ (t.cl d).stat = .saved ∧ (t.cl d).savedWait = true))) ∧
    (∀ die row col ims l, sl.pre = 3 → sl.target = (die, row, col) → die < 8 → row < 16 → col < 16 →
      let w := s.restoreWords k
      let part := partClusters die row col (Bind.of w).hm1 (Bind.of w).wm1
      w.length = 8 → part.Nodup → (∀ d ∈ part, d < 1024) →
      let places := part.zipIdx.filter (fun p => !sl.ended p.2)
      places.mapM (fun p => (s.savedImage k [] p.1 p.2).map (fun im => (p.1, im))) = some ims →
      (ims.mapM (fun p => (s.imageForme k part p.2).map (fun g => (p.1, p.2, g))) : Except Nat _) = .ok l →
      let seen : Prop := ∀ p ∈ l, s.acqSeen p.1 [(p.2.1.cluster, p.2.1.gpos)] = true ∧ s.mayAppend p.1 6 1 = true
      (sl.loading = none → ∃ t, exec (.restore k []) s = .next t ∧ (t.slot k).loading = some s.serial ∧ (t.slot k).pre = 3 ∧ t.mem = s.mem ∧
        t.images = s.images ∧ ∀ p ∈ ims, ∀ r ∈ p.2.ranges, r.1 = 0 → 0 < r.2.2 →
          ∃ q ∈ (t.cl p.1).banks, q.key = s.serial ∧ q.who = 7 ∧ q.off = r.2.1 ∧ q.store.isSome) ∧
      (∀ n, sl.loading = some n →
        (s.loadDone n part = false → exec (.restore k []) s = .next s) ∧
        (s.loadDone n part = true → ¬ seen → ∃ t, exec (.restore k []) s = .next t ∧ (∀ j, t.slot j = s.slot j) ∧ t.mem = s.mem ∧ t.images = s.images) ∧
        (s.loadDone n part = true → seen → ∃ t, exec (.restore k []) s = .next t ∧ (t.slot k).pre = 0 ∧ (t.slot k).clusters = part ∧
          (t.slot k).words = w ∧ t.hub.preRes = 0 ∧
          ∀ d im g ex, (d, im, g, ex) ∈ l → (t.cl d).slot = some k ∧ (t.cl d).stat = .running ∧ (t.cl d).formePtr = im.forme ∧
            (t.cl d).expanded = ex ∧ (t.cl d).halt = (if im.halted then .halted else .run) ∧ (t.ctx d).ready = im.ctx.ready ∧
            (t.ctx d).exitVal = im.ctx.exitVal ∧ ∀ i < 4, t.chView d i = im.ctx.tlBias.get 0 i % 2 ^ 64 ∧ ((t.ctx d).chan i).tl = ((s.ctx d).chan i).tl))) ∧
    (let held := s.heldBy k
     let ends (n : Nat) : Prop := exec (.snapshot k) s = .next (s.modHub (fun h => { h with preSlot := k, preRes := n, preStat := 0 }))
     let halted := ∀ d ∈ sl.clusters, (s.cl d).slot = some k → (s.cl d).halt = .halted
     (h.preStat = 0 →
       (sl.state ≠ 2 ∨ sl.pre ≠ 0 ∨ ¬ halted → ends 1) ∧
       (sl.state = 2 → sl.pre = 0 → halted →
         ((∃ d ∈ sl.clusters, (s.cl d).shadowBusy = true) → ends 2) ∧
         ((∀ d ∈ sl.clusters, (s.cl d).shadowBusy = false) → exec (.snapshot k) s = .next (((s.modHub (fun h => { h with
           preSlot := k })).modSlot k (fun y => { y with preArea := h.preArea })).modHub (fun h => { h with preStat := 2, preRun := k }))))) ∧
     (h.preStat = 1 ∨ h.preStat = 3 → exec (.snapshot k) s = .next s) ∧
     (h.preStat = 2 → h.preRun = k →
       ((∃ p ∈ held, (s.cl p.1).halt ≠ .halted) → exec (.snapshot k) s = .next (s.modHub (fun h => { h with preRes := 1, preStat := 0 }))) ∧
       ((∀ p ∈ held, (s.cl p.1).halt = .halted) →
         ((∃ p ∈ held, s.linksQuiet p.1 = false) → exec (.snapshot k) s = .next s) ∧
         (sl.clusters.Nodup → (∀ p ∈ held, s.linksQuiet p.1 = true ∧ p.1 < 1024) →
           ∀ s1, held.foldl (fun r p => r.bind (fun s => s.flushAll p.1)) (some s) = some s1 →
           ∃ t, exec (.snapshot k) s = .next t ∧ t.hub.preRes = 0 ∧ t.hub.preStat = 0 ∧ ∀ d i, (d, i) ∈ held →
             (t.cl d).slot = some k ∧ (t.cl d).halt = .halted ∧ (t.cl d).ctx = (s1.cl d).ctx ∧
             ∃ im, t.images.find (sl.preArea * 4096 + i * 2 ^ 22) = some im ∧ im.cluster = d ∧ im.halted = true ∧
               im.complete = true ∧ WaitsAsMatches (s1.ctx d) im.ctx))))

namespace Sys2Proof.Claims
open Sys2Proof.Machine

/-- The submission that Nymtor may take next: an entry stands at SQHEAD, the rings are served, the kernel is up, and
the completion ring has room (25 R422, R423). -/
def Submitted (s : State) (opc job cid : Nat) (w : Nat → Nat) : Prop :=
  let h := s.hub
  let size := 2 ^ (h.mbxLog + 4)
  h.mbxEn = true ∧ h.kernelUp = true ∧ h.sqHead ≠ h.sqTail ∧ (h.cqTail + 2 ^ 32 - h.cqHead % 2 ^ 32) % 2 ^ 32 ≠ size ∧
    (∀ k, w k = s.mem.word (h.mbxBase * 4096 + h.sqHead % size * 64 + 8 * k)) ∧
    w 0 / 2 ^ 56 % 2 ^ 8 = opc ∧ w 0 / 2 ^ 44 % 2 ^ 12 = job ∧ w 0 % 2 ^ 32 = cid

/-- SQHEAD passes the entry. -/
def passed (s : State) : State := s.modHub (fun h => { h with sqHead := (h.sqHead + 1) % 2 ^ 32, mbxMoved := 0, mbxA := none })

/-- A completion waits for the ring. -/
def answered (s : State) (cid status result : Nat) : State :=
  s.modHub (fun h => { h with comps := h.comps ++ [{ cid := cid, status := status, result := result }] })

end Sys2Proof.Claims

open Sys2Proof Sys2Proof.Machine Sys2Proof.Claims

/-- 25 R422, R423: the doorbell and the requests for objects, launches and cancels. -/
def Sys2Proof.Claims.MailboxRequests : Prop :=
  ∀ (s : State) (job cid : Nat) (w : Nat → Nat) (cqhead sqtail : BitVec 32),
    exec (.mbxDoorbell cqhead sqtail) s = .next (s.modHub (fun h => { h with cqHead := cqhead.toNat, sqTail := sqtail.toNat })) ∧
    (Submitted s 1 job cid w → exec .mbxLoadObject s = .next ((passed s).modHub (fun h => { h with
      loads := h.loads ++ [(job, w 1, w 2, cid)] }))) ∧
    (Submitted s 2 job cid w → ∀ o t k, let sid := s.hub.jobSids.get 0 job
      (∃ p ∈ s.hub.heap.zipIdx, s.hub.heap.zipIdx.find? (fun p => p.1.sid == sid && p.1.num == w 1 % 2 ^ 32 && s.heapState p.2 p.1 == 1) = some p ∧ p.1 = o) →
      nth o.obj.templates (w 1 / 2 ^ 32 % 2 ^ 8) = some t →
      let words := s.launchWords o t job
      let b := Bind.of words
      let f := (nth o.obj.formes t.forme).getD {}
      let native := ∃ i, nth o.dir t.forme = some (some i)
      let starts := templateStarts f (o.nativeDone t.forme)
      let page := packWords ((List.range 64).map (fun i =>
        if i < 6 ∧ (w 1 / 2 ^ 40 % 2 ^ 6).testBit i = true then w (2 + i) else bindWord t.params i))
      (∀ s1, s.launchLease t b = (s1, none) → exec .mbxLaunch s = .next s1) ∧
      (∀ s1, s.launchLease t b = (s1, some true) → exec .mbxLaunch s = .next (answered (passed s1) cid 9 0)) ∧
      (∀ s1, s.launchLease t b = (s1, some false) →
        (s1.freeSlot = none → exec .mbxLaunch s = .next s1) ∧
        (s1.freeSlot = some k → s1.commitErr words k = 0 → s1.bindCancelled b = false → s1.launchPages t b starts page = none →
          exec .mbxLaunch s = .next (s1.launchStuck b starts.length)) ∧
        (∀ s2, s1.freeSlot = some k → s1.commitErr words k = 0 → s1.bindCancelled b = false → s1.launchPages t b starts page = some s2 → s2.commitErr words k = 0 →
          ∃ u, exec .mbxLaunch s = .next u ∧ (u.slot k).state = 1 ∧ (u.slot k).words = words ∧ (u.slot k).leaseGranted = false ∧ u.mem = s2.mem ∧
            u.hub.slotSel = k ∧ u.hub.slotErr = 0 ∧
            u.hub.comps = s2.hub.comps ++ [{ cid := cid, status := 0, result := b.lcnt }] ∧ u.hub.sqHead = (s2.hub.sqHead + 1) % 2 ^ 32)) ∧
      starts.length = 2 + 2 * f.starts.length ∧ nth starts 0 = some f.starts.length ∧
      (native → nth words 1 = some f.nptr) ∧ (¬ native → nth words 1 = some f.ptr) ∧
      (t.leases = [] → s.launchLease t b = s.leaseCheck b) ∧
      (t.leases ≠ [] → (s.launchLease t b).1 = s ∧ (s.launchLease t b).2.isSome)) ∧
    (Submitted s 2 job cid w → (∀ o ∈ s.hub.heap, o.sid = s.hub.jobSids.get 0 job → o.num ≠ w 1 % 2 ^ 32) →
      ∃ st, 0 < st ∧ exec .mbxLaunch s = .next { answered (passed s) cid st 0 with freeCtr := s.freeCtr + 1 }) ∧
    (Submitted s 3 job cid w →
      exec .mbxCancel s = .next (answered (passed (s.cntCancel (w 1 % 2 ^ 12))) cid 0 0))

/-- 25 R423, 27 R443: copies between host and process memory, attestation, and the completion ring. -/
def Sys2Proof.Claims.MailboxData : Prop :=
  ∀ (s : State) (job cid : Nat) (w : Nat → Nat), s.hostMem.wf = true →
    let h := s.hub
    let sid := h.jobSids.get 0 job
    let done := h.mbxMoved
    let n := min (2 ^ 19) (w 3 - done)
    let fits (va : Nat) : Prop := va % 8 = 0 ∧ w 3 % 8 = 0 ∧ va + w 3 ≤ 2 ^ 60
    (Submitted s 4 job cid w →
      (¬ fits (w 2) → exec .mbxCopyToProcess s = .next (answered (passed s) cid 0x101 0)) ∧
      (fits (w 2) → w 3 ≤ done → exec .mbxCopyToProcess s = .next (answered (passed (s.releasePkg 1026)) cid 0 0)) ∧
      (∀ s1 l, fits (w 2) → done < w 3 → s.hubPieces 0 sid .write (w 2 + done) n = (s1, .ok l) →
        let data := leNat ((List.range (n / 8)).map (fun i => s.hostMem.read (w 1 + done / 8 + i)))
        let ps := overlay l 0 [(0, n, data, false)]
        (s1.galRoom 1026 (piecesCut ps).length = true → exec .mbxCopyToProcess s = .next ((s1.appendAll 1026 0 7 sid ps).modHub (fun h => { h with
          mbxMoved := done + n }))) ∧
        (s1.galRoom 1026 (piecesCut ps).length = false →
          exec .mbxCopyToProcess s = .next (s1.hubWait 1026 (.firm sid (w 2 + done)) (piecesCut ps).length))) ∧
      (∀ s1 k, fits (w 2) → done < w 3 → s.hubPieces 0 sid .write (w 2 + done) n = (s1, .error k) →
        exec .mbxCopyToProcess s = .next (if k = hubWaits then s1 else answered (passed s1) cid 0x104 0))) ∧
    (Submitted s 5 job cid w →
      let a := match h.mbxA with | some a => a | none => (s.gal 1026).a
      let reads := done < w 3 ∧ a ≤ (s.gal 1026).d
      (¬ fits (w 1) → exec .mbxCopyToHost s = .next (answered (passed s) cid 0x101 0)) ∧
      (fits (w 1) → w 3 ≤ done → exec .mbxCopyToHost s = .next (answered (passed s) cid 0 0)) ∧
      (fits (w 1) → done < w 3 → (s.gal 1026).d < a → exec .mbxCopyToHost s = .next (s.modHub (fun h => { h with mbxA := some a }))) ∧
      (∀ s1 v sub, fits (w 1) → reads → s.hubRead 0 sid (w 1 + done) n = (s1, .ok (v, [], sub)) →
        ∃ t, exec .mbxCopyToHost s = .next t ∧ t.hub.mbxMoved = done + n ∧ t.hub.mbxA = some a ∧ t.mem = s1.mem ∧
          ∀ a, t.hostMem.read a = if w 2 + done / 8 ≤ a ∧ a < w 2 + done / 8 + n / 8 then BitVec.ofNat 8 (v / 2 ^ (8 * (a - (w 2 + done / 8)))) else s.hostMem.read a) ∧
      (∀ s1 v r l sub, fits (w 1) → reads → s.hubRead 0 sid (w 1 + done) n = (s1, .ok (v, r :: l, sub)) →
        exec .mbxCopyToHost s = .next (answered (passed s1) cid 0x106 0)) ∧
      (∀ s1 k, fits (w 1) → reads → s.hubRead 0 sid (w 1 + done) n = (s1, .error k) →
        exec .mbxCopyToHost s = .next (if k = hubWaits then s1 else answered (passed s1) cid 0x104 0))) ∧
    (Submitted s 6 job cid w → ∃ t body, exec .mbxAttest s = .next t ∧
      t.hub.comps = h.comps ++ [{ cid := cid, status := 0, result := 8 * (body ++ Config.sign body).length }] ∧
      t.hub.sqHead = (h.sqHead + 1) % 2 ^ 32 ∧ t.mem = s.mem ∧
      body.take 8 = [BitVec.ofNat 8 h.bootCount, BitVec.ofNat 8 (h.bootCount / 2 ^ 8), BitVec.ofNat 8 (h.bootCount / 2 ^ 16),
        BitVec.ofNat 8 (h.bootCount / 2 ^ 24), 0x54, 0x53, 0x54, 0x41] ∧
      (body.drop 8).take 32 = (List.range 32).map (fun i => s.hostMem.read (w 1 + i)) ∧
      ∀ i < (body ++ Config.sign body).length, t.hostMem.read (w 1 + 32 + i) = (nth (body ++ Config.sign body) i).getD 0) ∧
    (∀ c rest, h.comps = c :: rest → h.mbxEn = true →
      let size := 2 ^ (h.mbxLog + 4)
      ((h.cqTail + 2 ^ 32 - h.cqHead % 2 ^ 32) % 2 ^ 32 ≠ size → exec .mbxCompletionPost s = .next ((setMem s (s.mem.writeBytes
        (h.mbxBase * 4096 + size * 64 + h.cqTail % size * 16) 16 (c.cid % 2 ^ 32 + c.status % 2 ^ 16 * 2 ^ 32 + c.result % 2 ^ 64 * 2 ^ 64))).modHub
          (fun h => { h with comps := rest, cqTail := (h.cqTail + 1) % 2 ^ 32 }))) ∧
      ((h.cqTail + 2 ^ 32 - h.cqHead % 2 ^ 32) % 2 ^ 32 = size → exec .mbxCompletionPost s = .next s))

namespace Sys2Proof.Claims
open Sys2Proof.Machine

/-- A valid network context (25 R431). -/
def NetContext (s : State) (ctx : Nat) : Prop := ctx < 1024 ∧ (s.netWord ctx 0).testBit 63 = true

/-- A posted command that has not completed, on a context that runs, with the command its ring holds (25 R432). -/
def Posted (s s1 : State) (ctx slot : Nat) (q : NetCmd) : Prop :=
  let x := s.netCtx ctx
  NetContext s ctx ∧ x.stopped = false ∧ x.tl ≤ slot ∧ slot < x.tail ∧ slot ∉ x.done ∧ s.netSid ctx ∉ s.hub.quiesced ∧ s.netCmd ctx slot = (s1, some (some q))

/-- A length that an operation takes. -/
def LenOk (q : NetCmd) : Prop :=
  1 ≤ q.len ∧ q.len ≤ 2 ^ 32 ∧ (q.op = 2 ∨ q.op = 3 → q.len = 64) ∧ (4 ≤ q.op → q.len % 32 = 0)

/-- The command completes: the slot is done; or it fails with a status, and the context stops (25 R434). -/
def slotDone (s : State) (ctx slot : Nat) : State :=
  s.modNet ctx (fun x => { x with done := x.done ++ [slot], moved := x.moved.del slot })

/-- A substitution that an access of a context met counts on it (03 R74). -/
def substituted (s : State) (ctx : Nat) (sub : Bool) : State :=
  if sub then s.modNet ctx (fun x => { x with subst := (x.subst + 1) % 2 ^ 64 }) else s

def slotFails (s : State) (ctx slot status : Nat) : State :=
  (setMem s (s.mem.writeBytes (s.hub.netBase * 4096 + 64 * ctx + 40) 8 (status + slot % 2 ^ 32 * 2 ^ 8))).modNet ctx (fun x => { x with stopped := true })

end Sys2Proof.Claims

open Sys2Proof Sys2Proof.Machine Sys2Proof.Claims

/-- 25 R431 to R434, 04 R92: commands of network contexts carried out, failed, timed out and completed in order. -/
def Sys2Proof.Claims.NetworkCommands : Prop :=
  ∀ (s : State) (ctx slot status : Nat) (reply : List Byte),
    let x := s.netCtx ctx
    let sid := s.netSid ctx
    (∀ s1 v sub, NetContext s ctx → s.hubRead 1 sid (s.netWord ctx 3 % 2 ^ 60) 64 = (s1, .ok (v, [], sub)) →
      exec (.netDoorbell ctx) s = .next (s1.modNet ctx (fun x => { x with
        tail := v, posted := x.posted.filter (fun p => decide (x.tl < p.1)) ++ [(v, (s1.gal 1024).a, s1.hub.time)] }))) ∧
    (NetContext s ctx → exec (.netContextRestart ctx) s = .next ((setMem s (s.mem.writeBytes (s.hub.netBase * 4096 + 64 * ctx + 40) 8 0)).modNet ctx
      (fun y => { y with stopped := false, tail := x.tail, posted := [(x.tail, (s.gal 1024).a, s.hub.time)] }))) ∧
    (∀ s1 q, Posted s s1 ctx slot q →
      let out (i : Instr) : Prop := LenOk q →
        ((s1.gal 1024).d < ((s1.netCtx ctx).start slot).1 → status = 0 → exec i s = .next s1) ∧
        (((s1.netCtx ctx).start slot).1 ≤ (s1.gal 1024).d →
        (∀ s2 v sub, s1.hubRead 1 (s1.netSid ctx) q.localAddr q.len = (s2, .ok (v, [], sub)) → status = 0 →
          exec i s = .next (slotDone (substituted s2 ctx sub) ctx slot)) ∧
        (∀ s2 v r l sub, s1.hubRead 1 (s1.netSid ctx) q.localAddr q.len = (s2, .ok (v, r :: l, sub)) → status = 0 →
          exec i s = .next (slotFails (substituted s2 ctx sub) ctx slot 4))) ∧
        (status = 1 ∨ status = 4 → exec i s = .next (slotFails s1 ctx slot status))
      let in_ (i : Instr) : Prop := LenOk q →
        (∀ s2 l, let done := (s1.netCtx ctx).moved.get 0 slot
         let n := min (q.len - done) (8 * reply.length)
         s1.hubPieces 1 (s1.netSid ctx) .write (q.localAddr + done) n = (s2, .ok l) → status = 0 →
         let ps := overlay l 0 [(0, n, leNat reply % 2 ^ n, false)]
         (s2.galRoom 1024 (piecesCut ps).length = false → exec i s = .next (s2.hubWait 1024 (.net ctx slot) (piecesCut ps).length)) ∧
         (s2.galRoom 1024 (piecesCut ps).length = true →
          (q.len ≤ done + n → exec i s = .next (slotDone (s2.appendAll 1024 0 7 (s1.netSid ctx) ps) ctx slot)) ∧
          (done + n < q.len → exec i s = .next ((s2.appendAll 1024 0 7 (s1.netSid ctx) ps).modNet ctx (fun x => { x with moved := x.moved.put slot (done + n) }))))) ∧
        (status = 1 ∨ status = 4 → exec i s = .next (slotFails s1 ctx slot status))
      (q.op = 0 → out (.put ctx slot status reply)) ∧ (q.op = 4 → out (.raddI32 ctx slot status reply)) ∧ (q.op = 5 → out (.raddF32 ctx slot status reply)) ∧
      (q.op = 1 → in_ (.get ctx slot status reply)) ∧
      (reply.length = 8 → (q.op = 2 → in_ (.netFadd ctx slot status reply)) ∧ (q.op = 3 → in_ (.cas ctx slot status reply))) ∧
      (q.op = 0 → ¬ LenOk q → exec (.put ctx slot status reply) s = .next (slotFails s1 ctx slot 1)) ∧
      (6 ≤ q.op → ∀ i ∈ [Instr.put ctx slot status reply, .get ctx slot status reply, .netFadd ctx slot status reply, .cas ctx slot status reply,
        .raddI32 ctx slot status reply, .raddF32 ctx slot status reply], exec i s = .next (slotFails s1 ctx slot 1)) ∧
      ((x.start slot).2 + 10 ^ 9 ≤ s.hub.time → exec (.netTimeout ctx slot) s = .next (slotFails s ctx slot 3)) ∧
      (s.hub.time < (x.start slot).2 + 10 ^ 9 → exec (.netTimeout ctx slot) s = .next s)) ∧
    (∀ tail a t, (tail, a, t) ∈ x.posted → slot < tail → (∀ p ∈ x.posted, slot < p.1 → p = (tail, a, t)) → x.start slot = (a, t)) ∧
    (∀ i ∈ [Instr.put ctx slot status reply, .get ctx slot status reply, .netFadd ctx slot status reply, .cas ctx slot status reply,
        .raddI32 ctx slot status reply, .raddF32 ctx slot status reply, .netTimeout ctx slot],
      sid ∈ s.hub.quiesced → exec i s = .next s) ∧
    (NetContext s ctx → x.tl ∈ x.done →
      let s1 := s.releasePkg 1024
      exec (.netComplete ctx) s = .next ((setMem s1 (s1.mem.writeBytes (s.hub.netBase * 4096 + 64 * ctx + 32) 8 ((x.tl + 1) % 2 ^ 64))).modNet ctx
        (fun y => { y with tl := (x.tl + 1) % 2 ^ 64, done := y.done.filter (fun k => k != x.tl), stamp := some { gal := 1024, pos := (s1.gal 1024).p } }))) ∧
    (NetContext s ctx → x.tl ∉ x.done → exec (.netComplete ctx) s = .next s)

/-- 25 R433, R435, 03 R74: what peers ask of this device, and what its storage port stores. -/
def Sys2Proof.Claims.PeersAndStorage : Prop :=
  ∀ (s : State) (ctx qp sid addr len : Nat) (opnd swap : Word) (data : List Byte),
    let n := min len (8 * data.length)
    let space := s.netSid ctx
    let asks (op : Nat) : Instr := .peerRequest ctx op addr len opnd swap data
    let q (op : Nat) : PeerReq := { op := op, addr := addr, len := len, opnd := opnd.toNat, swap := swap.toNat, data := leNat data }
    let held (s : State) (op : Nat) := (s.netCtx ctx).peers.find? (fun p => p.1 == q op)
    let issued (s : State) (op : Nat) (homes : List Nat) : State :=
      s.modNet ctx (fun x => { x with peers := x.peers ++ [(q op, (s.gal 1024).a, homes)] })
    let carried (s : State) (op : Nat) : State := s.modNet ctx (fun x => { x with peers := x.peers.filter (fun p => p.1 != q op) })
    (NetContext s ctx → space ∈ s.hub.quiesced → ∀ op, exec (asks op) s = .next s) ∧
    (NetContext s ctx → space ∉ s.hub.quiesced →
      (∀ s1, s.hubStore 1 1024 space addr n [(0, n, leNat data, false)] = some s1 → exec (asks 0) s = .next (s1.releasePkg 1024)) ∧
      (s.hubStore 1 1024 space addr n [(0, n, leNat data, false)] = none → exec (asks 0) s = .next (s.hubStuck 1 space addr n (.peer space addr))) ∧
      (held s 1 = none → exec (asks 1) s = .next (issued s 1 [])) ∧
      (∀ r a homes, held s 1 = some (r, a, homes) →
        ((s.gal 1024).d < a → exec (asks 1) s = .next s) ∧
        (a ≤ (s.gal 1024).d →
          (∀ s1 v bad sub, s.hubRead 1 space addr len = (s1, .ok (v, bad, sub)) → exec (asks 1) s = .next (carried (substituted s1 ctx sub) 1)) ∧
          (∀ s1 k, s.hubRead 1 space addr len = (s1, .error k) → exec (asks 1) s = .next (carried s1 1)))) ∧
      (∀ s1 pba e l rest, addr % 64 = 0 → s.hubPieces 1 space .atomic addr 64 = (s1, .ok ((pba, e, l) :: rest)) →
        let old := s1.mem.readBits pba 64
        (∀ op, op = 2 ∨ op = 3 →
          (held s1 op = none → exec (asks op) s = .next (issued s1 op (s1.home (pba / 8)).toList)) ∧
          (∀ r a homes, held s1 op = some (r, a, homes) →
            ((s1.gal 1024).d < a → exec (asks op) s = .next s1) ∧
            (a ≤ (s1.gal 1024).d →
              (s1.bitsBad pba 64 = true → exec (asks op) s = .next (carried (s1.releasePkg 1024) op)) ∧
              (s1.bitsBad pba 64 = false → exec (asks op) s = .next (carried ((setMem s1 (s1.mem.writeBits pba 64
                (if op = 2 then (old + opnd.toNat) % 2 ^ 64 else if old = opnd.toNat then swap.toNat else old))).releasePkg 1024) op)))))) ∧
      (∀ s1 pba e l rest b0 b1 b2 b3 r a homes, addr % 32 = 0 → len = 32 → data = [b0, b1, b2, b3] →
        s.hubPieces 1 space .atomic addr 32 = (s1, .ok ((pba, e, l) :: rest)) → s1.bitsBad pba 32 = false →
        held s1 4 = some (r, a, homes) → a ≤ (s1.gal 1024).d →
        exec (asks 4) s = .next (carried ((setMem s1 (s1.mem.writeBits pba 32
          ((s1.mem.readBits pba 32 + leNat data) % 2 ^ 32))).releasePkg 1024) 4)) ∧
      (addr % 64 ≠ 0 → exec (asks 2) s = .next s ∧ exec (asks 3) s = .next s) ∧
      (addr % 32 ≠ 0 → exec (asks 4) s = .next s ∧ exec (asks 5) s = .next s)) ∧
    (data ≠ [] → qp < 256 → sid ∈ s.hub.quiesced → ∀ frame, exec (.storageReadComplete qp ⟨sid, frame, addr⟩ data) s = .next s) ∧
    (data ≠ [] → qp < 256 → sid ∉ s.hub.quiesced →
      let w := 8 * data.length
      let ends (s : State) (status : Nat) : State :=
        s.modHub (fun h => { h with sto := h.sto.put qp { h.sto.get {} qp with sid := sid, status := status } })
      ((s.home addr).isSome → (s.home (addr + data.length - 1)).isSome →
        let ps := [(8 * addr, w, leNat data, false)]
        (s.galRoom 1025 (piecesCut ps).length = true →
          exec (.storageReadComplete qp ⟨sid, true, addr⟩ data) s = .next (ends (s.appendAll 1025 0 7 sid ps) 0)) ∧
        (s.galRoom 1025 (piecesCut ps).length = false →
          exec (.storageReadComplete qp ⟨sid, true, addr⟩ data) s = .next (s.hubWait 1025 (.sto qp) (piecesCut ps).length))) ∧
      (∀ s1 l, s.hubPieces 2 sid .write addr w = (s1, .ok l) →
        let ps := overlay l 0 [(0, w, leNat data, false)]
        (s1.galRoom 1025 (piecesCut ps).length = true →
          exec (.storageReadComplete qp ⟨sid, false, addr⟩ data) s = .next (ends (s1.appendAll 1025 0 7 sid ps) 0)) ∧
        (s1.galRoom 1025 (piecesCut ps).length = false →
          exec (.storageReadComplete qp ⟨sid, false, addr⟩ data) s = .next (s1.hubWait 1025 (.sto qp) (piecesCut ps).length))) ∧
      (∀ s1 k, s.hubPieces 2 sid .write addr w = (s1, .error k) →
        exec (.storageReadComplete qp ⟨sid, false, addr⟩ data) s = .next (if k = hubWaits then s1 else ends s1 0x104)))

namespace Sys2Proof.Claims
open Sys2Proof.Machine

/-- A temperature in eighths of a degree, as a 12-bit register field holds it (27 R445). -/
def eighths (v : Nat) : Int := if v % 4096 < 2048 then ((v % 4096 : Nat) : Int) else ((v % 4096 : Nat) : Int) - 4096

/-- The highest of a list of temperatures. -/
def Highest (l : List (BitVec 12)) (t : Nat) : Prop := (∃ v ∈ l, v.toNat = t) ∧ ∀ v ∈ l, eighths v.toNat ≤ eighths t

/-- The die's state with its throttle level (27 R444, R446). -/
def throttled (t : Therm) (level time : Nat) : Therm := { t with throttle := level, freq := 850 - 50 * level, last := time }

/-- A record of the hub to Nymtor's queue. -/
def notice (s : State) (code cause : Nat) : State :=
  s.modHub (fun h => { h with faults := h.faults ++ [{ queue := 4095, code := code, origin := 5, time := h.time, cause := cause }] })

end Sys2Proof.Claims

open Sys2Proof Sys2Proof.Machine Sys2Proof.Claims

/-- 27 R441, R442, 22 R398, R402: reset, the stages of boot with their measurements, and where boot stops. -/
def Obligations.ResetAndBoot : Prop :=
  ∀ (s : State) (fence : List Nat) (stage pset keyid : Nat) (kslot : Bool) (digest : BitVec 256) (verified : Bool),
    let h := s.hub
    (∃ t, exec (.deviceReset fence) s = .next t ∧ t.mem = s.mem ∧ t.netMsgs = [] ∧ t.dies = [] ∧ t.therm = [] ∧ t.links = [] ∧
      t.hub.bootStage = 0 ∧ t.hub.kernelUp = false ∧ t.hub.measure = 0 ∧ t.hub.log = [] ∧ t.hub.tamHigh = h.tamHigh ∧ t.hub.tamLow = h.tamLow ∧ t.hub.bootCount = h.bootCount + 1 ∧
      t.hub.slots = [] ∧ t.hub.cnts = [] ∧ t.hub.faults = [] ∧ t.hub.time = 0 ∧
      (∀ d, d ∈ t.hub.fenced ↔ d ∈ h.fenced ∨ ((d ∈ h.toFence ∨ d ∈ fence) ∧ d < 4)) ∧
      t.hub.ptMs = (s.present.filter (fun d => !t.hub.fenced.contains d)).length ∧
      (∀ d c, d ∈ t.hub.fenced → c < 1024 → c / 256 = d → t.present? c = false) ∧
      ∀ c, (t.cl c).ctx = {} ∧ (t.cl c).slot = none ∧ (t.cl c).gal = {} ∧ (t.cl c).sp0 = (s.cl c).sp0 ∧ (t.cl c).sp1 = (s.cl c).sp1 ∧
        (t.cl c).sites = (s.cl c).sites ∧ (t.cl c).health = (s.cl c).health) ∧
    (let valid := verified = true ∧ 1 ≤ pset ∧ pset ≤ 6
     let slot := if stage = 3 then kslot else false
     let entry (failed : Bool) : List Nat := [stage % 2 ^ 8 + pset % 2 ^ 8 * 2 ^ 8 + (if slot then 2 ^ 16 else 0) + (if failed then 2 ^ 17 else 0),
       digest.toNat % 2 ^ 64, digest.toNat / 2 ^ 64 % 2 ^ 64, digest.toNat / 2 ^ 128 % 2 ^ 64, digest.toNat / 2 ^ 192 % 2 ^ 64, keyid % 2 ^ 32, 0, 0]
     let first := match h.bootFail with | none => h.actSlot | some b => !b
     h.bootStopped = false → stage = h.bootStage + 1 → stage ≤ 3 → (stage = 3 → kslot = first) →
      ∃ t, exec (.bootStage stage kslot pset keyid digest verified) s = .next t ∧ t.hub.measure = Config.measure h.measure digest ∧ t.mem = s.mem ∧ t.cls = s.cls ∧
        (valid → t.hub.log = h.log ++ [entry false] ∧ t.hub.bootStage = stage ∧ t.hub.bootStopped = false ∧
          (stage = 3 → t.hub.kernelUp = true ∧ t.hub.actSlot = kslot) ∧
          (stage = 1 → h.tamHigh ≤ t.hub.tamHigh ∧
            (t.hub.tamHigh = h.tamHigh ∧ t.hub.tamLow = h.tamLow ∨ t.hub.tamLow = t.hub.tamHigh - 4)) ∧
          (stage = 2 → ∀ l m, l < 8 → m < 4 → s.linkThere l = true → (t.linkMod l m).stat = 1)) ∧
        (¬ valid → t.hub.log = h.log ++ [entry true] ∧ t.hub.bootStage = h.bootStage ∧ t.hub.kernelUp = h.kernelUp ∧
          (stage ≠ 3 ∨ h.bootFail ≠ none → t.hub.bootStopped = true ∧ t.hub.hostWin = none) ∧
          (stage = 3 → h.bootFail = none → t.hub.bootStopped = false ∧ t.hub.bootFail = some kslot))) ∧
    (h.bootStopped = true ∨ stage ≠ h.bootStage + 1 → exec (.bootStage stage kslot pset keyid digest verified) s = .next s)

/-- 27 R445 to R447: sensors, notices, throttling, critical halts and the stacks' bands. -/
def Sys2Proof.Claims.Heat : Prop :=
  ∀ (s : State) (d k : Nat) (temps : List (BitVec 12)) (temp : BitVec 12),
    let t := s.thermOf d
    let with_ (t : Therm) (s : State) : State := { s with therm := s.therm.put d t }
    s.dieLive d = true →
    (∀ m, temps.length = 16 → Highest temps m → ∃ u v, exec (.thermSample d temps) s = .next u ∧ u.thermOf d = v ∧ v.temp = temps.map (·.toNat) ∧ eighths v.tmax = eighths m ∧
      (∀ i < 16, eighths (bindWord v.hotmax i) = max (eighths (bindWord t.hotmax i)) (eighths (bindWord (temps.map (·.toNat)) i))) ∧
      (t.stat = 0 → 800 ≤ eighths m → eighths m < 880 → v.stat = 1 ∧ v.throttle = t.throttle ∧ u.hub = (notice s 0x601 d).hub) ∧
      (t.stat = 0 ∨ t.stat = 1 → 880 ≤ eighths m → v.stat = 2 ∧ v.throttle = min 9 (t.throttle + 1) ∧ v.freq = 850 - 50 * v.throttle ∧
        v.last = s.hub.time ∧ u.hub = (notice s 0x601 (d + 8)).hub) ∧
      (t.stat = 1 → eighths m < 784 → v.stat = 0 ∧ u.hub = s.hub) ∧
      (t.stat = 0 → eighths m < 800 → v.stat = 0 ∧ u.hub = s.hub) ∧
      (t.stat = 1 → 784 ≤ eighths m → eighths m < 880 → v.stat = 1 ∧ u.hub = s.hub) ∧
      (t.stat = 2 → v.stat = 2)) ∧
    (let m := eighths t.tmax
     (t.stat = 2 → 864 ≤ m → t.last + 100000 ≤ s.hub.time → exec (.throttleStepUp d) s = .next (with_ (throttled t (min 9 (t.throttle + 1)) s.hub.time) s)) ∧
     (m < 864 ∨ s.hub.time < t.last + 100000 ∨ t.stat ≠ 2 → exec (.throttleStepUp d) s = .next s) ∧
     (t.stat = 2 → m < 840 → t.last + 1000000 ≤ s.hub.time →
      (1 < t.throttle → exec (.throttleStepDown d) s = .next (with_ (throttled t (t.throttle - 1) s.hub.time) s)) ∧
      (t.throttle ≤ 1 → exec (.throttleStepDown d) s = .next (notice (with_ { throttled t 0 s.hub.time with stat := 1 } s) 0x601 (d + 16)))) ∧
     (840 ≤ m ∨ s.hub.time < t.last + 1000000 ∨ t.stat ≠ 2 → exec (.throttleStepDown d) s = .next s) ∧
     (960 ≤ m → t.stat ≠ 3 → ∃ u, exec (.thermCrit d) s = .next u ∧ (u.thermOf d).stat = 3 ∧
      (∀ c, s.present? c = true → (s.cl c).halt = .run → (u.cl c).halt = .halting ∧ (u.cl c).haltAs = true) ∧ u.hub = (notice s 0x602 d).hub) ∧
     (m < 960 → exec (.thermCrit d) s = .next s)) ∧
    (s.dieLive (k / 2) = true →
      let x := s.stackOf k
      let v := eighths temp.toNat
      ∃ u, exec (.hbmBandChange k temp) s = .next u ∧ (u.stackOf k).temp = temp.toNat ∧ eighths (u.stackOf k).hotmax = max (eighths x.hotmax) v ∧
        (let b := (u.stackOf k).band
         (840 < v → b = 3) ∧ (760 < v → 2 ≤ b) ∧ (680 < v → 1 ≤ b) ∧ (x.band < b → (b = 1 → 680 < v) ∧ (b = 2 → 760 < v) ∧ (b = 3 → 840 < v)) ∧
         (b < x.band → x.band ≤ 3 → (x.band = 3 → v ≤ 824) ∧ (x.band = 2 → v ≤ 744) ∧ (x.band = 1 → v ≤ 664)) ∧
         (v ≤ 664 → x.band ≤ 3 → b = 0) ∧
         (b = 3 → x.band ≠ 3 → u.hub = (notice s 0x600 k).hub) ∧ (b ≠ 3 ∨ x.band = 3 → u.hub = s.hub)))

/-- 20 R373, 27 R444, R448: power against its set point, and the islands' levels. -/
def Sys2Proof.Claims.Power : Prop :=
  ∀ (s : State) (watts i : Nat),
    let w := min watts 4095
    let h := s.hub
    let metered := s.meterIslands.modHub (fun g => { g with pwrMeas := w, pwrOver := decide (102 * h.pwrSet < 100 * w) && s.lastDrone.isNone })
    (i < 16 → s.islandThere i = true → ∃ t, exec (.islandLevelChange i) s = .next t ∧ (t.island i).lvl = max (s.island i).cap (s.thermOf (i / 4)).throttle ∧
      (t.island i).cap = (s.island i).cap ∧ ∀ j, j ≠ i → t.island j = s.island j) ∧
    (16 ≤ i ∨ s.islandThere i = false → exec (.islandLevelChange i) s = .next s) ∧
    (h.pwrEn = false → exec (.pwrEvaluate watts) s = .next metered) ∧
    (h.pwrEn = true →
      (98 * h.pwrSet ≤ 100 * w → 100 * w ≤ 102 * h.pwrSet → 3000 ≤ w → w ≤ 3200 → exec (.pwrEvaluate watts) s = .next metered) ∧
      (98 * h.pwrSet ≤ 100 * w → 100 * w ≤ 102 * h.pwrSet → 3200 < w → ∃ t, exec (.pwrEvaluate watts) s = .next t ∧
        ∀ j < 16, (t.island j).cap = if s.islandThere j = true ∧ (s.island j).cap < 9 then (s.island j).cap + 1 else (s.island j).cap) ∧
      (100 * w < 98 * h.pwrSet → 3000 ≤ w → w ≤ 3200 → exec (.pwrEvaluate watts) s = .next metered.droneBind) ∧
      (∀ k, 102 * h.pwrSet < 100 * w → 98 * h.pwrSet ≤ 100 * w → 3000 ≤ w → w ≤ 3200 → s.lastDrone = some k →
        exec (.pwrEvaluate watts) s = .next (metered.preemptOp k))) ∧
    (metered.hub.pwrMeas = w ∧ metered.cls = s.cls ∧ metered.mem = s.mem ∧ metered.hub.slots = h.slots ∧ ∀ j, (metered.island j).cap = (s.island j).cap)

namespace Sys2Proof.Claims
open Sys2Proof.Machine

/-- The instructions that may store to process memory, to a galley's ring or to the host's buffers. -/
def mayStore : Instr → Bool
  | .trigger .. | .fork .. | .join .. | .park .. | .taskResume .. | .frameJoin .. | .loadDataReturn .. | .st .. | .stv .. | .stx .. => true
  | .streamTokenAccept .. | .streamEnd .. | .atomicHomeExec .. | .rel .. | .relScopeReached .. | .acqComplete .. | .qpush .. => true
  | .qpopComplete .. | .remoteAbufAccess .. | .waitComplete .. | .sysq .. | .sysqRequest .. | .walkComplete .. | .dirtyBitUpdate .. => true
  | .writeBackScan .. | .writeBackComplete .. | .leaseGranted .. | .compactorFold .. | .galleyFullResume .. | .copyMove .. => true
  | .recordRetire .. | .cntSignal .. | .dispatchStart .. | .unitEnd .. | .unitFault .. | .faultRecordWrite .. | .graphReplay .. => true
  | .queueBind .. | .droneBind .. | .hang .. | .objectLoad .. | .translationRecord .. | .stopMap .. | .contextSwap .. => true
  | .liveRangeSave .. | .restore .. | .snapshot .. | .mbxLaunch .. | .mbxCopyToProcess .. | .mbxCopyToHost .. | .mbxAttest .. => true
  | .mbxCompletionPost .. | .netDoorbell .. | .put .. | .get .. | .cas .. | .raddI32 .. | .raddF32 .. | .netComplete .. => true
  | .netTimeout .. | .storageReadComplete .. | .parkWake .. | .stealServe .. | .pwrEvaluate .. | .netFadd .. | .peerRequest .. => true
  | .netContextRestart .. | .hdmWindowStore .. | .systemCoreStore .. => true
  | _ => false

/-- Both memories list their bytes in rising order, and nothing that reads as an unlisted byte does. -/
def MemoryForm (s : State) : Prop := s.mem.wf = true ∧ s.hostMem.wf = true

/-- A state whose next move is a; what is left of the agenda after it. -/
def Next (s : State) (a : Act) (s1 : State) : Prop := ∃ rest, s.agenda = a :: rest ∧ s1 = { s with agenda := rest }

end Sys2Proof.Claims

open Sys2Proof Sys2Proof.Machine Sys2Proof.Claims

/-- 03 R55, 20 R375, 21 R379, 22 R398, 25 R429, 27 R444: every register reads its reset value right after reset, and
one outside this list reads zero (MS is half of the eight live stacks of a K4-P). -/
def Obligations.ResetState : Prop :=
  ∀ r : RegAddr,
    State.reset.regRead r =
      if r.block = 0 ∧ r.unit < 1024 ∧ r.index = 0x0FA then 0x4000000
      else if r.block = 0 ∧ r.unit < 1024 ∧ r.index = 0x0FB then 0x3F * 2 ^ 14 + 0x3F * 2 ^ 8 + 4 * 2 ^ 4
      else if r.block = 2 ∧ r.index = 0x102 then 0x1000000 * 2 ^ 12 + 4
      else if r.block = 2 ∧ r.index = 0x130 then 11 * 2 ^ 8 + 7
      else if r.block = 2 ∧ 0x180 ≤ r.index ∧ r.index < 0x200 ∧ r.index % 4 = 0 then 64 * 2 ^ 55
      else if r.block = 2 ∧ 0x240 ≤ r.index ∧ r.index < 0x244 then 850 * 2 ^ 52
      else 0

/-- Memory at reset has the form that every step keeps. -/
def Obligations.ResetHasMemoryForm : Prop := MemoryForm State.reset

/-- Memory keeps its canonical form over every step, whatever moves and whatever the state. -/
def Obligations.StepKeepsMemoryForm : Prop :=
  ∀ s t : State, MemoryForm s → step s = .next t → MemoryForm t

/-- The frame of memory: an instruction that is none of the listed ones changes no byte of process memory, of a galley
ring, of a table or of a host buffer. -/
def Obligations.OnlyStoresChangeMemory : Prop :=
  ∀ (i : Instr) (s t : State), mayStore i = false → exec i s = .next t → t.mem = s.mem ∧ t.hostMem = s.hostMem

/-- 08 R165 to R173: decoding the record of a well-formed instruction gives the instruction back, with every operand. -/
def Obligations.DecodeEncodeNodes : Prop :=
  ∀ (i : Instr) (w : BitVec 96), i.wf = true → encode i = .node w →
    decodeNode (NodeWord.ofBits w) = .ok i ∧ decodeTableWord 96 w.toNat = some i

/-- 08 R165 to R173: a record the decoder accepts is the one record of its instruction. No reserved bit is dropped. -/
def Obligations.RecordsReadBack : Prop :=
  ∀ (w : BitVec 96) (i : Instr), decodeNode (NodeWord.ofBits w) = .ok i → i.wf = true ∧ encode i = .node w

/-- 08 R178, R179, 15 R322: the same for step entries, both ways. -/
def Obligations.DecodeEncodeSteps : Prop :=
  ∀ (i : Instr) (w : BitVec 32),
    (i.wf = true → encode i = .entry w → decodeStep w = .ok i ∧ decodeTableWord 32 w.toNat = some i) ∧
    (decodeStep w = .ok i → i.wf = true ∧ encode i = .entry w)

/-- A step runs what the next move fetches: a machine step; the record of the node whose match the selector chose, with
its operands latched; the entry a chosen activation stands at, or DONE past its list's end; a performance of a replay,
which leaves nothing; or a request served where it acts. -/
def Obligations.StepRunsFetched : Prop :=
  ∀ (s s1 : State) (c u k : Nat),
    let x := s.cl c
    let runs := x.mayFire u = true ∧ x.inReplay u = false
    (∀ i, Next s (.event i) s1 → step s = exec i s1) ∧
    (Next s (.serve k) s1 → step s = .next (s1.serveReq k)) ∧
    (Next s (.fire c u) s1 →
      (x.mayFire u = false → step s = .next s1) ∧
      (∀ n q, x.mayFire u = true → x.replaying.find u = some (n + 1, q) →
        step s = .next (s1.modCl c (fun y => { y with replaying := y.replaying.put u (n, q), quiet := 0 }))) ∧
      (runs → s1.select c u = none → step s = .next s1) ∧
      (∀ e, runs → s1.select c u = some e →
        (∀ w i, x.forme.nodes.find (u * 512 + e.fir.node) = some w → decodeNode (NodeWord.ofBits w) = .ok i →
          step s = exec i (s1.latch c u e) ∧ (s1.latch c u e).cur = some e.fir ∧ (s1.latch c u e).mem = s.mem ∧
          ((s1.latch c u e).ctx c).matches_ = (s.ctx c).matches_.filter (fun x => x.seq != e.seq)) ∧
        (x.forme.nodes.find (u * 512 + e.fir.node) = none → step s = .fault .noRecord))) ∧
    (Next s (.stepEntry c u k) s1 →
      (∀ a e, x.mayFire u = true → s1.activation c u k = some a → s1.choose c u = some e → e.seq = a.seq →
        (∀ w i, a.idx ≤ a.list.lenm1.toNat → x.forme.steps.find (u * 64 + a.list.start.toNat + a.idx) = some w →
          a.fir.unit = u → decodeStep w = .ok i → step s = exec i (s1.latchStep c u a)) ∧
        (a.list.lenm1.toNat < a.idx → step s = exec .stepDone (s1.latchStep c u a)) ∧
        ((∀ b ∈ (s.ctx c).acts, b.seq = a.seq → b = a) →
          (s1.latchStep c u a).act = some (c, { a with age := 0, promoted := false }))) ∧
      (x.mayFire u = false ∨ s1.activation c u k = none ∨ s1.choose c u = none → step s = .next s1) ∧
      (∀ a e, s1.activation c u k = some a → s1.choose c u = some e → e.seq ≠ a.seq → step s = .next s1)) ∧
    (s.agenda = [] → step s = .next s.tick ∧
      ((∀ c, (s.cl c).banks = [] ∧ (s.cl c).prefWait = []) → s.tick.mem = s.mem ∧ s.tick.netMsgs = s.netMsgs ∧
        s.tick.hub.time = (s.hub.time + (s.hub.frac + 20) / 17) % 2 ^ 64))

/-- 08 R165 to R174, R179: words written out from the encodings decode to the instructions they stand for. -/
def Obligations.DecodeSamples : Prop :=
  let sink : Dests := { da := .sink, db := .sink }
  let into (u : BitVec 6) (n : BitVec 9) (p : Port) : Dest := .local_ u n p 0
  decodeTableWord 96 0x4060020300C0000000000064 = some (.adds true (.lit 0x64) { sink with da := into 2 6 .a }) ∧
  decodeTableWord 96 0x43A0040500C00000FD002408 =
    some (.rquant true { zp := 0xFD, s := 36, ow := 8 } { sink with da := into 4 10 .a }) ∧
  decodeTableWord 96 0x04000102000204A000000002 = some (.loopin 2 { da := into 1 4 .a, db := into 2 9 .b }) ∧
  decodeTableWord 96 0 = some (.mov { da := into 0 0 .a, db := into 0 0 .a }) ∧
  decodeTableWord 96 (0x01C * 2 ^ 87) = none ∧
  decodeTableWord 32 0x12000002 = some (.stepLoop 2 0 false 2) ∧
  decodeTableWord 32 0x40400000 = some (.stepEmit false 1 0 0 0) ∧
  decodeTableWord 32 0x70000000 = some .stepDone ∧
  decodeTableWord 32 0x70000001 = none ∧
  decodeTableWord 32 0x80000000 = none

/-- 11 R247 to R251: the pointer instructions lane by lane, and where PSUB and PCVT end the unit. -/
def Obligations.PointerArithmetic : Prop := Sys2Proof.Claims.PointerArithmetic ∧ Sys2Proof.Claims.PointerFaults

/-- 11 R236, R239, R245, R246: logic, rotations, shifts, one-operand instructions with R239's lines, bit fields and extension. -/
def Obligations.BitLogic : Prop := Sys2Proof.Claims.BitLogic ∧ Sys2Proof.Claims.BitLines ∧ Sys2Proof.Claims.BitFields

/-- 12 R253, R255, R256: floating-point arithmetic, selection, comparison and signs. -/
def Obligations.FloatArithmetic : Prop := Sys2Proof.Claims.FloatArithmetic ∧ Sys2Proof.Claims.FloatSelection

/-- 12 R259: the special functions, and their special values in every class and mode. -/
def Obligations.SpecialFunctions : Prop := Sys2Proof.Claims.SpecialFunctions ∧ Sys2Proof.Claims.SpecialValues

/-- 06 R128, R130, 10 R214, R215: tags read and set, waves opened, and what the owner of a frame does with tag-ops. -/
def Obligations.TagsAndWaves : Prop := Sys2Proof.Claims.TagsAndWaves ∧ Sys2Proof.Claims.TagOps

/-- 08 R179, R181, R182, 10 R216, 15 R322: the step entries, and the loop tests after a step. -/
def Obligations.StepLists : Prop := Sys2Proof.Claims.StepEntries ∧ Sys2Proof.Claims.LoopTests

/-- 12 R266 to R270: sums, scans, winners, the K best and the count over the members of a dimension. -/
def Obligations.Reductions : Prop := Sys2Proof.Claims.SumsOfDimensions ∧ Sys2Proof.Claims.OrdersOfDimensions

/-- 02 R36, 04 R76 to R78, R83, R96, 13 R278: stores, and the append that takes a galley position. -/
def Obligations.Stores : Prop := Sys2Proof.Claims.StoreRules ∧ Sys2Proof.Claims.AppendTakesPosition

/-- 25 R422, R423, 27 R443: the doorbell, requests, copies, attestation and the completion ring. -/
def Obligations.Mailbox : Prop := Sys2Proof.Claims.MailboxRequests ∧ Sys2Proof.Claims.MailboxData

/-- 03 R74, 04 R92, 25 R431 to R435: network commands, peers and the storage port. -/
def Obligations.Network : Prop := Sys2Proof.Claims.NetworkCommands ∧ Sys2Proof.Claims.PeersAndStorage

/-- 20 R373, 27 R444 to R448: sensors, throttling, refresh bands, power and the islands. -/
def Obligations.HeatAndPower : Prop := Sys2Proof.Claims.Heat ∧ Sys2Proof.Claims.Power

/-- 06 R145, 11 R247, 12 R252, 20 R367, 22 R390: operands that do not fit end the unit, and what a fault does. -/
def Obligations.UnitFaults : Prop := Sys2Proof.Claims.MismatchEndsUnit ∧ Sys2Proof.Claims.TakingAFault

/-- 00 R5, 05 R102, R112, R114, 07 R159, R160, 16 R342, 20 R371 to R374, 25 R420: register writes and the firmware's queues. -/
def Obligations.RegistersAndQueues : Prop := Sys2Proof.Claims.RegisterWrites ∧ Sys2Proof.Claims.FirmwareQueues

/-- 03 R50 to R54, R56, R58, R61, R71, R72: walks, invalidation, dirty bits, write-back and leases. -/
def Obligations.WalksAndInvalidation : Prop := Sys2Proof.Claims.Walks ∧ Sys2Proof.Claims.Invalidation

/-- 02 R28, R29, R35, R42, 04 R81, R82, R98, 25 R421: draining, direct stores to base images, invalidated views and the banks. -/
def Obligations.DrainingAndBases : Prop := Sys2Proof.Claims.Draining ∧ Sys2Proof.Claims.StoresAndBanks
end

