-- ==== Sys2Proof/Laws/Decode.lean ====
section
/-!
SUPPORT. Each reader of a MOD form or a literal reads back what its writer wrote, and a record its fields.
-/
namespace Sys2Proof

theorem backTo_write {α : Type} {w : Nat} {e : DecodeError} {field : BitVec w} {write : α → BitVec w} {x : α}
    (h : write x = field) : backTo e field write x = .ok x := by simp [backTo, h]

/-- A low field of a word made of two parts is a field of the low part. -/
theorem low_part {n m lo w : Nat} (a : BitVec n) (b : BitVec m) (h : lo + w ≤ m) :
    (a ++ b).extractLsb' lo w = b.extractLsb' lo w := BitVec.extractLsb'_append_eq_of_add_le h

/-- A field above the low part is a field of the high part. -/
theorem high_part {n m lo w : Nat} (a : BitVec n) (b : BitVec m) (h : m ≤ lo) :
    (a ++ b).extractLsb' lo w = a.extractLsb' (lo - m) w := BitVec.extractLsb'_append_eq_of_le h

/-- The fields of a record read back. -/
theorem NodeWord.ofBits_toBits (r : NodeWord) : NodeWord.ofBits r.toBits = r := by
  obtain ⟨op, mod, da, db, lit⟩ := r
  simp (disch := omega) only [NodeWord.ofBits, NodeWord.toBits, BitVec.extractLsb'_cast, low_part, high_part,
    Nat.reduceSub, BitVec.extractLsb'_eq_self]

theorem getB_padL {w : Nat} (h : w ≤ 32) (x : BitVec w) : getB w (padL x) = .ok x := by
  have : (padL x).extractLsb' 0 w = x := by
    ext i hi
    have : i < 32 := by omega
    simp [padL, this, hi]
  simp only [getB, this]
  exact backTo_write rfl

set_option linter.unusedSimpArgs false

/-! ## Literals -/

theorem getRq_lRq (l : RqLit) : getRq (lRq l) = .ok l := by
  obtain ⟨a, b, c⟩ := l
  have : getRq (lRq ⟨a, b, c⟩) = backTo .badLiteral (lRq ⟨a, b, c⟩) lRq ⟨a, b, c⟩ := by
    unfold getRq lRq
    congr 1
    simp (disch := omega) only [bit1, BitVec.extractLsb'_cast, low_part, high_part, Nat.reduceSub, BitVec.extractLsb'_eq_self,
      BitVec.getLsbD_cast, BitVec.getLsbD_append, Nat.reduceLT, decide_true, decide_false, if_true, if_false, Bool.false_eq_true,
      cond_true, cond_false, Nat.sub_self, BitVec.getLsbD_ofBool, Bool.true_and, and_self]
  rw [this]
  exact backTo_write rfl

theorem getField_lField (l : FieldLit) : getField (lField l) = .ok l := by
  obtain ⟨a, b⟩ := l
  have : getField (lField ⟨a, b⟩) = backTo .badLiteral (lField ⟨a, b⟩) lField ⟨a, b⟩ := by
    unfold getField lField
    congr 1
    simp (disch := omega) only [bit1, BitVec.extractLsb'_cast, low_part, high_part, Nat.reduceSub, BitVec.extractLsb'_eq_self,
      BitVec.getLsbD_cast, BitVec.getLsbD_append, Nat.reduceLT, decide_true, decide_false, if_true, if_false, Bool.false_eq_true,
      cond_true, cond_false, Nat.sub_self, BitVec.getLsbD_ofBool, Bool.true_and, and_self]
  rw [this]
  exact backTo_write rfl

theorem getList_lList (l : ListLit) : getList (lList l) = .ok l := by
  obtain ⟨a, b⟩ := l
  have : getList (lList ⟨a, b⟩) = backTo .badLiteral (lList ⟨a, b⟩) lList ⟨a, b⟩ := by
    unfold getList lList
    congr 1
    simp (disch := omega) only [bit1, BitVec.extractLsb'_cast, low_part, high_part, Nat.reduceSub, BitVec.extractLsb'_eq_self,
      BitVec.getLsbD_cast, BitVec.getLsbD_append, Nat.reduceLT, decide_true, decide_false, if_true, if_false, Bool.false_eq_true,
      cond_true, cond_false, Nat.sub_self, BitVec.getLsbD_ofBool, Bool.true_and, and_self]
  rw [this]
  exact backTo_write rfl

theorem getEntry_lEntry (l : EntryLit) : getEntry (lEntry l) = .ok l := by
  obtain ⟨a, b, c⟩ := l
  have : getEntry (lEntry ⟨a, b, c⟩) = backTo .badLiteral (lEntry ⟨a, b, c⟩) lEntry ⟨a, b, c⟩ := by
    unfold getEntry lEntry
    congr 1
    simp (disch := omega) only [bit1, BitVec.extractLsb'_cast, low_part, high_part, Nat.reduceSub, BitVec.extractLsb'_eq_self,
      BitVec.getLsbD_cast, BitVec.getLsbD_append, Nat.reduceLT, decide_true, decide_false, if_true, if_false, Bool.false_eq_true,
      cond_true, cond_false, Nat.sub_self, BitVec.getLsbD_ofBool, Bool.true_and, and_self]
  rw [this]
  exact backTo_write rfl

theorem getBarr_lBarr (l : BarrLit) : getBarr (lBarr l) = .ok l := by
  obtain ⟨a, b, c⟩ := l
  have : getBarr (lBarr ⟨a, b, c⟩) = backTo .badLiteral (lBarr ⟨a, b, c⟩) lBarr ⟨a, b, c⟩ := by
    unfold getBarr lBarr
    congr 1
    simp (disch := omega) only [bit1, BitVec.extractLsb'_cast, low_part, high_part, Nat.reduceSub, BitVec.extractLsb'_eq_self,
      BitVec.getLsbD_cast, BitVec.getLsbD_append, Nat.reduceLT, decide_true, decide_false, if_true, if_false, Bool.false_eq_true,
      cond_true, cond_false, Nat.sub_self, BitVec.getLsbD_ofBool, Bool.true_and, and_self]
  rw [this]
  exact backTo_write rfl

theorem getChain_lChain (l : ChainLit) : getChain (lChain l) = .ok l := by
  obtain ⟨a, b, c, d⟩ := l
  have : getChain (lChain ⟨a, b, c, d⟩) = backTo .badLiteral (lChain ⟨a, b, c, d⟩) lChain ⟨a, b, c, d⟩ := by
    unfold getChain lChain
    congr 1
    simp (disch := omega) only [bit1, BitVec.extractLsb'_cast, low_part, high_part, Nat.reduceSub, BitVec.extractLsb'_eq_self,
      BitVec.getLsbD_cast, BitVec.getLsbD_append, Nat.reduceLT, decide_true, decide_false, if_true, if_false, Bool.false_eq_true,
      cond_true, cond_false, Nat.sub_self, BitVec.getLsbD_ofBool, Bool.true_and, and_self]
  rw [this]
  exact backTo_write rfl

theorem getMxout_lMxout (l : MxoutLit) : getMxout (lMxout l) = .ok l := by
  obtain ⟨a, b, c⟩ := l
  have : getMxout (lMxout ⟨a, b, c⟩) = backTo .badLiteral (lMxout ⟨a, b, c⟩) lMxout ⟨a, b, c⟩ := by
    unfold getMxout lMxout
    congr 1
    simp (disch := omega) only [bit1, BitVec.extractLsb'_cast, low_part, high_part, Nat.reduceSub, BitVec.extractLsb'_eq_self,
      BitVec.getLsbD_cast, BitVec.getLsbD_append, Nat.reduceLT, decide_true, decide_false, if_true, if_false, Bool.false_eq_true,
      cond_true, cond_false, Nat.sub_self, BitVec.getLsbD_ofBool, Bool.true_and, and_self]
  rw [this]
  exact backTo_write rfl

theorem getVctx_lVctx (qm1 : BitVec 5) (cl2 : BitVec 3) : getVctx (lVctx qm1 cl2) = .ok (qm1, cl2) := by
  have : getVctx (lVctx qm1 cl2) = backTo .badLiteral (lVctx qm1 cl2) (fun p => lVctx p.1 p.2) (qm1, cl2) := by
    unfold getVctx lVctx
    congr 1
    simp (disch := omega) only [bit1, BitVec.extractLsb'_cast, low_part, high_part, Nat.reduceSub, BitVec.extractLsb'_eq_self,
      BitVec.getLsbD_cast, BitVec.getLsbD_append, Nat.reduceLT, decide_true, decide_false, if_true, if_false, Bool.false_eq_true,
      cond_true, cond_false, Nat.sub_self, BitVec.getLsbD_ofBool, Bool.true_and, and_self]
  rw [this]
  exact backTo_write rfl

theorem getVsplat_lVsplat (gl2 : BitVec 3) (lane : BitVec 5) : getVsplat (lVsplat gl2 lane) = .ok (gl2, lane) := by
  have : getVsplat (lVsplat gl2 lane) = backTo .badLiteral (lVsplat gl2 lane) (fun p => lVsplat p.1 p.2) (gl2, lane) := by
    unfold getVsplat lVsplat
    congr 1
    simp (disch := omega) only [bit1, BitVec.extractLsb'_cast, low_part, high_part, Nat.reduceSub, BitVec.extractLsb'_eq_self,
      BitVec.getLsbD_cast, BitVec.getLsbD_append, Nat.reduceLT, decide_true, decide_false, if_true, if_false, Bool.false_eq_true,
      cond_true, cond_false, Nat.sub_self, BitVec.getLsbD_ofBool, Bool.true_and, and_self]
  rw [this]
  exact backTo_write rfl

theorem getSortk_lSortk (km1 : BitVec 6) (asc : Bool) : getSortk (lSortk km1 asc) = .ok (km1, asc) := by
  have : getSortk (lSortk km1 asc) = backTo .badLiteral (lSortk km1 asc) (fun p => lSortk p.1 p.2) (km1, asc) := by
    unfold getSortk lSortk
    congr 1
    simp (disch := omega) only [bit1, BitVec.extractLsb'_cast, low_part, high_part, Nat.reduceSub, BitVec.extractLsb'_eq_self,
      BitVec.getLsbD_cast, BitVec.getLsbD_append, Nat.reduceLT, decide_true, decide_false, if_true, if_false, Bool.false_eq_true,
      cond_true, cond_false, Nat.sub_self, BitVec.getLsbD_ofBool, Bool.true_and, and_self]
  rw [this]
  exact backTo_write rfl

theorem getMxin_lMxin (token : Bool) (fp : Bool) : getMxin (lMxin token fp) = .ok (token, fp) := by
  have : getMxin (lMxin token fp) = backTo .badLiteral (lMxin token fp) (fun p => lMxin p.1 p.2) (token, fp) := by
    unfold getMxin lMxin
    congr 1
    simp (disch := omega) only [bit1, BitVec.extractLsb'_cast, low_part, high_part, Nat.reduceSub, BitVec.extractLsb'_eq_self,
      BitVec.getLsbD_cast, BitVec.getLsbD_append, Nat.reduceLT, decide_true, decide_false, if_true, if_false, Bool.false_eq_true,
      cond_true, cond_false, Nat.sub_self, BitVec.getLsbD_ofBool, Bool.true_and, and_self]
  rw [this]
  exact backTo_write rfl

theorem getTrap_lTrap (endU : Bool) (code : BitVec 16) : getTrap (lTrap endU code) = .ok (endU, code) := by
  have : getTrap (lTrap endU code) = backTo .badLiteral (lTrap endU code) (fun p => lTrap p.1 p.2) (endU, code) := by
    unfold getTrap lTrap
    congr 1
    simp (disch := omega) only [bit1, BitVec.extractLsb'_cast, low_part, high_part, Nat.reduceSub, BitVec.extractLsb'_eq_self,
      BitVec.getLsbD_cast, BitVec.getLsbD_append, Nat.reduceLT, decide_true, decide_false, if_true, if_false, Bool.false_eq_true,
      cond_true, cond_false, Nat.sub_self, BitVec.getLsbD_ofBool, Bool.true_and, and_self]
  rw [this]
  exact backTo_write rfl

theorem getWave_lWave (l : WaveLit) : getWave (lWave l) = .ok l := by
  obtain ⟨a, b, c, d, e⟩ := l
  unfold getWave lWave
  congr 2
  all_goals
    simp (disch := omega) only [bit1, BitVec.extractLsb'_cast, low_part, high_part, Nat.reduceSub, BitVec.extractLsb'_eq_self,
      BitVec.getLsbD_cast, BitVec.getLsbD_append, Nat.reduceLT, decide_true, decide_false, if_true, if_false, Bool.false_eq_true,
      cond_true, cond_false, Nat.sub_self, BitVec.getLsbD_ofBool, Bool.true_and, and_self]

/-! ## MOD forms -/

theorem isZ_zero : isZ 0 = .ok () := rfl
theorem noLit_zero : noLit 0 = .ok () := rfl
theorem getSG_mSG (sg : Bool) : getSG (mSG sg) = .ok sg := by cases sg <;> rfl
theorem getSGLB_write (sg : Bool) (b : BSrc) : getSGLB (mSG sg ||| mLB b) (lBSrc b) = .ok (sg, b) := by
  cases sg <;> cases b <;> simp [getSGLB, getZLB, getSG6LB, getSG3LB, getFTLB, getFT, getFKLB, getFK, getFCLB, mSG, mLB, lBSrc, getSG, isZ, getBSrc, bind, Except.bind, mCond, mTie, mRm, mCls, mCondHi, Cond.code, Cond.ofCode, orErr, TieMode.code, RMode.code, RMode.ofCode, FCls.code, FCls.ofCode]
theorem getZLB_write (b : BSrc) : getZLB (mLB b) (lBSrc b) = .ok b := by cases b <;> simp [getSGLB, getZLB, getSG6LB, getSG3LB, getFTLB, getFT, getFKLB, getFK, getFCLB, mSG, mLB, lBSrc, getSG, isZ, getBSrc, bind, Except.bind, mCond, mTie, mRm, mCls, mCondHi, Cond.code, Cond.ofCode, orErr, TieMode.code, RMode.code, RMode.ofCode, FCls.code, FCls.ofCode]
theorem getSG6LB_write (sg : Bool) (c : Cond) (b : BSrc) :
    getSG6LB (mSG sg ||| mLB b ||| mCond c) (lBSrc b) = .ok (sg, c, b) := by cases sg <;> cases c <;> cases b <;> simp [getSGLB, getZLB, getSG6LB, getSG3LB, getFTLB, getFT, getFKLB, getFK, getFCLB, mSG, mLB, lBSrc, getSG, isZ, getBSrc, bind, Except.bind, mCond, mTie, mRm, mCls, mCondHi, Cond.code, Cond.ofCode, orErr, TieMode.code, RMode.code, RMode.ofCode, FCls.code, FCls.ofCode]
theorem getSG3LB_write (sg : Bool) (t : TieMode) (b : BSrc) :
    getSG3LB (mSG sg ||| mLB b ||| mTie t) (lBSrc b) = .ok (sg, t, b) := by cases sg <;> cases t <;> cases b <;> simp [getSGLB, getZLB, getSG6LB, getSG3LB, getFTLB, getFT, getFKLB, getFK, getFCLB, mSG, mLB, lBSrc, getSG, isZ, getBSrc, bind, Except.bind, mCond, mTie, mRm, mCls, mCondHi, Cond.code, Cond.ofCode, orErr, TieMode.code, RMode.code, RMode.ofCode, FCls.code, FCls.ofCode]
theorem getFT_write (rm : RMode) (c : FCls) : getFT (mRm rm ||| mCls c) = .ok (rm, c) := by cases rm <;> cases c <;> rfl
theorem getFTLB_write (rm : RMode) (c : FCls) (b : BSrc) :
    getFTLB (mRm rm ||| mCls c ||| mLB b) (lBSrc b) = .ok (rm, c, b) := by cases rm <;> cases c <;> cases b <;> simp [getSGLB, getZLB, getSG6LB, getSG3LB, getFTLB, getFT, getFKLB, getFK, getFCLB, mSG, mLB, lBSrc, getSG, isZ, getBSrc, bind, Except.bind, mCond, mTie, mRm, mCls, mCondHi, Cond.code, Cond.ofCode, orErr, TieMode.code, RMode.code, RMode.ofCode, FCls.code, FCls.ofCode]
theorem getFK_write (c : FCls) : getFK (mCls c) = .ok c := by cases c <;> rfl
theorem getFKLB_write (c : FCls) (b : BSrc) : getFKLB (mCls c ||| mLB b) (lBSrc b) = .ok (c, b) := by
  cases c <;> cases b <;> simp [getSGLB, getZLB, getSG6LB, getSG3LB, getFTLB, getFT, getFKLB, getFK, getFCLB, mSG, mLB, lBSrc, getSG, isZ, getBSrc, bind, Except.bind, mCond, mTie, mRm, mCls, mCondHi, Cond.code, Cond.ofCode, orErr, TieMode.code, RMode.code, RMode.ofCode, FCls.code, FCls.ofCode]
theorem getFCLB_write (k : Cond) (c : FCls) (b : BSrc) :
    getFCLB (mCondHi k ||| mCls c ||| mLB b) (lBSrc b) = .ok (k, c, b) := by cases k <;> cases c <;> cases b <;> simp [getSGLB, getZLB, getSG6LB, getSG3LB, getFTLB, getFT, getFKLB, getFK, getFCLB, mSG, mLB, lBSrc, getSG, isZ, getBSrc, bind, Except.bind, mCond, mTie, mRm, mCls, mCondHi, Cond.code, Cond.ofCode, orErr, TieMode.code, RMode.code, RMode.ofCode, FCls.code, FCls.ofCode]
theorem getCV_write (t : Bool) (rm : RMode) (c : FCls) : getCV (mTop t ||| mRm rm ||| mCls c) = .ok (t, rm, c) := by
  cases t <;> cases rm <;> cases c <;> rfl
theorem getTY_mTy (t : ElemTy) : getTY (mTy t) = .ok t := by
  cases t with
  | uns => rfl
  | sgn => rfl
  | flt rm c => cases rm <;> cases c <;> rfl
theorem getWDL_write (sg : Bool) (w : BitVec 6) : getWDL (mTop sg ||| mW w) = .ok (sg, w) := by
  have : ∀ (sg : Bool) (w : BitVec 6), (mTop sg ||| mW w).getLsbD 6 = sg ∧ (mTop sg ||| mW w).extractLsb' 0 6 = w := by decide
  simp only [getWDL, this]
theorem getWDS_mW (w : BitVec 6) : getWDS (mW w) = .ok w := by
  have : ∀ w : BitVec 6, (mW w).getLsbD 6 = false ∧ (mW w).extractLsb' 0 6 = w := by decide
  simp only [getWDS, this, Bool.false_eq_true, if_false]
theorem getAT_write (w64 : Bool) (o : AtomOp) : getAT (mSG w64 ||| mAtom o) = .ok (w64, o) := by
  cases w64 <;> cases o <;> rfl
theorem getAF_write (o : FAtomOp) (f64 : Bool) : getAF (mFAtom o ||| mF64 f64) = .ok (o, f64) := by
  cases o <;> cases f64 <;> rfl
theorem getPark_mPark (k : ParkKind) : getPark (mPark k) = .ok k := by cases k <;> rfl
theorem getScope_mScope (k : RelScope) : getScope (mScope k) = .ok k := by cases k <;> rfl
theorem getGpos_mGpos (k : GposSel) : getGpos (mGpos k) = .ok k := by cases k <;> rfl
theorem getIdent_mIdent (k : IdentSel) : getIdent (mIdent k) = .ok k := by cases k <;> rfl
theorem getK2_mK2 (b : Bool) : getK2 (mK2 b) = .ok b := by cases b <;> rfl
theorem getCh_mCh (c : BitVec 2) : getCh (mCh c) = .ok c := by
  have : ∀ c : BitVec 2, (mCh c).extractLsb' 0 2 = c := by decide
  simp only [getCh, this]
  exact backTo_write rfl
theorem getTl_write (t : TlSel) : getTl (mTl t) (lTl t) = .ok t := by
  cases t with
  | ch c =>
    have h4 : ∀ c : BitVec 2, mCh c ≠ 4 ∧ mCh c ≠ 5 := by decide
    obtain ⟨h, h'⟩ := h4 c
    simp only [getTl, show mTl (.ch c) = mCh c from rfl, h, h', if_false, getCh_mCh, bind, Except.bind]
    exact backTo_write rfl
  | mx c =>
    have := getB_padL (by decide) c
    simp only [getTl, mTl, if_true]
    refine (congrArg (fun x => backTo _ _ lTl (TlSel.mx x)) ?_).trans (backTo_write rfl)
    ext i hi
    have : i < 32 := by omega
    simp [lTl, padL, this, hi]
  | net c =>
    simp only [getTl, mTl, show ¬ ((5 : BitVec 7) = 4) by decide, if_true, if_false]
    refine (congrArg (fun x => backTo _ _ lTl (TlSel.net x)) ?_).trans (backTo_write rfl)
    ext i hi
    have : i < 32 := by omega
    simp [lTl, padL, this, hi]
theorem getPspc_write (t : PspcSel) : getPspc (mPspc t) (lPspc t) = .ok t := by
  cases t with
  | get => rfl
  | set c =>
    simp only [getPspc, mPspc, show ¬ ((1 : BitVec 7) = 0) by decide, if_true, if_false]
    refine (congrArg (fun x => backTo _ _ lPspc (PspcSel.set x)) ?_).trans (backTo_write rfl)
    ext i hi
    have : i < 32 := by omega
    simp [lPspc, padL, this, hi]

end Sys2Proof
end

