-- ==== Sys2Proof/Laws/Memory.lean ====
section
/-!
SUPPORT. Memory: every write keeps the canonical form, reads back, and leaves every other byte alone.
-/
namespace Sys2Proof.Machine

theorem Memory.wfFrom_weaken {m : Memory} {lo lo' : Nat} (h : lo ≤ lo') (w : m.wfFrom (some lo') = true) :
    m.wfFrom (some lo) = true := by
  cases m with
  | nil => rfl
  | cons x rest =>
    obtain ⟨k, v⟩ := x
    simp only [Memory.wfFrom, Bool.and_eq_true, decide_eq_true_eq] at w ⊢
    exact ⟨⟨by omega, w.1.2⟩, w.2⟩

theorem Memory.wfFrom_none {m : Memory} {lo : Nat} (w : m.wfFrom (some lo) = true) : m.wfFrom none = true := by
  cases m with
  | nil => rfl
  | cons x rest =>
    obtain ⟨k, v⟩ := x
    simp only [Memory.wfFrom, Bool.and_eq_true] at w ⊢
    exact ⟨⟨trivial, w.1.2⟩, w.2⟩

theorem Memory.cons_wf {m : Memory} {a : Nat} {lo : Option Nat} (v : Byte)
    (hlo : (match lo with | none => true | some l => decide (l < a)) = true) (w : m.wfFrom (some a) = true) :
    (Memory.cons a v m).wfFrom lo = true := by
  unfold Memory.cons
  split
  · cases lo with
    | none => exact Memory.wfFrom_none w
    | some l => exact Memory.wfFrom_weaken (by simp at hlo; omega) w
  · rename_i hv
    simp only [Memory.wfFrom, Bool.and_eq_true]
    exact ⟨⟨hlo, by simpa using hv⟩, w⟩

theorem Memory.write_wfFrom (m : Memory) : ∀ (lo : Option Nat) (a : Nat) (v : Byte),
    (match lo with | none => true | some l => decide (l < a)) = true → m.wfFrom lo = true →
    (m.write a v).wfFrom lo = true := by
  induction m with
  | nil => intro lo a v hlo _; exact Memory.cons_wf v hlo rfl
  | cons x rest ih =>
    obtain ⟨k, w⟩ := x
    intro lo a v hlo h
    simp only [Memory.wfFrom, Bool.and_eq_true] at h
    simp only [Memory.write]
    split
    · rename_i hk
      refine Memory.cons_wf v hlo ?_
      simp only [Memory.wfFrom, Bool.and_eq_true, decide_eq_true_eq]
      exact ⟨⟨hk, h.1.2⟩, h.2⟩
    · split
      · rename_i hk; subst hk; exact Memory.cons_wf v hlo h.2
      · rename_i h₁ h₂
        simp only [Memory.wfFrom, Bool.and_eq_true]
        exact ⟨h.1, ih (some k) a v (by simp; omega) h.2⟩

/-- A write keeps the canonical form. -/
theorem Memory.write_wf {m : Memory} (a : Nat) (v : Byte) (h : m.wf = true) : (m.write a v).wf = true :=
  Memory.write_wfFrom m none a v rfl h

theorem Memory.writeBytes_wf (n : Nat) : ∀ {m : Memory} (a v : Nat), m.wf = true → (m.writeBytes a n v).wf = true := by
  induction n with
  | zero => intro m a v h; exact h
  | succ n ih => intro m a v h; exact ih (a + 1) (v / 256) (Memory.write_wf a _ h)

theorem Memory.writeBits_wf {m : Memory} (pba w v : Nat) (h : m.wf = true) : (m.writeBits pba w v).wf = true :=
  Memory.writeBytes_wf _ _ _ h

theorem Memory.writeList_wf (l : List Byte) : ∀ {m : Memory} (a : Nat), m.wf = true → (m.writeList a l).wf = true := by
  induction l with
  | nil => intro m a h; exact h
  | cons b rest ih => intro m a h; exact ih (a + 1) (Memory.write_wf a b h)

/-- Below an entry's address an ordered memory lists nothing. -/
theorem Memory.read_below (m : Memory) : ∀ {lo a : Nat}, m.wfFrom (some lo) = true → a ≤ lo → m.read a = Memory.unlisted := by
  cases m with
  | nil => intro lo a _ _; rfl
  | cons x rest =>
    obtain ⟨k, w⟩ := x
    intro lo a h ha
    simp only [Memory.wfFrom, Bool.and_eq_true, decide_eq_true_eq] at h
    have : a < k := by omega
    simp [Memory.read, this]

theorem Memory.read_cons {m : Memory} {a b : Nat} (v : Byte) (h : m.wfFrom (some a) = true) :
    (Memory.cons a v m).read b = if b = a then v else if b < a then Memory.unlisted else m.read b := by
  unfold Memory.cons
  split
  · rename_i hv
    have hv : v = Memory.unlisted := by simpa using hv
    by_cases h₁ : b = a
    · subst h₁; simp [Memory.read_below m h (Nat.le_refl _), hv]
    · by_cases h₂ : b < a
      · simp [h₁, h₂, Memory.read_below m h (Nat.le_of_lt h₂)]
      · simp [h₁, h₂]
  · by_cases h₁ : b = a
    · subst h₁; simp [Memory.read]
    · by_cases h₂ : b < a <;> simp [Memory.read, h₁, h₂]

theorem Memory.read_writeFrom (m : Memory) : ∀ (lo : Option Nat) (a b : Nat) (v : Byte), m.wfFrom lo = true →
    (m.write a v).read b = if b = a then v else m.read b := by
  induction m with
  | nil =>
    intro lo a b v _
    have := Memory.read_cons (m := []) (a := a) (b := b) v rfl
    simp only [Memory.write, this, Memory.read]
    split <;> simp
  | cons x rest ih =>
    obtain ⟨k, w⟩ := x
    intro lo a b v h
    have h' := h
    simp only [Memory.wfFrom, Bool.and_eq_true] at h
    simp only [Memory.write]
    split
    · rename_i hk
      have wf' : Memory.wfFrom ((k, w) :: rest) (some a) = true := by
        simp only [Memory.wfFrom, Bool.and_eq_true, decide_eq_true_eq]
        exact ⟨⟨hk, h.1.2⟩, h.2⟩
      rw [Memory.read_cons v wf']
      by_cases h₁ : b = a
      · simp [h₁]
      · by_cases h₂ : b < a
        · have : b < k := by omega
          simp [h₁, h₂, Memory.read, this]
        · simp [h₁, h₂]
    · split
      · rename_i hk
        subst hk
        rw [Memory.read_cons v h.2]
        by_cases h₁ : b = a
        · simp [h₁]
        · by_cases h₂ : b < a <;> simp [h₁, h₂, Memory.read]
      · rename_i h₁ h₂
        simp only [Memory.read]
        have := ih (some k) a b v h.2
        rw [this]
        by_cases h₃ : b < k
        · have : b ≠ a := by omega
          simp [h₃, this]
        · by_cases h₄ : b = k
          · subst h₄
            have : b ≠ a := fun e => h₂ e.symm
            simp [this]
          · simp [h₃, h₄]

/-- A byte reads as it was written, and a write changes no other byte. -/
theorem Memory.read_write {m : Memory} (h : m.wf = true) (a b : Nat) (v : Byte) :
    (m.write a v).read b = if b = a then v else m.read b := Memory.read_writeFrom m none a b v h

/-- Bytes outside a run of stored bytes read as before. -/
theorem Memory.read_writeBytes_other (n : Nat) : ∀ {m : Memory} (a v b : Nat), m.wf = true → (b < a ∨ a + n ≤ b) →
    (m.writeBytes a n v).read b = m.read b := by
  induction n with
  | zero => intro m a v b _ _; rfl
  | succ n ih =>
    intro m a v b h hb
    simp only [Memory.writeBytes]
    rw [ih (a + 1) (v / 256) b (Memory.write_wf a _ h) (by omega), Memory.read_write h]
    have : b ≠ a := by omega
    simp [this]

/-- A run of bytes reads back as the number stored. -/
theorem Memory.readBytes_writeBytes (n : Nat) : ∀ {m : Memory} (a v : Nat), m.wf = true →
    (m.writeBytes a n v).readBytes a n = v % 256 ^ n := by
  induction n with
  | zero => intro m a v _; simp [Memory.readBytes, Nat.mod_one]
  | succ n ih =>
    intro m a v h
    have hw := Memory.write_wf a (BitVec.ofNat 8 v) h
    simp only [Memory.writeBytes, Memory.readBytes]
    rw [ih (a + 1) (v / 256) hw, Memory.read_writeBytes_other n (a + 1) _ a hw (by omega), Memory.read_write h]
    simp only [if_true, BitVec.toNat_ofNat]
    rw [show 256 ^ (n + 1) = 256 * 256 ^ n from by rw [Nat.pow_succ, Nat.mul_comm], Nat.mod_mul]

end Sys2Proof.Machine
end

