-- ==== Sys2Proof/Laws/Tables.lean ====
section
/-!
SUPPORT. The sparse tables: a read after a write, and what a write leaves alone.
-/
namespace Sys2Proof

variable {β : Type}

@[simp] theorem Tbl.get_nil (d : β) (a : Nat) : Tbl.get d [] a = d := rfl
@[simp] theorem Tbl.find_nil (a : Nat) : Tbl.find ([] : Tbl β) a = none := rfl

/-- A table with its keys strictly rising reads back what was put, and every other key as before. -/
theorem Tbl.get_put (d : β) (t : Tbl β) (a b : Nat) (v : β) :
    Tbl.get d (t.put a v) b = if b = a then v else Tbl.get d t b := by
  induction t with
  | nil => by_cases h : b = a <;> simp [Tbl.put, Tbl.get, h]
  | cons x rest ih =>
    obtain ⟨k, w⟩ := x
    by_cases h₁ : a < k
    · simp [Tbl.put, Tbl.get, h₁]
    · by_cases h₂ : a = k
      · subst h₂
        by_cases h₃ : b = a <;> simp [Tbl.put, Tbl.get, h₃]
      · by_cases h₃ : b = k
        · subst h₃
          have : b ≠ a := fun e => h₂ e.symm
          simp [Tbl.put, Tbl.get, h₁, h₂, this]
        · simp [Tbl.put, Tbl.get, h₁, h₂, h₃, ih]

@[simp] theorem Tbl.get_put_same (d : β) (t : Tbl β) (a : Nat) (v : β) : Tbl.get d (t.put a v) a = v := by
  simp [Tbl.get_put]

theorem Tbl.get_put_other (d : β) (t : Tbl β) {a b : Nat} (v : β) (h : b ≠ a) :
    Tbl.get d (t.put a v) b = Tbl.get d t b := by simp [Tbl.get_put, h]

theorem Tbl.find_put (t : Tbl β) (a b : Nat) (v : β) :
    Tbl.find (t.put a v) b = if b = a then some v else Tbl.find t b := by
  induction t with
  | nil => by_cases h : b = a <;> simp [Tbl.put, Tbl.find, h]
  | cons x rest ih =>
    obtain ⟨k, w⟩ := x
    by_cases h₁ : a < k
    · simp [Tbl.put, Tbl.find, h₁]
    · by_cases h₂ : a = k
      · subst h₂
        by_cases h₃ : b = a <;> simp [Tbl.put, Tbl.find, h₃]
      · by_cases h₃ : b = k
        · subst h₃
          have : b ≠ a := fun e => h₂ e.symm
          simp [Tbl.put, Tbl.find, h₁, h₂, this]
        · simp [Tbl.put, Tbl.find, h₁, h₂, h₃, ih]

@[simp] theorem Tbl.find_put_same (t : Tbl β) (a : Nat) (v : β) : Tbl.find (t.put a v) a = some v := by
  simp [Tbl.find_put]

@[simp] theorem Tbl.has_put_same (t : Tbl β) (a : Nat) (v : β) : Tbl.has (t.put a v) a = true := by
  simp [Tbl.has]

/-- What a table lists is what it holds. -/
theorem Tbl.get_eq_find (d : β) (t : Tbl β) (a : Nat) : Tbl.get d t a = (Tbl.find t a).getD d := by
  induction t with
  | nil => rfl
  | cons x rest ih =>
    obtain ⟨k, w⟩ := x
    by_cases h : a = k <;> simp [Tbl.get, Tbl.find, h, ih]

end Sys2Proof
end

