-- ==== Sys2Proof/Laws/State.lean ====
section
/-!
SUPPORT. What each update of the state leaves alone, field by field, and what it leaves in the field it writes.
-/
namespace Sys2Proof.Machine

@[simp] theorem State.setCl_agenda (s : State) (c : Nat) (x : Cluster) : (s.setCl c x).agenda = s.agenda := rfl
@[simp] theorem State.setCl_cur (s : State) (c : Nat) (x : Cluster) : (s.setCl c x).cur = s.cur := rfl
@[simp] theorem State.setCl_curAct (s : State) (c : Nat) (x : Cluster) : (s.setCl c x).curAct = s.curAct := rfl
@[simp] theorem State.setCl_freeCtr (s : State) (c : Nat) (x : Cluster) : (s.setCl c x).freeCtr = s.freeCtr := rfl
@[simp] theorem State.setCl_serial (s : State) (c : Nat) (x : Cluster) : (s.setCl c x).serial = s.serial := rfl
@[simp] theorem State.setCl_mem (s : State) (c : Nat) (x : Cluster) : (s.setCl c x).mem = s.mem := rfl
@[simp] theorem State.setCl_poison (s : State) (c : Nat) (x : Cluster) : (s.setCl c x).poison = s.poison := rfl
@[simp] theorem State.setCl_eccBad (s : State) (c : Nat) (x : Cluster) : (s.setCl c x).eccBad = s.eccBad := rfl
@[simp] theorem State.setCl_hostMem (s : State) (c : Nat) (x : Cluster) : (s.setCl c x).hostMem = s.hostMem := rfl
@[simp] theorem State.setCl_netMsgs (s : State) (c : Nat) (x : Cluster) : (s.setCl c x).netMsgs = s.netMsgs := rfl
@[simp] theorem State.setCl_dies (s : State) (c : Nat) (x : Cluster) : (s.setCl c x).dies = s.dies := rfl
@[simp] theorem State.setCl_hub (s : State) (c : Nat) (x : Cluster) : (s.setCl c x).hub = s.hub := rfl
@[simp] theorem State.setCl_links (s : State) (c : Nat) (x : Cluster) : (s.setCl c x).links = s.links := rfl
@[simp] theorem State.setCl_therm (s : State) (c : Nat) (x : Cluster) : (s.setCl c x).therm = s.therm := rfl
@[simp] theorem State.setCl_hbmStacks (s : State) (c : Nat) (x : Cluster) : (s.setCl c x).hbmStacks = s.hbmStacks := rfl
@[simp] theorem State.setCl_formes (s : State) (c : Nat) (x : Cluster) : (s.setCl c x).formes = s.formes := rfl
@[simp] theorem State.setCl_objects (s : State) (c : Nat) (x : Cluster) : (s.setCl c x).objects = s.objects := rfl
@[simp] theorem State.setCl_images (s : State) (c : Nat) (x : Cluster) : (s.setCl c x).images = s.images := rfl
@[simp] theorem State.setCl_present (s : State) (c : Nat) (x : Cluster) : (s.setCl c x).present = s.present := rfl
@[simp] theorem State.setCl_lpddr (s : State) (c : Nat) (x : Cluster) : (s.setCl c x).lpddr = s.lpddr := rfl
@[simp] theorem State.setCl_cxl (s : State) (c : Nat) (x : Cluster) : (s.setCl c x).cxl = s.cxl := rfl

@[simp] theorem State.modCl_agenda (s : State) (c : Nat) (f : Cluster → Cluster) : (s.modCl c f).agenda = s.agenda := rfl
@[simp] theorem State.modCl_cur (s : State) (c : Nat) (f : Cluster → Cluster) : (s.modCl c f).cur = s.cur := rfl
@[simp] theorem State.modCl_curAct (s : State) (c : Nat) (f : Cluster → Cluster) : (s.modCl c f).curAct = s.curAct := rfl
@[simp] theorem State.modCl_freeCtr (s : State) (c : Nat) (f : Cluster → Cluster) : (s.modCl c f).freeCtr = s.freeCtr := rfl
@[simp] theorem State.modCl_serial (s : State) (c : Nat) (f : Cluster → Cluster) : (s.modCl c f).serial = s.serial := rfl
@[simp] theorem State.modCl_mem (s : State) (c : Nat) (f : Cluster → Cluster) : (s.modCl c f).mem = s.mem := rfl
@[simp] theorem State.modCl_poison (s : State) (c : Nat) (f : Cluster → Cluster) : (s.modCl c f).poison = s.poison := rfl
@[simp] theorem State.modCl_eccBad (s : State) (c : Nat) (f : Cluster → Cluster) : (s.modCl c f).eccBad = s.eccBad := rfl
@[simp] theorem State.modCl_hostMem (s : State) (c : Nat) (f : Cluster → Cluster) : (s.modCl c f).hostMem = s.hostMem := rfl
@[simp] theorem State.modCl_netMsgs (s : State) (c : Nat) (f : Cluster → Cluster) : (s.modCl c f).netMsgs = s.netMsgs := rfl
@[simp] theorem State.modCl_dies (s : State) (c : Nat) (f : Cluster → Cluster) : (s.modCl c f).dies = s.dies := rfl
@[simp] theorem State.modCl_hub (s : State) (c : Nat) (f : Cluster → Cluster) : (s.modCl c f).hub = s.hub := rfl
@[simp] theorem State.modCl_links (s : State) (c : Nat) (f : Cluster → Cluster) : (s.modCl c f).links = s.links := rfl
@[simp] theorem State.modCl_therm (s : State) (c : Nat) (f : Cluster → Cluster) : (s.modCl c f).therm = s.therm := rfl
@[simp] theorem State.modCl_hbmStacks (s : State) (c : Nat) (f : Cluster → Cluster) : (s.modCl c f).hbmStacks = s.hbmStacks := rfl
@[simp] theorem State.modCl_formes (s : State) (c : Nat) (f : Cluster → Cluster) : (s.modCl c f).formes = s.formes := rfl
@[simp] theorem State.modCl_objects (s : State) (c : Nat) (f : Cluster → Cluster) : (s.modCl c f).objects = s.objects := rfl
@[simp] theorem State.modCl_images (s : State) (c : Nat) (f : Cluster → Cluster) : (s.modCl c f).images = s.images := rfl
@[simp] theorem State.modCl_present (s : State) (c : Nat) (f : Cluster → Cluster) : (s.modCl c f).present = s.present := rfl
@[simp] theorem State.modCl_lpddr (s : State) (c : Nat) (f : Cluster → Cluster) : (s.modCl c f).lpddr = s.lpddr := rfl
@[simp] theorem State.modCl_cxl (s : State) (c : Nat) (f : Cluster → Cluster) : (s.modCl c f).cxl = s.cxl := rfl

@[simp] theorem State.modCtx_agenda (s : State) (c : Nat) (f : Ctx → Ctx) : (s.modCtx c f).agenda = s.agenda := rfl
@[simp] theorem State.modCtx_cur (s : State) (c : Nat) (f : Ctx → Ctx) : (s.modCtx c f).cur = s.cur := rfl
@[simp] theorem State.modCtx_curAct (s : State) (c : Nat) (f : Ctx → Ctx) : (s.modCtx c f).curAct = s.curAct := rfl
@[simp] theorem State.modCtx_freeCtr (s : State) (c : Nat) (f : Ctx → Ctx) : (s.modCtx c f).freeCtr = s.freeCtr := rfl
@[simp] theorem State.modCtx_serial (s : State) (c : Nat) (f : Ctx → Ctx) : (s.modCtx c f).serial = s.serial := rfl
@[simp] theorem State.modCtx_mem (s : State) (c : Nat) (f : Ctx → Ctx) : (s.modCtx c f).mem = s.mem := rfl
@[simp] theorem State.modCtx_poison (s : State) (c : Nat) (f : Ctx → Ctx) : (s.modCtx c f).poison = s.poison := rfl
@[simp] theorem State.modCtx_eccBad (s : State) (c : Nat) (f : Ctx → Ctx) : (s.modCtx c f).eccBad = s.eccBad := rfl
@[simp] theorem State.modCtx_hostMem (s : State) (c : Nat) (f : Ctx → Ctx) : (s.modCtx c f).hostMem = s.hostMem := rfl
@[simp] theorem State.modCtx_netMsgs (s : State) (c : Nat) (f : Ctx → Ctx) : (s.modCtx c f).netMsgs = s.netMsgs := rfl
@[simp] theorem State.modCtx_dies (s : State) (c : Nat) (f : Ctx → Ctx) : (s.modCtx c f).dies = s.dies := rfl
@[simp] theorem State.modCtx_hub (s : State) (c : Nat) (f : Ctx → Ctx) : (s.modCtx c f).hub = s.hub := rfl
@[simp] theorem State.modCtx_links (s : State) (c : Nat) (f : Ctx → Ctx) : (s.modCtx c f).links = s.links := rfl
@[simp] theorem State.modCtx_therm (s : State) (c : Nat) (f : Ctx → Ctx) : (s.modCtx c f).therm = s.therm := rfl
@[simp] theorem State.modCtx_hbmStacks (s : State) (c : Nat) (f : Ctx → Ctx) : (s.modCtx c f).hbmStacks = s.hbmStacks := rfl
@[simp] theorem State.modCtx_formes (s : State) (c : Nat) (f : Ctx → Ctx) : (s.modCtx c f).formes = s.formes := rfl
@[simp] theorem State.modCtx_objects (s : State) (c : Nat) (f : Ctx → Ctx) : (s.modCtx c f).objects = s.objects := rfl
@[simp] theorem State.modCtx_images (s : State) (c : Nat) (f : Ctx → Ctx) : (s.modCtx c f).images = s.images := rfl
@[simp] theorem State.modCtx_present (s : State) (c : Nat) (f : Ctx → Ctx) : (s.modCtx c f).present = s.present := rfl
@[simp] theorem State.modCtx_lpddr (s : State) (c : Nat) (f : Ctx → Ctx) : (s.modCtx c f).lpddr = s.lpddr := rfl
@[simp] theorem State.modCtx_cxl (s : State) (c : Nat) (f : Ctx → Ctx) : (s.modCtx c f).cxl = s.cxl := rfl

@[simp] theorem State.active_agenda (s : State) (c : Nat) : (s.active c).agenda = s.agenda := rfl
@[simp] theorem State.active_cur (s : State) (c : Nat) : (s.active c).cur = s.cur := rfl
@[simp] theorem State.active_curAct (s : State) (c : Nat) : (s.active c).curAct = s.curAct := rfl
@[simp] theorem State.active_freeCtr (s : State) (c : Nat) : (s.active c).freeCtr = s.freeCtr := rfl
@[simp] theorem State.active_serial (s : State) (c : Nat) : (s.active c).serial = s.serial := rfl
@[simp] theorem State.active_mem (s : State) (c : Nat) : (s.active c).mem = s.mem := rfl
@[simp] theorem State.active_poison (s : State) (c : Nat) : (s.active c).poison = s.poison := rfl
@[simp] theorem State.active_eccBad (s : State) (c : Nat) : (s.active c).eccBad = s.eccBad := rfl
@[simp] theorem State.active_hostMem (s : State) (c : Nat) : (s.active c).hostMem = s.hostMem := rfl
@[simp] theorem State.active_netMsgs (s : State) (c : Nat) : (s.active c).netMsgs = s.netMsgs := rfl
@[simp] theorem State.active_dies (s : State) (c : Nat) : (s.active c).dies = s.dies := rfl
@[simp] theorem State.active_hub (s : State) (c : Nat) : (s.active c).hub = s.hub := rfl
@[simp] theorem State.active_links (s : State) (c : Nat) : (s.active c).links = s.links := rfl
@[simp] theorem State.active_therm (s : State) (c : Nat) : (s.active c).therm = s.therm := rfl
@[simp] theorem State.active_hbmStacks (s : State) (c : Nat) : (s.active c).hbmStacks = s.hbmStacks := rfl
@[simp] theorem State.active_formes (s : State) (c : Nat) : (s.active c).formes = s.formes := rfl
@[simp] theorem State.active_objects (s : State) (c : Nat) : (s.active c).objects = s.objects := rfl
@[simp] theorem State.active_images (s : State) (c : Nat) : (s.active c).images = s.images := rfl
@[simp] theorem State.active_present (s : State) (c : Nat) : (s.active c).present = s.present := rfl
@[simp] theorem State.active_lpddr (s : State) (c : Nat) : (s.active c).lpddr = s.lpddr := rfl
@[simp] theorem State.active_cxl (s : State) (c : Nat) : (s.active c).cxl = s.cxl := rfl

@[simp] theorem State.count_agenda (s : State) (c i n : Nat) : (s.count c i n).agenda = s.agenda := rfl
@[simp] theorem State.count_cur (s : State) (c i n : Nat) : (s.count c i n).cur = s.cur := rfl
@[simp] theorem State.count_curAct (s : State) (c i n : Nat) : (s.count c i n).curAct = s.curAct := rfl
@[simp] theorem State.count_freeCtr (s : State) (c i n : Nat) : (s.count c i n).freeCtr = s.freeCtr := rfl
@[simp] theorem State.count_serial (s : State) (c i n : Nat) : (s.count c i n).serial = s.serial := rfl
@[simp] theorem State.count_mem (s : State) (c i n : Nat) : (s.count c i n).mem = s.mem := rfl
@[simp] theorem State.count_poison (s : State) (c i n : Nat) : (s.count c i n).poison = s.poison := rfl
@[simp] theorem State.count_eccBad (s : State) (c i n : Nat) : (s.count c i n).eccBad = s.eccBad := rfl
@[simp] theorem State.count_hostMem (s : State) (c i n : Nat) : (s.count c i n).hostMem = s.hostMem := rfl
@[simp] theorem State.count_netMsgs (s : State) (c i n : Nat) : (s.count c i n).netMsgs = s.netMsgs := rfl
@[simp] theorem State.count_dies (s : State) (c i n : Nat) : (s.count c i n).dies = s.dies := rfl
@[simp] theorem State.count_hub (s : State) (c i n : Nat) : (s.count c i n).hub = s.hub := rfl
@[simp] theorem State.count_links (s : State) (c i n : Nat) : (s.count c i n).links = s.links := rfl
@[simp] theorem State.count_therm (s : State) (c i n : Nat) : (s.count c i n).therm = s.therm := rfl
@[simp] theorem State.count_hbmStacks (s : State) (c i n : Nat) : (s.count c i n).hbmStacks = s.hbmStacks := rfl
@[simp] theorem State.count_formes (s : State) (c i n : Nat) : (s.count c i n).formes = s.formes := rfl
@[simp] theorem State.count_objects (s : State) (c i n : Nat) : (s.count c i n).objects = s.objects := rfl
@[simp] theorem State.count_images (s : State) (c i n : Nat) : (s.count c i n).images = s.images := rfl
@[simp] theorem State.count_present (s : State) (c i n : Nat) : (s.count c i n).present = s.present := rfl
@[simp] theorem State.count_lpddr (s : State) (c i n : Nat) : (s.count c i n).lpddr = s.lpddr := rfl
@[simp] theorem State.count_cxl (s : State) (c i n : Nat) : (s.count c i n).cxl = s.cxl := rfl

@[simp] theorem State.countSubst_agenda (s : State) (c : Nat) : (s.countSubst c).agenda = s.agenda := rfl
@[simp] theorem State.countSubst_cur (s : State) (c : Nat) : (s.countSubst c).cur = s.cur := rfl
@[simp] theorem State.countSubst_curAct (s : State) (c : Nat) : (s.countSubst c).curAct = s.curAct := rfl
@[simp] theorem State.countSubst_freeCtr (s : State) (c : Nat) : (s.countSubst c).freeCtr = s.freeCtr := rfl
@[simp] theorem State.countSubst_serial (s : State) (c : Nat) : (s.countSubst c).serial = s.serial := rfl
@[simp] theorem State.countSubst_mem (s : State) (c : Nat) : (s.countSubst c).mem = s.mem := rfl
@[simp] theorem State.countSubst_poison (s : State) (c : Nat) : (s.countSubst c).poison = s.poison := rfl
@[simp] theorem State.countSubst_eccBad (s : State) (c : Nat) : (s.countSubst c).eccBad = s.eccBad := rfl
@[simp] theorem State.countSubst_hostMem (s : State) (c : Nat) : (s.countSubst c).hostMem = s.hostMem := rfl
@[simp] theorem State.countSubst_netMsgs (s : State) (c : Nat) : (s.countSubst c).netMsgs = s.netMsgs := rfl
@[simp] theorem State.countSubst_dies (s : State) (c : Nat) : (s.countSubst c).dies = s.dies := rfl
@[simp] theorem State.countSubst_hub (s : State) (c : Nat) : (s.countSubst c).hub = s.hub := rfl
@[simp] theorem State.countSubst_links (s : State) (c : Nat) : (s.countSubst c).links = s.links := rfl
@[simp] theorem State.countSubst_therm (s : State) (c : Nat) : (s.countSubst c).therm = s.therm := rfl
@[simp] theorem State.countSubst_hbmStacks (s : State) (c : Nat) : (s.countSubst c).hbmStacks = s.hbmStacks := rfl
@[simp] theorem State.countSubst_formes (s : State) (c : Nat) : (s.countSubst c).formes = s.formes := rfl
@[simp] theorem State.countSubst_objects (s : State) (c : Nat) : (s.countSubst c).objects = s.objects := rfl
@[simp] theorem State.countSubst_images (s : State) (c : Nat) : (s.countSubst c).images = s.images := rfl
@[simp] theorem State.countSubst_present (s : State) (c : Nat) : (s.countSubst c).present = s.present := rfl
@[simp] theorem State.countSubst_lpddr (s : State) (c : Nat) : (s.countSubst c).lpddr = s.lpddr := rfl
@[simp] theorem State.countSubst_cxl (s : State) (c : Nat) : (s.countSubst c).cxl = s.cxl := rfl

@[simp] theorem State.modPe_agenda (s : State) (c u : Nat) (f : PeReg → PeReg) : (s.modPe c u f).agenda = s.agenda := rfl
@[simp] theorem State.modPe_cur (s : State) (c u : Nat) (f : PeReg → PeReg) : (s.modPe c u f).cur = s.cur := rfl
@[simp] theorem State.modPe_curAct (s : State) (c u : Nat) (f : PeReg → PeReg) : (s.modPe c u f).curAct = s.curAct := rfl
@[simp] theorem State.modPe_freeCtr (s : State) (c u : Nat) (f : PeReg → PeReg) : (s.modPe c u f).freeCtr = s.freeCtr := rfl
@[simp] theorem State.modPe_serial (s : State) (c u : Nat) (f : PeReg → PeReg) : (s.modPe c u f).serial = s.serial := rfl
@[simp] theorem State.modPe_mem (s : State) (c u : Nat) (f : PeReg → PeReg) : (s.modPe c u f).mem = s.mem := rfl
@[simp] theorem State.modPe_poison (s : State) (c u : Nat) (f : PeReg → PeReg) : (s.modPe c u f).poison = s.poison := rfl
@[simp] theorem State.modPe_eccBad (s : State) (c u : Nat) (f : PeReg → PeReg) : (s.modPe c u f).eccBad = s.eccBad := rfl
@[simp] theorem State.modPe_hostMem (s : State) (c u : Nat) (f : PeReg → PeReg) : (s.modPe c u f).hostMem = s.hostMem := rfl
@[simp] theorem State.modPe_netMsgs (s : State) (c u : Nat) (f : PeReg → PeReg) : (s.modPe c u f).netMsgs = s.netMsgs := rfl
@[simp] theorem State.modPe_dies (s : State) (c u : Nat) (f : PeReg → PeReg) : (s.modPe c u f).dies = s.dies := rfl
@[simp] theorem State.modPe_hub (s : State) (c u : Nat) (f : PeReg → PeReg) : (s.modPe c u f).hub = s.hub := rfl
@[simp] theorem State.modPe_links (s : State) (c u : Nat) (f : PeReg → PeReg) : (s.modPe c u f).links = s.links := rfl
@[simp] theorem State.modPe_therm (s : State) (c u : Nat) (f : PeReg → PeReg) : (s.modPe c u f).therm = s.therm := rfl
@[simp] theorem State.modPe_hbmStacks (s : State) (c u : Nat) (f : PeReg → PeReg) : (s.modPe c u f).hbmStacks = s.hbmStacks := rfl
@[simp] theorem State.modPe_formes (s : State) (c u : Nat) (f : PeReg → PeReg) : (s.modPe c u f).formes = s.formes := rfl
@[simp] theorem State.modPe_objects (s : State) (c u : Nat) (f : PeReg → PeReg) : (s.modPe c u f).objects = s.objects := rfl
@[simp] theorem State.modPe_images (s : State) (c u : Nat) (f : PeReg → PeReg) : (s.modPe c u f).images = s.images := rfl
@[simp] theorem State.modPe_present (s : State) (c u : Nat) (f : PeReg → PeReg) : (s.modPe c u f).present = s.present := rfl
@[simp] theorem State.modPe_lpddr (s : State) (c u : Nat) (f : PeReg → PeReg) : (s.modPe c u f).lpddr = s.lpddr := rfl
@[simp] theorem State.modPe_cxl (s : State) (c u : Nat) (f : PeReg → PeReg) : (s.modPe c u f).cxl = s.cxl := rfl

@[simp] theorem State.modChan_agenda (s : State) (c k : Nat) (f : Channel → Channel) : (s.modChan c k f).agenda = s.agenda := rfl
@[simp] theorem State.modChan_cur (s : State) (c k : Nat) (f : Channel → Channel) : (s.modChan c k f).cur = s.cur := rfl
@[simp] theorem State.modChan_curAct (s : State) (c k : Nat) (f : Channel → Channel) : (s.modChan c k f).curAct = s.curAct := rfl
@[simp] theorem State.modChan_freeCtr (s : State) (c k : Nat) (f : Channel → Channel) : (s.modChan c k f).freeCtr = s.freeCtr := rfl
@[simp] theorem State.modChan_serial (s : State) (c k : Nat) (f : Channel → Channel) : (s.modChan c k f).serial = s.serial := rfl
@[simp] theorem State.modChan_mem (s : State) (c k : Nat) (f : Channel → Channel) : (s.modChan c k f).mem = s.mem := rfl
@[simp] theorem State.modChan_poison (s : State) (c k : Nat) (f : Channel → Channel) : (s.modChan c k f).poison = s.poison := rfl
@[simp] theorem State.modChan_eccBad (s : State) (c k : Nat) (f : Channel → Channel) : (s.modChan c k f).eccBad = s.eccBad := rfl
@[simp] theorem State.modChan_hostMem (s : State) (c k : Nat) (f : Channel → Channel) : (s.modChan c k f).hostMem = s.hostMem := rfl
@[simp] theorem State.modChan_netMsgs (s : State) (c k : Nat) (f : Channel → Channel) : (s.modChan c k f).netMsgs = s.netMsgs := rfl
@[simp] theorem State.modChan_dies (s : State) (c k : Nat) (f : Channel → Channel) : (s.modChan c k f).dies = s.dies := rfl
@[simp] theorem State.modChan_hub (s : State) (c k : Nat) (f : Channel → Channel) : (s.modChan c k f).hub = s.hub := rfl
@[simp] theorem State.modChan_links (s : State) (c k : Nat) (f : Channel → Channel) : (s.modChan c k f).links = s.links := rfl
@[simp] theorem State.modChan_therm (s : State) (c k : Nat) (f : Channel → Channel) : (s.modChan c k f).therm = s.therm := rfl
@[simp] theorem State.modChan_hbmStacks (s : State) (c k : Nat) (f : Channel → Channel) : (s.modChan c k f).hbmStacks = s.hbmStacks := rfl
@[simp] theorem State.modChan_formes (s : State) (c k : Nat) (f : Channel → Channel) : (s.modChan c k f).formes = s.formes := rfl
@[simp] theorem State.modChan_objects (s : State) (c k : Nat) (f : Channel → Channel) : (s.modChan c k f).objects = s.objects := rfl
@[simp] theorem State.modChan_images (s : State) (c k : Nat) (f : Channel → Channel) : (s.modChan c k f).images = s.images := rfl
@[simp] theorem State.modChan_present (s : State) (c k : Nat) (f : Channel → Channel) : (s.modChan c k f).present = s.present := rfl
@[simp] theorem State.modChan_lpddr (s : State) (c k : Nat) (f : Channel → Channel) : (s.modChan c k f).lpddr = s.lpddr := rfl
@[simp] theorem State.modChan_cxl (s : State) (c k : Nat) (f : Channel → Channel) : (s.modChan c k f).cxl = s.cxl := rfl

@[simp] theorem State.modRing_agenda (s : State) (c k : Nat) (f : Ring → Ring) : (s.modRing c k f).agenda = s.agenda := rfl
@[simp] theorem State.modRing_cur (s : State) (c k : Nat) (f : Ring → Ring) : (s.modRing c k f).cur = s.cur := rfl
@[simp] theorem State.modRing_curAct (s : State) (c k : Nat) (f : Ring → Ring) : (s.modRing c k f).curAct = s.curAct := rfl
@[simp] theorem State.modRing_freeCtr (s : State) (c k : Nat) (f : Ring → Ring) : (s.modRing c k f).freeCtr = s.freeCtr := rfl
@[simp] theorem State.modRing_serial (s : State) (c k : Nat) (f : Ring → Ring) : (s.modRing c k f).serial = s.serial := rfl
@[simp] theorem State.modRing_mem (s : State) (c k : Nat) (f : Ring → Ring) : (s.modRing c k f).mem = s.mem := rfl
@[simp] theorem State.modRing_poison (s : State) (c k : Nat) (f : Ring → Ring) : (s.modRing c k f).poison = s.poison := rfl
@[simp] theorem State.modRing_eccBad (s : State) (c k : Nat) (f : Ring → Ring) : (s.modRing c k f).eccBad = s.eccBad := rfl
@[simp] theorem State.modRing_hostMem (s : State) (c k : Nat) (f : Ring → Ring) : (s.modRing c k f).hostMem = s.hostMem := rfl
@[simp] theorem State.modRing_netMsgs (s : State) (c k : Nat) (f : Ring → Ring) : (s.modRing c k f).netMsgs = s.netMsgs := rfl
@[simp] theorem State.modRing_dies (s : State) (c k : Nat) (f : Ring → Ring) : (s.modRing c k f).dies = s.dies := rfl
@[simp] theorem State.modRing_hub (s : State) (c k : Nat) (f : Ring → Ring) : (s.modRing c k f).hub = s.hub := rfl
@[simp] theorem State.modRing_links (s : State) (c k : Nat) (f : Ring → Ring) : (s.modRing c k f).links = s.links := rfl
@[simp] theorem State.modRing_therm (s : State) (c k : Nat) (f : Ring → Ring) : (s.modRing c k f).therm = s.therm := rfl
@[simp] theorem State.modRing_hbmStacks (s : State) (c k : Nat) (f : Ring → Ring) : (s.modRing c k f).hbmStacks = s.hbmStacks := rfl
@[simp] theorem State.modRing_formes (s : State) (c k : Nat) (f : Ring → Ring) : (s.modRing c k f).formes = s.formes := rfl
@[simp] theorem State.modRing_objects (s : State) (c k : Nat) (f : Ring → Ring) : (s.modRing c k f).objects = s.objects := rfl
@[simp] theorem State.modRing_images (s : State) (c k : Nat) (f : Ring → Ring) : (s.modRing c k f).images = s.images := rfl
@[simp] theorem State.modRing_present (s : State) (c k : Nat) (f : Ring → Ring) : (s.modRing c k f).present = s.present := rfl
@[simp] theorem State.modRing_lpddr (s : State) (c k : Nat) (f : Ring → Ring) : (s.modRing c k f).lpddr = s.lpddr := rfl
@[simp] theorem State.modRing_cxl (s : State) (c k : Nat) (f : Ring → Ring) : (s.modRing c k f).cxl = s.cxl := rfl

@[simp] theorem State.setFrame_agenda (s : State) (t : Tag) (f : Frame) : (s.setFrame t f).agenda = s.agenda := rfl
@[simp] theorem State.setFrame_cur (s : State) (t : Tag) (f : Frame) : (s.setFrame t f).cur = s.cur := rfl
@[simp] theorem State.setFrame_curAct (s : State) (t : Tag) (f : Frame) : (s.setFrame t f).curAct = s.curAct := rfl
@[simp] theorem State.setFrame_freeCtr (s : State) (t : Tag) (f : Frame) : (s.setFrame t f).freeCtr = s.freeCtr := rfl
@[simp] theorem State.setFrame_serial (s : State) (t : Tag) (f : Frame) : (s.setFrame t f).serial = s.serial := rfl
@[simp] theorem State.setFrame_mem (s : State) (t : Tag) (f : Frame) : (s.setFrame t f).mem = s.mem := rfl
@[simp] theorem State.setFrame_poison (s : State) (t : Tag) (f : Frame) : (s.setFrame t f).poison = s.poison := rfl
@[simp] theorem State.setFrame_eccBad (s : State) (t : Tag) (f : Frame) : (s.setFrame t f).eccBad = s.eccBad := rfl
@[simp] theorem State.setFrame_hostMem (s : State) (t : Tag) (f : Frame) : (s.setFrame t f).hostMem = s.hostMem := rfl
@[simp] theorem State.setFrame_netMsgs (s : State) (t : Tag) (f : Frame) : (s.setFrame t f).netMsgs = s.netMsgs := rfl
@[simp] theorem State.setFrame_dies (s : State) (t : Tag) (f : Frame) : (s.setFrame t f).dies = s.dies := rfl
@[simp] theorem State.setFrame_hub (s : State) (t : Tag) (f : Frame) : (s.setFrame t f).hub = s.hub := rfl
@[simp] theorem State.setFrame_links (s : State) (t : Tag) (f : Frame) : (s.setFrame t f).links = s.links := rfl
@[simp] theorem State.setFrame_therm (s : State) (t : Tag) (f : Frame) : (s.setFrame t f).therm = s.therm := rfl
@[simp] theorem State.setFrame_hbmStacks (s : State) (t : Tag) (f : Frame) : (s.setFrame t f).hbmStacks = s.hbmStacks := rfl
@[simp] theorem State.setFrame_formes (s : State) (t : Tag) (f : Frame) : (s.setFrame t f).formes = s.formes := rfl
@[simp] theorem State.setFrame_objects (s : State) (t : Tag) (f : Frame) : (s.setFrame t f).objects = s.objects := rfl
@[simp] theorem State.setFrame_images (s : State) (t : Tag) (f : Frame) : (s.setFrame t f).images = s.images := rfl
@[simp] theorem State.setFrame_present (s : State) (t : Tag) (f : Frame) : (s.setFrame t f).present = s.present := rfl
@[simp] theorem State.setFrame_lpddr (s : State) (t : Tag) (f : Frame) : (s.setFrame t f).lpddr = s.lpddr := rfl
@[simp] theorem State.setFrame_cxl (s : State) (t : Tag) (f : Frame) : (s.setFrame t f).cxl = s.cxl := rfl

@[simp] theorem State.pendDel_agenda (s : State) (c k : Nat) : (s.pendDel c k).agenda = s.agenda := rfl
@[simp] theorem State.pendDel_cur (s : State) (c k : Nat) : (s.pendDel c k).cur = s.cur := rfl
@[simp] theorem State.pendDel_curAct (s : State) (c k : Nat) : (s.pendDel c k).curAct = s.curAct := rfl
@[simp] theorem State.pendDel_freeCtr (s : State) (c k : Nat) : (s.pendDel c k).freeCtr = s.freeCtr := rfl
@[simp] theorem State.pendDel_serial (s : State) (c k : Nat) : (s.pendDel c k).serial = s.serial := rfl
@[simp] theorem State.pendDel_mem (s : State) (c k : Nat) : (s.pendDel c k).mem = s.mem := rfl
@[simp] theorem State.pendDel_poison (s : State) (c k : Nat) : (s.pendDel c k).poison = s.poison := rfl
@[simp] theorem State.pendDel_eccBad (s : State) (c k : Nat) : (s.pendDel c k).eccBad = s.eccBad := rfl
@[simp] theorem State.pendDel_hostMem (s : State) (c k : Nat) : (s.pendDel c k).hostMem = s.hostMem := rfl
@[simp] theorem State.pendDel_netMsgs (s : State) (c k : Nat) : (s.pendDel c k).netMsgs = s.netMsgs := rfl
@[simp] theorem State.pendDel_dies (s : State) (c k : Nat) : (s.pendDel c k).dies = s.dies := rfl
@[simp] theorem State.pendDel_hub (s : State) (c k : Nat) : (s.pendDel c k).hub = s.hub := rfl
@[simp] theorem State.pendDel_links (s : State) (c k : Nat) : (s.pendDel c k).links = s.links := rfl
@[simp] theorem State.pendDel_therm (s : State) (c k : Nat) : (s.pendDel c k).therm = s.therm := rfl
@[simp] theorem State.pendDel_hbmStacks (s : State) (c k : Nat) : (s.pendDel c k).hbmStacks = s.hbmStacks := rfl
@[simp] theorem State.pendDel_formes (s : State) (c k : Nat) : (s.pendDel c k).formes = s.formes := rfl
@[simp] theorem State.pendDel_objects (s : State) (c k : Nat) : (s.pendDel c k).objects = s.objects := rfl
@[simp] theorem State.pendDel_images (s : State) (c k : Nat) : (s.pendDel c k).images = s.images := rfl
@[simp] theorem State.pendDel_present (s : State) (c k : Nat) : (s.pendDel c k).present = s.present := rfl
@[simp] theorem State.pendDel_lpddr (s : State) (c k : Nat) : (s.pendDel c k).lpddr = s.lpddr := rfl
@[simp] theorem State.pendDel_cxl (s : State) (c k : Nat) : (s.pendDel c k).cxl = s.cxl := rfl

@[simp] theorem State.pendSet_agenda (s : State) (c k : Nat) (w : Waiting) : (s.pendSet c k w).agenda = s.agenda := rfl
@[simp] theorem State.pendSet_cur (s : State) (c k : Nat) (w : Waiting) : (s.pendSet c k w).cur = s.cur := rfl
@[simp] theorem State.pendSet_curAct (s : State) (c k : Nat) (w : Waiting) : (s.pendSet c k w).curAct = s.curAct := rfl
@[simp] theorem State.pendSet_freeCtr (s : State) (c k : Nat) (w : Waiting) : (s.pendSet c k w).freeCtr = s.freeCtr := rfl
@[simp] theorem State.pendSet_serial (s : State) (c k : Nat) (w : Waiting) : (s.pendSet c k w).serial = s.serial := rfl
@[simp] theorem State.pendSet_mem (s : State) (c k : Nat) (w : Waiting) : (s.pendSet c k w).mem = s.mem := rfl
@[simp] theorem State.pendSet_poison (s : State) (c k : Nat) (w : Waiting) : (s.pendSet c k w).poison = s.poison := rfl
@[simp] theorem State.pendSet_eccBad (s : State) (c k : Nat) (w : Waiting) : (s.pendSet c k w).eccBad = s.eccBad := rfl
@[simp] theorem State.pendSet_hostMem (s : State) (c k : Nat) (w : Waiting) : (s.pendSet c k w).hostMem = s.hostMem := rfl
@[simp] theorem State.pendSet_netMsgs (s : State) (c k : Nat) (w : Waiting) : (s.pendSet c k w).netMsgs = s.netMsgs := rfl
@[simp] theorem State.pendSet_dies (s : State) (c k : Nat) (w : Waiting) : (s.pendSet c k w).dies = s.dies := rfl
@[simp] theorem State.pendSet_hub (s : State) (c k : Nat) (w : Waiting) : (s.pendSet c k w).hub = s.hub := rfl
@[simp] theorem State.pendSet_links (s : State) (c k : Nat) (w : Waiting) : (s.pendSet c k w).links = s.links := rfl
@[simp] theorem State.pendSet_therm (s : State) (c k : Nat) (w : Waiting) : (s.pendSet c k w).therm = s.therm := rfl
@[simp] theorem State.pendSet_hbmStacks (s : State) (c k : Nat) (w : Waiting) : (s.pendSet c k w).hbmStacks = s.hbmStacks := rfl
@[simp] theorem State.pendSet_formes (s : State) (c k : Nat) (w : Waiting) : (s.pendSet c k w).formes = s.formes := rfl
@[simp] theorem State.pendSet_objects (s : State) (c k : Nat) (w : Waiting) : (s.pendSet c k w).objects = s.objects := rfl
@[simp] theorem State.pendSet_images (s : State) (c k : Nat) (w : Waiting) : (s.pendSet c k w).images = s.images := rfl
@[simp] theorem State.pendSet_present (s : State) (c k : Nat) (w : Waiting) : (s.pendSet c k w).present = s.present := rfl
@[simp] theorem State.pendSet_lpddr (s : State) (c k : Nat) (w : Waiting) : (s.pendSet c k w).lpddr = s.lpddr := rfl
@[simp] theorem State.pendSet_cxl (s : State) (c k : Nat) (w : Waiting) : (s.pendSet c k w).cxl = s.cxl := rfl

@[simp] theorem State.modHub_agenda (s : State) (f : Hub → Hub) : (s.modHub f).agenda = s.agenda := rfl
@[simp] theorem State.modHub_cur (s : State) (f : Hub → Hub) : (s.modHub f).cur = s.cur := rfl
@[simp] theorem State.modHub_curAct (s : State) (f : Hub → Hub) : (s.modHub f).curAct = s.curAct := rfl
@[simp] theorem State.modHub_freeCtr (s : State) (f : Hub → Hub) : (s.modHub f).freeCtr = s.freeCtr := rfl
@[simp] theorem State.modHub_serial (s : State) (f : Hub → Hub) : (s.modHub f).serial = s.serial := rfl
@[simp] theorem State.modHub_mem (s : State) (f : Hub → Hub) : (s.modHub f).mem = s.mem := rfl
@[simp] theorem State.modHub_poison (s : State) (f : Hub → Hub) : (s.modHub f).poison = s.poison := rfl
@[simp] theorem State.modHub_eccBad (s : State) (f : Hub → Hub) : (s.modHub f).eccBad = s.eccBad := rfl
@[simp] theorem State.modHub_hostMem (s : State) (f : Hub → Hub) : (s.modHub f).hostMem = s.hostMem := rfl
@[simp] theorem State.modHub_netMsgs (s : State) (f : Hub → Hub) : (s.modHub f).netMsgs = s.netMsgs := rfl
@[simp] theorem State.modHub_cls (s : State) (f : Hub → Hub) : (s.modHub f).cls = s.cls := rfl
@[simp] theorem State.modHub_dies (s : State) (f : Hub → Hub) : (s.modHub f).dies = s.dies := rfl
@[simp] theorem State.modHub_links (s : State) (f : Hub → Hub) : (s.modHub f).links = s.links := rfl
@[simp] theorem State.modHub_therm (s : State) (f : Hub → Hub) : (s.modHub f).therm = s.therm := rfl
@[simp] theorem State.modHub_hbmStacks (s : State) (f : Hub → Hub) : (s.modHub f).hbmStacks = s.hbmStacks := rfl
@[simp] theorem State.modHub_formes (s : State) (f : Hub → Hub) : (s.modHub f).formes = s.formes := rfl
@[simp] theorem State.modHub_objects (s : State) (f : Hub → Hub) : (s.modHub f).objects = s.objects := rfl
@[simp] theorem State.modHub_images (s : State) (f : Hub → Hub) : (s.modHub f).images = s.images := rfl
@[simp] theorem State.modHub_present (s : State) (f : Hub → Hub) : (s.modHub f).present = s.present := rfl
@[simp] theorem State.modHub_lpddr (s : State) (f : Hub → Hub) : (s.modHub f).lpddr = s.lpddr := rfl
@[simp] theorem State.modHub_cxl (s : State) (f : Hub → Hub) : (s.modHub f).cxl = s.cxl := rfl

@[simp] theorem State.modSlot_agenda (s : State) (k : Nat) (f : Slot → Slot) : (s.modSlot k f).agenda = s.agenda := rfl
@[simp] theorem State.modSlot_cur (s : State) (k : Nat) (f : Slot → Slot) : (s.modSlot k f).cur = s.cur := rfl
@[simp] theorem State.modSlot_curAct (s : State) (k : Nat) (f : Slot → Slot) : (s.modSlot k f).curAct = s.curAct := rfl
@[simp] theorem State.modSlot_freeCtr (s : State) (k : Nat) (f : Slot → Slot) : (s.modSlot k f).freeCtr = s.freeCtr := rfl
@[simp] theorem State.modSlot_serial (s : State) (k : Nat) (f : Slot → Slot) : (s.modSlot k f).serial = s.serial := rfl
@[simp] theorem State.modSlot_mem (s : State) (k : Nat) (f : Slot → Slot) : (s.modSlot k f).mem = s.mem := rfl
@[simp] theorem State.modSlot_poison (s : State) (k : Nat) (f : Slot → Slot) : (s.modSlot k f).poison = s.poison := rfl
@[simp] theorem State.modSlot_eccBad (s : State) (k : Nat) (f : Slot → Slot) : (s.modSlot k f).eccBad = s.eccBad := rfl
@[simp] theorem State.modSlot_hostMem (s : State) (k : Nat) (f : Slot → Slot) : (s.modSlot k f).hostMem = s.hostMem := rfl
@[simp] theorem State.modSlot_netMsgs (s : State) (k : Nat) (f : Slot → Slot) : (s.modSlot k f).netMsgs = s.netMsgs := rfl
@[simp] theorem State.modSlot_cls (s : State) (k : Nat) (f : Slot → Slot) : (s.modSlot k f).cls = s.cls := rfl
@[simp] theorem State.modSlot_dies (s : State) (k : Nat) (f : Slot → Slot) : (s.modSlot k f).dies = s.dies := rfl
@[simp] theorem State.modSlot_links (s : State) (k : Nat) (f : Slot → Slot) : (s.modSlot k f).links = s.links := rfl
@[simp] theorem State.modSlot_therm (s : State) (k : Nat) (f : Slot → Slot) : (s.modSlot k f).therm = s.therm := rfl
@[simp] theorem State.modSlot_hbmStacks (s : State) (k : Nat) (f : Slot → Slot) : (s.modSlot k f).hbmStacks = s.hbmStacks := rfl
@[simp] theorem State.modSlot_formes (s : State) (k : Nat) (f : Slot → Slot) : (s.modSlot k f).formes = s.formes := rfl
@[simp] theorem State.modSlot_objects (s : State) (k : Nat) (f : Slot → Slot) : (s.modSlot k f).objects = s.objects := rfl
@[simp] theorem State.modSlot_images (s : State) (k : Nat) (f : Slot → Slot) : (s.modSlot k f).images = s.images := rfl
@[simp] theorem State.modSlot_present (s : State) (k : Nat) (f : Slot → Slot) : (s.modSlot k f).present = s.present := rfl
@[simp] theorem State.modSlot_lpddr (s : State) (k : Nat) (f : Slot → Slot) : (s.modSlot k f).lpddr = s.lpddr := rfl
@[simp] theorem State.modSlot_cxl (s : State) (k : Nat) (f : Slot → Slot) : (s.modSlot k f).cxl = s.cxl := rfl

@[simp] theorem State.modCnt_agenda (s : State) (n : Nat) (f : Counter → Counter) : (s.modCnt n f).agenda = s.agenda := rfl
@[simp] theorem State.modCnt_cur (s : State) (n : Nat) (f : Counter → Counter) : (s.modCnt n f).cur = s.cur := rfl
@[simp] theorem State.modCnt_curAct (s : State) (n : Nat) (f : Counter → Counter) : (s.modCnt n f).curAct = s.curAct := rfl
@[simp] theorem State.modCnt_freeCtr (s : State) (n : Nat) (f : Counter → Counter) : (s.modCnt n f).freeCtr = s.freeCtr := rfl
@[simp] theorem State.modCnt_serial (s : State) (n : Nat) (f : Counter → Counter) : (s.modCnt n f).serial = s.serial := rfl
@[simp] theorem State.modCnt_mem (s : State) (n : Nat) (f : Counter → Counter) : (s.modCnt n f).mem = s.mem := rfl
@[simp] theorem State.modCnt_poison (s : State) (n : Nat) (f : Counter → Counter) : (s.modCnt n f).poison = s.poison := rfl
@[simp] theorem State.modCnt_eccBad (s : State) (n : Nat) (f : Counter → Counter) : (s.modCnt n f).eccBad = s.eccBad := rfl
@[simp] theorem State.modCnt_hostMem (s : State) (n : Nat) (f : Counter → Counter) : (s.modCnt n f).hostMem = s.hostMem := rfl
@[simp] theorem State.modCnt_netMsgs (s : State) (n : Nat) (f : Counter → Counter) : (s.modCnt n f).netMsgs = s.netMsgs := rfl
@[simp] theorem State.modCnt_cls (s : State) (n : Nat) (f : Counter → Counter) : (s.modCnt n f).cls = s.cls := rfl
@[simp] theorem State.modCnt_dies (s : State) (n : Nat) (f : Counter → Counter) : (s.modCnt n f).dies = s.dies := rfl
@[simp] theorem State.modCnt_links (s : State) (n : Nat) (f : Counter → Counter) : (s.modCnt n f).links = s.links := rfl
@[simp] theorem State.modCnt_therm (s : State) (n : Nat) (f : Counter → Counter) : (s.modCnt n f).therm = s.therm := rfl
@[simp] theorem State.modCnt_hbmStacks (s : State) (n : Nat) (f : Counter → Counter) : (s.modCnt n f).hbmStacks = s.hbmStacks := rfl
@[simp] theorem State.modCnt_formes (s : State) (n : Nat) (f : Counter → Counter) : (s.modCnt n f).formes = s.formes := rfl
@[simp] theorem State.modCnt_objects (s : State) (n : Nat) (f : Counter → Counter) : (s.modCnt n f).objects = s.objects := rfl
@[simp] theorem State.modCnt_images (s : State) (n : Nat) (f : Counter → Counter) : (s.modCnt n f).images = s.images := rfl
@[simp] theorem State.modCnt_present (s : State) (n : Nat) (f : Counter → Counter) : (s.modCnt n f).present = s.present := rfl
@[simp] theorem State.modCnt_lpddr (s : State) (n : Nat) (f : Counter → Counter) : (s.modCnt n f).lpddr = s.lpddr := rfl
@[simp] theorem State.modCnt_cxl (s : State) (n : Nat) (f : Counter → Counter) : (s.modCnt n f).cxl = s.cxl := rfl

@[simp] theorem State.pushFault_agenda (s : State) (r : FaultRec) : (s.pushFault r).agenda = s.agenda := rfl
@[simp] theorem State.pushFault_cur (s : State) (r : FaultRec) : (s.pushFault r).cur = s.cur := rfl
@[simp] theorem State.pushFault_curAct (s : State) (r : FaultRec) : (s.pushFault r).curAct = s.curAct := rfl
@[simp] theorem State.pushFault_freeCtr (s : State) (r : FaultRec) : (s.pushFault r).freeCtr = s.freeCtr := rfl
@[simp] theorem State.pushFault_serial (s : State) (r : FaultRec) : (s.pushFault r).serial = s.serial := rfl
@[simp] theorem State.pushFault_mem (s : State) (r : FaultRec) : (s.pushFault r).mem = s.mem := rfl
@[simp] theorem State.pushFault_poison (s : State) (r : FaultRec) : (s.pushFault r).poison = s.poison := rfl
@[simp] theorem State.pushFault_eccBad (s : State) (r : FaultRec) : (s.pushFault r).eccBad = s.eccBad := rfl
@[simp] theorem State.pushFault_hostMem (s : State) (r : FaultRec) : (s.pushFault r).hostMem = s.hostMem := rfl
@[simp] theorem State.pushFault_netMsgs (s : State) (r : FaultRec) : (s.pushFault r).netMsgs = s.netMsgs := rfl
@[simp] theorem State.pushFault_cls (s : State) (r : FaultRec) : (s.pushFault r).cls = s.cls := rfl
@[simp] theorem State.pushFault_dies (s : State) (r : FaultRec) : (s.pushFault r).dies = s.dies := rfl
@[simp] theorem State.pushFault_links (s : State) (r : FaultRec) : (s.pushFault r).links = s.links := rfl
@[simp] theorem State.pushFault_therm (s : State) (r : FaultRec) : (s.pushFault r).therm = s.therm := rfl
@[simp] theorem State.pushFault_hbmStacks (s : State) (r : FaultRec) : (s.pushFault r).hbmStacks = s.hbmStacks := rfl
@[simp] theorem State.pushFault_formes (s : State) (r : FaultRec) : (s.pushFault r).formes = s.formes := rfl
@[simp] theorem State.pushFault_objects (s : State) (r : FaultRec) : (s.pushFault r).objects = s.objects := rfl
@[simp] theorem State.pushFault_images (s : State) (r : FaultRec) : (s.pushFault r).images = s.images := rfl
@[simp] theorem State.pushFault_present (s : State) (r : FaultRec) : (s.pushFault r).present = s.present := rfl
@[simp] theorem State.pushFault_lpddr (s : State) (r : FaultRec) : (s.pushFault r).lpddr = s.lpddr := rfl
@[simp] theorem State.pushFault_cxl (s : State) (r : FaultRec) : (s.pushFault r).cxl = s.cxl := rfl

@[simp] theorem State.record_agenda (s : State) (q code c u n o : Nat) (t : Tag) (k : Nat) : (s.record q code c u n o t k).agenda = s.agenda := rfl
@[simp] theorem State.record_cur (s : State) (q code c u n o : Nat) (t : Tag) (k : Nat) : (s.record q code c u n o t k).cur = s.cur := rfl
@[simp] theorem State.record_curAct (s : State) (q code c u n o : Nat) (t : Tag) (k : Nat) : (s.record q code c u n o t k).curAct = s.curAct := rfl
@[simp] theorem State.record_freeCtr (s : State) (q code c u n o : Nat) (t : Tag) (k : Nat) : (s.record q code c u n o t k).freeCtr = s.freeCtr := rfl
@[simp] theorem State.record_serial (s : State) (q code c u n o : Nat) (t : Tag) (k : Nat) : (s.record q code c u n o t k).serial = s.serial := rfl
@[simp] theorem State.record_mem (s : State) (q code c u n o : Nat) (t : Tag) (k : Nat) : (s.record q code c u n o t k).mem = s.mem := rfl
@[simp] theorem State.record_poison (s : State) (q code c u n o : Nat) (t : Tag) (k : Nat) : (s.record q code c u n o t k).poison = s.poison := rfl
@[simp] theorem State.record_eccBad (s : State) (q code c u n o : Nat) (t : Tag) (k : Nat) : (s.record q code c u n o t k).eccBad = s.eccBad := rfl
@[simp] theorem State.record_hostMem (s : State) (q code c u n o : Nat) (t : Tag) (k : Nat) : (s.record q code c u n o t k).hostMem = s.hostMem := rfl
@[simp] theorem State.record_netMsgs (s : State) (q code c u n o : Nat) (t : Tag) (k : Nat) : (s.record q code c u n o t k).netMsgs = s.netMsgs := rfl
@[simp] theorem State.record_cls (s : State) (q code c u n o : Nat) (t : Tag) (k : Nat) : (s.record q code c u n o t k).cls = s.cls := rfl
@[simp] theorem State.record_dies (s : State) (q code c u n o : Nat) (t : Tag) (k : Nat) : (s.record q code c u n o t k).dies = s.dies := rfl
@[simp] theorem State.record_links (s : State) (q code c u n o : Nat) (t : Tag) (k : Nat) : (s.record q code c u n o t k).links = s.links := rfl
@[simp] theorem State.record_therm (s : State) (q code c u n o : Nat) (t : Tag) (k : Nat) : (s.record q code c u n o t k).therm = s.therm := rfl
@[simp] theorem State.record_hbmStacks (s : State) (q code c u n o : Nat) (t : Tag) (k : Nat) : (s.record q code c u n o t k).hbmStacks = s.hbmStacks := rfl
@[simp] theorem State.record_formes (s : State) (q code c u n o : Nat) (t : Tag) (k : Nat) : (s.record q code c u n o t k).formes = s.formes := rfl
@[simp] theorem State.record_objects (s : State) (q code c u n o : Nat) (t : Tag) (k : Nat) : (s.record q code c u n o t k).objects = s.objects := rfl
@[simp] theorem State.record_images (s : State) (q code c u n o : Nat) (t : Tag) (k : Nat) : (s.record q code c u n o t k).images = s.images := rfl
@[simp] theorem State.record_present (s : State) (q code c u n o : Nat) (t : Tag) (k : Nat) : (s.record q code c u n o t k).present = s.present := rfl
@[simp] theorem State.record_lpddr (s : State) (q code c u n o : Nat) (t : Tag) (k : Nat) : (s.record q code c u n o t k).lpddr = s.lpddr := rfl
@[simp] theorem State.record_cxl (s : State) (q code c u n o : Nat) (t : Tag) (k : Nat) : (s.record q code c u n o t k).cxl = s.cxl := rfl

@[simp] theorem State.jobRecord_agenda (s : State) (code c u n o : Nat) (t : Tag) (k : Nat) : (s.jobRecord code c u n o t k).agenda = s.agenda := rfl
@[simp] theorem State.jobRecord_cur (s : State) (code c u n o : Nat) (t : Tag) (k : Nat) : (s.jobRecord code c u n o t k).cur = s.cur := rfl
@[simp] theorem State.jobRecord_curAct (s : State) (code c u n o : Nat) (t : Tag) (k : Nat) : (s.jobRecord code c u n o t k).curAct = s.curAct := rfl
@[simp] theorem State.jobRecord_freeCtr (s : State) (code c u n o : Nat) (t : Tag) (k : Nat) : (s.jobRecord code c u n o t k).freeCtr = s.freeCtr := rfl
@[simp] theorem State.jobRecord_serial (s : State) (code c u n o : Nat) (t : Tag) (k : Nat) : (s.jobRecord code c u n o t k).serial = s.serial := rfl
@[simp] theorem State.jobRecord_mem (s : State) (code c u n o : Nat) (t : Tag) (k : Nat) : (s.jobRecord code c u n o t k).mem = s.mem := rfl
@[simp] theorem State.jobRecord_poison (s : State) (code c u n o : Nat) (t : Tag) (k : Nat) : (s.jobRecord code c u n o t k).poison = s.poison := rfl
@[simp] theorem State.jobRecord_eccBad (s : State) (code c u n o : Nat) (t : Tag) (k : Nat) : (s.jobRecord code c u n o t k).eccBad = s.eccBad := rfl
@[simp] theorem State.jobRecord_hostMem (s : State) (code c u n o : Nat) (t : Tag) (k : Nat) : (s.jobRecord code c u n o t k).hostMem = s.hostMem := rfl
@[simp] theorem State.jobRecord_netMsgs (s : State) (code c u n o : Nat) (t : Tag) (k : Nat) : (s.jobRecord code c u n o t k).netMsgs = s.netMsgs := rfl
@[simp] theorem State.jobRecord_cls (s : State) (code c u n o : Nat) (t : Tag) (k : Nat) : (s.jobRecord code c u n o t k).cls = s.cls := rfl
@[simp] theorem State.jobRecord_dies (s : State) (code c u n o : Nat) (t : Tag) (k : Nat) : (s.jobRecord code c u n o t k).dies = s.dies := rfl
@[simp] theorem State.jobRecord_links (s : State) (code c u n o : Nat) (t : Tag) (k : Nat) : (s.jobRecord code c u n o t k).links = s.links := rfl
@[simp] theorem State.jobRecord_therm (s : State) (code c u n o : Nat) (t : Tag) (k : Nat) : (s.jobRecord code c u n o t k).therm = s.therm := rfl
@[simp] theorem State.jobRecord_hbmStacks (s : State) (code c u n o : Nat) (t : Tag) (k : Nat) : (s.jobRecord code c u n o t k).hbmStacks = s.hbmStacks := rfl
@[simp] theorem State.jobRecord_formes (s : State) (code c u n o : Nat) (t : Tag) (k : Nat) : (s.jobRecord code c u n o t k).formes = s.formes := rfl
@[simp] theorem State.jobRecord_objects (s : State) (code c u n o : Nat) (t : Tag) (k : Nat) : (s.jobRecord code c u n o t k).objects = s.objects := rfl
@[simp] theorem State.jobRecord_images (s : State) (code c u n o : Nat) (t : Tag) (k : Nat) : (s.jobRecord code c u n o t k).images = s.images := rfl
@[simp] theorem State.jobRecord_present (s : State) (code c u n o : Nat) (t : Tag) (k : Nat) : (s.jobRecord code c u n o t k).present = s.present := rfl
@[simp] theorem State.jobRecord_lpddr (s : State) (code c u n o : Nat) (t : Tag) (k : Nat) : (s.jobRecord code c u n o t k).lpddr = s.lpddr := rfl
@[simp] theorem State.jobRecord_cxl (s : State) (code c u n o : Nat) (t : Tag) (k : Nat) : (s.jobRecord code c u n o t k).cxl = s.cxl := rfl

@[simp] theorem State.modDie_agenda (s : State) (d : Nat) (f : Die → Die) : (s.modDie d f).agenda = s.agenda := rfl
@[simp] theorem State.modDie_cur (s : State) (d : Nat) (f : Die → Die) : (s.modDie d f).cur = s.cur := rfl
@[simp] theorem State.modDie_curAct (s : State) (d : Nat) (f : Die → Die) : (s.modDie d f).curAct = s.curAct := rfl
@[simp] theorem State.modDie_freeCtr (s : State) (d : Nat) (f : Die → Die) : (s.modDie d f).freeCtr = s.freeCtr := rfl
@[simp] theorem State.modDie_serial (s : State) (d : Nat) (f : Die → Die) : (s.modDie d f).serial = s.serial := rfl
@[simp] theorem State.modDie_mem (s : State) (d : Nat) (f : Die → Die) : (s.modDie d f).mem = s.mem := rfl
@[simp] theorem State.modDie_poison (s : State) (d : Nat) (f : Die → Die) : (s.modDie d f).poison = s.poison := rfl
@[simp] theorem State.modDie_eccBad (s : State) (d : Nat) (f : Die → Die) : (s.modDie d f).eccBad = s.eccBad := rfl
@[simp] theorem State.modDie_hostMem (s : State) (d : Nat) (f : Die → Die) : (s.modDie d f).hostMem = s.hostMem := rfl
@[simp] theorem State.modDie_netMsgs (s : State) (d : Nat) (f : Die → Die) : (s.modDie d f).netMsgs = s.netMsgs := rfl
@[simp] theorem State.modDie_cls (s : State) (d : Nat) (f : Die → Die) : (s.modDie d f).cls = s.cls := rfl
@[simp] theorem State.modDie_hub (s : State) (d : Nat) (f : Die → Die) : (s.modDie d f).hub = s.hub := rfl
@[simp] theorem State.modDie_links (s : State) (d : Nat) (f : Die → Die) : (s.modDie d f).links = s.links := rfl
@[simp] theorem State.modDie_therm (s : State) (d : Nat) (f : Die → Die) : (s.modDie d f).therm = s.therm := rfl
@[simp] theorem State.modDie_hbmStacks (s : State) (d : Nat) (f : Die → Die) : (s.modDie d f).hbmStacks = s.hbmStacks := rfl
@[simp] theorem State.modDie_formes (s : State) (d : Nat) (f : Die → Die) : (s.modDie d f).formes = s.formes := rfl
@[simp] theorem State.modDie_objects (s : State) (d : Nat) (f : Die → Die) : (s.modDie d f).objects = s.objects := rfl
@[simp] theorem State.modDie_images (s : State) (d : Nat) (f : Die → Die) : (s.modDie d f).images = s.images := rfl
@[simp] theorem State.modDie_present (s : State) (d : Nat) (f : Die → Die) : (s.modDie d f).present = s.present := rfl
@[simp] theorem State.modDie_lpddr (s : State) (d : Nat) (f : Die → Die) : (s.modDie d f).lpddr = s.lpddr := rfl
@[simp] theorem State.modDie_cxl (s : State) (d : Nat) (f : Die → Die) : (s.modDie d f).cxl = s.cxl := rfl

@[simp] theorem State.send_agenda (s : State) (v a b c d : Nat) (p : MsgPay) (r : Bool) : (s.send v a b c d p r).agenda = s.agenda := rfl
@[simp] theorem State.send_cur (s : State) (v a b c d : Nat) (p : MsgPay) (r : Bool) : (s.send v a b c d p r).cur = s.cur := rfl
@[simp] theorem State.send_curAct (s : State) (v a b c d : Nat) (p : MsgPay) (r : Bool) : (s.send v a b c d p r).curAct = s.curAct := rfl
@[simp] theorem State.send_freeCtr (s : State) (v a b c d : Nat) (p : MsgPay) (r : Bool) : (s.send v a b c d p r).freeCtr = s.freeCtr := rfl
@[simp] theorem State.send_mem (s : State) (v a b c d : Nat) (p : MsgPay) (r : Bool) : (s.send v a b c d p r).mem = s.mem := rfl
@[simp] theorem State.send_poison (s : State) (v a b c d : Nat) (p : MsgPay) (r : Bool) : (s.send v a b c d p r).poison = s.poison := rfl
@[simp] theorem State.send_eccBad (s : State) (v a b c d : Nat) (p : MsgPay) (r : Bool) : (s.send v a b c d p r).eccBad = s.eccBad := rfl
@[simp] theorem State.send_hostMem (s : State) (v a b c d : Nat) (p : MsgPay) (r : Bool) : (s.send v a b c d p r).hostMem = s.hostMem := rfl
@[simp] theorem State.send_cls (s : State) (v a b c d : Nat) (p : MsgPay) (r : Bool) : (s.send v a b c d p r).cls = s.cls := rfl
@[simp] theorem State.send_dies (s : State) (v a b c d : Nat) (p : MsgPay) (r : Bool) : (s.send v a b c d p r).dies = s.dies := rfl
@[simp] theorem State.send_hub (s : State) (v a b c d : Nat) (p : MsgPay) (r : Bool) : (s.send v a b c d p r).hub = s.hub := rfl
@[simp] theorem State.send_links (s : State) (v a b c d : Nat) (p : MsgPay) (r : Bool) : (s.send v a b c d p r).links = s.links := rfl
@[simp] theorem State.send_therm (s : State) (v a b c d : Nat) (p : MsgPay) (r : Bool) : (s.send v a b c d p r).therm = s.therm := rfl
@[simp] theorem State.send_hbmStacks (s : State) (v a b c d : Nat) (p : MsgPay) (r : Bool) : (s.send v a b c d p r).hbmStacks = s.hbmStacks := rfl
@[simp] theorem State.send_formes (s : State) (v a b c d : Nat) (p : MsgPay) (r : Bool) : (s.send v a b c d p r).formes = s.formes := rfl
@[simp] theorem State.send_objects (s : State) (v a b c d : Nat) (p : MsgPay) (r : Bool) : (s.send v a b c d p r).objects = s.objects := rfl
@[simp] theorem State.send_images (s : State) (v a b c d : Nat) (p : MsgPay) (r : Bool) : (s.send v a b c d p r).images = s.images := rfl
@[simp] theorem State.send_present (s : State) (v a b c d : Nat) (p : MsgPay) (r : Bool) : (s.send v a b c d p r).present = s.present := rfl
@[simp] theorem State.send_lpddr (s : State) (v a b c d : Nat) (p : MsgPay) (r : Bool) : (s.send v a b c d p r).lpddr = s.lpddr := rfl
@[simp] theorem State.send_cxl (s : State) (v a b c d : Nat) (p : MsgPay) (r : Bool) : (s.send v a b c d p r).cxl = s.cxl := rfl

@[simp] theorem State.dropMsg_agenda (s : State) (k : Nat) : (s.dropMsg k).agenda = s.agenda := rfl
@[simp] theorem State.dropMsg_cur (s : State) (k : Nat) : (s.dropMsg k).cur = s.cur := rfl
@[simp] theorem State.dropMsg_curAct (s : State) (k : Nat) : (s.dropMsg k).curAct = s.curAct := rfl
@[simp] theorem State.dropMsg_freeCtr (s : State) (k : Nat) : (s.dropMsg k).freeCtr = s.freeCtr := rfl
@[simp] theorem State.dropMsg_serial (s : State) (k : Nat) : (s.dropMsg k).serial = s.serial := rfl
@[simp] theorem State.dropMsg_mem (s : State) (k : Nat) : (s.dropMsg k).mem = s.mem := rfl
@[simp] theorem State.dropMsg_poison (s : State) (k : Nat) : (s.dropMsg k).poison = s.poison := rfl
@[simp] theorem State.dropMsg_eccBad (s : State) (k : Nat) : (s.dropMsg k).eccBad = s.eccBad := rfl
@[simp] theorem State.dropMsg_hostMem (s : State) (k : Nat) : (s.dropMsg k).hostMem = s.hostMem := rfl
@[simp] theorem State.dropMsg_cls (s : State) (k : Nat) : (s.dropMsg k).cls = s.cls := rfl
@[simp] theorem State.dropMsg_dies (s : State) (k : Nat) : (s.dropMsg k).dies = s.dies := rfl
@[simp] theorem State.dropMsg_hub (s : State) (k : Nat) : (s.dropMsg k).hub = s.hub := rfl
@[simp] theorem State.dropMsg_links (s : State) (k : Nat) : (s.dropMsg k).links = s.links := rfl
@[simp] theorem State.dropMsg_therm (s : State) (k : Nat) : (s.dropMsg k).therm = s.therm := rfl
@[simp] theorem State.dropMsg_hbmStacks (s : State) (k : Nat) : (s.dropMsg k).hbmStacks = s.hbmStacks := rfl
@[simp] theorem State.dropMsg_formes (s : State) (k : Nat) : (s.dropMsg k).formes = s.formes := rfl
@[simp] theorem State.dropMsg_objects (s : State) (k : Nat) : (s.dropMsg k).objects = s.objects := rfl
@[simp] theorem State.dropMsg_images (s : State) (k : Nat) : (s.dropMsg k).images = s.images := rfl
@[simp] theorem State.dropMsg_present (s : State) (k : Nat) : (s.dropMsg k).present = s.present := rfl
@[simp] theorem State.dropMsg_lpddr (s : State) (k : Nat) : (s.dropMsg k).lpddr = s.lpddr := rfl
@[simp] theorem State.dropMsg_cxl (s : State) (k : Nat) : (s.dropMsg k).cxl = s.cxl := rfl

@[simp] theorem State.pendNew_agenda (s : State) (f : Firing) (i : Instr) (w : Waiting) : (s.pendNew f i w).agenda = s.agenda := rfl
@[simp] theorem State.pendNew_cur (s : State) (f : Firing) (i : Instr) (w : Waiting) : (s.pendNew f i w).cur = s.cur := rfl
@[simp] theorem State.pendNew_curAct (s : State) (f : Firing) (i : Instr) (w : Waiting) : (s.pendNew f i w).curAct = s.curAct := rfl
@[simp] theorem State.pendNew_freeCtr (s : State) (f : Firing) (i : Instr) (w : Waiting) : (s.pendNew f i w).freeCtr = s.freeCtr := rfl
@[simp] theorem State.pendNew_mem (s : State) (f : Firing) (i : Instr) (w : Waiting) : (s.pendNew f i w).mem = s.mem := rfl
@[simp] theorem State.pendNew_poison (s : State) (f : Firing) (i : Instr) (w : Waiting) : (s.pendNew f i w).poison = s.poison := rfl
@[simp] theorem State.pendNew_eccBad (s : State) (f : Firing) (i : Instr) (w : Waiting) : (s.pendNew f i w).eccBad = s.eccBad := rfl
@[simp] theorem State.pendNew_hostMem (s : State) (f : Firing) (i : Instr) (w : Waiting) : (s.pendNew f i w).hostMem = s.hostMem := rfl
@[simp] theorem State.pendNew_netMsgs (s : State) (f : Firing) (i : Instr) (w : Waiting) : (s.pendNew f i w).netMsgs = s.netMsgs := rfl
@[simp] theorem State.pendNew_dies (s : State) (f : Firing) (i : Instr) (w : Waiting) : (s.pendNew f i w).dies = s.dies := rfl
@[simp] theorem State.pendNew_hub (s : State) (f : Firing) (i : Instr) (w : Waiting) : (s.pendNew f i w).hub = s.hub := rfl
@[simp] theorem State.pendNew_links (s : State) (f : Firing) (i : Instr) (w : Waiting) : (s.pendNew f i w).links = s.links := rfl
@[simp] theorem State.pendNew_therm (s : State) (f : Firing) (i : Instr) (w : Waiting) : (s.pendNew f i w).therm = s.therm := rfl
@[simp] theorem State.pendNew_hbmStacks (s : State) (f : Firing) (i : Instr) (w : Waiting) : (s.pendNew f i w).hbmStacks = s.hbmStacks := rfl
@[simp] theorem State.pendNew_formes (s : State) (f : Firing) (i : Instr) (w : Waiting) : (s.pendNew f i w).formes = s.formes := rfl
@[simp] theorem State.pendNew_objects (s : State) (f : Firing) (i : Instr) (w : Waiting) : (s.pendNew f i w).objects = s.objects := rfl
@[simp] theorem State.pendNew_images (s : State) (f : Firing) (i : Instr) (w : Waiting) : (s.pendNew f i w).images = s.images := rfl
@[simp] theorem State.pendNew_present (s : State) (f : Firing) (i : Instr) (w : Waiting) : (s.pendNew f i w).present = s.present := rfl
@[simp] theorem State.pendNew_lpddr (s : State) (f : Firing) (i : Instr) (w : Waiting) : (s.pendNew f i w).lpddr = s.lpddr := rfl
@[simp] theorem State.pendNew_cxl (s : State) (f : Firing) (i : Instr) (w : Waiting) : (s.pendNew f i w).cxl = s.cxl := rfl

/-! ## Clusters -/

@[simp] theorem State.setCl_cl (s : State) (c : Nat) (x : Cluster) : (s.setCl c x).cl c = x := Tbl.get_put_same _ _ _ _
theorem State.setCl_cl_other (s : State) {c e : Nat} (x : Cluster) (h : e ≠ c) : (s.setCl c x).cl e = s.cl e :=
  Tbl.get_put_other _ _ _ h
@[simp] theorem State.modCl_cl (s : State) (c : Nat) (f : Cluster → Cluster) : (s.modCl c f).cl c = f (s.cl c) :=
  Tbl.get_put_same _ _ _ _
theorem State.modCl_cl_other (s : State) {c e : Nat} (f : Cluster → Cluster) (h : e ≠ c) : (s.modCl c f).cl e = s.cl e :=
  Tbl.get_put_other _ _ _ h
@[simp] theorem State.modCtx_ctx (s : State) (c : Nat) (f : Ctx → Ctx) : (s.modCtx c f).ctx c = f (s.ctx c) := by
  simp [State.modCtx, State.ctx]
theorem State.modCtx_cl_other (s : State) {c e : Nat} (f : Ctx → Ctx) (h : e ≠ c) : (s.modCtx c f).cl e = s.cl e :=
  State.modCl_cl_other s _ h
@[simp] theorem State.modHub_cl (s : State) (f : Hub → Hub) (c : Nat) : (s.modHub f).cl c = s.cl c := rfl
@[simp] theorem State.modHub_hub (s : State) (f : Hub → Hub) : (s.modHub f).hub = f s.hub := rfl
@[simp] theorem State.modDie_cl (s : State) (d : Nat) (f : Die → Die) (c : Nat) : (s.modDie d f).cl c = s.cl c := rfl
@[simp] theorem State.modDie_die (s : State) (d : Nat) (f : Die → Die) : (s.modDie d f).die d = f (s.die d) :=
  Tbl.get_put_same _ _ _ _
@[simp] theorem State.send_cl (s : State) (v a b e d : Nat) (p : MsgPay) (r : Bool) (c : Nat) : (s.send v a b e d p r).cl c = s.cl c := rfl
@[simp] theorem State.dropMsg_cl (s : State) (k c : Nat) : (s.dropMsg k).cl c = s.cl c := rfl
@[simp] theorem State.pushFault_cl (s : State) (r : FaultRec) (c : Nat) : (s.pushFault r).cl c = s.cl c := rfl
@[simp] theorem State.record_cl (s : State) (q code c u n o : Nat) (t : Tag) (k e : Nat) :
    (s.record q code c u n o t k).cl e = s.cl e := rfl
@[simp] theorem State.jobRecord_cl (s : State) (code c u n o : Nat) (t : Tag) (k e : Nat) :
    (s.jobRecord code c u n o t k).cl e = s.cl e := rfl

/-! ## Slots, counters, units of a cluster -/

@[simp] theorem State.modSlot_slot (s : State) (k : Nat) (f : Slot → Slot) : (s.modSlot k f).slot k = f (s.slot k) :=
  Tbl.get_put_same _ _ _ _
theorem State.modSlot_slot_other (s : State) {k j : Nat} (f : Slot → Slot) (h : j ≠ k) : (s.modSlot k f).slot j = s.slot j :=
  Tbl.get_put_other _ _ _ h
@[simp] theorem State.modCnt_counter (s : State) (n : Nat) (f : Counter → Counter) :
    (s.modCnt n f).counter n = f (s.counter n) := Tbl.get_put_same _ _ _ _
theorem State.modCnt_counter_other (s : State) {n m : Nat} (f : Counter → Counter) (h : m ≠ n) :
    (s.modCnt n f).counter m = s.counter m := Tbl.get_put_other _ _ _ h
@[simp] theorem State.modPe_pe (s : State) (c u : Nat) (f : PeReg → PeReg) :
    ((s.modPe c u f).ctx c).peReg u = f ((s.ctx c).peReg u) := by
  simp [State.modPe, Ctx.peReg]
@[simp] theorem State.modChan_chan (s : State) (c k : Nat) (f : Channel → Channel) :
    ((s.modChan c k f).ctx c).chan k = f ((s.ctx c).chan k) := by
  simp [State.modChan, Ctx.chan]
@[simp] theorem State.modRing_ring (s : State) (c k : Nat) (f : Ring → Ring) :
    ((s.modRing c k f).ctx c).ring k = f ((s.ctx c).ring k) := by
  simp [State.modRing, Ctx.ring]

end Sys2Proof.Machine
end

