-- ==== Sys2Proof/Laws/Frames.lean ====
section
/-!
SUPPORT. What each shared operation leaves of the two memories: the ones that store nothing leave every byte
(`_stores`), the ones that store keep the canonical form (`_inForm`), and what a fault, a result or a flag can change.
-/
set_option Elab.async false
namespace Sys2Proof.Machine

theorem ite_stores {c : Prop} [Decidable c] {a b s : State} (ha : a.mem = s.mem ∧ a.hostMem = s.hostMem)
    (hb : b.mem = s.mem ∧ b.hostMem = s.hostMem) :
    (if c then a else b).mem = s.mem ∧ (if c then a else b).hostMem = s.hostMem := by
  split <;> assumption

theorem foldl_stores {α : Type} {f : State → α → State} (h : ∀ s x, (f s x).mem = s.mem ∧ (f s x).hostMem = s.hostMem)
    (l : List α) (s : State) : (l.foldl f s).mem = s.mem ∧ (l.foldl f s).hostMem = s.hostMem := by
  induction l generalizing s with
  | nil => exact ⟨rfl, rfl⟩
  | cons a l ih => exact ⟨(ih _).1.trans (h s a).1, (ih _).2.trans (h s a).2⟩

theorem foldl_stores_of {α : Type} {f : State → α → State} {s t : State}
    (h : ∀ s x, (f s x).mem = s.mem ∧ (f s x).hostMem = s.hostMem) (l : List α)
    (hs : t.mem = s.mem ∧ t.hostMem = s.hostMem) : (l.foldl f t).mem = s.mem ∧ (l.foldl f t).hostMem = s.hostMem :=
  ⟨(foldl_stores h l t).1.trans hs.1, (foldl_stores h l t).2.trans hs.2⟩

@[simp] theorem State.poisonSector_stores (s : State) (sec : Nat) :
    (s.poisonSector sec).mem = s.mem ∧ (s.poisonSector sec).hostMem = s.hostMem := ⟨rfl, rfl⟩

@[simp] theorem State.coverSector_stores (s : State) (sec lo w : Nat) :
    (s.coverSector sec lo w).mem = s.mem ∧ (s.coverSector sec lo w).hostMem = s.hostMem := by
  unfold State.coverSector
  dsimp only; (repeat' split) <;> simp

theorem State.modHub_stores (s : State) (f : Hub → Hub) :
    (s.modHub f).mem = s.mem ∧ (s.modHub f).hostMem = s.hostMem := ⟨rfl, rfl⟩

@[simp] theorem State.fresh_stores (s : State) :
    (s.fresh).2.mem = s.mem ∧ (s.fresh).2.hostMem = s.hostMem := ⟨rfl, rfl⟩

@[simp] theorem State.endUnit_stores (s : State) (code c unit node origin : Nat) (tag : Tag) (cause : Nat) :
    (s.endUnit code c unit node origin tag cause).mem = s.mem ∧ (s.endUnit code c unit node origin tag cause).hostMem = s.hostMem := by
  unfold State.endUnit
  (repeat' split) <;> simp

@[simp] theorem State.fail_stores (s : State) (f : Firing) (code : Nat) (cause : Nat) :
    (s.fail f code cause).mem = s.mem ∧ (s.fail f code cause).hostMem = s.hostMem := by
  simp [State.fail]

@[simp] theorem State.failFrame_stores (s : State) (f : Firing) (code : Nat) :
    (s.failFrame f code).mem = s.mem ∧ (s.failFrame f code).hostMem = s.hostMem := by
  simp [State.failFrame]

@[simp] theorem State.refuseCycle_stores (s : State) :
    (s.refuseCycle).mem = s.mem ∧ (s.refuseCycle).hostMem = s.hostMem := by
  exact ⟨rfl, rfl⟩

@[simp] theorem State.ask_stores (s : State) (c agent id pba : Nat) :
    (s.ask c agent id pba).mem = s.mem ∧ (s.ask c agent id pba).hostMem = s.hostMem := by
  unfold State.ask
  (repeat' split) <;> simp

@[simp] theorem State.homeAnswer_stores (s : State) (m c agent id pba : Nat) :
    (s.homeAnswer m c agent id pba).mem = s.mem ∧ (s.homeAnswer m c agent id pba).hostMem = s.hostMem := ⟨rfl, rfl⟩

@[simp] theorem State.waitReq_stores (s : State) (c agent : Nat) (b : Bool) :
    (s.waitReq c agent b).mem = s.mem ∧ (s.waitReq c agent b).hostMem = s.hostMem := by
  exact ⟨rfl, rfl⟩

@[simp] theorem State.lineHere_stores (s : State) (c agent l : Nat) :
    (s.lineHere c agent l).mem = s.mem ∧ (s.lineHere c agent l).hostMem = s.hostMem := by
  exact ⟨rfl, rfl⟩

theorem State.fetchLine_stores (c agent holder : Nat) (p : State × Bool) (line : Nat) :
    (State.fetchLine c agent holder p line).1.mem = p.1.mem ∧ (State.fetchLine c agent holder p line).1.hostMem = p.1.hostMem := by
  unfold State.fetchLine
  dsimp only; (repeat' split) <;> simp

@[simp] theorem State.fetchLines_stores (s : State) (c agent holder : Nat) (lines : List Nat) :
    (s.fetchLines c agent holder lines).2.mem = s.mem ∧ (s.fetchLines c agent holder lines).2.hostMem = s.hostMem := by
  unfold State.fetchLines
  dsimp only
  split
  · simp
  · simp only [State.waitReq_stores]
    have h (l : List Nat) (p : State × Bool) : (l.foldl (State.fetchLine c agent holder) p).1.mem = p.1.mem ∧
        (l.foldl (State.fetchLine c agent holder) p).1.hostMem = p.1.hostMem := by
      induction l generalizing p with
      | nil => exact ⟨rfl, rfl⟩
      | cons a l ih => exact ⟨(ih _).1.trans (State.fetchLine_stores c agent holder p a).1,
          (ih _).2.trans (State.fetchLine_stores c agent holder p a).2⟩
    simp [h]

@[simp] theorem State.sendTok_stores (s : State) (u src : Nat) (dst : Place) (top : Nat) (t : Token) (routed : Bool) :
    (s.sendTok u src dst top t routed).mem = s.mem ∧ (s.sendTok u src dst top t routed).hostMem = s.hostMem := by
  unfold State.sendTok; (repeat' split) <;> simp

@[simp] theorem State.launchTok_stores (s : State) (u : Nat) (x2 : Delivery) :
    (s.launchTok u x2).mem = s.mem ∧ (s.launchTok u x2).hostMem = s.hostMem := by
  unfold State.launchTok
  (repeat' split) <;> simp

@[simp] theorem State.faultTok_stores (s : State) (f : Firing) (t : Token) :
    (s.faultTok f t).mem = s.mem ∧ (s.faultTok f t).hostMem = s.hostMem := ⟨rfl, rfl⟩

@[simp] theorem State.emit_stores (s : State) (f : Firing) (outs : List (Dest × Token)) :
    (s.emit f outs).mem = s.mem ∧ (s.emit f outs).hostMem = s.hostMem := by
  unfold State.emit
  (repeat' split) <;> (try simp) <;> (refine foldl_stores_of (fun s x => ?_) _ ?_ <;> (repeat' split) <;> simp)

@[simp] theorem State.emitBoth_stores (s : State) (f : Firing) (d : Dests) (t : Token) :
    (s.emitBoth f d t).mem = s.mem ∧ (s.emitBoth f d t).hostMem = s.hostMem := by
  simp [State.emitBoth]

@[simp] theorem State.emitBubble_stores (s : State) (f : Firing) (d : Dests) :
    (s.emitBubble f d).mem = s.mem ∧ (s.emitBubble f d).hostMem = s.hostMem := by
  simp [State.emitBubble]

@[simp] theorem State.freeFrame_stores (s : State) (t : Tag) :
    (s.freeFrame t).mem = s.mem ∧ (s.freeFrame t).hostMem = s.hostMem := by
  unfold State.freeFrame
  (repeat' split) <;> simp

@[simp] theorem State.settleFrame_stores (s : State) (t : Tag) (fr : Frame) :
    (s.settleFrame t fr).mem = s.mem ∧ (s.settleFrame t fr).hostMem = s.hostMem := by
  unfold State.settleFrame
  (repeat' split) <;> simp

@[simp] theorem State.latch_stores (s : State) (c u : Nat) (e : MEntry) :
    (s.latch c u e).mem = s.mem ∧ (s.latch c u e).hostMem = s.hostMem := ⟨rfl, rfl⟩

@[simp] theorem State.rehold_stores (s : State) (f : Firing) (why : Option Nat) :
    (s.rehold f why).mem = s.mem ∧ (s.rehold f why).hostMem = s.hostMem := ⟨rfl, rfl⟩

@[simp] theorem State.pendAsk_stores (s : State) (f : Firing) (i : Instr) (w : Waiting) (pba : Nat) :
    (s.pendAsk f i w pba).mem = s.mem ∧ (s.pendAsk f i w pba).hostMem = s.hostMem := by
  simp [State.pendAsk]

@[simp] theorem State.waveDone_stores (s : State) (f : Firing) (w : WaveLit) :
    (s.waveDone f w).mem = s.mem ∧ (s.waveDone f w).hostMem = s.hostMem := ⟨rfl, rfl⟩

@[simp] theorem State.modGal_stores (s : State) (g : Nat) (f : Galley → Galley) :
    (s.modGal g f).mem = s.mem ∧ (s.modGal g f).hostMem = s.hostMem := by
  unfold State.modGal
  (repeat' split) <;> simp

@[simp] theorem State.mergeVc_stores (s : State) (g : Nat) (e : GEnt) :
    (s.mergeVc g e).mem = s.mem ∧ (s.mergeVc g e).hostMem = s.hostMem := by
  unfold State.mergeVc
  (repeat' split) <;> simp

@[simp] theorem State.waitApp_stores (s : State) (c place : Nat) (b : Bool) :
    (s.waitApp c place b).mem = s.mem ∧ (s.waitApp c place b).hostMem = s.hostMem := by
  exact ⟨rfl, rfl⟩

@[simp] theorem State.mirrorUpdate_stores (s : State) (d g : Nat) :
    (s.mirrorUpdate d g).mem = s.mem ∧ (s.mirrorUpdate d g).hostMem = s.hostMem := ⟨rfl, rfl⟩

@[simp] theorem State.captureBefore_stores (s : State) (c : Nat) (e : GEnt) :
    (s.captureBefore c e).mem = s.mem ∧ (s.captureBefore c e).hostMem = s.hostMem := ⟨rfl, rfl⟩

@[simp] theorem State.clearViews_stores (s : State) (c : Nat) :
    (s.clearViews c).mem = s.mem ∧ (s.clearViews c).hostMem = s.hostMem := ⟨rfl, rfl⟩

@[simp] theorem State.acquireOne_stores (s : State) (c g q : Nat) :
    (s.acquireOne c g q).1.mem = s.mem ∧ (s.acquireOne c g q).1.hostMem = s.hostMem := by
  unfold State.acquireOne
  dsimp only; (repeat' split) <;> simp

@[simp] theorem State.acqWait_stores (s : State) (c : Nat) (seen : Bool) (l : List (Nat × Nat)) :
    (s.acqWait c seen l).mem = s.mem ∧ (s.acqWait c seen l).hostMem = s.hostMem := by
  unfold State.acqWait; (repeat' split) <;> simp

@[simp] theorem State.tlbTouch_stores (s : State) (c va : Nat) :
    (s.tlbTouch c va).mem = s.mem ∧ (s.tlbTouch c va).hostMem = s.hostMem := by
  unfold State.tlbTouch; dsimp only; (repeat' split) <;> simp

@[simp] theorem State.noteWalk_stores (s : State) :
    (s.noteWalk).mem = s.mem ∧ (s.noteWalk).hostMem = s.hostMem := by
  exact ⟨rfl, rfl⟩

@[simp] theorem State.startWalk_stores (s : State) (c va : Nat) (kind : AccKind) (f : Firing) (ch : Option Nat) :
    (s.startWalk c va kind f ch).2.mem = s.mem ∧ (s.startWalk c va kind f ch).2.hostMem = s.hostMem := by
  unfold State.startWalk
  dsimp only; (repeat' split) <;> simp

@[simp] theorem State.startDirty_stores (s : State) (c va : Nat) :
    (s.startDirty c va).2.mem = s.mem ∧ (s.startDirty c va).2.hostMem = s.hostMem := by
  unfold State.startDirty
  dsimp only; (repeat' split) <;> simp

@[simp] theorem State.abufWrite_stores (s : State) (c off w v : Nat) :
    (s.abufWrite c off w v).mem = s.mem ∧ (s.abufWrite c off w v).hostMem = s.hostMem := ⟨rfl, rfl⟩

@[simp] theorem State.bankAsk_stores (s : State) (c key who off w : Nat) (store : Option Nat) :
    (s.bankAsk c key who off w store).mem = s.mem ∧ (s.bankAsk c key who off w store).hostMem = s.hostMem := by
  exact ⟨rfl, rfl⟩

@[simp] theorem State.bankDrop_stores (s : State) (c key : Nat) :
    (s.bankDrop c key).mem = s.mem ∧ (s.bankDrop c key).hostMem = s.hostMem := by
  exact ⟨rfl, rfl⟩

@[simp] theorem State.bufAsk_stores (s : State) (c unit owner key off w : Nat) (store : Option Nat) :
    (s.bufAsk c unit owner key off w store).mem = s.mem ∧ (s.bufAsk c unit owner key off w store).hostMem = s.hostMem := by
  unfold State.bufAsk; (repeat' split) <;> simp

theorem State.bufGot_stores {s s' : State} {c owner key v : Nat} (h : s.bufGot c owner key = some (v, s')) :
    s'.mem = s.mem ∧ s'.hostMem = s.hostMem := by
  unfold State.bufGot at h
  split at h
  · split at h
    · cases h; simp
    · cases h
  · obtain ⟨m, -, hm⟩ := List.exists_of_findSome?_eq_some h
    (repeat' split at hm) <;> (try cases hm) <;> simp

@[simp] theorem State.setFlags_stores (s : State) (f : Firing) (flags : Nat) :
    (s.setFlags f flags).mem = s.mem ∧ (s.setFlags f flags).hostMem = s.hostMem := by
  unfold State.setFlags
  (repeat' split) <;> simp

@[simp] theorem State.noteTrap_stores (s : State) (c : Nat) :
    (s.noteTrap c).mem = s.mem ∧ (s.noteTrap c).hostMem = s.hostMem := by
  unfold State.noteTrap
  (repeat' split) <;> simp

@[simp] theorem State.raise_stores (s : State) (f : Firing) (flags : Nat) (force : Bool) :
    (s.raise f flags force).mem = s.mem ∧ (s.raise f flags force).hostMem = s.hostMem := by
  unfold State.raise
  dsimp only; (repeat' split) <;> simp

@[simp] theorem State.finish_stores (s : State) (f : Firing) (d : Dests) (x3 : Comp) :
    (s.finish f d x3).mem = s.mem ∧ (s.finish f d x3).hostMem = s.hostMem := by
  unfold State.finish
  (repeat' split) <;> simp

@[simp] theorem State.compute_stores (s : State) (d : Dests) (g : Computes) :
    (s.compute d g).mem = s.mem ∧ (s.compute d g).hostMem = s.hostMem := by
  unfold State.compute
  dsimp only; (repeat' split) <;> simp

@[simp] theorem State.allocate_stores (s : State) (f : Firing) (op : AllocOp) (nm1 : Nat) (d : Dests) (slot : Nat) :
    (s.allocate f op nm1 d slot).mem = s.mem ∧ (s.allocate f op nm1 d slot).hostMem = s.hostMem := by
  unfold State.allocate
  (repeat' split) <;> simp

@[simp] theorem State.frameAsk_stores (s : State) (i : Instr) (owner : Tag) :
    (s.frameAsk i owner).mem = s.mem ∧ (s.frameAsk i owner).hostMem = s.hostMem := by
  unfold State.frameAsk; dsimp only; (repeat' split) <;> simp

@[simp] theorem State.frameWait_stores (s : State) (p : Pend) :
    (s.frameWait p).mem = s.mem ∧ (s.frameWait p).hostMem = s.hostMem := by
  unfold State.frameWait; (repeat' split) <;> simp

@[simp] theorem State.sendGroup_stores (s : State) (c slot : Nat) (r : TaskRec) (g : Nat) :
    (s.sendGroup c slot r g).mem = s.mem ∧ (s.sendGroup c slot r g).hostMem = s.hostMem := by
  unfold State.sendGroup; dsimp only; exact ite_stores (by simp) (by simp)

@[simp] theorem State.frameGive_stores (s : State) (p : Pend) (k : Nat) :
    (s.frameGive p k).mem = s.mem ∧ (s.frameGive p k).hostMem = s.hostMem := by
  unfold State.frameGive
  dsimp only
  split
  · simp
  · exact foldl_stores_of (fun s x => by simp) _ (by simp)
  · simp

@[simp] theorem State.allocApply_stores (s : State) (p : Pend) :
    (s.allocApply p).mem = s.mem ∧ (s.allocApply p).hostMem = s.hostMem := by
  unfold State.allocApply
  dsimp only; (repeat' split) <;> simp

@[simp] theorem State.iendApply_stores (s : State) (f : Firing) :
    (s.iendApply f).mem = s.mem ∧ (s.iendApply f).hostMem = s.hostMem := by
  unfold State.iendApply; dsimp only; (repeat' split) <;> simp

@[simp] theorem State.loopoutApply_stores (s : State) (f : Firing) (d : Dests) :
    (s.loopoutApply f d).mem = s.mem ∧ (s.loopoutApply f d).hostMem = s.hostMem := by
  unfold State.loopoutApply; (repeat' split) <;> simp

@[simp] theorem State.tfreeApply_stores (s : State) (f : Firing) (d : Dests) :
    (s.tfreeApply f d).mem = s.mem ∧ (s.tfreeApply f d).hostMem = s.hostMem := by
  unfold State.tfreeApply; (repeat' split) <;> simp

@[simp] theorem State.retApply_stores (s : State) (f : Firing) :
    (s.retApply f).mem = s.mem ∧ (s.retApply f).hostMem = s.hostMem := by
  unfold State.retApply; (repeat' split) <;> simp

@[simp] theorem State.frameApply_stores (s : State) (p : Pend) :
    (s.frameApply p).mem = s.mem ∧ (s.frameApply p).hostMem = s.hostMem := by
  unfold State.frameApply; (repeat' split) <;> simp

@[simp] theorem State.setBarrier_stores (s : State) (c : Nat) (part : Bool) (id : Nat) (b : Barrier) :
    (s.setBarrier c part id b).mem = s.mem ∧ (s.setBarrier c part id b).hostMem = s.hostMem := by
  unfold State.setBarrier; (repeat' split) <;> simp

@[simp] theorem State.barrCount_stores (s : State) (c : Nat) (l : BarrLit) :
    (s.barrCount c l).2.mem = s.mem ∧ (s.barrCount c l).2.hostMem = s.hostMem := by
  simp [State.barrCount]

@[simp] theorem State.barrRelease_stores (s : State) (c id gen : Nat) :
    (s.barrRelease c id gen).mem = s.mem ∧ (s.barrRelease c id gen).hostMem = s.hostMem := by
  unfold State.barrRelease
  exact foldl_stores (fun s x => by (repeat' split) <;> simp) _ _

@[simp] theorem State.countTrigger_stores (s : State) (c : Nat) :
    (s.countTrigger c).mem = s.mem ∧ (s.countTrigger c).hostMem = s.hostMem := by
  unfold State.countTrigger
  dsimp only; (repeat' split) <;> simp

@[simp] theorem State.topFail_stores (s : State) (m : Msg) (t : Token) (code : Nat) :
    (s.topFail m t code).mem = s.mem ∧ (s.topFail m t code).hostMem = s.hostMem := by
  simp [State.topFail]

@[simp] theorem State.topForward_stores (s : State) (m : Msg) (dst : Place) (t : Token) (tag : Tag) :
    (s.topForward m dst t tag).mem = s.mem ∧ (s.topForward m dst t tag).hostMem = s.hostMem := ⟨rfl, rfl⟩

@[simp] theorem State.topNext_stores (s : State) (m : Msg) (dst : Place) (t : Token) :
    (s.topNext m dst t).mem = s.mem ∧ (s.topNext m dst t).hostMem = s.hostMem := by
  unfold State.topNext
  dsimp only; (repeat' split) <;> simp

@[simp] theorem State.portPush_stores (s : State) (c p : Nat) (t : PortTok) :
    (s.portPush c p t).mem = s.mem ∧ (s.portPush c p t).hostMem = s.hostMem := ⟨rfl, rfl⟩

@[simp] theorem State.addSkips_stores (s : State) (f : Firing) :
    (s.addSkips f).mem = s.mem ∧ (s.addSkips f).hostMem = s.hostMem := by
  unfold State.addSkips
  (repeat' split) <;> (try simp) <;> (refine foldl_stores_of (fun s x => ?_) _ ?_ <;> (repeat' split) <;> simp)

@[simp] theorem State.tlbUse_stores (s : State) (c va w : Nat) :
    (s.tlbUse c va w).mem = s.mem ∧ (s.tlbUse c va w).hostMem = s.hostMem := by
  unfold State.tlbUse; exact foldl_stores (fun s x => by (repeat' split) <;> simp) _ _

theorem State.access_stores (s : State) (f : Firing) (tags : List Nat) (kind : AccKind) (p w : Nat) (mis : Bool)
    (go : Nat → Nat → List (Nat × Nat × Bool) → State)
    (hg : ∀ t o l, (go t o l).mem = s.mem ∧ (go t o l).hostMem = s.hostMem) :
    (s.access f tags kind p w mis go).mem = s.mem ∧ (s.access f tags kind p w mis go).hostMem = s.hostMem := by
  unfold State.access
  split
  · simp
  · split
    · exact hg _ _ _
    · split
      · simp [hg]
      · simp
      · simp
      · simp

@[simp] theorem State.waveIf_stores (s : State) (f : Firing) (i : Instr) :
    (s.waveIf f i).mem = s.mem ∧ (s.waveIf f i).hostMem = s.hostMem := by
  unfold State.waveIf
  (repeat' split) <;> simp

@[simp] theorem State.addFills_stores (s : State) (c holder : Nat) (lines : List Nat) :
    (s.addFills c holder lines).mem = s.mem ∧ (s.addFills c holder lines).hostMem = s.hostMem := by
  unfold State.addFills
  dsimp only
  exact foldl_stores_of (fun s x => by simp) _ (by simp)

@[simp] theorem State.prefLine_stores (s : State) (c holder off : Nat) :
    (s.prefLine c holder off).mem = s.mem ∧ (s.prefLine c holder off).hostMem = s.hostMem := by
  unfold State.prefLine
  split
  · dsimp only; (repeat' split) <;> simp
  · simp

@[simp] theorem State.useLine_stores (s : State) (c line : Nat) :
    (s.useLine c line).mem = s.mem ∧ (s.useLine c line).hostMem = s.hostMem := by
  unfold State.useLine
  (repeat' split) <;> simp

@[simp] theorem State.loadProbe_stores (s : State) (c holder : Nat) (ps : List Piece) :
    (s.loadProbe c holder ps).1.mem = s.mem ∧ (s.loadProbe c holder ps).1.hostMem = s.hostMem := by
  unfold State.loadProbe
  simp only [State.addFills_stores, State.count_mem, State.count_hostMem]
  exact foldl_stores (fun s x => by simp) _ _

@[simp] theorem State.loadIssue_stores (s : State) (f : Firing) (i : Instr) (w lanes : Nat) (sg : Bool)
    (l : List (Nat × Nat × Bool)) :
    (s.loadIssue f i w lanes sg l).mem = s.mem ∧ (s.loadIssue f i w lanes sg l).hostMem = s.hostMem := by
  obtain ⟨t, h⟩ : ∃ t, t = s.loadIssue f i w lanes sg l := ⟨_, rfl⟩
  rw [← h]
  unfold State.loadIssue at h
  dsimp only at h
  (repeat' split at h) <;> subst h <;> simp

@[simp] theorem State.bankFire_stores (s : State) (f : Firing) (i : Instr) (off w : Nat) (store : Option Nat) :
    (s.bankFire f i off w store).mem = s.mem ∧ (s.bankFire f i off w store).hostMem = s.hostMem := by
  exact ⟨rfl, rfl⟩

@[simp] theorem State.loadFire_stores (s : State) (i : Instr) :
    (s.loadFire i).mem = s.mem ∧ (s.loadFire i).hostMem = s.hostMem := by
  unfold State.loadFire
  extract_lets f
  split
  · exact ⟨rfl, rfl⟩
  · refine ite_stores (by simp) ?_
    split
    · simp
    · exact State.access_stores _ _ _ _ _ _ _ _ (fun t o l =>
        ite_stores (by simp) (ite_stores (by simp) (ite_stores (by simp) (by simp))))

@[simp] theorem State.substIf_stores (s : State) (c : Nat) (b : Bool) :
    (s.substIf c b).mem = s.mem ∧ (s.substIf c b).hostMem = s.hostMem := by
  unfold State.substIf
  (repeat' split) <;> simp

@[simp] theorem State.sendA_stores (s : State) (f : Firing) (d : Dests) :
    (s.sendA f d).mem = s.mem ∧ (s.sendA f d).hostMem = s.hostMem := by
  simp [State.sendA]

@[simp] theorem State.storeDone_stores (s : State) (f : Firing) (i : Instr) :
    (s.storeDone f i).mem = s.mem ∧ (s.storeDone f i).hostMem = s.hostMem := by
  unfold State.storeDone
  (repeat' split) <;> simp

@[simp] theorem State.modNet_stores (s : State) (ctx : Nat) (f : NetCtx → NetCtx) :
    (s.modNet ctx f).mem = s.mem ∧ (s.modNet ctx f).hostMem = s.hostMem := ⟨rfl, rfl⟩

@[simp] theorem State.chHead_stores (s : State) (c k v : Nat) :
    (s.chHead c k v).1.mem = s.mem ∧ (s.chHead c k v).1.hostMem = s.hostMem := by
  unfold State.chHead
  dsimp only; (repeat' split) <;> simp

@[simp] theorem State.readyClear_stores (s : State) (c m : Nat) :
    (s.readyClear c m).mem = s.mem ∧ (s.readyClear c m).hostMem = s.hostMem := ⟨rfl, rfl⟩

@[simp] theorem State.ringEnable_stores (s : State) (c r cfg : Nat) :
    (s.ringEnable c r cfg).mem = s.mem ∧ (s.ringEnable c r cfg).hostMem = s.hostMem := ⟨rfl, rfl⟩

@[simp] theorem State.ringDisable_stores (s : State) (c r cfg : Nat) :
    (s.ringDisable c r cfg).mem = s.mem ∧ (s.ringDisable c r cfg).hostMem = s.hostMem := ⟨rfl, rfl⟩

@[simp] theorem State.ringCfg_stores (s : State) (c r cfg : Nat) :
    (s.ringCfg c r cfg).mem = s.mem ∧ (s.ringCfg c r cfg).hostMem = s.hostMem := by
  unfold State.ringCfg
  (repeat' split) <;> simp

@[simp] theorem State.ringBase_stores (s : State) (c r v : Nat) :
    (s.ringBase c r v).mem = s.mem ∧ (s.ringBase c r v).hostMem = s.hostMem := ⟨rfl, rfl⟩

@[simp] theorem State.peMode_stores (s : State) (c u v : Nat) :
    (s.peMode c u v).mem = s.mem ∧ (s.peMode c u v).hostMem = s.hostMem := by
  unfold State.peMode
  (repeat' split) <;> simp

@[simp] theorem State.peXen_stores (s : State) (c u v : Nat) :
    (s.peXen c u v).mem = s.mem ∧ (s.peXen c u v).hostMem = s.hostMem := by
  unfold State.peXen
  (repeat' split) <;> simp

@[simp] theorem State.peFlagsClear_stores (s : State) (c u v : Nat) :
    (s.peFlagsClear c u v).mem = s.mem ∧ (s.peFlagsClear c u v).hostMem = s.hostMem := ⟨rfl, rfl⟩

@[simp] theorem State.haltStart_stores (s : State) (c : Nat) (freeze : Bool) :
    (s.haltStart c freeze).mem = s.mem ∧ (s.haltStart c freeze).hostMem = s.hostMem := ⟨rfl, rfl⟩

@[simp] theorem State.resume_stores (s : State) (c : Nat) :
    (s.resume c).mem = s.mem ∧ (s.resume c).hostMem = s.hostMem := by
  unfold State.resume
  (repeat' split) <;> simp

@[simp] theorem State.haltWrite_stores (s : State) (c v : Nat) :
    (s.haltWrite c v).mem = s.mem ∧ (s.haltWrite c v).hostMem = s.hostMem := by
  unfold State.haltWrite
  dsimp only; (repeat' split) <;> simp

@[simp] theorem State.vcInval_stores (s : State) (c : Nat) :
    (s.vcInval c).mem = s.mem ∧ (s.vcInval c).hostMem = s.hostMem := ⟨rfl, rfl⟩

@[simp] theorem State.dropTlb_stores (s : State) (r : Nat × Nat × Nat × Nat) :
    (s.dropTlb r).mem = s.mem ∧ (s.dropTlb r).hostMem = s.hostMem := ⟨rfl, rfl⟩

@[simp] theorem State.tlbGo_stores (s : State) (scope sid va size : Nat) :
    (s.tlbGo scope sid va size).mem = s.mem ∧ (s.tlbGo scope sid va size).hostMem = s.hostMem := by
  unfold State.tlbGo
  (repeat' split) <;> simp

@[simp] theorem State.quiesceCl_stores (s : State) (c : Nat) :
    (s.quiesceCl c).mem = s.mem ∧ (s.quiesceCl c).hostMem = s.hostMem := by
  unfold State.quiesceCl
  (repeat' split) <;> simp

@[simp] theorem State.quiesceSid_stores (s : State) (pa sid : Nat) :
    (s.quiesceSid pa sid).mem = s.mem ∧ (s.quiesceSid pa sid).hostMem = s.hostMem := by
  unfold State.quiesceSid
  split
  · exact ⟨rfl, rfl⟩
  · refine foldl_stores_of (fun s c => by simp) _ ?_
    simp only [State.modHub_mem, State.modHub_hostMem]
    exact foldl_stores (fun s c => by simp) _ _

@[simp] theorem State.hubLost_stores (s : State) (sid table : Nat) :
    (s.hubLost sid table).mem = s.mem ∧ (s.hubLost sid table).hostMem = s.hostMem := by
  unfold State.hubLost; (repeat' split) <;> simp

@[simp] theorem State.cntArm_stores (s : State) (n : Nat) (pv : Bool) (parent arg : Nat) :
    (s.cntArm n pv parent arg).mem = s.mem ∧ (s.cntArm n pv parent arg).hostMem = s.hostMem := by
  unfold State.cntArm
  (repeat' split) <;> simp

@[simp] theorem State.cntAdd_stores (s : State) (n arg : Nat) :
    (s.cntAdd n arg).mem = s.mem ∧ (s.cntAdd n arg).hostMem = s.hostMem := by
  unfold State.cntAdd
  (repeat' split) <;> simp

@[simp] theorem State.cntFree_stores (s : State) (n : Nat) :
    (s.cntFree n).mem = s.mem ∧ (s.cntFree n).hostMem = s.hostMem := by
  unfold State.cntFree
  (repeat' split) <;> simp

@[simp] theorem State.armLaunch_stores (s : State) (b : Bind) (n : Nat) :
    (s.armLaunch b n).mem = s.mem ∧ (s.armLaunch b n).hostMem = s.hostMem := ⟨rfl, rfl⟩

@[simp] theorem State.dropSlot_stores (s : State) (k : Nat) :
    (s.dropSlot k).mem = s.mem ∧ (s.dropSlot k).hostMem = s.hostMem := by
  unfold State.dropSlot; (repeat' split) <;> simp

@[simp] theorem State.signal_stores (k : Nat) (s : State) (n : Nat) (flt : Bool) :
    (State.signal k s n flt).mem = s.mem ∧ (State.signal k s n flt).hostMem = s.hostMem := by
  induction k generalizing s n flt with
  | zero => exact ⟨rfl, rfl⟩
  | succ k ih =>
    unfold State.signal
    refine ite_stores ⟨rfl, rfl⟩ (ite_stores (by simp) ?_)
    have hp (s : State) (b : Bool) (n : Nat) (f : Bool) :
        (if b then State.signal k s n f else s).mem = s.mem ∧ (if b then State.signal k s n f else s).hostMem = s.hostMem :=
      ite_stores (ih s n f) ⟨rfl, rfl⟩
    have hj (s : State) (b : Bool) (f : Hub → Hub) :
        (if b then s.modHub f else s).mem = s.mem ∧ (if b then s.modHub f else s).hostMem = s.hostMem :=
      ite_stores ⟨rfl, rfl⟩ ⟨rfl, rfl⟩
    refine ite_stores ⟨(hp _ _ _ _).1.trans ((hj _ _ _).1.trans (by simp)), (hp _ _ _ _).2.trans ((hj _ _ _).2.trans (by simp))⟩ ?_
    refine foldl_stores_of (fun s x => ite_stores ?_ ⟨rfl, rfl⟩) _ ⟨(hp _ _ _ _).1.trans ((hj _ _ _).1.trans (by simp)), (hp _ _ _ _).2.trans ((hj _ _ _).2.trans (by simp))⟩
    exact foldl_stores_of (fun s x => ih s _ _) _ (by simp)

@[simp] theorem State.cntSignal_stores (s : State) (n : Nat) (flt : Bool) :
    (s.cntSignal n flt).mem = s.mem ∧ (s.cntSignal n flt).hostMem = s.hostMem := by
  simp [State.cntSignal]

@[simp] theorem State.freeBound_stores (s : State) (k : Nat) :
    (s.freeBound k).mem = s.mem ∧ (s.freeBound k).hostMem = s.hostMem := by
  unfold State.freeBound
  exact foldl_stores_of (fun s x => by simp) _ (by simp)

@[simp] theorem State.preResult_stores (s : State) (r : Nat) :
    (s.preResult r).mem = s.mem ∧ (s.preResult r).hostMem = s.hostMem := ⟨rfl, rfl⟩

@[simp] theorem State.unreserve_stores (s : State) (k : Nat) :
    (s.unreserve k).mem = s.mem ∧ (s.unreserve k).hostMem = s.hostMem := ⟨rfl, rfl⟩

@[simp] theorem State.cancelSlot_stores (s : State) (k : Nat) :
    (s.cancelSlot k).mem = s.mem ∧ (s.cancelSlot k).hostMem = s.hostMem := by
  unfold State.cancelSlot
  dsimp only
  split
  · exact foldl_stores_of (fun s x => by simp) _ (by simp only [State.modCnt_mem, State.modCnt_hostMem, State.modSlot_mem, State.modSlot_hostMem]; split <;> simp)
  · exact foldl_stores (fun s x => by simp) _ _

@[simp] theorem State.cntCancel_stores (s : State) (n : Nat) :
    (s.cntCancel n).mem = s.mem ∧ (s.cntCancel n).hostMem = s.hostMem := by
  unfold State.cntCancel
  split
  · exact ⟨rfl, rfl⟩
  · refine foldl_stores_of (fun s x => by simp) _ ?_
    simp only [State.modHub_mem, State.modHub_hostMem]
    exact foldl_stores_of (fun s x => by (repeat' split) <;> simp) _ (by simp)

@[simp] theorem State.cntOp_stores (s : State) (v : Nat) :
    (s.cntOp v).mem = s.mem ∧ (s.cntOp v).hostMem = s.hostMem := by
  obtain ⟨t, h⟩ : ∃ t, t = s.cntOp v := ⟨_, rfl⟩
  rw [← h]
  unfold State.cntOp at h
  dsimp only at h
  (repeat' split at h) <;> subst h <;> simp

@[simp] theorem State.commit_stores (s : State) (w : List Nat) (k : Nat) (drone : Bool) :
    (s.commit w k drone).1.mem = s.mem ∧ (s.commit w k drone).1.hostMem = s.hostMem := by
  unfold State.commit
  dsimp only; (repeat' split) <;> simp

@[simp] theorem State.slotCommit_stores (s : State) :
    (s.slotCommit).mem = s.mem ∧ (s.slotCommit).hostMem = s.hostMem := by
  simp [State.slotCommit]

@[simp] theorem State.preAccept_stores (s : State) (k r : Nat) :
    (s.preAccept k r).mem = s.mem ∧ (s.preAccept k r).hostMem = s.hostMem := ⟨rfl, rfl⟩

@[simp] theorem State.preemptOp_stores (s : State) (k : Nat) :
    (s.preemptOp k).mem = s.mem ∧ (s.preemptOp k).hostMem = s.hostMem := by
  obtain ⟨t, h⟩ : ∃ t, t = s.preemptOp k := ⟨_, rfl⟩; rw [← h]; unfold State.preemptOp at h; (try dsimp only at h); (repeat' split at h) <;> subst h <;> (try (simp; done)) <;> exact foldl_stores_of (fun s x => by simp) _ (by simp)

@[simp] theorem State.restoreOp_stores (s : State) (k : Nat) :
    (s.restoreOp k).mem = s.mem ∧ (s.restoreOp k).hostMem = s.hostMem := by
  obtain ⟨t, h⟩ : ∃ t, t = s.restoreOp k := ⟨_, rfl⟩; rw [← h]; unfold State.restoreOp at h; (try dsimp only at h); (repeat' split at h) <;> subst h <;> (try (simp; done)) <;> (try simp only [State.setCl_mem]) <;> (refine foldl_stores_of (fun s x => ?_) _ ?_ <;> (repeat' split) <;> simp)

@[simp] theorem State.galBase_stores (s : State) (g v : Nat) :
    (s.galBase g v).mem = s.mem ∧ (s.galBase g v).hostMem = s.hostMem := by
  unfold State.galBase
  dsimp only; (repeat' split) <;> simp

@[simp] theorem State.ptMirror_stores (s : State) (v : Nat) :
    (s.ptMirror v).mem = s.mem ∧ (s.ptMirror v).hostMem = s.hostMem := by
  unfold State.ptMirror
  (repeat' split) <;> simp

@[simp] theorem State.doorbell_stores (s : State) (cqhead sqtail : Nat) :
    (s.doorbell cqhead sqtail).mem = s.mem ∧ (s.doorbell cqhead sqtail).hostMem = s.hostMem := ⟨rfl, rfl⟩

@[simp] theorem State.mbxBase_stores (s : State) (v : Nat) :
    (s.mbxBase v).mem = s.mem ∧ (s.mbxBase v).hostMem = s.hostMem := ⟨rfl, rfl⟩

@[simp] theorem State.setCap_stores (s : State) (i cap : Nat) :
    (s.setCap i cap).mem = s.mem ∧ (s.setCap i cap).hostMem = s.hostMem := by
  unfold State.setCap
  (repeat' split) <;> simp

@[simp] theorem State.clWrite_stores (s : State) (who : Agent) (c n v : Nat) :
    (s.clWrite who c n v).mem = s.mem ∧ (s.clWrite who c n v).hostMem = s.hostMem := by
  unfold State.clWrite
  dsimp only
  repeat' with_reducible refine ite_stores ?_ ?_
  all_goals simp

@[simp] theorem State.invWrite_stores (s : State) (v : Nat) :
    (s.invWrite v).mem = s.mem ∧ (s.invWrite v).hostMem = s.hostMem := by
  unfold State.invWrite
  (repeat' split) <;> simp

@[simp] theorem State.snapshotOp_stores (s : State) (k : Nat) :
    (s.snapshotOp k).mem = s.mem ∧ (s.snapshotOp k).hostMem = s.hostMem := by
  unfold State.snapshotOp; dsimp only; (repeat' split) <;> simp

@[simp] theorem State.preWrite_stores (s : State) (v : Nat) :
    (s.preWrite v).mem = s.mem ∧ (s.preWrite v).hostMem = s.hostMem := by
  unfold State.preWrite
  dsimp only; (repeat' split) <;> simp

@[simp] theorem State.linkWrite_stores (s : State) (l m k v : Nat) :
    (s.linkWrite l m k v).mem = s.mem ∧ (s.linkWrite l m k v).hostMem = s.hostMem := ⟨rfl, rfl⟩

@[simp] theorem State.hubWrite_stores (s : State) (who : Agent) (n v : Nat) :
    (s.hubWrite who n v).mem = s.mem ∧ (s.hubWrite who n v).hostMem = s.hostMem := by
  unfold State.hubWrite
  dsimp only
  repeat' with_reducible refine ite_stores ?_ ?_
  all_goals simp

@[simp] theorem State.regWrite_stores (s : State) (who : Agent) (r : RegAddr) (v : Nat) :
    (s.regWrite who r v).mem = s.mem ∧ (s.regWrite who r v).hostMem = s.hostMem := by
  unfold State.regWrite
  (repeat' split) <;> simp

@[simp] theorem State.loadLate_stores (s : State) (c k : Nat) (p : Pend) (w lanes : Nat) (sg : Bool) (snap : Nat) (ps : List Piece) :
    (s.loadLate c k p w lanes sg snap ps).mem = s.mem ∧ (s.loadLate c k p w lanes sg snap ps).hostMem = s.hostMem := by
  unfold State.loadLate; dsimp only; (repeat' split) <;> simp

@[simp] theorem State.atomFire_stores (s : State) (i : Instr) :
    (s.atomFire i).mem = s.mem ∧ (s.atomFire i).hostMem = s.hostMem := by
  unfold State.atomFire
  extract_lets f
  split
  · exact ⟨rfl, rfl⟩
  · refine ite_stores (by simp) ?_
    split
    · simp
    · split
      · simp
      · exact State.access_stores _ _ _ _ _ _ _ _ (fun t o l => by split <;> simp)

@[simp] theorem State.dropLine_stores (s : State) (c line : Nat) :
    (s.dropLine c line).mem = s.mem ∧ (s.dropLine c line).hostMem = s.hostMem := ⟨rfl, rfl⟩

@[simp] theorem State.joinReturn_stores (s : State) (p : Pend) (va v : Nat) :
    (s.joinReturn p va v).mem = s.mem ∧ (s.joinReturn p va v).hostMem = s.hostMem := by
  unfold State.joinReturn
  dsimp only; (repeat' split) <;> simp

@[simp] theorem State.popDone_stores (s : State) (p : Pend) (d : Dests) (owner ring slot n v : Nat) (bad : List (Nat × Nat)) :
    (s.popDone p d owner ring slot n v bad).mem = s.mem ∧ (s.popDone p d owner ring slot n v bad).hostMem = s.hostMem := by
  simp [State.popDone]

@[simp] theorem State.setPort_stores (s : State) (c p : Nat) (g : StrPort → StrPort) :
    (s.setPort c p g).mem = s.mem ∧ (s.setPort c p g).hostMem = s.hostMem := ⟨rfl, rfl⟩

@[simp] theorem State.startStream_stores (s : State) (c : Nat) (x : Stream) :
    (s.startStream c x).mem = s.mem ∧ (s.startStream c x).hostMem = s.hostMem := ⟨rfl, rfl⟩

@[simp] theorem State.blockFire_stores (s : State) (i : Instr) (n : Nat) :
    (s.blockFire i n).mem = s.mem ∧ (s.blockFire i n).hostMem = s.hostMem := by
  unfold State.blockFire
  dsimp only; (repeat' split) <;> simp

@[simp] theorem State.tellIssued_stores (s : State) (x : Stream) (e : Ep) :
    (s.tellIssued x e).1.mem = s.mem ∧ (s.tellIssued x e).1.hostMem = s.hostMem := by
  unfold State.tellIssued; (repeat' split) <;> simp

@[simp] theorem State.streamSend_stores (s : State) (c port : Nat) (x : Stream) (e : Ep) (tag : Tag) (fr : Option Frame) (t : Token) :
    (s.streamSend c port x e tag fr t).mem = s.mem ∧ (s.streamSend c port x e tag fr t).hostMem = s.hostMem := by
  have hi := State.tellIssued_stores s x e
  unfold State.streamSend
  generalize s.tellIssued x e = q at hi ⊢
  obtain ⟨s', x'⟩ := q
  dsimp only at hi ⊢
  rw [← hi.1, ← hi.2]
  split <;> split <;> simp

@[simp] theorem State.streamBubble_stores (s : State) (c port : Nat) (x : Stream) (e : Ep) (tag : Tag) (fr : Option Frame) :
    (s.streamBubble c port x e tag fr).mem = s.mem ∧ (s.streamBubble c port x e tag fr).hostMem = s.hostMem := by
  simp [State.streamBubble]

@[simp] theorem State.putStream_stores (s : State) (c port : Nat) (x : Stream) :
    (s.putStream c port x).mem = s.mem ∧ (s.putStream c port x).hostMem = s.hostMem := by
  exact ⟨rfl, rfl⟩

@[simp] theorem State.streamMiss_stores (s : State) (c port : Nat) (x : Stream) (e : Ep) (va : Nat) (tag : Tag) (fr : Option Frame) :
    (s.streamMiss c port x e va tag fr).mem = s.mem ∧ (s.streamMiss c port x e va tag fr).hostMem = s.hostMem := by
  unfold State.streamMiss
  dsimp only; (repeat' split) <;> simp

@[simp] theorem State.streamIssue_stores (s : State) (c port : Nat) (x : Stream) (e : Ep) (se el : Elem) :
    (s.streamIssue c port x e se el).mem = s.mem ∧ (s.streamIssue c port x e se el).hostMem = s.hostMem := by
  unfold State.streamIssue; dsimp only; (repeat' split) <;> simp

@[simp] theorem State.streamGot_stores (s : State) (c port : Nat) (x : Stream) (e : Ep) (k : Nat) (se el : Elem) :
    (s.streamGot c port x e k se el).2.mem = s.mem ∧ (s.streamGot c port x e k se el).2.hostMem = s.hostMem := by
  unfold State.streamGot
  extract_lets owner
  split
  · rename_i off l
    split
    · exact ⟨rfl, rfl⟩
    · have h := State.fetchLines_stores s c (128 + port) (Machine.holderOf e.unit) (se.lines ++ (Elem.ok 0 off l).lines)
      generalize s.fetchLines c (128 + port) (Machine.holderOf e.unit) (se.lines ++ (Elem.ok 0 off l).lines) = q at h ⊢
      obtain ⟨b, s'⟩ := q
      dsimp only at h ⊢
      split <;> exact h
  · exact ⟨rfl, rfl⟩
  · rename_i sc _ _ _
    have hs : ∀ b s1, sc = some (b, s1) → s1.mem = s.mem ∧ s1.hostMem = s.hostMem := by
      intro b s1 h
      simp only [sc] at h
      split at h
      · cases h; exact ⟨rfl, rfl⟩
      · exact State.bufGot_stores h
    clear_value sc
    cases sc with
    | none => exact ⟨rfl, rfl⟩
    | some q =>
      obtain ⟨b, s1⟩ := q
      have h1 := hs _ _ rfl
      dsimp only
      split
      · exact ⟨rfl, rfl⟩
      · rename_i h
        have h2 := State.bufGot_stores h
        exact ⟨h2.1.trans h1.1, h2.2.trans h1.2⟩

@[simp] theorem State.streamData_stores (s : State) (c port : Nat) (x : Stream) (e : Ep) (tag : Tag) (fr : Option Frame) :
    (s.streamData c port x e tag fr).mem = s.mem ∧ (s.streamData c port x e tag fr).hostMem = s.hostMem := by
  unfold State.streamData
  dsimp only
  generalize s.elems c (streamTags x.block) .read x.base (x.offsets e x.j).1 e.w e.g = el
  generalize (if x.readsScale e = true then s.elems c (streamTags x.block) .read x.base (x.offsets e x.j).2 16 1
    else Elem.ok 9 0 []) = se
  split
  · simp
  · simp
  · exact ⟨rfl, rfl⟩
  · simp
  · simp
  · exact ⟨rfl, rfl⟩
  · split
    · simp
    · split <;> rename_i h <;> have h1 := congrArg (fun q => q.2.mem) h <;> have h2 := congrArg (fun q => q.2.hostMem) h <;>
        simp only [State.streamGot_stores] at h1 h2 <;> rw [h1, h2]
      · exact ⟨rfl, rfl⟩
      · (repeat' split) <;> simp

@[simp] theorem State.bufWrites_stores (c unit owner : Nat) (s : State) (l : List (Nat × Nat × Nat)) :
    (s.bufWrites c unit owner l).mem = s.mem ∧ (s.bufWrites c unit owner l).hostMem = s.hostMem := by
  induction l generalizing s with
  | nil => exact ⟨rfl, rfl⟩
  | cons p rest ih => exact ⟨(ih _).1.trans (by simp), (ih _).2.trans (by simp)⟩

@[simp] theorem State.streamBuf_stores (s : State) (c : Nat) (x : Stream) (e : Ep) (pt : PortTok) (n off : Nat) (sel : Elem) (first : Bool) :
    (s.streamBuf c x e pt n off sel first).1.mem = s.mem ∧ (s.streamBuf c x e pt n off sel first).1.hostMem = s.hostMem := by
  unfold State.streamBuf; (repeat' split) <;> simp

@[simp] theorem State.acceptWait_stores (s : State) (c port : Nat) (x : Stream) (va : Nat) (dirty : Bool) :
    (s.acceptWait c port x va dirty).mem = s.mem ∧ (s.acceptWait c port x va dirty).hostMem = s.hostMem := by
  unfold State.acceptWait
  split
  · simp
  · split
    rename_i k t h
    have := State.startWalk_stores s c va .write x.fir none
    rw [h] at this
    simpa using this

@[simp] theorem State.streamOut_stores (s : State) (x : Stream) (e : Ep) :
    (s.streamOut x e).mem = s.mem ∧ (s.streamOut x e).hostMem = s.hostMem := by
  unfold State.streamOut
  (repeat' split) <;> simp

@[simp] theorem State.strmendDone_stores (s : State) (c port : Nat) :
    (s.strmendDone c port).mem = s.mem ∧ (s.strmendDone c port).hostMem = s.hostMem := by
  unfold State.strmendDone
  exact foldl_stores (fun s x => by (repeat' split) <;> simp) _ _

@[simp] theorem State.copyFail_stores (s : State) (c k p : Nat) (i : Nat × Nat × Nat) (code cause : Nat) (stat : Option Nat) :
    (s.copyFail c k p i code cause stat).mem = s.mem ∧ (s.copyFail c k p i code cause stat).hostMem = s.hostMem := by
  simp [State.copyFail]

@[simp] theorem State.recStart_stores (s : State) (c k : Nat) (r : CopyRec) :
    (s.recStart c k r).mem = s.mem ∧ (s.recStart c k r).hostMem = s.hostMem := by
  unfold State.recStart
  dsimp only; (repeat' split) <;> simp

@[simp] theorem State.fetchRecord_stores (s : State) (c k p : Nat) :
    (s.fetchRecord c k p).mem = s.mem ∧ (s.fetchRecord c k p).hostMem = s.hostMem := by
  have hl (lines : List Nat) := State.fetchLines_stores s c (64 + k) 2 lines
  unfold State.fetchRecord
  dsimp only
  split
  · simp
  · split
    · simp
    · split
      · simp
      · exact ⟨rfl, rfl⟩
      · simp
      · rename_i l _
        have h := hl (linesOf l)
        generalize s.fetchLines c (64 + k) 2 (linesOf l) = q at h ⊢
        obtain ⟨b, s'⟩ := q
        dsimp only at h ⊢
        rw [← h.1, ← h.2]
        (repeat' split) <;> simp

@[simp] theorem State.wordFlush_stores (s : State) (c : Nat) (r : CopyRec) :
    (s.wordFlush c r).1.mem = s.mem ∧ (s.wordFlush c r).1.hostMem = s.hostMem := by
  unfold State.wordFlush; (repeat' split) <;> simp

theorem State.wordPut_stores (c : Nat) (p : State × CopyRec) (q : Nat × Nat × Nat) :
    (State.wordPut c p q).1.mem = p.1.mem ∧ (State.wordPut c p q).1.hostMem = p.1.hostMem := by
  unfold State.wordPut
  dsimp only
  split
  · split <;> simp
  · exact ⟨rfl, rfl⟩

theorem State.wordPuts_stores (c : Nat) (l : List (Nat × Nat × Nat)) (p : State × CopyRec) :
    (l.foldl (State.wordPut c) p).1.mem = p.1.mem ∧ (l.foldl (State.wordPut c) p).1.hostMem = p.1.hostMem := by
  induction l generalizing p with
  | nil => exact ⟨rfl, rfl⟩
  | cons a l ih => exact ⟨(ih _).1.trans (State.wordPut_stores c p a).1, (ih _).2.trans (State.wordPut_stores c p a).2⟩

@[simp] theorem State.runFlush_stores (s : State) (c : Nat) (r : CopyRec) :
    (s.runFlush c r).1.mem = s.mem ∧ (s.runFlush c r).1.hostMem = s.hostMem := by
  obtain ⟨t, h⟩ : ∃ t, t = s.runFlush c r := ⟨_, rfl⟩
  rw [← h]
  unfold State.runFlush at h
  cases hr : r.run <;> cases hw : r.wkey <;> simp only [hr, hw] at h <;> subst h <;> simp

theorem State.runPut_stores (c : Nat) (p : State × CopyRec) (q : Nat × Nat × Nat) :
    (State.runPut c p q).1.mem = p.1.mem ∧ (State.runPut c p q).1.hostMem = p.1.hostMem := by
  obtain ⟨t, h⟩ : ∃ t, t = State.runPut c p q := ⟨_, rfl⟩
  rw [← h]
  unfold State.runPut at h
  dsimp only at h
  (repeat' split at h) <;> subst h <;> simp

theorem State.runPuts_stores (c : Nat) (l : List (Nat × Nat × Nat)) (p : State × CopyRec) :
    (l.foldl (State.runPut c) p).1.mem = p.1.mem ∧ (l.foldl (State.runPut c) p).1.hostMem = p.1.hostMem := by
  induction l generalizing p with
  | nil => exact ⟨rfl, rfl⟩
  | cons a l ih => exact ⟨(ih _).1.trans (State.runPut_stores c p a).1, (ih _).2.trans (State.runPut_stores c p a).2⟩

@[simp] theorem State.copyPut_stores (s : State) (c : Nat) (r : CopyRec) (v : Nat) (bad : Bool) (e : Elem) :
    (s.copyPut c r v bad e).1.mem = s.mem ∧ (s.copyPut c r v bad e).1.hostMem = s.hostMem := by
  unfold State.copyPut
  split
  · exact ⟨rfl, rfl⟩
  · split
    · exact State.wordPuts_stores c _ _
    · exact State.runPuts_stores c _ _
  · exact ⟨rfl, rfl⟩

@[simp] theorem State.setRec_stores (s : State) (c k : Nat) (r : CopyRec) :
    (s.setRec c k r).mem = s.mem ∧ (s.setRec c k r).hostMem = s.hostMem := ⟨rfl, rfl⟩

@[simp] theorem State.channelNext_stores (s : State) (c k : Nat) (r : CopyRec) :
    (s.channelNext c k r).mem = s.mem ∧ (s.channelNext c k r).hostMem = s.hostMem := ⟨rfl, rfl⟩

@[simp] theorem State.retireFinish_stores (s : State) (c k : Nat) (r : CopyRec) (st : Option Stamp) :
    (s.retireFinish c k r st).mem = s.mem ∧ (s.retireFinish c k r st).hostMem = s.hostMem := by
  unfold State.retireFinish
  dsimp only; (repeat' split) <;> simp

@[simp] theorem State.reading_stores (s : State) (outs : List (Dest × Token)) (t : Token) (go : Nat → State)
    (hg : ∀ n, (go n).mem = s.mem ∧ (go n).hostMem = s.hostMem) :
    (s.reading outs t go).mem = s.mem ∧ (s.reading outs t go).hostMem = s.hostMem := by
  unfold State.reading
  dsimp only
  split
  · simp
  · split
    · simp
    · exact hg _

@[simp] theorem State.triggered_stores (s : State) (d : Dests) (go : State) (hg : go.mem = s.mem ∧ go.hostMem = s.hostMem) :
    (s.triggered d go).mem = s.mem ∧ (s.triggered d go).hostMem = s.hostMem := by
  unfold State.triggered
  dsimp only
  split
  · simp
  · exact hg

@[simp] theorem State.ringReading_stores (s : State) (outs : List (Dest × Token)) (go : Nat → State)
    (hg : ∀ n, (go n).mem = s.mem ∧ (go n).hostMem = s.hostMem) :
    (s.ringReading outs go).mem = s.mem ∧ (s.ringReading outs go).hostMem = s.hostMem := by
  refine State.reading_stores s outs _ _ (fun p => ?_)
  split
  · simp
  · dsimp only
    split
    · exact hg _
    · simp

@[simp] theorem State.ask5_stores (s : State) (i : Instr) (dst dstUnit : Nat) :
    (s.ask5 i dst dstUnit).mem = s.mem ∧ (s.ask5 i dst dstUnit).hostMem = s.hostMem := by
  exact ⟨rfl, rfl⟩

@[simp] theorem State.ringAsk_stores (s : State) (i : Instr) (outs : List (Dest × Token)) :
    (s.ringAsk i outs).mem = s.mem ∧ (s.ringAsk i outs).hostMem = s.hostMem := by
  simp [State.ringAsk]

@[simp] theorem State.rsrelApply_stores (s : State) (p : Pend) :
    (s.rsrelApply p).mem = s.mem ∧ (s.rsrelApply p).hostMem = s.hostMem := by
  unfold State.rsrelApply; dsimp only; (repeat' split) <;> simp

@[simp] theorem State.testWaits_stores (s : State) (c : Nat) :
    (s.testWaits c).mem = s.mem ∧ (s.testWaits c).hostMem = s.hostMem := by
  unfold State.testWaits; (repeat' split) <;> simp

@[simp] theorem State.waitFired_stores (s : State) (c : Nat) (f : Firing) :
    (s.waitFired c f).mem = s.mem ∧ (s.waitFired c f).hostMem = s.hostMem := by
  exact ⟨rfl, rfl⟩

@[simp] theorem State.endWalk_stores (s : State) (c k : Nat) :
    (s.endWalk c k).mem = s.mem ∧ (s.endWalk c k).hostMem = s.hostMem := ⟨rfl, rfl⟩

@[simp] theorem State.unquiesce_stores (s : State) (c : Nat) :
    (s.unquiesce c).mem = s.mem ∧ (s.unquiesce c).hostMem = s.hostMem := by
  simp [State.unquiesce]

@[simp] theorem State.restart_stores (s : State) (r : Nat × Nat × Nat × Nat) :
    (s.restart r).mem = s.mem ∧ (s.restart r).hostMem = s.hostMem := by
  unfold State.restart
  (repeat' split) <;> (try simp) <;> (refine foldl_stores_of (fun s x => ?_) _ ?_ <;> (repeat' split) <;> simp)

@[simp] theorem State.stoSubst_stores (s : State) (sid : Nat) :
    (s.stoSubst sid).mem = s.mem ∧ (s.stoSubst sid).hostMem = s.hostMem := by
  exact ⟨rfl, rfl⟩

@[simp] theorem State.storageRead_stores (s : State) (sid va e lvl : Nat) :
    (s.storageRead sid va e lvl).mem = s.mem ∧ (s.storageRead sid va e lvl).hostMem = s.hostMem := by
  unfold State.storageRead; dsimp only; (repeat' split) <;> simp

@[simp] theorem State.lostRecord_stores (s : State) (queue g cause : Nat) (owner : Option (Nat × Nat × Nat × Nat)) :
    (s.lostRecord queue g cause owner).mem = s.mem ∧ (s.lostRecord queue g cause owner).hostMem = s.hostMem := by
  exact ⟨rfl, rfl⟩

@[simp] theorem State.mirrorTake_stores (s : State) (x1 : MsgPay) :
    (s.mirrorTake x1).mem = s.mem ∧ (s.mirrorTake x1).hostMem = s.hostMem := by
  unfold State.mirrorTake
  (repeat' split) <;> simp

@[simp] theorem State.acceptCmd_stores (s : State) (f : Firing) (d : Dests) (slot p1 p2 cookie : Nat) (op : MxOp) :
    (s.acceptCmd f d slot p1 p2 cookie op).1.mem = s.mem ∧ (s.acceptCmd f d slot p1 p2 cookie op).1.hostMem = s.hostMem := ⟨rfl, rfl⟩

@[simp] theorem State.putCmd_stores (s : State) (c : Nat) (m : MxCmd) :
    (s.putCmd c m).mem = s.mem ∧ (s.putCmd c m).hostMem = s.hostMem := ⟨rfl, rfl⟩

@[simp] theorem State.retireCmd_stores (s : State) (c : Nat) (m : MxCmd) :
    (s.retireCmd c m).mem = s.mem ∧ (s.retireCmd c m).hostMem = s.hostMem := by
  unfold State.retireCmd
  (repeat' split) <;> simp

@[simp] theorem State.mxeRead_stores (s : State) (c who : Nat) (m : MxCmd) (l : List (Nat × Nat)) :
    (s.mxeRead c who m l).2.mem = s.mem ∧ (s.mxeRead c who m l).2.hostMem = s.hostMem := by
  unfold State.mxeRead
  split
  · exact ⟨rfl, rfl⟩
  · split
    · simp only [State.putCmd_stores]
      exact foldl_stores_of (fun s x => by simp) _ ⟨rfl, rfl⟩
    · split <;> exact ⟨rfl, rfl⟩

@[simp] theorem State.mxeUsed_stores (s : State) (c : Nat) (m : MxCmd) :
    (s.mxeUsed c m).mem = s.mem ∧ (s.mxeUsed c m).hostMem = s.hostMem := by
  unfold State.mxeUsed; (repeat' split) <;> simp

@[simp] theorem State.healthTo_stores (s : State) (c new : Nat) :
    (s.healthTo c new).mem = s.mem ∧ (s.healthTo c new).hostMem = s.hostMem := by
  unfold State.healthTo
  dsimp only; (repeat' split) <;> simp

@[simp] theorem State.degrade_stores (s : State) (c : Nat) :
    (s.degrade c).mem = s.mem ∧ (s.degrade c).hostMem = s.hostMem := by
  simp [State.degrade]

@[simp] theorem State.inRow_stores (s : State) (c : Nat) (m : MxCmd) (region : Nat) (token fp : Bool) (src pitch : Nat) (t : Token) :
    (s.inRow c m region token fp src pitch t).mem = s.mem ∧ (s.inRow c m region token fp src pitch t).hostMem = s.hostMem := by
  unfold State.inRow
  dsimp only
  split
  · simp
  · have h := State.mxeRead_stores s c 2 m [(ptrBufOff src + m.next * pitch, 32 * (Region.of region).n)]
    generalize s.mxeRead c 2 m [(ptrBufOff src + m.next * pitch, 32 * (Region.of region).n)] = q at h ⊢
    obtain ⟨r, s'⟩ := q
    dsimp only at h ⊢
    rw [← h.1, ← h.2]
    split <;> simp_all

@[simp] theorem State.outStep_stores (s : State) (c : Nat) (m : MxCmd) (region vb : Nat) (l : MxoutLit) (dst pitch : Nat) (upset : List (Nat × Nat)) :
    (s.outStep c m region vb l dst pitch upset).mem = s.mem ∧ (s.outStep c m region vb l dst pitch upset).hostMem = s.hostMem := by
  unfold State.outStep
  extract_lets r x p last ends gl2 per cols rowEnd
  refine ite_stores (by simp) ?_
  have h := State.mxeRead_stores (s.putCmd c m) c 1 m (p.reads r vb m.next)
  generalize (s.putCmd c m).mxeRead c 1 m (p.reads r vb m.next) = q at h ⊢
  obtain ⟨b, s'⟩ := q
  simp only [State.putCmd_stores] at h
  rw [← h.1, ← h.2]
  cases b with
  | none => exact ⟨rfl, rfl⟩
  | some block =>
    dsimp -zeta only
    extract_lets row out m' v s1 gl2 unit toks
    have he (s : State) (code origin : Nat) : (ends s code origin).mem = s.mem ∧ (ends s code origin).hostMem = s.hostMem := by
      simp [ends]
    have h1 : s1.mem = s'.mem ∧ s1.hostMem = s'.hostMem := by simp [s1]
    clear_value ends toks unit m' last out row v s1
    refine ite_stores (ite_stores (he _ _ _) ?_) (ite_stores ?_ ?_)
    · exact ite_stores ⟨(he _ _ _).1.trans h1.1, (he _ _ _).2.trans h1.2⟩ h1
    · rw [(State.putCmd_stores _ _ _).1, (State.putCmd_stores _ _ _).2]
      exact foldl_stores_of (fun s x => by simp) _ (by simp)
    · dsimp only
      refine ite_stores (he _ _ _) ?_
      (repeat' split) <;> simp [he]

@[simp] theorem State.ticketFire_stores (s : State) (i : Instr) (d : Dests) (bub : Token) :
    (s.ticketFire i d bub).mem = s.mem ∧ (s.ticketFire i d bub).hostMem = s.hostMem := by
  unfold State.ticketFire
  dsimp only; (repeat' split) <;> simp

@[simp] theorem State.mapFault_stores (s : State) (k code : Nat) :
    (s.mapFault k code).mem = s.mem ∧ (s.mapFault k code).hostMem = s.hostMem := ⟨rfl, rfl⟩

@[simp] theorem State.freezeSlot_stores (s : State) (k : Nat) :
    (s.freezeSlot k).mem = s.mem ∧ (s.freezeSlot k).hostMem = s.hostMem := by
  unfold State.freezeSlot
  exact foldl_stores (fun s x => by (repeat' split) <;> simp) _ _

@[simp] theorem State.recordBoth_stores (s : State) (code c unit node origin : Nat) (tag : Tag) (cause : Nat) :
    (s.recordBoth code c unit node origin tag cause).mem = s.mem ∧ (s.recordBoth code c unit node origin tag cause).hostMem = s.hostMem := ⟨rfl, rfl⟩

@[simp] theorem State.endBoth_stores (s : State) (code c unit node origin : Nat) (tag : Tag) (cause : Nat) :
    (s.endBoth code c unit node origin tag cause).mem = s.mem ∧ (s.endBoth code c unit node origin tag cause).hostMem = s.hostMem := by
  unfold State.endBoth
  dsimp only; (repeat' split) <;> simp

@[simp] theorem State.dieFault_stores (s : State) (d : Nat) :
    (s.dieFault d).mem = s.mem ∧ (s.dieFault d).hostMem = s.hostMem := by
  unfold State.dieFault
  simp only [State.modHub_mem, State.modHub_hostMem]
  refine foldl_stores_of (fun s c => by simp) _ (foldl_stores_of (fun s c => by simp) _ ?_)
  simp only [State.pushFault_mem, State.pushFault_hostMem]
  exact foldl_stores (fun s c => by simp) _ _

@[simp] theorem State.member_stores (s : State) (d : Dests) (g : Takes) :
    (s.member d g).mem = s.mem ∧ (s.member d g).hostMem = s.hostMem := by
  unfold State.member
  dsimp only; (repeat' split) <;> simp

@[simp] theorem State.linkSimple_stores (s : State) (f : Firing) (i : Instr) :
    (s.linkSimple f i).1.mem = s.mem ∧ (s.linkSimple f i).1.hostMem = s.hostMem := by
  unfold State.linkSimple
  dsimp only; (repeat' split) <;> simp

@[simp] theorem State.freeValue_stores (s : State) (f : Firing) :
    (s.freeValue f).1.mem = s.mem ∧ (s.freeValue f).1.hostMem = s.hostMem := ⟨rfl, rfl⟩

@[simp] theorem State.chainRun_stores (f : Firing) (l : List Nat) (s : State) (v : Token) :
    (s.chainRun f l v).1.mem = s.mem ∧ (s.chainRun f l v).1.hostMem = s.hostMem := by
  induction l generalizing s v with
  | nil => exact ⟨rfl, rfl⟩
  | cons n rest ih =>
    unfold State.chainRun
    split
    · exact ⟨rfl, rfl⟩
    · rename_i i _
      have hl := State.linkSimple_stores s (f.linkTo n v) i
      dsimp only
      generalize s.linkSimple (f.linkTo n v) i = q at hl
      obtain ⟨s', r⟩ := q
      cases r
      · exact hl
      · exact ⟨(ih _ _).1.trans (by simpa using hl.1), (ih _ _).2.trans (by simpa using hl.2)⟩
      · exact ⟨(ih _ _).1.trans hl.1, (ih _ _).2.trans hl.2⟩

@[simp] theorem State.putAct_stores (s : State) (c : Nat) (a : Activation) :
    (s.putAct c a).mem = s.mem ∧ (s.putAct c a).hostMem = s.hostMem := by
  unfold State.putAct; split <;> exact ⟨rfl, rfl⟩

@[simp] theorem State.endMarker_stores (s : State) (c : Nat) (a : Activation) (i last : Nat) :
    (s.endMarker c a i last).mem = s.mem ∧ (s.endMarker c a i last).hostMem = s.hostMem := by
  unfold State.endMarker
  (repeat' split) <;> simp

@[simp] theorem State.loopTests_stores (c at_ go : Nat) (l : List (Nat × Nat × Nat × Nat)) (s : State) (a : Activation) :
    (s.loopTests c a at_ go l).mem = s.mem ∧ (s.loopTests c a at_ go l).hostMem = s.hostMem := by
  induction l generalizing s a with
  | nil => simp [State.loopTests]
  | cons x rest ih =>
    obtain ⟨i, last, r, n⟩ := x
    unfold State.loopTests
    dsimp only
    split
    · simp
    · split
      · simp
      · simp [ih]

@[simp] theorem State.stepOn_stores (s : State) (c : Nat) (a : Activation) :
    (s.stepOn c a).mem = s.mem ∧ (s.stepOn c a).hostMem = s.hostMem := by
  simp [State.stepOn]

@[simp] theorem State.onAct_stores (s : State) (g : Nat → Activation → State)
    (hg : ∀ c a, (g c a).mem = s.mem ∧ (g c a).hostMem = s.hostMem) :
    (s.onAct g).mem = s.mem ∧ (s.onAct g).hostMem = s.hostMem := by
  unfold State.onAct
  split
  · exact hg _ _
  · exact ⟨rfl, rfl⟩

@[simp] theorem State.startFail_stores (s : State) (k : Nat) (e : LoadErr) :
    (s.startFail k e).mem = s.mem ∧ (s.startFail k e).hostMem = s.hostMem := by
  unfold State.startFail
  refine foldl_stores_of (fun s x => by simp) _ ?_
  simp only [State.modSlot_mem, State.modSlot_hostMem, State.pushFault_mem, State.pushFault_hostMem]
  exact foldl_stores (fun s x => by simp) _ _

@[simp] theorem State.inject_stores (s : State) (c : Nat) (l : List (Nat × Nat × Port × Nat × Bool)) :
    (s.inject c l).mem = s.mem ∧ (s.inject c l).hostMem = s.hostMem := by
  unfold State.inject
  exact foldl_stores (fun s x => by (repeat' split) <;> simp) _ _

@[simp] theorem State.startReadFail_stores (s : State) (k cause : Nat) :
    (s.startReadFail k cause).mem = s.mem ∧ (s.startReadFail k cause).hostMem = s.hostMem := by
  unfold State.startReadFail; (repeat' split) <;> simp

@[simp] theorem State.fillClaims_stores (s : State) (c : Nat) :
    (s.fillClaims c).mem = s.mem ∧ (s.fillClaims c).hostMem = s.hostMem := by
  unfold State.fillClaims
  simp only [State.modCtx_mem, State.modCtx_hostMem]
  exact foldl_stores (fun s x => by split <;> simp) _ _

@[simp] theorem State.dropAsks_stores (s : State) (c : Nat) (f : Nat → Bool) :
    (s.dropAsks c f).mem = s.mem ∧ (s.dropAsks c f).hostMem = s.hostMem := by
  exact ⟨rfl, rfl⟩

@[simp] theorem State.dropVals_stores (s : State) (c : Nat) :
    (s.dropVals c).mem = s.mem ∧ (s.dropVals c).hostMem = s.hostMem := by
  exact ⟨rfl, rfl⟩

@[simp] theorem State.dropImages_stores (s : State) (k : Nat) :
    (s.dropImages k).mem = s.mem ∧ (s.dropImages k).hostMem = s.hostMem := ⟨rfl, rfl⟩

@[simp] theorem State.modQueue_stores (s : State) (q : Nat) (f : SubQueue → SubQueue) :
    (s.modQueue q f).mem = s.mem ∧ (s.modQueue q f).hostMem = s.hostMem := ⟨rfl, rfl⟩

@[simp] theorem State.answer_stores (s : State) (k v : Nat) :
    (s.answer k v).mem = s.mem ∧ (s.answer k v).hostMem = s.hostMem := ⟨rfl, rfl⟩

@[simp] theorem State.enqueue_stores (s : State) (q : Nat) (r : Request) :
    (s.enqueue q r).mem = s.mem ∧ (s.enqueue q r).hostMem = s.hostMem := ⟨rfl, rfl⟩

@[simp] theorem State.sysqAnswer_stores (s : State) (job q pend : Nat) (req : Option Request) :
    (s.sysqAnswer job q pend req).mem = s.mem ∧ (s.sysqAnswer job q pend req).hostMem = s.hostMem := by
  unfold State.sysqAnswer; dsimp only; (repeat' split) <;> simp

@[simp] theorem State.neverBound_stores (s : State) (b : Bind) :
    (s.neverBound b).mem = s.mem ∧ (s.neverBound b).hostMem = s.hostMem := by
  unfold State.neverBound
  split
  · exact ⟨rfl, rfl⟩
  · exact foldl_stores_of (fun s x => by simp) _ (by simp)

@[simp] theorem State.popHead_stores (s : State) (q : Nat) :
    (s.popHead q).mem = s.mem ∧ (s.popHead q).hostMem = s.hostMem := ⟨rfl, rfl⟩

@[simp] theorem State.complete_stores (s : State) (cid status result : Nat) :
    (s.complete cid status result).mem = s.mem ∧ (s.complete cid status result).hostMem = s.hostMem := ⟨rfl, rfl⟩

@[simp] theorem State.measured_stores (s : State) (stage : Nat) (kslot : Bool) (pset keyid : Nat) (digest : BitVec 256) (failed : Bool) :
    (s.measured stage kslot pset keyid digest failed).mem = s.mem ∧ (s.measured stage kslot pset keyid digest failed).hostMem = s.hostMem := ⟨rfl, rfl⟩

@[simp] theorem State.regAsk_stores (s : State) (i : Instr) (p : Nat) :
    (s.regAsk i p).mem = s.mem ∧ (s.regAsk i p).hostMem = s.hostMem := by
  unfold State.regAsk; dsimp only; (repeat' split) <;> simp

@[simp] theorem State.regApply_stores (s : State) (p : Pend) :
    (s.regApply p).mem = s.mem ∧ (s.regApply p).hostMem = s.hostMem := by
  unfold State.regApply; (repeat' split) <;> simp

@[simp] theorem State.serveReq_stores (s : State) (k : Nat) :
    (s.serveReq k).mem = s.mem ∧ (s.serveReq k).hostMem = s.hostMem := by
  unfold State.serveReq; dsimp only; (repeat' split) <;> simp

@[simp] theorem State.taken_stores (s : State) :
    (s.taken).mem = s.mem ∧ (s.taken).hostMem = s.hostMem := ⟨rfl, rfl⟩

@[simp] theorem State.oddStatus_stores (s : State) (cid : Nat) :
    (s.oddStatus cid).mem = s.mem ∧ (s.oddStatus cid).hostMem = s.hostMem := by
  exact ⟨rfl, rfl⟩

@[simp] theorem State.netDone_stores (s : State) (ctx slot : Nat) :
    (s.netDone ctx slot).mem = s.mem ∧ (s.netDone ctx slot).hostMem = s.hostMem := ⟨rfl, rfl⟩

@[simp] theorem State.netSubst_stores (s : State) (ctx : Nat) (b : Bool) :
    (s.netSubst ctx b).mem = s.mem ∧ (s.netSubst ctx b).hostMem = s.hostMem := by
  unfold State.netSubst; (repeat' split) <;> simp

@[simp] theorem State.stoEnd_stores (s : State) (qp sid status : Nat) :
    (s.stoEnd qp sid status).mem = s.mem ∧ (s.stoEnd qp sid status).hostMem = s.hostMem := by
  exact ⟨rfl, rfl⟩

@[simp] theorem State.deviceReset_stores (s : State) (fence : List Nat) :
    (s.deviceReset fence).mem = s.mem ∧ (s.deviceReset fence).hostMem = s.hostMem := ⟨rfl, rfl⟩

@[simp] theorem State.trainLinks_stores (s : State) :
    (s.trainLinks).mem = s.mem ∧ (s.trainLinks).hostMem = s.hostMem := by
  unfold State.trainLinks
  dsimp only
  exact foldl_stores (fun s x => by split <;> exact ⟨rfl, rfl⟩) _ _

@[simp] theorem State.firmwareUpdate_stores (s : State) :
    (s.firmwareUpdate).mem = s.mem ∧ (s.firmwareUpdate).hostMem = s.hostMem := ⟨rfl, rfl⟩

@[simp] theorem State.enterStage_stores (s : State) (stage : Nat) (kslot : Bool) :
    (s.enterStage stage kslot).mem = s.mem ∧ (s.enterStage stage kslot).hostMem = s.hostMem := by
  unfold State.enterStage
  (repeat' split) <;> simp

@[simp] theorem State.stageFailed_stores (s : State) (stage : Nat) (kslot : Bool) :
    (s.stageFailed stage kslot).mem = s.mem ∧ (s.stageFailed stage kslot).hostMem = s.hostMem := ⟨rfl, rfl⟩

@[simp] theorem State.thermNotice_stores (s : State) (d kind : Nat) :
    (s.thermNotice d kind).mem = s.mem ∧ (s.thermNotice d kind).hostMem = s.hostMem := ⟨rfl, rfl⟩

@[simp] theorem State.setTherm_stores (s : State) (d : Nat) (t : Therm) :
    (s.setTherm d t).mem = s.mem ∧ (s.setTherm d t).hostMem = s.hostMem := ⟨rfl, rfl⟩

@[simp] theorem State.modIslands_stores (s : State) (f : Island → Island) :
    (s.modIslands f).mem = s.mem ∧ (s.modIslands f).hostMem = s.hostMem := by
  unfold State.modIslands
  exact foldl_stores (fun s x => by simp) _ _

@[simp] theorem State.modLink_stores (s : State) (l m : Nat) (f : LinkMod → LinkMod) :
    (s.modLink l m f).mem = s.mem ∧ (s.modLink l m f).hostMem = s.hostMem := ⟨rfl, rfl⟩

@[simp] theorem State.sendFlit_stores (s : State) (l m : Nat) (dir : Bool) :
    (s.sendFlit l m dir).mem = s.mem ∧ (s.sendFlit l m dir).hostMem = s.hostMem := by
  unfold State.sendFlit; dsimp only; split <;> exact ⟨rfl, rfl⟩

@[simp] theorem State.deliver_stores (s : State) (l m : Nat) (dir : Bool) (f : Flit) :
    (s.deliver l m dir f).mem = s.mem ∧ (s.deliver l m dir f).hostMem = s.hostMem := ⟨rfl, rfl⟩

@[simp] theorem State.latchStep_stores (s : State) (c u : Nat) (a : Activation) :
    (s.latchStep c u a).mem = s.mem ∧ (s.latchStep c u a).hostMem = s.hostMem := by
  exact ⟨rfl, rfl⟩

@[simp] theorem State.quadCycle_stores (s : State) :
    (s.quadCycle).mem = s.mem ∧ (s.quadCycle).hostMem = s.hostMem := by
  exact ⟨rfl, rfl⟩

@[simp] theorem State.quietCycle_stores (s : State) (l : List Nat) :
    (s.quietCycle l).mem = s.mem ∧ (s.quietCycle l).hostMem = s.hostMem := by
  refine foldl_stores (fun s x => ?_) _ _
  unfold State.quietLaunch; split
  · exact ⟨rfl, rfl⟩
  · exact foldl_stores (fun s x => by simp) _ _

@[simp] theorem State.hubStall_stores (s : State) :
    (s.hubStall).mem = s.mem ∧ (s.hubStall).hostMem = s.hostMem := by
  unfold State.hubStall
  exact foldl_stores_of (fun s x => by simp) _ (by simp)

@[simp] theorem State.nativeSwap_stores (s : State) (c : Nat) :
    (s.nativeSwap c).mem = s.mem ∧ (s.nativeSwap c).hostMem = s.hostMem := by
  unfold State.nativeSwap; dsimp only; (repeat' split) <;> simp

@[simp] theorem State.swapCycle_stores (s : State) (l : List Nat) :
    (s.swapCycle l).mem = s.mem ∧ (s.swapCycle l).hostMem = s.hostMem :=
  foldl_stores (fun s x => by simp) _ _

@[simp] theorem State.placeWord_stores (s : State) (nbits w : Nat) :
    (s.placeWord nbits w).mem = s.mem ∧ (s.placeWord nbits w).hostMem = s.hostMem := by
  unfold State.placeWord
  (repeat' split) <;> simp

@[simp] theorem State.withFetchWord_stores (s : State) (nbits w : Nat) :
    (s.withFetchWord nbits w).mem = s.mem ∧ (s.withFetchWord nbits w).hostMem = s.hostMem := by
  simp [State.withFetchWord]

/-! ## The operations that store -/

/-- Both memories are in canonical form. -/
def State.inForm (s : State) : Prop := s.mem.wf = true ∧ s.hostMem.wf = true

/-- A form of memory carries over to a state with the same bytes. -/
theorem State.inForm_of_stores {s t : State} (h : t.mem = s.mem ∧ t.hostMem = s.hostMem) (hs : s.inForm) : t.inForm := by
  simpa only [State.inForm, h.1, h.2] using hs

theorem foldl_inForm {α : Type} {f : State → α → State} (h : ∀ s x, s.inForm → (f s x).inForm) (l : List α) (s : State)
    (hs : s.inForm) : (l.foldl f s).inForm := by
  induction l generalizing s with
  | nil => exact hs
  | cons a l ih => exact ih _ (h s a hs)

theorem State.coverSector_inForm {s : State} (sec lo w : Nat) (hs : s.inForm) : (s.coverSector sec lo w).inForm :=
  State.inForm_of_stores (State.coverSector_stores s sec lo w) hs

theorem State.writeBytes_inForm {s : State} (a n v : Nat) (hs : s.inForm) :
    ({ s with mem := s.mem.writeBytes a n v } : State).inForm := ⟨Memory.writeBytes_wf n a v hs.1, hs.2⟩

theorem State.writeBits_inForm {s : State} (pba w v : Nat) (hs : s.inForm) :
    ({ s with mem := s.mem.writeBits pba w v } : State).inForm := ⟨Memory.writeBits_wf pba w v hs.1, hs.2⟩

theorem State.writeList_inForm {s : State} (a : Nat) (l : List Byte) (hs : s.inForm) :
    ({ s with mem := s.mem.writeList a l } : State).inForm := ⟨Memory.writeList_wf l a hs.1, hs.2⟩

theorem State.writeSummary_inForm {s : State} (g : Nat) (hs : s.inForm) : (s.writeSummary g).inForm :=
  State.writeBytes_inForm _ _ _ hs

theorem ite_inForm {c : Prop} [Decidable c] {a b : State} (ha : a.inForm) (hb : b.inForm) :
    (if c then a else b).inForm := by
  split <;> assumption

theorem State.modGal_inForm {s : State} (g : Nat) (f : Galley → Galley) (hs : s.inForm) : (s.modGal g f).inForm :=
  State.inForm_of_stores (State.modGal_stores s g f) hs

theorem State.append1_inForm {s : State} (g : Nat) (e : GEnt) (hs : s.inForm) : (s.append1 g e).inForm := by
  unfold State.append1
  extract_lets y e' s1 s2 s3
  have h1 : s1.inForm := State.writeBytes_inForm _ _ _ hs
  have h3 : s3.inForm := State.inForm_of_stores (State.mergeVc_stores s2 g e') (State.modGal_inForm g _ h1)
  exact ite_inForm (State.modGal_inForm g _ (State.writeSummary_inForm g h3)) h3

theorem State.appendAll_inForm {s : State} (g kind source sid : Nat) (l : List (Nat × Nat × Nat × Bool)) (hs : s.inForm) :
    (s.appendAll g kind source sid l).inForm :=
  foldl_inForm (fun _ _ h => State.append1_inForm g _ h) _ _ hs

theorem State.release_inForm {s : State} (g : Nat) (hs : s.inForm) : (s.release g).inForm := by
  unfold State.release
  dsimp only
  split
  · refine State.inForm_of_stores (State.modGal_stores _ _ _) ?_
    split
    · exact hs
    · exact State.writeSummary_inForm g hs
  · exact hs

theorem State.marker_inForm {s : State} (c : Nat) (pages : List Nat) (full : Bool) (hs : s.inForm) :
    (s.marker c pages full).inForm :=
  State.append1_inForm _ _ (State.modGal_inForm c _ hs)

theorem State.fold_inForm {s : State} (e : GEnt) (i : Nat) (hs : s.inForm) : (s.fold e i).inForm := by
  unfold State.fold
  dsimp only
  split
  · exact State.inForm_of_stores (State.poisonSector_stores _ _) (State.writeBits_inForm _ _ _ hs)
  · exact State.coverSector_inForm _ _ _ (State.writeBits_inForm _ _ _ hs)

theorem State.push_inForm {s : State} (c : Nat) (r : TaskRec) (hs : s.inForm) : (s.push c r).inForm := by
  unfold State.push
  extract_lets s1
  have h1 : s1.inForm := hs
  clear_value s1
  split
  · exact h1
  · exact State.inForm_of_stores ⟨State.modCtx_mem _ _ _, State.modCtx_hostMem _ _ _⟩ (State.writeBytes_inForm _ _ _ h1)

theorem State.updatePte_inForm {s : State} (p : Nat) (f : Nat → Nat) (hs : s.inForm) : (s.updatePte p f).inForm := by
  unfold State.updatePte
  extract_lets v s1
  have h1 : s1.inForm := State.writeBytes_inForm _ _ _ hs
  split
  · exact State.writeBytes_inForm _ _ _ h1
  · exact h1

theorem State.markDirty_inForm {s : State} (sid va : Nat) (hs : s.inForm) : (s.markDirty sid va).inForm := by
  unfold State.markDirty
  split
  · exact State.updatePte_inForm _ _ hs
  · exact hs

theorem State.translateVia_inForm {s : State} (cache : List (Nat × Nat)) (sid va : Nat) (kind : AccKind) (user : Bool)
    (hs : s.inForm) : (s.translateVia cache sid va kind user).1.inForm := by
  have hn : s.noteWalk.inForm := State.inForm_of_stores (State.noteWalk_stores s) hs
  unfold State.translateVia
  dsimp only
  split
  · exact hn
  · exact hn
  · split
    · exact hn
    · exact ite_inForm hn (State.updatePte_inForm _ _ hn)

theorem State.translate_inForm {s : State} (sid va : Nat) (kind : AccKind) (user : Bool) (hs : s.inForm) :
    (s.translate sid va kind user).1.inForm := State.translateVia_inForm _ sid va kind user hs

theorem State.hubLost_inForm {s : State} (sid table : Nat) (hs : s.inForm) : (s.hubLost sid table).inForm :=
  State.inForm_of_stores (State.hubLost_stores s sid table) hs

theorem State.hubXlat_inForm {s : State} (t sid va : Nat) (kind : AccKind) (hs : s.inForm) :
    (s.hubXlat t sid va kind).1.inForm := by
  have hx := State.translate_inForm sid va kind false hs
  have hw {r : State} (c : Prop) [Decidable c] (h : r.inForm) : (if c then r.markDirty sid va else r).inForm :=
    ite_inForm (State.markDirty_inForm sid va h) h
  have hr : ∀ r : State × Except Nat TlbEnt, r.1.inForm → (match r with
      | (s, .error k) => ((s, .error k) : State × Except Nat TlbEnt)
      | (s, .ok e) =>
        let clean := kind ≠ AccKind.read ∧ (!e.dirty ∨ e.cp)
        let e' := if clean then { e with dirty := true, cp := false } else e
        let s := if clean then s.markDirty sid va else s
        (s.modHub (fun h => h.setTlb t (tlbPut 1024 (h.tlb t) e')), .ok e')).1.inForm := by
    rintro ⟨r, _ | e⟩ h
    · exact h
    · exact State.inForm_of_stores ⟨rfl, rfl⟩ (hw _ h)
  unfold State.hubXlat
  refine hr _ ?_
  split
  · exact hs
  · split <;> rename_i h
    · exact State.hubLost_inForm _ _ ((Prod.mk.inj h).1 ▸ hx)
    · exact (Prod.mk.inj h).1 ▸ hx

theorem State.hubParts_inForm {s : State} (t sid : Nat) (kind : AccKind) (l : List (Nat × Nat)) (hs : s.inForm) :
    (s.hubParts t sid kind l).1.inForm := by
  induction l generalizing s with
  | nil => exact hs
  | cons p rest ih =>
    obtain ⟨va, n⟩ := p
    have hx := State.hubXlat_inForm t sid va kind hs
    unfold State.hubParts
    split <;> rename_i h <;> rw [h] at hx
    · exact hx
    · have hp := ih hx
      split
      · rename_i h'; rw [h'] at hp; exact hp
      · exact hp

theorem State.hubStore_inForm {s t : State} (tlb g sid va w : Nat) (runs : List Run)
    (h : s.hubStore tlb g sid va w runs = some t) (hs : s.inForm) : t.inForm := by
  have hp : (s.hubPieces tlb sid .write va w).1.inForm := State.hubParts_inForm _ _ _ _ hs
  unfold State.hubStore at h
  split at h <;> rename_i hq <;> rw [hq] at hp
  · split at h
    · cases h
    · cases h; exact hp
  · dsimp only at h
    split at h
    · cases h; exact State.appendAll_inForm _ _ _ _ _ hp
    · cases h

theorem State.storeTable_inForm {s : State} (pa : Nat) (data : List Byte) (hs : s.inForm) : (s.storeTable pa data).inForm := by
  exact (State.writeList_inForm pa data hs : ({ s with mem := s.mem.writeList pa data } : State).inForm)

theorem State.putDirectory_inForm {s : State} (obj : Nat) (h : HeapObj) (forme ptr : Nat) (hs : s.inForm) :
    (s.putDirectory obj h forme ptr).inForm := by
  unfold State.putDirectory
  split
  · split
    · exact State.writeBytes_inForm _ _ _ hs
    · exact hs
  · exact hs

theorem State.putRecord_inForm {s : State} (j : Nat) (r : FaultRec) (hs : s.inForm) : (s.putRecord j r).inForm := by
  unfold State.putRecord
  extract_lets e w0 w1 log2 wptr rptr m
  have hm : m.wf = true := Memory.writeBytes_wf _ _ _ hs.1
  clear_value m
  refine ite_inForm hs (ite_inForm (State.writeBytes_inForm _ _ _ hs) ?_)
  exact State.writeBytes_inForm (s := { s with mem := m }) _ _ _ ⟨hm, hs.2⟩

theorem State.netFail_inForm {s : State} (ctx slot status : Nat) (hs : s.inForm) : (s.netFail ctx slot status).inForm :=
  State.inForm_of_stores (State.modNet_stores _ _ _) (State.writeBytes_inForm _ _ _ hs)

theorem State.peerAtomic_inForm {s : State} (pba w : Nat) (f : Nat → Nat) (hs : s.inForm) : (s.peerAtomic pba w f).inForm := by
  unfold State.peerAtomic
  split
  · exact hs
  · exact (State.writeBits_inForm _ _ _ hs)

theorem State.depositRange_inForm {s : State} (c port lo hi : Nat) (hs : s.inForm) :
    (s.depositRange c port lo hi).inForm := by
  unfold State.depositRange
  refine ite_inForm hs (ite_inForm (State.inForm_of_stores ⟨rfl, rfl⟩ hs) ?_)
  exact State.inForm_of_stores (State.modHub_stores _ _) (State.writeBytes_inForm _ _ _ hs)

theorem Image.putRange_wf {im : Image} {m : Memory} (r : Nat × Nat × Nat) (h : m.wf = true) : (im.putRange m r).wf = true := by
  unfold Image.putRange
  split
  · generalize rangeEntries r.2.1 r.2.2 = l
    induction l generalizing m with
    | nil => exact h
    | cons k l ih => exact ih (Memory.writeBytes_wf _ _ _ h)
  · exact Memory.writeBits_wf _ _ _ h

theorem Image.putRanges_wf {im : Image} (l : List (Nat × Nat × Nat)) {m : Memory} (h : m.wf = true) :
    (l.foldl im.putRange m).wf = true := by
  induction l generalizing m with
  | nil => exact h
  | cons r l ih => exact ih (Image.putRange_wf r h)

theorem State.writeImage_inForm {s : State} (im : Image) (hs : s.inForm) : (s.writeImage im).inForm := by
  unfold State.writeImage
  extract_lets m1 m2
  have h1 : m1.wf = true := Memory.writeList_wf _ _ hs.1
  exact State.writeBytes_inForm (s := { s with mem := m2, images := s.images.put im.pa im, freeCtr := s.freeCtr + 1 })
    _ _ _ ⟨Image.putRanges_wf _ h1, hs.2⟩

/-! ## What taking a fault, sending and flags can do -/

/-- TAKING A FAULT: nothing, where the unit has ended already; else one record and the unit's status. -/
theorem State.endUnit_cases (s : State) (code c unit node origin : Nat) (tag : Tag) (cause : Nat) :
    s.endUnit code c unit node origin tag cause = s ∨
    ∃ r, s.endUnit code c unit node origin tag cause =
      { s with hub := { s.hub with faults := s.hub.faults ++ [r] }, cls := s.cls.put c { s.cl c with stat := .faulting } } := by
  unfold State.endUnit
  split
  · exact .inr ⟨_, rfl⟩
  · exact .inl rfl

/-- One delivery leaves: a message with the next serial number. -/
theorem State.sendTok_cases (s : State) (u : Nat) (src : Nat) (dst : Place) (top : Nat) (t : Token) (r : Bool) :
    ∃ l n, s.sendTok u src dst top t r = { s with netMsgs := s.netMsgs ++ l, serial := n } := by
  unfold State.sendTok
  split <;> exact ⟨_, _, rfl⟩

theorem State.launchTok_cases (s : State) (u : Nat) (x : Delivery) :
    ∃ l n, s.launchTok u x = { s with netMsgs := s.netMsgs ++ l, serial := n } := by
  cases x with
  | fault t => exact ⟨[], s.serial, by rw [List.append_nil]; rfl⟩
  | tok src dst top t => exact State.sendTok_cases s u src dst top t false
  | routed src dst top t => exact State.sendTok_cases s u src dst top t true

/-- SENDING: messages and fault records are added and no more, or the unit ends and nothing is sent. -/
theorem State.emit_cases (s : State) (f : Firing) (outs : List (Dest × Token)) :
    (∃ l n fs, s.emit f outs =
      { s with netMsgs := s.netMsgs ++ l, serial := n, hub := { s.hub with faults := s.hub.faults ++ fs } }) ∨
    ∃ e, s.emit f outs = s.fail f e := by
  unfold State.emit
  split
  · exact .inr ⟨_, rfl⟩
  · rename_i l hl
    clear hl
    refine .inl ?_
    induction l generalizing s with
    | nil => exact ⟨[], s.serial, [], by simp⟩
    | cons x rest ih =>
      have hx : ∃ l n fs, (match x with | .fault t => s.faultTok f t | _ => s.launchTok f.unit x) =
          { s with netMsgs := s.netMsgs ++ l, serial := n, hub := { s.hub with faults := s.hub.faults ++ fs } } := by
        split
        · exact ⟨[], s.serial, [_], by simp only [List.append_nil]; rfl⟩
        · obtain ⟨l, n, h⟩ := State.launchTok_cases s f.unit x
          exact ⟨l, n, [], by rw [h]; simp only [List.append_nil]⟩
      obtain ⟨l₁, n₁, fs₁, h₁⟩ := hx
      obtain ⟨l₂, n₂, fs₂, h₂⟩ := ih (s := { s with netMsgs := s.netMsgs ++ l₁, serial := n₁, hub := { s.hub with faults := s.hub.faults ++ fs₁ } })
      refine ⟨l₁ ++ l₂, n₂, fs₁ ++ fs₂, ?_⟩
      simp only [List.append_assoc] at h₂
      exact (congrArg (fun t => rest.foldl _ t) h₁).trans h₂

/-- FLAGS: the sticky flags of one unit grow, and fault records and the launch's stop may be added. -/
theorem State.raise_cases (s : State) (f : Firing) (flags : Nat) (force : Bool) :
    ∃ fs slots, s.raise f flags force =
      { s.setFlags f flags with hub := { s.hub with faults := s.hub.faults ++ fs, slots := slots } } := by
  have hs : (s.setFlags f flags).hub = s.hub := by unfold State.setFlags; split <;> rfl
  unfold State.raise
  dsimp only
  split
  · unfold State.noteTrap
    split
    · split
      · exact ⟨_, _, by rw [← hs]; rfl⟩
      · exact ⟨_, _, by rw [← hs]; rfl⟩
    · exact ⟨_, _, by rw [← hs]; rfl⟩
  · exact ⟨[], s.hub.slots, by rw [List.append_nil, ← hs]⟩

end Sys2Proof.Machine
end

