-- ==== Sys2Proof/Laws/PerInstr.lean ====
section
/-!
SUPPORT. The family RowReads, one lemma per instruction: the record that the encoder writes for a well-formed
instruction is found in the opcode map, and its row reads the instruction's MOD and literal operands back.
-/
set_option Elab.async false

namespace Sys2Proof.Laws.RowReads

/-- What the row of a record reads, where the record carries an instruction's destinations. -/
def Reads (i : Instr) (w : BitVec 96) : Prop :=
  ∃ (row : RowDec) (f : Dests → Instr) (d : Dests),
    opRow (NodeWord.ofBits w).op = some row ∧ row (NodeWord.ofBits w).mod (NodeWord.ofBits w).lit = .ok f ∧ f d = i ∧
    (NodeWord.ofBits w).da = d.da.toBits ∧ (NodeWord.ofBits w).db = d.db.toBits ∧ d.wf = true

/-- A well-formed instruction's record reads back, row by row; a step entry and a machine step have no record. -/
def Statement (i : Instr) : Prop := i.wf = true → ∀ w, encode i = .node w → Reads i w

theorem of_row {i : Instr} {op : BitVec 9} {mod : BitVec 7} {d : Dests} {lit : BitVec 32} {row : RowDec} {f : Dests → Instr}
    (he : encode i = nodeBits op mod d lit) (hrow : opRow op = some row) (hf : row mod lit = .ok f) (hi : f d = i)
    (hd : i.wf = true → d.wf = true) : Statement i := by
  intro hw w h
  rw [he] at h
  simp only [nodeBits, Code.node.injEq] at h
  subst h
  refine ⟨row, f, d, ?_, ?_, hi, ?_, ?_, hd hw⟩ <;> rw [NodeWord.ofBits_toBits] <;> first | exact hrow | exact hf | rfl

/-- An instruction with no record of its own. -/
theorem no_record {i : Instr} (h : ∀ w, encode i ≠ .node w) : Statement i := fun _ w hw => absurd hw (h w)

theorem mov (d : Dests) : Statement (.mov d) :=
  of_row rfl rfl (by simp only [isZ_zero, noLit_zero, bind, Except.bind]) rfl (by simp [Instr.wf])
theorem const_ (sg : Bool) (k : BitVec 32) (d : Dests) : Statement (.const_ sg k d) :=
  of_row rfl rfl (by simp only [getSG_mSG, bind, Except.bind]) rfl (by simp [Instr.wf])
theorem steer (d : Dests) : Statement (.steer d) :=
  of_row rfl rfl (by simp only [isZ_zero, noLit_zero, bind, Except.bind]) rfl (by simp [Instr.wf])
theorem select (d : Dests) : Statement (.select d) :=
  of_row rfl rfl (by simp only [isZ_zero, noLit_zero, bind, Except.bind]) rfl (by simp [Instr.wf])
theorem merge (d : Dests) : Statement (.merge d) :=
  of_row rfl rfl (by simp only [isZ_zero, noLit_zero, bind, Except.bind]) rfl (by simp [Instr.wf])
theorem gate (d : Dests) : Statement (.gate d) :=
  of_row rfl rfl (by simp only [isZ_zero, noLit_zero, bind, Except.bind]) rfl (by simp [Instr.wf])
theorem sync2 (d : Dests) : Statement (.sync2 d) :=
  of_row rfl rfl (by simp only [isZ_zero, noLit_zero, bind, Except.bind]) rfl (by simp [Instr.wf])
theorem sync3 (d : Dests) : Statement (.sync3 d) :=
  of_row rfl rfl (by simp only [isZ_zero, noLit_zero, bind, Except.bind]) rfl (by simp [Instr.wf])
theorem loopin (nm1 : BitVec 8) (d : Dests) : Statement (.loopin nm1 d) :=
  of_row rfl rfl (by simp only [isZ_zero, getB_padL (w := 8) (by decide), bind, Except.bind]) rfl (by simp [Instr.wf])
theorem iend (d : Dests) : Statement (.iend d) :=
  of_row rfl rfl (by simp only [isZ_zero, noLit_zero, bind, Except.bind]) rfl (by simp [Instr.wf])
theorem loopout (d : Dests) : Statement (.loopout d) :=
  of_row rfl rfl (by simp only [isZ_zero, noLit_zero, bind, Except.bind]) rfl (by simp [Instr.wf])
theorem talloc (nm1 : BitVec 8) (d : Dests) : Statement (.talloc nm1 d) :=
  of_row rfl rfl (by simp only [isZ_zero, getB_padL (w := 8) (by decide), bind, Except.bind]) rfl (by simp [Instr.wf])
theorem tfree (d : Dests) : Statement (.tfree d) :=
  of_row rfl rfl (by simp only [isZ_zero, noLit_zero, bind, Except.bind]) rfl (by simp [Instr.wf])
theorem call (nm1 : BitVec 8) (d : Dests) : Statement (.call nm1 d) :=
  of_row rfl rfl (by simp only [isZ_zero, getB_padL (w := 8) (by decide), bind, Except.bind]) rfl (by simp [Instr.wf])
theorem ret_ (d : Dests) : Statement (.ret_ d) :=
  of_row rfl rfl (by simp only [isZ_zero, noLit_zero, bind, Except.bind]) rfl (by simp [Instr.wf])
theorem tagget (d : Dests) : Statement (.tagget d) :=
  of_row rfl rfl (by simp only [isZ_zero, noLit_zero, bind, Except.bind]) rfl (by simp [Instr.wf])
theorem tagset (d : Dests) : Statement (.tagset d) :=
  of_row rfl rfl (by simp only [isZ_zero, noLit_zero, bind, Except.bind]) rfl (by simp [Instr.wf])
theorem iter (d : Dests) : Statement (.iter d) :=
  of_row rfl rfl (by simp only [isZ_zero, noLit_zero, bind, Except.bind]) rfl (by simp [Instr.wf])
theorem wave (d : Dests) : Statement (.wave d) :=
  of_row rfl rfl (by simp only [isZ_zero, noLit_zero, bind, Except.bind]) rfl (by simp [Instr.wf])
theorem waveMarker (k : Nat) : Statement (.waveMarker k) := no_record (fun _ => Code.noConfusion)
theorem step_ (l : ListLit) (d : Dests) : Statement (.step_ l d) :=
  of_row rfl rfl (by simp only [isZ_zero, getList_lList, bind, Except.bind]) rfl (by simp [Instr.wf])
theorem stepSnop : Statement (.stepSnop) := no_record (fun _ => Code.noConfusion)
theorem stepLoop (last : BitVec 4) (x : BitVec 2) (csrc : Bool) (count : BitVec 16) : Statement (.stepLoop last x csrc count) := no_record (fun _ => Code.noConfusion)
theorem stepSetx (x : BitVec 2) (imm : BitVec 16) : Statement (.stepSetx x imm) := no_record (fun _ => Code.noConfusion)
theorem stepAddx (x : BitVec 2) (imm : BitVec 16) : Statement (.stepAddx x imm) := no_record (fun _ => Code.noConfusion)
theorem stepEmit (dsel : Bool) (x : BitVec 2) (form : BitVec 2) (sh : BitVec 4) (imm : BitVec 16) : Statement (.stepEmit dsel x form sh imm) := no_record (fun _ => Code.noConfusion)
theorem mxseqPatch (dsel : Bool) (field : BitVec 3) (x : BitVec 2) (sh : BitVec 4) (imm : BitVec 16) : Statement (.mxseqPatch dsel field x sh imm) := no_record (fun _ => Code.noConfusion)
theorem stepOpn (node : BitVec 9) : Statement (.stepOpn node) := no_record (fun _ => Code.noConfusion)
theorem stepJmp (target : BitVec 4) : Statement (.stepJmp target) := no_record (fun _ => Code.noConfusion)
theorem stepDone : Statement (.stepDone) := no_record (fun _ => Code.noConfusion)
theorem barr (l : BarrLit) (d : Dests) : Statement (.barr l d) :=
  of_row rfl rfl (by simp only [isZ_zero, getBarr_lBarr, bind, Except.bind]) rfl (by simp [Instr.wf])
theorem barrGenerationComplete (c : Nat) (id : Nat) : Statement (.barrGenerationComplete c id) := no_record (fun _ => Code.noConfusion)
theorem trigger (d : Dests) : Statement (.trigger d) :=
  of_row rfl rfl (by simp only [isZ_zero, noLit_zero, bind, Except.bind]) rfl (by simp [Instr.wf])
theorem done (d : Dests) : Statement (.done d) :=
  of_row rfl rfl (by simp only [isZ_zero, noLit_zero, bind, Except.bind]) rfl (by simp [Instr.wf])
theorem ckpt (n : BitVec 8) (d : Dests) : Statement (.ckpt n d) :=
  of_row rfl rfl (by simp only [isZ_zero, getB_padL (w := 8) (by decide), bind, Except.bind]) rfl (by simp [Instr.wf])
theorem fork (l : EntryLit) (d : Dests) : Statement (.fork l d) :=
  of_row rfl rfl (by simp only [isZ_zero, getEntry_lEntry, bind, Except.bind]) rfl (by simp [Instr.wf])
theorem join (d : Dests) : Statement (.join d) :=
  of_row rfl rfl (by simp only [isZ_zero, noLit_zero, bind, Except.bind]) rfl (by simp [Instr.wf])
theorem park (kind : ParkKind) (l : EntryLit) (d : Dests) : Statement (.park kind l d) :=
  of_row rfl rfl (by simp only [getPark_mPark, getEntry_lEntry, bind, Except.bind]) rfl (by simp [Instr.wf])
theorem parkWake (c : Nat) (k : Nat) : Statement (.parkWake c k) := no_record (fun _ => Code.noConfusion)
theorem resume (d : Dests) : Statement (.resume d) :=
  of_row rfl rfl (by simp only [isZ_zero, noLit_zero, bind, Except.bind]) rfl (by simp [Instr.wf])
theorem taskResume (c : Nat) : Statement (.taskResume c) := no_record (fun _ => Code.noConfusion)
theorem frameJoin (c : Nat) : Statement (.frameJoin c) := no_record (fun _ => Code.noConfusion)
theorem stealRequest (c : Nat) : Statement (.stealRequest c) := no_record (fun _ => Code.noConfusion)
theorem stealServe (c : Nat) : Statement (.stealServe c) := no_record (fun _ => Code.noConfusion)
theorem add (sg : Bool) (b : BSrc) (d : Dests) : Statement (.add sg b d) :=
  of_row rfl rfl (by simp only [getSGLB_write, bind, Except.bind]) rfl (by simp [Instr.wf])
theorem sub (sg : Bool) (b : BSrc) (d : Dests) : Statement (.sub sg b d) :=
  of_row rfl rfl (by simp only [getSGLB_write, bind, Except.bind]) rfl (by simp [Instr.wf])
theorem mul (sg : Bool) (b : BSrc) (d : Dests) : Statement (.mul sg b d) :=
  of_row rfl rfl (by simp only [getSGLB_write, bind, Except.bind]) rfl (by simp [Instr.wf])
theorem mulh (sg : Bool) (b : BSrc) (d : Dests) : Statement (.mulh sg b d) :=
  of_row rfl rfl (by simp only [getSGLB_write, bind, Except.bind]) rfl (by simp [Instr.wf])
theorem div (sg : Bool) (b : BSrc) (d : Dests) : Statement (.div sg b d) :=
  of_row rfl rfl (by simp only [getSGLB_write, bind, Except.bind]) rfl (by simp [Instr.wf])
theorem rem (sg : Bool) (b : BSrc) (d : Dests) : Statement (.rem sg b d) :=
  of_row rfl rfl (by simp only [getSGLB_write, bind, Except.bind]) rfl (by simp [Instr.wf])
theorem min_ (sg : Bool) (b : BSrc) (d : Dests) : Statement (.min_ sg b d) :=
  of_row rfl rfl (by simp only [getSGLB_write, bind, Except.bind]) rfl (by simp [Instr.wf])
theorem max_ (sg : Bool) (b : BSrc) (d : Dests) : Statement (.max_ sg b d) :=
  of_row rfl rfl (by simp only [getSGLB_write, bind, Except.bind]) rfl (by simp [Instr.wf])
theorem cmp (sg : Bool) (cond : Cond) (b : BSrc) (d : Dests) : Statement (.cmp sg cond b d) :=
  of_row rfl rfl (by simp only [getSG6LB_write, bind, Except.bind]) rfl (by simp [Instr.wf])
theorem and_ (b : BSrc) (d : Dests) : Statement (.and_ b d) :=
  of_row rfl rfl (by simp only [getZLB_write, bind, Except.bind]) rfl (by simp [Instr.wf])
theorem or_ (b : BSrc) (d : Dests) : Statement (.or_ b d) :=
  of_row rfl rfl (by simp only [getZLB_write, bind, Except.bind]) rfl (by simp [Instr.wf])
theorem xor (b : BSrc) (d : Dests) : Statement (.xor b d) :=
  of_row rfl rfl (by simp only [getZLB_write, bind, Except.bind]) rfl (by simp [Instr.wf])
theorem andn (b : BSrc) (d : Dests) : Statement (.andn b d) :=
  of_row rfl rfl (by simp only [getZLB_write, bind, Except.bind]) rfl (by simp [Instr.wf])
theorem rotl (b : BSrc) (d : Dests) : Statement (.rotl b d) :=
  of_row rfl rfl (by simp only [getZLB_write, bind, Except.bind]) rfl (by simp [Instr.wf])
theorem rotr (b : BSrc) (d : Dests) : Statement (.rotr b d) :=
  of_row rfl rfl (by simp only [getZLB_write, bind, Except.bind]) rfl (by simp [Instr.wf])
theorem shl (sg : Bool) (b : BSrc) (d : Dests) : Statement (.shl sg b d) :=
  of_row rfl rfl (by simp only [getSGLB_write, bind, Except.bind]) rfl (by simp [Instr.wf])
theorem shr (sg : Bool) (b : BSrc) (d : Dests) : Statement (.shr sg b d) :=
  of_row rfl rfl (by simp only [getSGLB_write, bind, Except.bind]) rfl (by simp [Instr.wf])
theorem neg (d : Dests) : Statement (.neg d) :=
  of_row rfl rfl (by simp only [isZ_zero, noLit_zero, bind, Except.bind]) rfl (by simp [Instr.wf])
theorem abs (d : Dests) : Statement (.abs d) :=
  of_row rfl rfl (by simp only [isZ_zero, noLit_zero, bind, Except.bind]) rfl (by simp [Instr.wf])
theorem not_ (d : Dests) : Statement (.not_ d) :=
  of_row rfl rfl (by simp only [isZ_zero, noLit_zero, bind, Except.bind]) rfl (by simp [Instr.wf])
theorem clz (d : Dests) : Statement (.clz d) :=
  of_row rfl rfl (by simp only [isZ_zero, noLit_zero, bind, Except.bind]) rfl (by simp [Instr.wf])
theorem ctz (d : Dests) : Statement (.ctz d) :=
  of_row rfl rfl (by simp only [isZ_zero, noLit_zero, bind, Except.bind]) rfl (by simp [Instr.wf])
theorem popc (d : Dests) : Statement (.popc d) :=
  of_row rfl rfl (by simp only [isZ_zero, noLit_zero, bind, Except.bind]) rfl (by simp [Instr.wf])
theorem adds (sg : Bool) (b : BSrc) (d : Dests) : Statement (.adds sg b d) :=
  of_row rfl rfl (by simp only [getSGLB_write, bind, Except.bind]) rfl (by simp [Instr.wf])
theorem subs (sg : Bool) (b : BSrc) (d : Dests) : Statement (.subs sg b d) :=
  of_row rfl rfl (by simp only [getSGLB_write, bind, Except.bind]) rfl (by simp [Instr.wf])
theorem muls (sg : Bool) (b : BSrc) (d : Dests) : Statement (.muls sg b d) :=
  of_row rfl rfl (by simp only [getSGLB_write, bind, Except.bind]) rfl (by simp [Instr.wf])
theorem shls (sg : Bool) (b : BSrc) (d : Dests) : Statement (.shls sg b d) :=
  of_row rfl rfl (by simp only [getSGLB_write, bind, Except.bind]) rfl (by simp [Instr.wf])
theorem abss (d : Dests) : Statement (.abss d) :=
  of_row rfl rfl (by simp only [isZ_zero, noLit_zero, bind, Except.bind]) rfl (by simp [Instr.wf])
theorem clamp (sg : Bool) (d : Dests) : Statement (.clamp sg d) :=
  of_row rfl rfl (by simp only [getSG_mSG, noLit_zero, bind, Except.bind]) rfl (by simp [Instr.wf])
theorem shrr (sg : Bool) (tie : TieMode) (b : BSrc) (d : Dests) : Statement (.shrr sg tie b d) :=
  of_row rfl rfl (by simp only [getSG3LB_write, bind, Except.bind]) rfl (by simp [Instr.wf])
theorem rquant (sg : Bool) (l : RqLit) (d : Dests) : Statement (.rquant sg l d) :=
  of_row rfl rfl (by simp only [getSG_mSG, getRq_lRq, bind, Except.bind]) rfl (by simp [Instr.wf])
theorem bfx (sg : Bool) (l : FieldLit) (d : Dests) : Statement (.bfx sg l d) :=
  of_row rfl rfl (by simp only [getSG_mSG, getField_lField, bind, Except.bind]) rfl (by simp [Instr.wf])
theorem bfi (l : FieldLit) (d : Dests) : Statement (.bfi l d) :=
  of_row rfl rfl (by simp only [isZ_zero, getField_lField, bind, Except.bind]) rfl (by simp [Instr.wf])
theorem brev (d : Dests) : Statement (.brev d) :=
  of_row rfl rfl (by simp only [isZ_zero, noLit_zero, bind, Except.bind]) rfl (by simp [Instr.wf])
theorem sext (wm1 : BitVec 6) (d : Dests) : Statement (.sext wm1 d) :=
  of_row rfl rfl (by simp only [isZ_zero, getB_padL (w := 6) (by decide), bind, Except.bind]) rfl (by simp [Instr.wf])
theorem zext (wm1 : BitVec 6) (d : Dests) : Statement (.zext wm1 d) :=
  of_row rfl rfl (by simp only [isZ_zero, getB_padL (w := 6) (by decide), bind, Except.bind]) rfl (by simp [Instr.wf])
theorem padd (n : BitVec 16) (d : Dests) : Statement (.padd n d) :=
  of_row rfl rfl (by simp only [isZ_zero, getB_padL (w := 16) (by decide), bind, Except.bind]) rfl (by simp [Instr.wf])
theorem psub (n : BitVec 16) (d : Dests) : Statement (.psub n d) :=
  of_row rfl rfl (by simp only [isZ_zero, getB_padL (w := 16) (by decide), bind, Except.bind]) rfl (by simp [Instr.wf])
theorem paln (n : BitVec 16) (d : Dests) : Statement (.paln n d) :=
  of_row rfl rfl (by simp only [isZ_zero, getB_padL (w := 16) (by decide), bind, Except.bind]) rfl (by simp [Instr.wf])
theorem pchk (n : BitVec 7) (d : Dests) : Statement (.pchk n d) :=
  of_row rfl rfl (by simp only [isZ_zero, getB_padL (w := 7) (by decide), bind, Except.bind]) rfl (by simp [Instr.wf])
theorem pcvt (toByte : Bool) (d : Dests) : Statement (.pcvt toByte d) :=
  of_row rfl rfl (by simp only [getK2_mK2, noLit_zero, bind, Except.bind]) rfl (by simp [Instr.wf])
theorem pspc (sel : PspcSel) (d : Dests) : Statement (.pspc sel d) :=
  of_row rfl rfl (by simp only [getPspc_write, bind, Except.bind]) rfl (by simp [Instr.wf])
theorem fadd (rm : RMode) (cls : FCls) (b : BSrc) (d : Dests) : Statement (.fadd rm cls b d) :=
  of_row rfl rfl (by simp only [getFTLB_write, bind, Except.bind]) rfl (by simp [Instr.wf])
theorem fsub (rm : RMode) (cls : FCls) (b : BSrc) (d : Dests) : Statement (.fsub rm cls b d) :=
  of_row rfl rfl (by simp only [getFTLB_write, bind, Except.bind]) rfl (by simp [Instr.wf])
theorem fmul (rm : RMode) (cls : FCls) (b : BSrc) (d : Dests) : Statement (.fmul rm cls b d) :=
  of_row rfl rfl (by simp only [getFTLB_write, bind, Except.bind]) rfl (by simp [Instr.wf])
theorem fdiv (rm : RMode) (cls : FCls) (b : BSrc) (d : Dests) : Statement (.fdiv rm cls b d) :=
  of_row rfl rfl (by simp only [getFTLB_write, bind, Except.bind]) rfl (by simp [Instr.wf])
theorem fsclb (rm : RMode) (cls : FCls) (b : BSrc) (d : Dests) : Statement (.fsclb rm cls b d) :=
  of_row rfl rfl (by simp only [getFTLB_write, bind, Except.bind]) rfl (by simp [Instr.wf])
theorem fma (rm : RMode) (cls : FCls) (d : Dests) : Statement (.fma rm cls d) :=
  of_row rfl rfl (by simp only [getFT_write, noLit_zero, bind, Except.bind]) rfl (by simp [Instr.wf])
theorem fnma (rm : RMode) (cls : FCls) (d : Dests) : Statement (.fnma rm cls d) :=
  of_row rfl rfl (by simp only [getFT_write, noLit_zero, bind, Except.bind]) rfl (by simp [Instr.wf])
theorem fsqrt (rm : RMode) (cls : FCls) (d : Dests) : Statement (.fsqrt rm cls d) :=
  of_row rfl rfl (by simp only [getFT_write, noLit_zero, bind, Except.bind]) rfl (by simp [Instr.wf])
theorem frsq (rm : RMode) (cls : FCls) (d : Dests) : Statement (.frsq rm cls d) :=
  of_row rfl rfl (by simp only [getFT_write, noLit_zero, bind, Except.bind]) rfl (by simp [Instr.wf])
theorem frcp (rm : RMode) (cls : FCls) (d : Dests) : Statement (.frcp rm cls d) :=
  of_row rfl rfl (by simp only [getFT_write, noLit_zero, bind, Except.bind]) rfl (by simp [Instr.wf])
theorem frint (rm : RMode) (cls : FCls) (d : Dests) : Statement (.frint rm cls d) :=
  of_row rfl rfl (by simp only [getFT_write, noLit_zero, bind, Except.bind]) rfl (by simp [Instr.wf])
theorem fmin (cls : FCls) (b : BSrc) (d : Dests) : Statement (.fmin cls b d) :=
  of_row rfl rfl (by simp only [getFKLB_write, bind, Except.bind]) rfl (by simp [Instr.wf])
theorem fmax (cls : FCls) (b : BSrc) (d : Dests) : Statement (.fmax cls b d) :=
  of_row rfl rfl (by simp only [getFKLB_write, bind, Except.bind]) rfl (by simp [Instr.wf])
theorem fminm (cls : FCls) (b : BSrc) (d : Dests) : Statement (.fminm cls b d) :=
  of_row rfl rfl (by simp only [getFKLB_write, bind, Except.bind]) rfl (by simp [Instr.wf])
theorem fmaxm (cls : FCls) (b : BSrc) (d : Dests) : Statement (.fmaxm cls b d) :=
  of_row rfl rfl (by simp only [getFKLB_write, bind, Except.bind]) rfl (by simp [Instr.wf])
theorem fabs (cls : FCls) (d : Dests) : Statement (.fabs cls d) :=
  of_row rfl rfl (by simp only [getFK_write, noLit_zero, bind, Except.bind]) rfl (by simp [Instr.wf])
theorem fneg (cls : FCls) (d : Dests) : Statement (.fneg cls d) :=
  of_row rfl rfl (by simp only [getFK_write, noLit_zero, bind, Except.bind]) rfl (by simp [Instr.wf])
theorem fclass (cls : FCls) (d : Dests) : Statement (.fclass cls d) :=
  of_row rfl rfl (by simp only [getFK_write, noLit_zero, bind, Except.bind]) rfl (by simp [Instr.wf])
theorem fcpys (cls : FCls) (b : BSrc) (d : Dests) : Statement (.fcpys cls b d) :=
  of_row rfl rfl (by simp only [getFKLB_write, bind, Except.bind]) rfl (by simp [Instr.wf])
theorem fcmp (cond : Cond) (cls : FCls) (b : BSrc) (d : Dests) : Statement (.fcmp cond cls b d) :=
  of_row rfl rfl (by simp only [getFCLB_write, bind, Except.bind]) rfl (by simp [Instr.wf])
theorem cvtff (toFd : Bool) (rm : RMode) (cls : FCls) (fd : BitVec 32) (d : Dests) : Statement (.cvtff toFd rm cls fd d) :=
  of_row rfl rfl (by simp only [getCV_write, bind, Except.bind]) rfl (by simp [Instr.wf])
theorem cvtfi (rm : RMode) (cls : FCls) (fd : BitVec 32) (d : Dests) : Statement (.cvtfi rm cls fd d) :=
  of_row rfl rfl (by simp only [getFT_write, bind, Except.bind]) rfl (by simp [Instr.wf])
theorem cvtif (rm : RMode) (cls : FCls) (fd : BitVec 32) (d : Dests) : Statement (.cvtif rm cls fd d) :=
  of_row rfl rfl (by simp only [getFT_write, bind, Except.bind]) rfl (by simp [Instr.wf])
theorem fexp2 (rm : RMode) (cls : FCls) (d : Dests) : Statement (.fexp2 rm cls d) :=
  of_row rfl rfl (by simp only [getFT_write, noLit_zero, bind, Except.bind]) rfl (by simp [Instr.wf])
theorem fexpe (rm : RMode) (cls : FCls) (d : Dests) : Statement (.fexpe rm cls d) :=
  of_row rfl rfl (by simp only [getFT_write, noLit_zero, bind, Except.bind]) rfl (by simp [Instr.wf])
theorem flog2 (rm : RMode) (cls : FCls) (d : Dests) : Statement (.flog2 rm cls d) :=
  of_row rfl rfl (by simp only [getFT_write, noLit_zero, bind, Except.bind]) rfl (by simp [Instr.wf])
theorem ftanh (rm : RMode) (cls : FCls) (d : Dests) : Statement (.ftanh rm cls d) :=
  of_row rfl rfl (by simp only [getFT_write, noLit_zero, bind, Except.bind]) rfl (by simp [Instr.wf])
theorem fsig (rm : RMode) (cls : FCls) (d : Dests) : Statement (.fsig rm cls d) :=
  of_row rfl rfl (by simp only [getFT_write, noLit_zero, bind, Except.bind]) rfl (by simp [Instr.wf])
theorem fsinp (rm : RMode) (cls : FCls) (d : Dests) : Statement (.fsinp rm cls d) :=
  of_row rfl rfl (by simp only [getFT_write, noLit_zero, bind, Except.bind]) rfl (by simp [Instr.wf])
theorem fcosp (rm : RMode) (cls : FCls) (d : Dests) : Statement (.fcosp rm cls d) :=
  of_row rfl rfl (by simp only [getFT_write, noLit_zero, bind, Except.bind]) rfl (by simp [Instr.wf])
theorem sclmax (fd : BitVec 32) (d : Dests) : Statement (.sclmax fd d) :=
  of_row rfl rfl (by simp only [isZ_zero, bind, Except.bind]) rfl (by simp [Instr.wf])
theorem sclget (d : Dests) : Statement (.sclget d) :=
  of_row rfl rfl (by simp only [isZ_zero, noLit_zero, bind, Except.bind]) rfl (by simp [Instr.wf])
theorem sclset (b : BSrc) (d : Dests) : Statement (.sclset b d) :=
  of_row rfl rfl (by simp only [getZLB_write, bind, Except.bind]) rfl (by simp [Instr.wf])
theorem vctx (qm1 : BitVec 5) (cl2 : BitVec 3) (d : Dests) : Statement (.vctx qm1 cl2 d) :=
  of_row rfl rfl (by simp only [isZ_zero, getVctx_lVctx, bind, Except.bind]) rfl (by simp [Instr.wf])
theorem vpack (d : Dests) : Statement (.vpack d) :=
  of_row rfl rfl (by simp only [isZ_zero, noLit_zero, bind, Except.bind]) rfl (by simp [Instr.wf])
theorem vunpack (d : Dests) : Statement (.vunpack d) :=
  of_row rfl rfl (by simp only [isZ_zero, noLit_zero, bind, Except.bind]) rfl (by simp [Instr.wf])
theorem vsplat (gl2 : BitVec 3) (lane : BitVec 5) (d : Dests) : Statement (.vsplat gl2 lane d) :=
  of_row rfl rfl (by simp only [isZ_zero, getVsplat_lVsplat, bind, Except.bind]) rfl (by simp [Instr.wf])
theorem vperm (d : Dests) : Statement (.vperm d) :=
  of_row rfl rfl (by simp only [isZ_zero, noLit_zero, bind, Except.bind]) rfl (by simp [Instr.wf])
theorem vext (lane : BitVec 5) (d : Dests) : Statement (.vext lane d) :=
  of_row rfl rfl (by simp only [isZ_zero, getB_padL (w := 5) (by decide), bind, Except.bind]) rfl (by simp [Instr.wf])
theorem vins (lane : BitVec 5) (d : Dests) : Statement (.vins lane d) :=
  of_row rfl rfl (by simp only [isZ_zero, getB_padL (w := 5) (by decide), bind, Except.bind]) rfl (by simp [Instr.wf])
theorem vsel (d : Dests) : Statement (.vsel d) :=
  of_row rfl rfl (by simp only [isZ_zero, noLit_zero, bind, Except.bind]) rfl (by simp [Instr.wf])
theorem vredadd (ty : ElemTy) (d : Dests) : Statement (.vredadd ty d) :=
  of_row rfl rfl (by simp only [getTY_mTy, noLit_zero, bind, Except.bind]) rfl (by simp [Instr.wf])
theorem vredmin (ty : ElemTy) (d : Dests) : Statement (.vredmin ty d) :=
  of_row rfl rfl (by simp only [getTY_mTy, noLit_zero, bind, Except.bind]) rfl (by simp [Instr.wf])
theorem vredmax (ty : ElemTy) (d : Dests) : Statement (.vredmax ty d) :=
  of_row rfl rfl (by simp only [getTY_mTy, noLit_zero, bind, Except.bind]) rfl (by simp [Instr.wf])
theorem vscan (ty : ElemTy) (d : Dests) : Statement (.vscan ty d) :=
  of_row rfl rfl (by simp only [getTY_mTy, noLit_zero, bind, Except.bind]) rfl (by simp [Instr.wf])
theorem red (ty : ElemTy) (d : Dests) : Statement (.red ty d) :=
  of_row rfl rfl (by simp only [getTY_mTy, noLit_zero, bind, Except.bind]) rfl (by simp [Instr.wf])
theorem scan (ty : ElemTy) (d : Dests) : Statement (.scan ty d) :=
  of_row rfl rfl (by simp only [getTY_mTy, noLit_zero, bind, Except.bind]) rfl (by simp [Instr.wf])
theorem argmax (ty : ElemTy) (d : Dests) : Statement (.argmax ty d) :=
  of_row rfl rfl (by simp only [getTY_mTy, noLit_zero, bind, Except.bind]) rfl (by simp [Instr.wf])
theorem argmin (ty : ElemTy) (d : Dests) : Statement (.argmin ty d) :=
  of_row rfl rfl (by simp only [getTY_mTy, noLit_zero, bind, Except.bind]) rfl (by simp [Instr.wf])
theorem sortk (ty : ElemTy) (km1 : BitVec 6) (asc : Bool) (d : Dests) : Statement (.sortk ty km1 asc d) :=
  of_row rfl rfl (by simp only [getTY_mTy, getSortk_lSortk, bind, Except.bind]) rfl (by simp [Instr.wf])
theorem chain (l : ChainLit) (d : Dests) : Statement (.chain l d) :=
  of_row rfl rfl (by simp only [isZ_zero, getChain_lChain, bind, Except.bind]) rfl (by simp [Instr.wf])
theorem eod (n : BitVec 2) (d : Dests) : Statement (.eod n d) :=
  of_row rfl rfl (by simp only [isZ_zero, getB_padL (w := 2) (by decide), bind, Except.bind]) rfl (by simp [Instr.wf])
theorem cntr (n : BitVec 16) (d : Dests) : Statement (.cntr n d) :=
  of_row rfl rfl (by simp only [isZ_zero, getB_padL (w := 16) (by decide), bind, Except.bind]) rfl (by simp [Instr.wf])
theorem rng (d : Dests) : Statement (.rng d) :=
  of_row rfl rfl (by simp only [isZ_zero, noLit_zero, bind, Except.bind]) rfl (by simp [Instr.wf])
theorem rngf (d : Dests) : Statement (.rngf d) :=
  of_row rfl rfl (by simp only [isZ_zero, noLit_zero, bind, Except.bind]) rfl (by simp [Instr.wf])
theorem ld (sg : Bool) (wm1 : BitVec 6) (w : WaveLit) (d : Dests) : Statement (.ld sg wm1 w d) :=
  of_row rfl rfl (by simp only [getWDL_write, getWave_lWave, bind, Except.bind]) rfl (by simp [Instr.wf])
theorem ldv (sg : Bool) (wm1 : BitVec 6) (w : WaveLit) (d : Dests) : Statement (.ldv sg wm1 w d) :=
  of_row rfl rfl (by simp only [getWDL_write, getWave_lWave, bind, Except.bind]) rfl (by simp [Instr.wf])
theorem ldx (sg : Bool) (wm1 : BitVec 6) (k : BitVec 32) (d : Dests) : Statement (.ldx sg wm1 k d) :=
  of_row rfl rfl (by simp only [getWDL_write, bind, Except.bind]) rfl (by simp [Instr.wf])
theorem loadDataReturn (c : Nat) (k : Nat) : Statement (.loadDataReturn c k) := no_record (fun _ => Code.noConfusion)
theorem viewCacheFill (c : Nat) (line : Nat) : Statement (.viewCacheFill c line) := no_record (fun _ => Code.noConfusion)
theorem pref (d : Dests) : Statement (.pref d) :=
  of_row rfl rfl (by simp only [isZ_zero, noLit_zero, bind, Except.bind]) rfl (by simp [Instr.wf])
theorem ldb (n : BitVec 8) (d : Dests) : Statement (.ldb n d) :=
  of_row rfl rfl (by simp only [isZ_zero, getB_padL (w := 8) (by decide), bind, Except.bind]) rfl (by simp [Instr.wf])
theorem st (wm1 : BitVec 6) (w : WaveLit) (d : Dests) : Statement (.st wm1 w d) :=
  of_row rfl rfl (by simp only [getWDS_mW, getWave_lWave, bind, Except.bind]) rfl (by simp [Instr.wf])
theorem stv (wm1 : BitVec 6) (w : WaveLit) (d : Dests) : Statement (.stv wm1 w d) :=
  of_row rfl rfl (by simp only [getWDS_mW, getWave_lWave, bind, Except.bind]) rfl (by simp [Instr.wf])
theorem stx (wm1 : BitVec 6) (k : BitVec 32) (d : Dests) : Statement (.stx wm1 k d) :=
  of_row rfl rfl (by simp only [getWDS_mW, bind, Except.bind]) rfl (by simp [Instr.wf])
theorem stb (n : BitVec 8) (d : Dests) : Statement (.stb n d) :=
  of_row rfl rfl (by simp only [isZ_zero, getB_padL (w := 8) (by decide), bind, Except.bind]) rfl (by simp [Instr.wf])
theorem strmgo (n : BitVec 8) (d : Dests) : Statement (.strmgo n d) :=
  of_row rfl rfl (by simp only [isZ_zero, getB_padL (w := 8) (by decide), bind, Except.bind]) rfl (by simp [Instr.wf])
theorem streamTokenEmit (c : Nat) (port : Nat) : Statement (.streamTokenEmit c port) := no_record (fun _ => Code.noConfusion)
theorem streamTokenAccept (c : Nat) (port : Nat) : Statement (.streamTokenAccept c port) := no_record (fun _ => Code.noConfusion)
theorem streamEnd (c : Nat) (port : Nat) : Statement (.streamEnd c port) := no_record (fun _ => Code.noConfusion)
theorem strmend (n : BitVec 8) (d : Dests) : Statement (.strmend n d) :=
  of_row rfl rfl (by simp only [isZ_zero, getB_padL (w := 8) (by decide), bind, Except.bind]) rfl (by simp [Instr.wf])
theorem strmst (n : BitVec 8) (d : Dests) : Statement (.strmst n d) :=
  of_row rfl rfl (by simp only [isZ_zero, getB_padL (w := 8) (by decide), bind, Except.bind]) rfl (by simp [Instr.wf])
theorem atom (w64 : Bool) (op : AtomOp) (w : WaveLit) (d : Dests) : Statement (.atom w64 op w d) :=
  of_row rfl rfl (by simp only [getAT_write, getWave_lWave, bind, Except.bind]) rfl (by simp [Instr.wf])
theorem atomf (op : FAtomOp) (f64 : Bool) (w : WaveLit) (d : Dests) : Statement (.atomf op f64 w d) :=
  of_row rfl rfl (by simp only [getAF_write, getWave_lWave, bind, Except.bind]) rfl (by simp [Instr.wf])
theorem acas (w64 : Bool) (w : WaveLit) (d : Dests) : Statement (.acas w64 w d) :=
  of_row rfl rfl (by simp only [getSG_mSG, getWave_lWave, bind, Except.bind]) rfl (by simp [Instr.wf])
theorem atomicHomeExec (c : Nat) (k : Nat) : Statement (.atomicHomeExec c k) := no_record (fun _ => Code.noConfusion)
theorem atomicReturn (c : Nat) (k : Nat) : Statement (.atomicReturn c k) := no_record (fun _ => Code.noConfusion)
theorem rel (scope : RelScope) (w : WaveLit) (d : Dests) : Statement (.rel scope w d) :=
  of_row rfl rfl (by simp only [getScope_mScope, getWave_lWave, bind, Except.bind]) rfl (by simp [Instr.wf])
theorem relScopeReached (c : Nat) (k : Nat) : Statement (.relScopeReached c k) := no_record (fun _ => Code.noConfusion)
theorem acq (w : WaveLit) (d : Dests) : Statement (.acq w d) :=
  of_row rfl rfl (by simp only [isZ_zero, getWave_lWave, bind, Except.bind]) rfl (by simp [Instr.wf])
theorem acqComplete (c : Nat) (k : Nat) : Statement (.acqComplete c k) := no_record (fun _ => Code.noConfusion)
theorem gpos (sel : GposSel) (d : Dests) : Statement (.gpos sel d) :=
  of_row rfl rfl (by simp only [getGpos_mGpos, noLit_zero, bind, Except.bind]) rfl (by simp [Instr.wf])
theorem fence (w : WaveLit) (d : Dests) : Statement (.fence w d) :=
  of_row rfl rfl (by simp only [isZ_zero, getWave_lWave, bind, Except.bind]) rfl (by simp [Instr.wf])
theorem fencePerformed (c : Nat) (k : Nat) : Statement (.fencePerformed c k) := no_record (fun _ => Code.noConfusion)
theorem qpush (d : Dests) : Statement (.qpush d) :=
  of_row rfl rfl (by simp only [isZ_zero, noLit_zero, bind, Except.bind]) rfl (by simp [Instr.wf])
theorem qpop (d : Dests) : Statement (.qpop d) :=
  of_row rfl rfl (by simp only [isZ_zero, noLit_zero, bind, Except.bind]) rfl (by simp [Instr.wf])
theorem qpopComplete (c : Nat) (k : Nat) : Statement (.qpopComplete c k) := no_record (fun _ => Code.noConfusion)
theorem remoteAbufAccess (k : Nat) : Statement (.remoteAbufAccess k) := no_record (fun _ => Code.noConfusion)
theorem mxcmd (n : BitVec 4) (d : Dests) : Statement (.mxcmd n d) :=
  of_row rfl rfl (by simp only [isZ_zero, getB_padL (w := 4) (by decide), bind, Except.bind]) rfl (by simp [Instr.wf])
theorem mxseq (l : ListLit) (d : Dests) : Statement (.mxseq l d) :=
  of_row rfl rfl (by simp only [isZ_zero, getList_lList, bind, Except.bind]) rfl (by simp [Instr.wf])
theorem mxexec (d : Dests) : Statement (.mxexec d) :=
  of_row rfl rfl (by simp only [isZ_zero, noLit_zero, bind, Except.bind]) rfl (by simp [Instr.wf])
theorem mmul (c : Nat) : Statement (.mmul c) := no_record (fun _ => Code.noConfusion)
theorem mzero (c : Nat) : Statement (.mzero c) := no_record (fun _ => Code.noConfusion)
theorem mnop (c : Nat) : Statement (.mnop c) := no_record (fun _ => Code.noConfusion)
theorem mxeGroup (c : Nat) (upset : List (Nat × Nat)) : Statement (.mxeGroup c upset) := no_record (fun _ => Code.noConfusion)
theorem mxeRetire (c : Nat) (move : MxeMove) : Statement (.mxeRetire c move) := no_record (fun _ => Code.noConfusion)
theorem mxin (token : Bool) (fp : Bool) (d : Dests) : Statement (.mxin token fp d) :=
  of_row rfl rfl (by simp only [isZ_zero, getMxin_lMxin, bind, Except.bind]) rfl (by simp [Instr.wf])
theorem mxout (l : MxoutLit) (d : Dests) : Statement (.mxout l d) :=
  of_row rfl rfl (by simp only [isZ_zero, getMxout_lMxout, bind, Except.bind]) rfl (by simp [Instr.wf])
theorem mxchk (d : Dests) : Statement (.mxchk d) :=
  of_row rfl rfl (by simp only [isZ_zero, noLit_zero, bind, Except.bind]) rfl (by simp [Instr.wf])
theorem mxwait (d : Dests) : Statement (.mxwait d) :=
  of_row rfl rfl (by simp only [isZ_zero, noLit_zero, bind, Except.bind]) rfl (by simp [Instr.wf])
theorem ticketRetired (c : Nat) (k : Nat) : Statement (.ticketRetired c k) := no_record (fun _ => Code.noConfusion)
theorem mxtl (d : Dests) : Statement (.mxtl d) :=
  of_row rfl rfl (by simp only [isZ_zero, noLit_zero, bind, Except.bind]) rfl (by simp [Instr.wf])
theorem cpgo (ch : BitVec 2) (d : Dests) : Statement (.cpgo ch d) :=
  of_row rfl rfl (by simp only [getCh_mCh, noLit_zero, bind, Except.bind]) rfl (by simp [Instr.wf])
theorem cpstat (ch : BitVec 2) (d : Dests) : Statement (.cpstat ch d) :=
  of_row rfl rfl (by simp only [getCh_mCh, noLit_zero, bind, Except.bind]) rfl (by simp [Instr.wf])
theorem tlread (sel : TlSel) (d : Dests) : Statement (.tlread sel d) :=
  of_row rfl rfl (by simp only [getTl_write, bind, Except.bind]) rfl (by simp [Instr.wf])
theorem tlwait (sel : TlSel) (d : Dests) : Statement (.tlwait sel d) :=
  of_row rfl rfl (by simp only [getTl_write, bind, Except.bind]) rfl (by simp [Instr.wf])
theorem wtany (d : Dests) : Statement (.wtany d) :=
  of_row rfl rfl (by simp only [isZ_zero, noLit_zero, bind, Except.bind]) rfl (by simp [Instr.wf])
theorem wtall (d : Dests) : Statement (.wtall d) :=
  of_row rfl rfl (by simp only [isZ_zero, noLit_zero, bind, Except.bind]) rfl (by simp [Instr.wf])
theorem wtff (d : Dests) : Statement (.wtff d) :=
  of_row rfl rfl (by simp only [isZ_zero, noLit_zero, bind, Except.bind]) rfl (by simp [Instr.wf])
theorem tagclr (d : Dests) : Statement (.tagclr d) :=
  of_row rfl rfl (by simp only [isZ_zero, noLit_zero, bind, Except.bind]) rfl (by simp [Instr.wf])
theorem rawait (d : Dests) : Statement (.rawait d) :=
  of_row rfl rfl (by simp only [isZ_zero, noLit_zero, bind, Except.bind]) rfl (by simp [Instr.wf])
theorem rsrel (d : Dests) : Statement (.rsrel d) :=
  of_row rfl rfl (by simp only [isZ_zero, noLit_zero, bind, Except.bind]) rfl (by simp [Instr.wf])
theorem rapeek (d : Dests) : Statement (.rapeek d) :=
  of_row rfl rfl (by simp only [isZ_zero, noLit_zero, bind, Except.bind]) rfl (by simp [Instr.wf])
theorem waitComplete (c : Nat) (k : Nat) : Statement (.waitComplete c k) := no_record (fun _ => Code.noConfusion)
theorem trap (endU : Bool) (code : BitVec 16) (d : Dests) : Statement (.trap endU code d) :=
  of_row rfl rfl (by simp only [isZ_zero, getTrap_lTrap, bind, Except.bind]) rfl (by simp [Instr.wf])
theorem flags (d : Dests) : Statement (.flags d) :=
  of_row rfl rfl (by simp only [isZ_zero, noLit_zero, bind, Except.bind]) rfl (by simp [Instr.wf])
theorem flclr (d : Dests) : Statement (.flclr d) :=
  of_row rfl rfl (by simp only [isZ_zero, noLit_zero, bind, Except.bind]) rfl (by simp [Instr.wf])
theorem perf (index : BitVec 12) (d : Dests) : Statement (.perf index d) :=
  of_row rfl rfl (by simp only [isZ_zero, getB_padL (w := 12) (by decide), bind, Except.bind]) rfl (by simp [Instr.wf])
theorem cycl (d : Dests) : Statement (.cycl d) :=
  of_row rfl rfl (by simp only [isZ_zero, noLit_zero, bind, Except.bind]) rfl (by simp [Instr.wf])
theorem subcnt (d : Dests) : Statement (.subcnt d) :=
  of_row rfl rfl (by simp only [isZ_zero, noLit_zero, bind, Except.bind]) rfl (by simp [Instr.wf])
theorem sysq (n : BitVec 10) (d : Dests) : Statement (.sysq n d) :=
  of_row rfl rfl (by simp only [isZ_zero, getB_padL (w := 10) (by decide), bind, Except.bind]) rfl (by simp [Instr.wf])
theorem sysqRequest (k : Nat) : Statement (.sysqRequest k) := no_record (fun _ => Code.noConfusion)
theorem brk (n : BitVec 16) (d : Dests) : Statement (.brk n d) :=
  of_row rfl rfl (by simp only [isZ_zero, getB_padL (w := 16) (by decide), bind, Except.bind]) rfl (by simp [Instr.wf])
theorem ident (sel : IdentSel) (d : Dests) : Statement (.ident sel d) :=
  of_row rfl rfl (by simp only [getIdent_mIdent, noLit_zero, bind, Except.bind]) rfl (by simp [Instr.wf])
theorem sysrd (d : Dests) : Statement (.sysrd d) :=
  of_row rfl rfl (by simp only [isZ_zero, noLit_zero, bind, Except.bind]) rfl (by simp [Instr.wf])
theorem syswr (d : Dests) : Statement (.syswr d) :=
  of_row rfl rfl (by simp only [isZ_zero, noLit_zero, bind, Except.bind]) rfl (by simp [Instr.wf])
theorem tokenArrive (k : Nat) : Statement (.tokenArrive k) := no_record (fun _ => Code.noConfusion)
theorem overflowRefill (c : Nat) (u : Nat) : Statement (.overflowRefill c u) := no_record (fun _ => Code.noConfusion)
theorem matchPromote (c : Nat) (k : Nat) : Statement (.matchPromote c k) := no_record (fun _ => Code.noConfusion)
theorem tagOpApply (k : Nat) : Statement (.tagOpApply k) := no_record (fun _ => Code.noConfusion)
theorem heldTokenGrant (c : Nat) (f : Nat) (slot : Nat) : Statement (.heldTokenGrant c f slot) := no_record (fun _ => Code.noConfusion)
theorem frameAllocWake (c : Nat) (k : Nat) : Statement (.frameAllocWake c k) := no_record (fun _ => Code.noConfusion)
theorem vcStarvationPriority (link : Nat) (dir : Bool) : Statement (.vcStarvationPriority link dir) := no_record (fun _ => Code.noConfusion)
theorem walkComplete (c : Nat) (k : Nat) : Statement (.walkComplete c k) := no_record (fun _ => Code.noConfusion)
theorem pteLost (c : Nat) (k : Nat) : Statement (.pteLost c k) := no_record (fun _ => Code.noConfusion)
theorem quiesceSharedSids (pa : Nat) (sids : List Nat) : Statement (.quiesceSharedSids pa sids) := no_record (fun _ => Code.noConfusion)
theorem tlbInvPage (sid : Nat) (va : Nat) (size : Nat) : Statement (.tlbInvPage sid va size) := no_record (fun _ => Code.noConfusion)
theorem tlbInvSid (sid : Nat) : Statement (.tlbInvSid sid) := no_record (fun _ => Code.noConfusion)
theorem tlbInvAll : Statement (.tlbInvAll) := no_record (fun _ => Code.noConfusion)
theorem tlbInvDone : Statement (.tlbInvDone) := no_record (fun _ => Code.noConfusion)
theorem dirtyBitUpdate (c : Nat) (k : Nat) : Statement (.dirtyBitUpdate c k) := no_record (fun _ => Code.noConfusion)
theorem writeBackScan (sid : Nat) (va : Nat) : Statement (.writeBackScan sid va) := no_record (fun _ => Code.noConfusion)
theorem writeBackComplete (sid : Nat) (va : Nat) : Statement (.writeBackComplete sid va) := no_record (fun _ => Code.noConfusion)
theorem leaseGranted (slot : Nat) : Statement (.leaseGranted slot) := no_record (fun _ => Code.noConfusion)
theorem leaseRelease (slot : Nat) : Statement (.leaseRelease slot) := no_record (fun _ => Code.noConfusion)
theorem repairPassStart (c : Nat) : Statement (.repairPassStart c) := no_record (fun _ => Code.noConfusion)
theorem drainEntry (g : Nat) : Statement (.drainEntry g) := no_record (fun _ => Code.noConfusion)
theorem compactorFold (g : Nat) (home : Nat) : Statement (.compactorFold g home) := no_record (fun _ => Code.noConfusion)
theorem galLost (g : Nat) : Statement (.galLost g) := no_record (fun _ => Code.noConfusion)
theorem mirrorUpdate (d : Nat) (g : Nat) : Statement (.mirrorUpdate d g) := no_record (fun _ => Code.noConfusion)
theorem galleyFullResume (g : Nat) : Statement (.galleyFullResume g) := no_record (fun _ => Code.noConfusion)
theorem vcInvalAll (c : Nat) : Statement (.vcInvalAll c) := no_record (fun _ => Code.noConfusion)
theorem vcInvalDone (c : Nat) : Statement (.vcInvalDone c) := no_record (fun _ => Code.noConfusion)
theorem chHeadWrite (c : Nat) (ch : Nat) (v : Word) : Statement (.chHeadWrite c ch v) := no_record (fun _ => Code.noConfusion)
theorem recordFetch (c : Nat) (ch : Nat) : Statement (.recordFetch c ch) := no_record (fun _ => Code.noConfusion)
theorem ringSlotClaim (c : Nat) (ch : Nat) : Statement (.ringSlotClaim c ch) := no_record (fun _ => Code.noConfusion)
theorem copyMove (c : Nat) (ch : Nat) : Statement (.copyMove c ch) := no_record (fun _ => Code.noConfusion)
theorem recordRetire (c : Nat) (ch : Nat) : Statement (.recordRetire c ch) := no_record (fun _ => Code.noConfusion)
theorem clReadyClear (c : Nat) (m : Word) : Statement (.clReadyClear c m) := no_record (fun _ => Code.noConfusion)
theorem ringEnable (c : Nat) (r : Nat) (cfg : Word) : Statement (.ringEnable c r cfg) := no_record (fun _ => Code.noConfusion)
theorem ringDisable (c : Nat) (r : Nat) : Statement (.ringDisable c r) := no_record (fun _ => Code.noConfusion)
theorem peModeWrite (c : Nat) (u : Nat) (v : Word) : Statement (.peModeWrite c u v) := no_record (fun _ => Code.noConfusion)
theorem peXenWrite (c : Nat) (u : Nat) (v : Word) : Statement (.peXenWrite c u v) := no_record (fun _ => Code.noConfusion)
theorem peFlagsClear (c : Nat) (u : Nat) (v : Word) : Statement (.peFlagsClear c u v) := no_record (fun _ => Code.noConfusion)
theorem cntArm (n : Nat) (pv : Bool) (parent : Nat) (arg : Nat) : Statement (.cntArm n pv parent arg) := no_record (fun _ => Code.noConfusion)
theorem cntAdd (n : Nat) (arg : Nat) : Statement (.cntAdd n arg) := no_record (fun _ => Code.noConfusion)
theorem cntCancel (n : Nat) : Statement (.cntCancel n) := no_record (fun _ => Code.noConfusion)
theorem cntFree (n : Nat) : Statement (.cntFree n) := no_record (fun _ => Code.noConfusion)
theorem cntSignal (n : Nat) : Statement (.cntSignal n) := no_record (fun _ => Code.noConfusion)
theorem slotCommit : Statement (.slotCommit) := no_record (fun _ => Code.noConfusion)
theorem dispatchStart (slot : Nat) : Statement (.dispatchStart slot) := no_record (fun _ => Code.noConfusion)
theorem unitEnd (c : Nat) : Statement (.unitEnd c) := no_record (fun _ => Code.noConfusion)
theorem unitFault (c : Nat) : Statement (.unitFault c) := no_record (fun _ => Code.noConfusion)
theorem faultRecordWrite (j : Nat) : Statement (.faultRecordWrite j) := no_record (fun _ => Code.noConfusion)
theorem graphReplay (g : Nat) : Statement (.graphReplay g) := no_record (fun _ => Code.noConfusion)
theorem queueBind : Statement (.queueBind) := no_record (fun _ => Code.noConfusion)
theorem queueAge (q : Nat) : Statement (.queueAge q) := no_record (fun _ => Code.noConfusion)
theorem droneBind : Statement (.droneBind) := no_record (fun _ => Code.noConfusion)
theorem hang (slot : Nat) : Statement (.hang slot) := no_record (fun _ => Code.noConfusion)
theorem objectLoad (k : Nat) : Statement (.objectLoad k) := no_record (fun _ => Code.noConfusion)
theorem translationRecord (obj : Nat) (forme : Nat) : Statement (.translationRecord obj forme) := no_record (fun _ => Code.noConfusion)
theorem nativeSwap (c : Nat) : Statement (.nativeSwap c) := no_record (fun _ => Code.noConfusion)
theorem kernelRestart (measured : Bool) : Statement (.kernelRestart measured) := no_record (fun _ => Code.noConfusion)
theorem checkReplay (c : Nat) (u : Nat) (rounds : Nat) : Statement (.checkReplay c u rounds) := no_record (fun _ => Code.noConfusion)
theorem peRetired (c : Nat) (u : Nat) (agrees : Bool) : Statement (.peRetired c u agrees) := no_record (fun _ => Code.noConfusion)
theorem stateLost (c : Nat) (u : Nat) (structure_ : Nat) (entry : Option Nat) : Statement (.stateLost c u structure_ entry) := no_record (fun _ => Code.noConfusion)
theorem trapStop (slot : Nat) : Statement (.trapStop slot) := no_record (fun _ => Code.noConfusion)
theorem stopMap (slot : Nat) : Statement (.stopMap slot) := no_record (fun _ => Code.noConfusion)
theorem clusterRemap (c : Nat) : Statement (.clusterRemap c) := no_record (fun _ => Code.noConfusion)
theorem mirrorRebuild (d : Nat) : Statement (.mirrorRebuild d) := no_record (fun _ => Code.noConfusion)
theorem dieFault (d : Nat) : Statement (.dieFault d) := no_record (fun _ => Code.noConfusion)
theorem preempt (slot : Nat) : Statement (.preempt slot) := no_record (fun _ => Code.noConfusion)
theorem preemptForceHalt (c : Nat) : Statement (.preemptForceHalt c) := no_record (fun _ => Code.noConfusion)
theorem contextSwap (slot : Nat) : Statement (.contextSwap slot) := no_record (fun _ => Code.noConfusion)
theorem liveRangeSave (c : Nat) : Statement (.liveRangeSave c) := no_record (fun _ => Code.noConfusion)
theorem restore (slot : Nat) (bad : List Nat) : Statement (.restore slot bad) := no_record (fun _ => Code.noConfusion)
theorem snapshot (slot : Nat) : Statement (.snapshot slot) := no_record (fun _ => Code.noConfusion)
theorem halt (c : Nat) : Statement (.halt c) := no_record (fun _ => Code.noConfusion)
theorem resumeHalt (c : Nat) : Statement (.resumeHalt c) := no_record (fun _ => Code.noConfusion)
theorem haltComplete (c : Nat) : Statement (.haltComplete c) := no_record (fun _ => Code.noConfusion)
theorem mbxDoorbell (cqhead : BitVec 32) (sqtail : BitVec 32) : Statement (.mbxDoorbell cqhead sqtail) := no_record (fun _ => Code.noConfusion)
theorem mbxLoadObject : Statement (.mbxLoadObject) := no_record (fun _ => Code.noConfusion)
theorem mbxLaunch : Statement (.mbxLaunch) := no_record (fun _ => Code.noConfusion)
theorem mbxCancel : Statement (.mbxCancel) := no_record (fun _ => Code.noConfusion)
theorem mbxCopyToProcess : Statement (.mbxCopyToProcess) := no_record (fun _ => Code.noConfusion)
theorem mbxCopyToHost : Statement (.mbxCopyToHost) := no_record (fun _ => Code.noConfusion)
theorem mbxAttest : Statement (.mbxAttest) := no_record (fun _ => Code.noConfusion)
theorem mbxCompletionPost : Statement (.mbxCompletionPost) := no_record (fun _ => Code.noConfusion)
theorem flitSend (l : Nat) (m : Nat) (dir : Bool) : Statement (.flitSend l m dir) := no_record (fun _ => Code.noConfusion)
theorem flitReceive (l : Nat) (m : Nat) (dir : Bool) (flips : List Nat) : Statement (.flitReceive l m dir flips) := no_record (fun _ => Code.noConfusion)
theorem nakReplay (l : Nat) (m : Nat) (dir : Bool) : Statement (.nakReplay l m dir) := no_record (fun _ => Code.noConfusion)
theorem controlFlit (l : Nat) (m : Nat) (dir : Bool) : Statement (.controlFlit l m dir) := no_record (fun _ => Code.noConfusion)
theorem laneFailure (l : Nat) (m : Nat) (dir : Bool) (why : Retrain) : Statement (.laneFailure l m dir why) := no_record (fun _ => Code.noConfusion)
theorem netDoorbell (ctx : Nat) : Statement (.netDoorbell ctx) := no_record (fun _ => Code.noConfusion)
theorem put (ctx : Nat) (slot : Nat) (status : Nat) (reply : List Byte) : Statement (.put ctx slot status reply) := no_record (fun _ => Code.noConfusion)
theorem get (ctx : Nat) (slot : Nat) (status : Nat) (reply : List Byte) : Statement (.get ctx slot status reply) := no_record (fun _ => Code.noConfusion)
theorem cas (ctx : Nat) (slot : Nat) (status : Nat) (reply : List Byte) : Statement (.cas ctx slot status reply) := no_record (fun _ => Code.noConfusion)
theorem raddI32 (ctx : Nat) (slot : Nat) (status : Nat) (reply : List Byte) : Statement (.raddI32 ctx slot status reply) := no_record (fun _ => Code.noConfusion)
theorem raddF32 (ctx : Nat) (slot : Nat) (status : Nat) (reply : List Byte) : Statement (.raddF32 ctx slot status reply) := no_record (fun _ => Code.noConfusion)
theorem netComplete (ctx : Nat) : Statement (.netComplete ctx) := no_record (fun _ => Code.noConfusion)
theorem netTimeout (ctx : Nat) (slot : Nat) : Statement (.netTimeout ctx slot) := no_record (fun _ => Code.noConfusion)
theorem storageReadComplete (qp : Nat) (dst : StorageDst) (data : List Byte) : Statement (.storageReadComplete qp dst data) := no_record (fun _ => Code.noConfusion)
theorem deviceReset (fence : List Nat) : Statement (.deviceReset fence) := no_record (fun _ => Code.noConfusion)
theorem bootStage (stage : Nat) (kslot : Bool) (pset : Nat) (keyid : Nat) (digest : BitVec 256) (verified : Bool) : Statement (.bootStage stage kslot pset keyid digest verified) := no_record (fun _ => Code.noConfusion)
theorem thermSample (d : Nat) (temps : List (BitVec 12)) : Statement (.thermSample d temps) := no_record (fun _ => Code.noConfusion)
theorem throttleStepUp (d : Nat) : Statement (.throttleStepUp d) := no_record (fun _ => Code.noConfusion)
theorem throttleStepDown (d : Nat) : Statement (.throttleStepDown d) := no_record (fun _ => Code.noConfusion)
theorem thermCrit (d : Nat) : Statement (.thermCrit d) := no_record (fun _ => Code.noConfusion)
theorem hbmBandChange (k : Nat) (temp : BitVec 12) : Statement (.hbmBandChange k temp) := no_record (fun _ => Code.noConfusion)
theorem pwrEvaluate (watts : Nat) : Statement (.pwrEvaluate watts) := no_record (fun _ => Code.noConfusion)
theorem islandLevelChange (i : Nat) : Statement (.islandLevelChange i) := no_record (fun _ => Code.noConfusion)
theorem registerWrite (agent : Agent) (r : RegAddr) (v : Word) : Statement (.registerWrite agent r v) := no_record (fun _ => Code.noConfusion)
theorem netFadd (ctx : Nat) (slot : Nat) (status : Nat) (reply : List Byte) : Statement (.netFadd ctx slot status reply) := no_record (fun _ => Code.noConfusion)
theorem peerRequest (ctx : Nat) (op : Nat) (addr : Nat) (len : Nat) (opnd : Word) (swap : Word) (data : List Byte) : Statement (.peerRequest ctx op addr len opnd swap data) := no_record (fun _ => Code.noConfusion)
theorem netContextRestart (ctx : Nat) : Statement (.netContextRestart ctx) := no_record (fun _ => Code.noConfusion)
theorem hdmWindowStore (pa : Nat) (data : List Byte) : Statement (.hdmWindowStore pa data) := no_record (fun _ => Code.noConfusion)
theorem aBufferBankPriority (die : BitVec 2) (cl : BitVec 8) (bank : BitVec 5) : Statement (.aBufferBankPriority die cl bank) := no_record (fun _ => Code.noConfusion)
theorem systemCoreStore (sid : Nat) (addr : Nat) (table : Bool) (data : List Byte) : Statement (.systemCoreStore sid addr table data) := no_record (fun _ => Code.noConfusion)

end Sys2Proof.Laws.RowReads
end

