-- ==== Sys2Proof/Safety.lean ====
section
/-!
DEFINITION. What a safe run is: the form every step keeps.
-/
namespace Sys2Proof.Machine

/-- A step goes on: it is no fault and no refusal. -/
def Goes (o : Host.Outcome State Fault Refusal) : Prop := ∃ s', o = .next s'

end Sys2Proof.Machine
end

