-- ==== Sys2Proof/Tests/Slice0.lean ====
section
/-!
SUPPORT. The model's own tests: words written out from the spec's encodings, an ill-formed term for each check,
results from the spec's tables of examples, and a state that meets the hypotheses of each statement.
-/
set_option Elab.async false
set_option maxRecDepth 8000

namespace Sys2Proof.Tests
open Sys2Proof.Machine

/-- Decoding a word gives an instruction, and encoding that gives the word back. -/
def Reads (w : BitVec 96) (i : Instr) : Prop := decodeTableWord 96 w.toNat = some i ∧ encode i = .node w

def ReadsStep (w : BitVec 32) (i : Instr) : Prop := decodeTableWord 32 w.toNat = some i ∧ encode i = .entry w

/-- Destinations of the examples: DA a port of a node, DB sink. -/
def one (u : BitVec 6) (n : BitVec 9) (p : Port) : Dests := { da := .local_ u n p 0, db := .sink }
def r : Dests := one 2 6 .a
def sinks : Dests := { da := .sink, db := .sink }
def noWave : WaveLit := { pred := 0, own := 1, succ := 1023, pw := false, sw := false }

/-! ## Decoding: records that the spec prints. -/

/-- 08, the encoding example after R173: `ADD.s #5 => acc.b:next, sink`. -/
theorem test_decode_add : Reads 0x20600508A4C0000000000005 (.add true (.lit 5) { da := .local_ 5 17 .b 1, db := .sink }) :=
  ⟨rfl, rfl⟩
/-- 10 R210. -/
theorem test_decode_const : Reads 0x00A0000100C00000FFFFFFFD (.const_ true 0xFFFFFFFD (one 0 2 .a)) := ⟨rfl, rfl⟩
/-- 10 R212. -/
theorem test_decode_loopin :
    Reads 0x04000102000204A000000002 (.loopin 2 { da := .local_ 1 4 .a 0, db := .local_ 2 9 .b 0 }) := ⟨rfl, rfl⟩
/-- 09, the assembled `DONE => sink`. -/
theorem test_decode_done : Reads 0x0B00C00000C0000000000000 (.done sinks) := ⟨rfl, rfl⟩
/-- 10 R224: PE 3 node 20 port a, four iterations, one group. -/
theorem test_decode_fork :
    Reads 0x0C00030A80C00000030A0003 (.fork { entry := 0x0C280, ngm1 := 0, nm1 := 3 } (one 3 21 .a)) := ⟨rfl, rfl⟩
/-- 11 R240, R244. -/
theorem test_decode_adds : Reads 0x4060020300C0000000000064 (.adds true (.lit 100) r) := ⟨rfl, rfl⟩
theorem test_decode_rquant : Reads 0x43A0040500C00000FD002408 (.rquant true { zp := 0xFD, s := 36, ow := 8 } (one 4 10 .a)) :=
  ⟨rfl, rfl⟩
/-- 12 R255, and 24's s5. -/
theorem test_decode_fadd : Reads 0x6045020300C000003F800000 (.fadd .rne .f32 (.lit 0x3F800000) r) := ⟨rfl, rfl⟩
theorem test_decode_fmul : Reads 0x6143050000C0000000003E00 (.fmul .rne .f16 (.lit 0x3E00) (one 5 0 .a)) := ⟨rfl, rfl⟩
/-- 13 R278, R291, and 26. -/
theorem test_decode_st : Reads 0xC29F020300C0000000001FFC (.st 31 noWave r) := ⟨rfl, rfl⟩
theorem test_decode_atom : Reads 0xC620020300C0000000001FFC (.atom true .add noWave r) := ⟨rfl, rfl⟩
theorem test_decode_stx : Reads 0xC39F0C0000C0000000000000 (.stx 31 0 (one 12 0 .a)) := ⟨rfl, rfl⟩
theorem test_decode_st64 :
    Reads 0xC2BF1F0160C0000000402FFC (.st 63 { pred := 1, own := 2, succ := 1023, pw := false, sw := false } (one 31 2 .t)) :=
  ⟨rfl, rfl⟩
/-- 15 R320, R321, R324, and 18. -/
theorem test_decode_mxexec : Reads 0xE100020300C0000000000000 (.mxexec r) := ⟨rfl, rfl⟩
theorem test_decode_mxcmd : Reads 0xE000240000C0000000000002 (.mxcmd 2 (one 36 0 .a)) := ⟨rfl, rfl⟩
theorem test_decode_mxout : Reads 0xE200020300C0000000000001 (.mxout { port := 0, dmode := 0, prof := 1 } r) := ⟨rfl, rfl⟩
theorem test_decode_mxout_stream :
    Reads 0xE200C00000C00000000000A8 (.mxout { port := 5, dmode := 1, prof := 0 } sinks) := ⟨rfl, rfl⟩
/-- 16, the tables after R332, R333 and R341. -/
theorem test_decode_cpgo : Reads 0xE802020300C0000000000000 (.cpgo 2 r) := ⟨rfl, rfl⟩
theorem test_decode_tlwait : Reads 0xE984020300C0000000000002 (.tlwait (.mx 2) r) := ⟨rfl, rfl⟩
theorem test_decode_tlread : Reads 0xE900020300C0000000000000 (.tlread (.ch 0) r) := ⟨rfl, rfl⟩
theorem test_decode_trap : Reads 0xF000C00000C000000001002A (.trap true 42 sinks) := ⟨rfl, rfl⟩
theorem test_decode_flags : Reads 0xF080020300C0000000000000 (.flags r) := ⟨rfl, rfl⟩
theorem test_decode_perf : Reads 0xF180020300C0000000000040 (.perf 0x040 r) := ⟨rfl, rfl⟩
theorem test_decode_ident : Reads 0xF400020300C0000000000000 (.ident .cl r) := ⟨rfl, rfl⟩

/-! ## Step entries, of 08 R179 and of the list that 15 R322 prints. -/

theorem test_decode_snop : ReadsStep 0x00000000 .stepSnop := ⟨rfl, rfl⟩
theorem test_decode_loop : ReadsStep 0x18000003 (.stepLoop 8 0 false 3) := ⟨rfl, rfl⟩
theorem test_decode_loop_data : ReadsStep 0x12600000 (.stepLoop 2 1 true 0) := ⟨rfl, rfl⟩
theorem test_decode_setx : ReadsStep 0x2080FFFF (.stepSetx 2 0xFFFF) := ⟨rfl, rfl⟩
theorem test_decode_addx : ReadsStep 0x30C00001 (.stepAddx 3 1) := ⟨rfl, rfl⟩
theorem test_decode_emit : ReadsStep 0x40200000 (.stepEmit false 0 2 0 0) := ⟨rfl, rfl⟩
theorem test_decode_patch : ReadsStep 0x403C0001 (.mxseqPatch false 0 0 12 1) := ⟨rfl, rfl⟩
theorem test_decode_patch_acc : ReadsStep 0x47300001 (.mxseqPatch false 7 0 0 1) := ⟨rfl, rfl⟩
theorem test_decode_opn : ReadsStep 0x512C0000 (.stepOpn 300) := ⟨rfl, rfl⟩
theorem test_decode_jmp : ReadsStep 0x65000000 (.stepJmp 5) := ⟨rfl, rfl⟩
theorem test_decode_step_done : ReadsStep 0x70000000 .stepDone := ⟨rfl, rfl⟩

/-- 08 R165, R170, R179: an unassigned opcode, a set bit of an unused LIT or MOD, a set bit of a zero field. -/
theorem test_refuse_opcode : decodeTableWord 96 (0x01C * 2 ^ 87) = none := rfl
theorem test_refuse_literal : decodeTableWord 96 0x0B00C00000C0000000000001 = none := rfl
theorem test_refuse_mod : decodeTableWord 96 0x0B01C00000C0000000000000 = none := rfl
theorem test_refuse_step : decodeTableWord 32 0x70000001 = none := rfl
theorem test_refuse_form3_and_sop : decodeTableWord 32 0x80000000 = none := rfl

/-! ## Ill-formed terms, one for each check, and a well-formed one beside it where the limit lies. -/

abbrev ill (i : Instr) : Prop := i.wf = false

theorem test_wf_unit : ill (.mov (one 39 0 .a)) ∧ (Instr.mov (one 38 0 .a)).wf = true := by decide
theorem test_wf_tag_op : ill (.mov { da := .local_ 0 0 .a 4, db := .sink }) := by decide
theorem test_wf_override : ill (.mov { da := .sink, db := .route 0 0 4 }) := by decide
theorem test_wf_wave_own : ill (.ld false 0 { noWave with own := 0 } r) ∧ ill (.ld false 0 { noWave with own := 1023, succ := 0, sw := true } r) := by decide
theorem test_wf_wave_order : ill (.st 0 { noWave with pred := 1 } r) ∧ ill (.st 0 { noWave with succ := 1 } r) := by decide
theorem test_wf_wave_wild : ill (.fence { noWave with pw := true, succ := 0, sw := true } r) ∧
    ill (.fence { noWave with pred := 1, own := 2, pw := true } r) ∧ ill (.fence { noWave with sw := true } r) := by decide
theorem test_wf_wave_kinds : ill (.ldv false 0 { noWave with own := 0 } r) ∧ ill (.stv 0 { noWave with own := 0 } r) ∧
    ill (.atom true .add { noWave with own := 0 } r) ∧ ill (.atomf .fadd true { noWave with own := 0 } r) ∧
    ill (.acas true { noWave with own := 0 } r) ∧ ill (.rel .die { noWave with own := 0 } r) ∧ ill (.acq { noWave with own := 0 } r) := by
  decide
theorem test_wf_rquant : ill (.rquant true { zp := 0, s := 0, ow := 0 } r) ∧ ill (.rquant true { zp := 0, s := 0, ow := 33 } r) ∧
    (Instr.rquant true { zp := 0, s := 0, ow := 32 } r).wf = true := by decide
theorem test_wf_list : ill (.step_ { start := 55, lenm1 := 9 } r) ∧ ill (.mxseq { start := 55, lenm1 := 9 } r) ∧
    (Instr.step_ { start := 54, lenm1 := 9 } r).wf = true := by decide
theorem test_wf_entry : ill (.fork { entry := 39 * 2 ^ 14, ngm1 := 0, nm1 := 0 } r) ∧ ill (.park .tag { entry := 1, ngm1 := 0, nm1 := 0 } r) := by
  decide
theorem test_wf_chain : ill (.chain { node2 := 0, node1 := 0, node0 := 0, cntm1 := 3 } r) ∧
    ill (.chain { node2 := 0, node1 := 1, node0 := 0, cntm1 := 0 } r) ∧ ill (.chain { node2 := 1, node1 := 0, node0 := 0, cntm1 := 1 } r) := by
  decide
theorem test_wf_mxout : ill (.mxout { port := 0, dmode := 3, prof := 0 } r) ∧ ill (.mxout { port := 1, dmode := 0, prof := 0 } r) := by decide
theorem test_wf_float_literal : ill (.fadd .rne .f16 (.lit 0x10000) r) ∧ ill (.fmin .bf16 (.lit 0x10000) r) ∧
    ill (.fcmp .lt .f16 (.lit 0x10000) r) ∧ ill (.sclset (.lit 0x10000) r) ∧ (Instr.fadd .rne .f32 (.lit 0x10000) r).wf = true := by decide
theorem test_wf_pointer_literal : ill (.padd 0 r) ∧ ill (.psub 0 r) ∧ ill (.paln 0 r) ∧ ill (.pchk 0 r) ∧ ill (.pchk 65 r) ∧
    (Instr.pchk 64 r).wf = true := by decide
theorem test_wf_formats : ill (.cvtff true .rne .f32 0x12020000 r) ∧ ill (.cvtfi .rne .f32 0x22120E80 r) ∧
    ill (.cvtif .rne .f16 0x22120E80 r) ∧ ill (.sclmax 0x10420000 r) ∧ (Instr.cvtff true .rne .f32 0x22120E80 r).wf = true := by decide
theorem test_wf_vector : ill (.vctx 0 7 r) ∧ ill (.vsplat 6 0 r) ∧ ill (.eod 0 r) := by decide
theorem test_wf_perf : ill (.perf 0x044 r) ∧ (Instr.perf 0x197 r).wf = true := by decide
theorem test_wf_steps : ill (.stepLoop 1 0 true 1) ∧ ill (.stepEmit false 0 3 0 0) := by decide

/-! ## One firing on a small state: results from the spec's tables of examples. -/

/-- A token of lanes, under tag 0. -/
def lanes (gl2 cl2 : Nat) (l : List Nat) : Token := { gl2 := gl2, cl2 := cl2, pay := packLanes (2 ^ cl2) l }
def num (cl2 v : Nat) : Token := lanes 0 cl2 [v]

/-- A unit of cluster 0 with these operands latched. -/
def fired (a b c : Option Token) (unit : Nat := 0) (tag : Tag := 0) : Firing := { unit := unit, node := 1, tag := tag, a := a, b := b, c := c }
def on (f : Firing) (s : State := State.reset) : State := { s with cur := some f }
def fire1 (x : Token) : State := on (fired (some x) none none)
def fire2 (x y : Token) : State := on (fired (some x) (some y) none)
def fire3 (x y z : Token) : State := on (fired (some x) (some y) (some z))

def after (i : Instr) (s : State) : State :=
  match exec i s with
  | .next t => t
  | _ => State.reset

/-- What leaves: the destination's unit and port, the token's shape, its payload and its poison. -/
def sentBy (i : Instr) (s : State) : List (Nat × Port × Nat × Nat × Nat × Nat) :=
  (after i s).netMsgs.filterMap (fun m => match m.pay with
    | .token (.node _ u _ p) _ t => some (u, p, t.gl2, t.cl2, t.pay, t.pmask)
    | _ => none)

/-- The payloads that leave, and the flags the unit has set. -/
def gives (i : Instr) (s : State) : List Nat × Nat :=
  ((sentBy i s).map (fun x => x.2.2.2.2.1), (((after i s).ctx 0).pe.get {} 0).flags)

theorem test_add_wraps : gives (.add false (.lit 5) r) (fire1 (num 5 0xFFFFFFFE)) = ([3], 0) := by decide +kernel
theorem test_sub : gives (.sub false .port r) (fire2 (num 3 3) (num 3 5)) = ([0xFE], 0) := by decide +kernel
theorem test_mulh : gives (.mulh false .port r) (fire2 (num 3 0xFF) (num 3 0xFF)) = ([0xFE], 0) := by decide +kernel
theorem test_mulh_signed : gives (.mulh true .port r) (fire2 (num 3 0xFF) (num 3 0xFF)) = ([0], 0) := by decide +kernel
theorem test_div : gives (.div true (.lit 0xFFFFFFFE) r) (fire1 (num 3 7)) = ([0xFD], 0) := by decide +kernel
theorem test_div_zero : gives (.div false .port r) (fire2 (num 3 9) (num 3 0)) = ([0xFF], Flag.DZ) := by decide +kernel
theorem test_rem : gives (.rem true (.lit 0xFFFFFFFE) r) (fire1 (num 3 0xF9)) = ([0xFF], 0) := by decide +kernel
theorem test_cmp : gives (.cmp true .lt (.lit 0) r) (fire1 (num 4 0x8000)) = ([0xFFFF], 0) := by decide +kernel
theorem test_andn : gives (.andn (.lit 0x0F) r) (fire1 (num 3 0x96)) = ([0x90], 0) := by decide +kernel
theorem test_rotl : gives (.rotl (.lit 3) r) (fire1 (num 3 0x96)) = ([0xB4], 0) := by decide +kernel
theorem test_shr_signed : gives (.shr true (.lit 3) r) (fire1 (num 3 0x90)) = ([0xF2], 0) := by decide +kernel
theorem test_shr : gives (.shr false (.lit 3) r) (fire1 (num 3 0x90)) = ([0x12], 0) := by decide +kernel
theorem test_clz : gives (.clz r) (fire1 (num 4 0x10)) = ([11], 0) := by decide +kernel
theorem test_popc : gives (.popc r) (fire1 (num 3 0x96)) = ([4], 0) := by decide +kernel

/-- 11, the tables after R241, R242, R244, R246. -/
theorem test_adds : gives (.adds true (.lit 100) r) (fire1 (num 3 100)) = ([0x7F], Flag.SAT) := by decide +kernel
theorem test_subs : gives (.subs false (.lit 5) r) (fire1 (num 3 3)) = ([0], Flag.SAT) := by decide +kernel
theorem test_muls : gives (.muls true .port r) (fire2 (num 4 300) (num 4 200)) = ([0x7FFF], Flag.SAT) := by decide +kernel
theorem test_shls : gives (.shls true (.lit 4) r) (fire1 (num 3 0xF7)) = ([0x80], Flag.SAT) := by decide +kernel
theorem test_abss : gives (.abss r) (fire1 (num 3 0x80)) = ([0x7F], Flag.SAT) := by decide +kernel
theorem test_clamp : gives (.clamp true r) (fire3 (num 3 206) (num 3 236) (num 3 20)) = ([0xEC], Flag.SAT) := by decide +kernel
theorem test_shrr_even : gives (.shrr true .even (.lit 2) r) (fire1 (num 3 0xF6)) = ([0xFE], 0) := by decide +kernel
theorem test_shrr_away : gives (.shrr true .away (.lit 2) r) (fire1 (num 3 0xF6)) = ([0xFD], 0) := by decide +kernel
theorem test_rquant : gives (.rquant true { zp := 0xFD, s := 36, ow := 8 } r)
    (fire2 (lanes 2 5 [1000, 2 ^ 32 - 32, 9000, 2 ^ 32 - 9000]) (lanes 2 5 [2 ^ 30, 2 ^ 30, 2 ^ 30, 2 ^ 30])) =
      ([0x807FFD0D], Flag.SAT) := by decide +kernel
theorem test_bfx : gives (.bfx true { lenm1 := 2, pos := 5 } r) (fire1 (num 3 0x96)) = ([0xFC], 0) := by decide +kernel
theorem test_bfi : gives (.bfi { lenm1 := 2, pos := 2 } r) (fire2 (num 3 0x96) (num 3 7)) = ([0x9E], 0) := by decide +kernel
theorem test_brev : gives (.brev r) (fire1 (num 3 0x96)) = ([0x69], 0) := by decide +kernel
theorem test_sext : gives (.sext 3 r) (fire1 (num 4 0xF9)) = ([0xFFF9], 0) := by decide +kernel
theorem test_zext : gives (.zext 3 r) (fire1 (num 4 0xF9)) = ([9], 0) := by decide +kernel

/-- 11, the table after R251. -/
theorem test_padd : gives (.padd 3 r) (fire2 (num 6 0x600000) (num 6 1001)) = ([0x600BBB], 0) := by decide +kernel
theorem test_psub : gives (.psub 3 r) (fire2 (num 6 0x600BBB) (num 6 0x600000)) = ([1001], 0) := by decide +kernel
theorem test_paln : gives (.paln 2048 r) (fire1 (num 6 0x600BBB)) = ([0x600800], 0) := by decide +kernel
theorem test_pchk : gives (.pchk 3 r) (fire1 (num 6 0x600BBB)) = ([1], 0) := by decide +kernel
theorem test_pcvt_tobit : gives (.pcvt false r) (fire1 (num 6 0x801F4)) = ([0x400FA0], 0) := by decide +kernel
theorem test_pcvt_tobyte_misaligned : gives (.pcvt true r) (fire1 (num 6 0x400FA5)) = ([], 0) ∧
    (after (.pcvt true r) (fire1 (num 6 0x400FA5))).hub.faults.map (fun (q : FaultRec) => q.code) = [0x101] := by decide +kernel
theorem test_pspc_get : gives (.pspc .get r) (fire1 (num 6 0x7AF0000000012340)) = ([7], 0) := by decide +kernel
theorem test_pspc_set : gives (.pspc (.set 7) r) (fire2 (num 6 0x1000000000012340) (num 6 700)) = ([0x7AF0000000012340], 0) := by
  decide +kernel

/-- 12, the table after R256. -/
theorem test_fmul : gives (.fmul .rne .f16 .port r) (fire2 (num 4 0x7BFF) (num 4 0x4000)) = ([0x7C00], Flag.OVF + Flag.INX) := by
  decide +kernel
theorem test_fmul_rtz : gives (.fmul .rtz .f16 .port r) (fire2 (num 4 0x7BFF) (num 4 0x4000)) =
    ([0x7BFF], Flag.OVF + Flag.SAT + Flag.INX) := by decide +kernel
theorem test_fsub_rdn : gives (.fsub .rdn .f32 .port r) (fire2 (num 5 0x3F800000) (num 5 0x3F800000)) = ([0x80000000], 0) := by
  decide +kernel
theorem test_fdiv : gives (.fdiv .rne .f32 .port r) (fire2 (num 5 0x3F800000) (num 5 0)) = ([0x7F800000], Flag.DZ) := by decide +kernel
theorem test_fsqrt : gives (.fsqrt .rne .f32 r) (fire1 (num 5 0xBF800000)) = ([0x7FC00000], Flag.INV) := by decide +kernel
theorem test_fma : gives (.fma .rne .f32 r) (fire3 (num 5 0x3F800001) (num 5 0x3F7FFFFF) (num 5 0xBF800000)) = ([0x337FFFFE], 0) := by
  decide +kernel
theorem test_fsclb : gives (.fsclb .rne .f16 (.lit 0xFFFFFFEC) r) (fire1 (num 4 0x3C00)) = ([0x0010], 0) := by decide +kernel
theorem test_frint : gives (.frint .rne .f32 r) (fire1 (num 5 0x40200000)) = ([0x40000000], Flag.INX) := by decide +kernel
theorem test_fmin : gives (.fmin .f32 .port r) (fire2 (num 5 0x7FC00000) (num 5 0x40000000)) = ([0x40000000], 0) := by decide +kernel
theorem test_fmaxm : gives (.fmaxm .f32 .port r) (fire2 (num 5 0xC0400000) (num 5 0x40000000)) = ([0xC0400000], 0) := by decide +kernel
theorem test_fcpys : gives (.fcpys .f32 .port r) (fire2 (num 5 0x40000000) (num 5 0x80000000)) = ([0xC0000000], 0) := by decide +kernel
theorem test_fclass : gives (.fclass .f16 r) (fire1 (num 4 1)) = ([0x20], 0) := by decide +kernel
theorem test_fcmp : gives (.fcmp .lt .f32 .port r) (fire2 (num 5 0x7FC00000) (num 5 0x3F800000)) = ([0], Flag.INV) := by decide +kernel

/-- 12, the table after R261. -/
theorem test_cvtff_to : gives (.cvtff true .rne .f32 0x22120E80 r) (fire1 (num 5 0x3E99999A)) = ([0x2A], Flag.INX) := by decide +kernel
theorem test_cvtff_scaled : gives (.cvtff false .rne .f32 0x210A0200 r) (fire1 { num 2 5 with scale := 0x7B9A }) = ([0x3E99C000], 0) := by
  decide +kernel
theorem test_cvtfi : gives (.cvtfi .rne .f32 0x12020000 r) (fire1 (num 5 0x43480000)) = ([0x7F], Flag.SAT + Flag.INX) := by decide +kernel
theorem test_cvtif : gives (.cvtif .rne .f16 0x02020000 r) (fire1 (num 3 0xC8)) = ([0x5A40], 0) := by decide +kernel
theorem test_flog2_zero : gives (.flog2 .rne .f16 r) (fire1 (num 4 0)) = ([0xFC00], Flag.DZ) := by decide +kernel
theorem test_fexp2 : gives (.fexp2 .rne .f32 r) (fire1 (num 5 0x40400000)) = ([0x41000000], 0) := by decide +kernel
theorem test_fsinp : gives (.fsinp .rne .f32 r) (fire1 (num 5 0xC0000000)) = ([0x80000000], 0) := by decide +kernel
theorem test_fsig : gives (.fsig .rne .f32 r) (fire1 (num 5 0)) = ([0x3F000000], 0) := by decide +kernel
theorem test_ftanh : gives (.ftanh .rne .bf16 r) (fire1 (num 4 0x7F80)) = ([0x3F80], 0) := by decide +kernel
theorem test_sclmax : gives (.sclmax 0x210A0200 r) (fire1 (lanes 2 5 [0xBFC00000, 0x40400000, 0x3E800000, 0x40000000])) =
    ([0x7E00], 0) := by decide +kernel

/-- 12 R262, and the table after R270. -/
theorem test_vctx : sentBy (.vctx 19 3 { r with db := .local_ 3 0 .b 0 }) (fire1 { num 6 0 with gl2 := 2, pay := 2 ^ 200 + 2 ^ 127 + 7 }) =
    [(2, .a, 4, 3, 2 ^ 127 + 7, 0), (3, .b, 0, 5, 16, 0)] := by decide +kernel
theorem test_vredadd : sentBy (.vredadd .sgn r) (fire1 (lanes 2 3 [0x7F, 0x7F, 0x80, 0xFF])) = [(2, .a, 0, 6, 125, 0)] := by
  decide +kernel
theorem test_vscan : gives (.vscan .uns r) (fire1 { lanes 2 3 [0xF0, 0x20, 0x01] with pmask := 8 }) = ([0x1110F0], 0) := by decide +kernel
theorem test_rngf : gives (.rngf r) (fire2 (num 6 0) (num 6 0)) = ([0], 0) := by decide +kernel

/-- 10, the table after R210. -/
def both : Dests := { r with db := .local_ 3 0 .b 0 }
theorem test_mov : sentBy (.mov both) (fire1 (num 6 9)) = [(2, .a, 0, 6, 9, 0), (3, .b, 0, 6, 9, 0)] := by decide +kernel
theorem test_const : gives (.const_ true 0xFFFFFFFD r) (on { unit := 0, t := some (num 6 0) }) = ([0xFFFFFFFFFFFFFFFD], 0) := by
  decide +kernel
theorem test_steer : sentBy (.steer both) (fire2 (num 6 7) (num 6 0)) = [(3, .b, 0, 6, 7, 0)] := by decide +kernel
theorem test_select : gives (.select r) (fire3 (num 6 1) (num 6 4) (num 6 5)) = ([4], 0) := by decide +kernel
theorem test_merge : gives (.merge r) (on (fired none (some (num 6 6)) none)) = ([6], 0) := by decide +kernel
theorem test_gate : gives (.gate r) (fire2 (num 6 2) (num 6 99)) = ([2], 0) := by decide +kernel
theorem test_sync2 : sentBy (.sync2 both) (fire2 (num 6 1) (num 6 2)) = [(2, .a, 0, 6, 1, 0), (3, .b, 0, 6, 2, 0)] := by decide +kernel
theorem test_sync3 : sentBy (.sync3 both) (fire3 (num 6 1) (num 6 2) (num 6 3)) = [(2, .a, 0, 6, 1, 0), (3, .b, 0, 6, 2, 0)] := by
  decide +kernel

/-! ## Control flow (10). Cluster 0 holds a launch's root frame in entry 0. -/

/-- Cluster 0 runs, its root frame in entry 0. -/
def running (x : Ctx := {}) : State := { State.reset with
  cls := [(0, { stat := .running, ctx := { x with frames := if x.frames.isEmpty then [(0, { n := 1 })] else x.frames } })] }

def tags (i : Instr) (s : State) : List Nat :=
  (after i s).netMsgs.filterMap (fun m => match m.pay with | .token _ _ t => some t.tag.toNat | _ => none)

/-- 10 R212: `LOOPIN` fired with 11 under the root tag, entry 1 free, and its request on its way to the owner. -/
def loopinAt : State := after (.loopin 2 both) (on (fired (some (num 6 11)) none none 1) running)
theorem test_loopin : sentBy (.tagOpApply 1) loopinAt = [(2, .a, 0, 6, 11, 0), (3, .b, 0, 5, 0x100, 0)] ∧
    tags (.tagOpApply 1) loopinAt = [0x100, 0] ∧
    ((after (.tagOpApply 1) loopinAt).ctx 0).frames.find 1 = some { n := 3, parent := some 0, age := 0, occ := 1 } := by decide +kernel
/-- 10, the table after R220. -/
theorem test_iter : gives (.iter r) (on (fired (some (num 6 0)) none none 0 0x102)) = ([2], 0) := by decide +kernel
theorem test_tagset : tags (.tagset r) (fire2 (num 6 5) (num 5 0x300)) = [0x300] := by decide +kernel
theorem test_trigger_late : gives (.trigger r) (on (fired (some (num 6 0)) none none) (running { trigFired := true })) = ([0], 0) := by decide +kernel
theorem test_done : ((after (.done sinks) (on (fired (some (num 6 17)) none none) running)).ctx 0).exitVal = some 17 := by decide +kernel
theorem test_ckpt : gives (.ckpt 0 r) (on (fired (some (num 6 8)) none none) running) = ([8], 0) := by decide +kernel

/-- 08 R182: the register's test of a loop's last step, and its end marker. -/
def list0 : Activation := { seq := 7, fir := fired (some (num 6 0)) none none, list := { start := 0, lenm1 := 3 }, dests := r }
def stepping (x : Activation) : State := { running { acts := [x] } with cur := some x.fir, curAct := some (0, 7) }
theorem test_loop_again : ((after (.stepAddx 1 1) (stepping { list0 with idx := 2, loops := [(0, 2, 0, 2)] })).ctx 0).acts.map
    (fun (x : Activation) => (x.idx, x.x)) = [(1, [1, 1, 0, 0])] := by decide +kernel
theorem test_loop_ends : ((after .stepSnop (stepping { list0 with idx := 2, x := [1, 0, 0, 0], loops := [(0, 2, 0, 2)] })).ctx 0).acts.map
    (fun (x : Activation) => (x.idx, x.loops)) = [(3, [])] := by decide +kernel
/-- 08 R179: EMIT form 01 sends P + X × IMM × 2^SH. -/
theorem test_emit : gives (.stepEmit false 1 1 1 0xFFFF) (stepping { list0 with fir := fired (some (num 6 100)) none none, x := [0, 3, 0, 0] }) =
    ([94], 0) := by decide +kernel
/-- 15 R322: the third patch of the example's list. -/
theorem test_patch : ((after (.mxseqPatch false 4 0 0 0x11) (stepping { list0 with mxseq := true, v := { pay := 0xFF * 2 ^ 48 } })).ctx 0).acts.map
    (fun (x : Activation) => x.v.pay) = [0x10 * 2 ^ 48] := by decide +kernel
/-! ## Memory (13). A lease of all process memory, and a TLB entry that maps its first page to itself. -/

def slot0 : Slot := { state := 2, words := [2 ^ 63, 0, 0, 0, 0, 0, 0, 0], leaseGranted := true, lease := [(0, 2 ^ 60, true)], clusters := [0] }
def page0 : TlbEnt := { sid := 0, page := 0, size := 2, frame := 0, rd := true, wr := true, user := true, et := false, cp := false, dirty := true }
def mapped (m : Memory := []) (x : Ctx := {}) : State := { State.reset with
  mem := m
  hub := { State.reset.hub with slots := [(0, slot0)] }
  cls := [(0, { stat := .running, slot := some 0, tlb := [page0], gal := { base := 2 ^ 19 }, ctx := { x with frames := [(0, { n := 1 })] } })] }
def word5 : Memory := [(0x1000, 5)]

/-! ## Memory, matrix engine, asynchronous and system instructions (13, 15, 16) -/

def abufPtr (off : Nat) : Nat := 2 ^ 60 + off
def withAbuf (off w v : Nat) (s : State := mapped) : State := s.modCl 0 (fun x => x.abufSet off w v)

/-- 13, the table after R280. -/
theorem test_ld_signed : sentBy (.loadDataReturn 0 0) (State.tick (after (.aBufferBankPriority 0 0 0)
      (after (.ld true 5 noWave r) (on (fired (some (num 6 (abufPtr 100))) none none 32) (withAbuf 100 6 0b110101))))) =
    [(2, .a, 0, 3, 0xF5, 0)] := by decide +kernel
theorem test_ldv : sentBy (.loadDataReturn 0 0) (State.tick (after (.aBufferBankPriority 0 0 1) (after (.aBufferBankPriority 0 0 0)
      (after (.ldv false 3 noWave r) (on (fired (some (num 6 (abufPtr 130))) none none 32) (withAbuf 130 128 (0x123456789 * 2 ^ 92))))))) =
    [(2, .a, 5, 2, 0x123456789 * 2 ^ 92, 0)] := by decide +kernel
theorem test_st_abuf : bufRead ((after (.aBufferBankPriority 0 0 0)
      (after (.st 2 noWave r) (on (fired (some (num 6 (abufPtr 9))) (some (num 3 0x0D)) none 32) (withAbuf 8 8 0xFF)))).cl 0).abuf 8 8 =
    0xFB := by decide +kernel
/-- 13 R278: the store of the example appends one entry of 32 bits at 0x400FA0. -/
theorem test_st_appends : ((after (.st 31 noWave r) (on (fired (some (num 6 0x400FA0)) (some (num 6 5)) none 34) mapped)).gal 0).ents.map
    (fun (e : GEnt) => (e.pos, e.kind, e.pba, e.len, e.data)) = [(0, 0, 0x400FA0, 32, 5)] := by decide +kernel
/-- 04 R76: an access that crosses a sector becomes two entries. -/
theorem test_stx_splits : ((after (.stx 15 0 r) (on (fired (some (num 6 0x101F8)) (some (num 4 0xABCD)) none 34) mapped)).gal 0).ents.map
    (fun (e : GEnt) => (e.pos, e.pba, e.len, e.data)) = [(0, 0x101F8, 8, 0xCD), (1, 0x10200, 8, 0xAB)] := by decide +kernel
/-- 13, the table after R291, at the home. -/
def atomicAt (i : Instr) (b c : Token) (m : Memory) : State := { mapped m with
  cls := [(0, { (mapped m).cl 0 with ctx := { pend := [⟨3, fired (some (num 6 0x8000)) (some b) (some c), i, .atomic 0 0x8000 0 none, 0⟩] } })] }
def wordAfter (i : Instr) (b c : Token) (m : Memory) : Nat := (after (.atomicHomeExec 0 3) (atomicAt i b c m)).mem.readBits 0x8000 64
theorem test_atom_add : wordAfter (.atom true .add noWave r) (num 6 1) (num 6 0) [(0x1000, 5)] = 6 := by decide +kernel
theorem test_atom_smin : wordAfter (.atom false .smin noWave r) (num 5 0xFFFFFFFE) (num 5 0) [(0x1000, 3)] = 0xFFFFFFFE := by decide +kernel
theorem test_atomf : wordAfter (.atomf .fadd false noWave r) (num 5 0x40000000) (num 5 0) [(0x1002, 0x80), (0x1003, 0x3F)] = 0x40400000 := by
  decide +kernel
theorem test_acas : wordAfter (.acas true noWave r) (num 6 9) (num 6 12) [(0x1000, 9)] = 12 := by decide +kernel
theorem test_acas_fails : wordAfter (.acas true noWave r) (num 6 8) (num 6 12) [(0x1000, 9)] = 9 := by decide +kernel

/-- 16, the tables after R332, R333 and R336. -/
def at38 (i : Instr) (x : Token) (c : Ctx := {}) : List Nat × Nat := gives i (on (fired (some x) none none 38) (mapped [] c))
theorem test_cpgo : at38 (.cpgo 2 r) (num 6 0x1000000) = ([1], 0) ∧
    ((after (.cpgo 2 r) (on (fired (some (num 6 0x1000000)) none none 38) mapped)).ctx 0).chans.map (fun p => (p.1, p.2.busy, p.2.head.toNat)) =
      [(2, true, 0x1000000)] := by decide +kernel
theorem test_cpstat : at38 (.cpstat 2 both) (num 6 0) { chans := [(2, { lastStat := 1, retired := 5, head := 0x4000 })] } =
    ([0x0001000000000005, 0x4000], 0) := by decide +kernel
theorem test_tlread : at38 (.tlread (.ch 0) r) (num 6 0) { chans := [(0, { tl := 17 })] } = ([17], 0) := by decide +kernel
def ring2 (wslot rslot claim : Nat) : Ctx := { rings := [(2, { base := 0x2000000, slot := 64, log2n := 2, en := true, wslot := wslot, rslot := rslot, claim := claim })] }
def ringPtr : Nat := 5 * 2 ^ 60 + 2
/-- A ring operation's request reaches the ring. -/
def atRing (i : Instr) (x : Ctx) : State := (after i (on (fired (some (num 6 ringPtr)) none none 38) (mapped [] x))).serveReq 1
theorem test_rapeek : gives (.waitComplete 0 0) (atRing (.rapeek r) (ring2 7 6 9)) = ([0x0000000300000001], 0) := by decide +kernel
theorem test_rsrel : ((atRing (.rsrel r) (ring2 7 5 9)).ctx 0).rings.map
    (fun p => p.2.rslot) = [6] := by decide +kernel
theorem test_rawait : gives (.waitComplete 0 3) ((mapped [] { ring2 7 5 9 with
    pend := [⟨3, fired (some (num 6 ringPtr)) none none 38, .rawait r, .wait, 0⟩] }).testWaits 0) = ([0x2000040], 0) := by decide +kernel
theorem test_tlwait_waits : gives (.waitComplete 0 3) ((mapped [] { chans := [(1, { tl := 40 })], pend := [⟨3, fired (some (num 6 7)) (some (num 6 42)) none 38, .tlwait (.ch 1) both, .wait, 0⟩] }).testWaits 0) = ([], 0) := by decide +kernel
theorem test_tlwait : gives (.waitComplete 0 3) ((mapped [] { chans := [(1, { tl := 42 })], pend := [⟨3, fired (some (num 6 7)) (some (num 6 42)) none 38, .tlwait (.ch 1) both, .wait, 0⟩] }).testWaits 0) = ([7, 42], 0) := by decide +kernel
/-- 16, the table after R341. -/
theorem test_trap : (after (.trap true 42 sinks) (on (fired (some (num 6 9)) none none 33) mapped)).hub.faults.map
    (fun (q : FaultRec) => (q.code, q.cause % 2 ^ 16, q.cause / 2 ^ 64 % 2 ^ 64)) = [(0x301, 42, 9)] ∧
    ((after (.trap true 42 sinks) (on (fired (some (num 6 9)) none none 33) mapped)).cl 0).stat = .faulting := by decide +kernel
theorem test_flags : gives (.flags r) (on (fired (some (num 6 0)) none none 3) (mapped [] { pe := [(3, { flags := 0x50 })] })) = ([0x50], 0) := by decide +kernel
theorem test_perf : at38 (.perf 0x040 r) (num 6 0) = ([0], 0) := by decide +kernel
theorem test_ident : gives (.ident .cl r) { State.reset with cur := some { cl := 700, a := some (num 6 0) } } = ([0xABC], 0) := by decide +kernel
/-- 15, the table after R326. -/
theorem test_mxchk : gives (.ticketRetired 0 3) (mapped [] { mxSlots := [(5, { gen := 1, retired := 1, done := [(1, (0xA5, 0, 0))] })], pend := [⟨3, fired (some (num 6 0x105)) none none 36, .mxchk r, .ticket 0x105, 0⟩] }) = ([0xA500000000], 0) := by decide +kernel
theorem test_mxwait_waits : gives (.ticketRetired 0 3) (mapped [] { mxSlots := [(5, { gen := 1, retired := 0 })], pend := [⟨3, fired (some (num 6 0x105)) none none 36, .mxwait r, .ticket 0x105, 0⟩] }) = ([], 0) := by decide +kernel
/-- 12, the table after R270. -/
def counted : State := running { seqs := [{ node := 1, unit := 0, frame := 0, count := 2, k := 2 }] }
theorem test_cntr : sentBy (.cntr 2 both) (on (fired (some (num 6 0)) none none 0) counted) =
    [(2, .a, 0, 6, 0, 0), (3, .b, 0, 5, 2, 0)] := by decide +kernel
theorem test_argmax : gives (.argmax (.flt .rne .f32) both) (on (fired (some { lanes 1 5 [0x40800000, 0x40A00000] with eod := 1 }) none none 0) (running { seqs :=
    [{ node := 1, unit := 0, frame := 0, count := 1, k := 1, shape := some (1, 5), kept := [some (0x3F800000, 0), some (0x40A00000, 0)] }] })) =
      ([0x40A0000040800000, 1], 0) := by decide +kernel
theorem test_sortk : gives (.sortk .sgn 2 false both) (on (fired (some { lanes 3 3 [3, 255, 7, 7, 0, 2, 9, 1] with eod := 1 }) none none 0) running) =
    ([0x070709, 0xFFFFFFFFFFFFFFFFFFFFFFFFFFFFFFFFFFFFFFFF000000030000000200000006], 0) := by decide +kernel
/-- 12 R266: the sum of a dimension of two members. -/
theorem test_red : gives (.red .uns r) (on (fired (some { num 5 4 with eod := 1 }) none none 0) (running { seqs :=
    [{ node := 1, unit := 0, frame := 0, count := 1, k := 1, shape := some (0, 5), parts := [[3]] }] })) = ([7], 0) := by decide +kernel

/-! ## The machine's own steps -/

/-- 27, the example after R446: 110.25 °C. -/
def hot : List (BitVec 12) := 882 :: List.replicate 15 0
theorem test_therm : ((after (.thermSample 2 hot) { State.reset with therm := [(2, { stat := 1, tmax := 872 })] }).thermOf 2).throttle = 1 := by
  decide +kernel
/-- 20 R359: an armed counter's last signal completes it. -/
theorem test_counter : ((after (.cntSignal 4) { State.reset with
    hub := { State.reset.hub with cnts := [(4, { status := 1, remain := 1 })] }
    netMsgs := [{ id := 1, vc := 5, src := 0, srcUnit := 0, dst := 1024, dstUnit := 0, pay := .signal 4 false }] }).counter 4).status = 2 := by decide +kernel
/-- 25 R426: a flit with the number a receiver expects is taken; one with another is dropped. -/
theorem test_flit : ((after (.flitReceive 0 0 true []) { State.reset with links := [(0, { stat := 2, up := { wire := [{ seq := 5, ack := 0 }], rxexp := 5 } })] }).linkMod 0 0).up.rxexp = 6 := by
  decide +kernel
theorem test_flit_dropped : ((after (.flitReceive 0 0 true []) { State.reset with links := [(0, { stat := 2, up := { wire := [{ seq := 9, ack := 0 }], rxexp := 8 } })] }).linkMod 0 0).up.rxexp = 8 := by
  decide +kernel
/-- 25 R426: the CRC-32C of "123456789", the check value of the algorithm, and a flit with one bit flipped. -/
theorem test_crc : (let v := 0x393837363534333231
    ((List.range 72).foldl (fun (c : Nat) (k : Nat) => if c.testBit 0 != v.testBit k then c / 2 ^^^ 0x82F63B78 else c / 2) 0xFFFFFFFF ^^^ 0xFFFFFFFF) = 0xE3069283) ∧
    flitSound (flipBits (Flit.word { seq := 5, ack := 0 }) [77]) = false := by decide +kernel
/-- 05 R112: clearing tags. -/
theorem test_ready_clear : ((after (.clReadyClear 0 0b101) (running { ready := 0b111 })).ctx 0).ready = 0b010 := by decide +kernel

/-! ## A state for the hypotheses of each statement, and what it says there

`isNext` and `goesOn` turn an evaluation into the equation a statement concludes. -/
open Sys2Proof.Claims

def nextIs (o : Host.Outcome State Fault Refusal) (t : State) : Bool :=
  match o with
  | .next u => decide (u = t)
  | _ => false

theorem isNext {o : Host.Outcome State Fault Refusal} {t : State} (h : nextIs o t = true) : o = .next t := by
  cases o with
  | next u => simp only [nextIs, decide_eq_true_eq] at h; rw [h]
  | fault => cases h
  | refused => cases h

theorem goesOn {i : Instr} {s : State} (h : nextIs (exec i s) (after i s) = true) : exec i s = .next (after i s) := isNext h

/-- Three operands of four 32-bit lanes; lane 2 of the second is poisoned. -/
def fv : Firing := fired (some (lanes 2 5 [7, 2 ^ 32 - 7, 0, 5])) (some { lanes 2 5 [3, 2, 1, 0] with pmask := 4 }) (some (lanes 2 5 [1, 1, 1, 1]))
def sv : State := on fv mapped

theorem witness_operands : Latched sv fv ∧ Fits fv .port ∧ Fits fv (.lit 9) ∧ FitsC fv ∧ fv.opA.cl2 = laneCl2 .f32 := by
  refine ⟨⟨rfl, rfl⟩, ?_, ?_, ?_, ?_⟩ <;> (first | unfold Fits | unfold FitsC | skip) <;> decide +kernel
theorem witness_IntegerArithmetic : LaneResults (.div true .port r) sv fv r 2 5 (lanesAB fv .port true (fun c x y =>
    if valueOf true c y = 0 then { code := 2 ^ c - 1, flags := Flag.DZ } else wrapped c ((valueOf true c x).tdiv (valueOf true c y)))) :=
  isNext (by decide +kernel)
theorem witness_cmp_row : ∃ w : NodeWord, w.op = 0x048 ∧ 6 ≤ w.mod.toNat % 32 ∧ decodeNode w = .error .unassignedMod :=
  ⟨{ op := 0x048, mod := 6, da := 0, db := 0, lit := 0 }, rfl, by decide, rfl⟩
theorem witness_SaturatingAndRounding : fv.opA.cl2 = 5 ∧ LaneResults (.clamp true r) sv fv r 2 5 (lanesABC fv (fun c x y z =>
    let v := min (max (valueOf true c x) (valueOf true c y)) (valueOf true c z)
    wrapped c v (if v = valueOf true c x then 0 else Flag.SAT))) := ⟨rfl, isNext (by decide +kernel)⟩

/-- Two pointers of one space, and two of different spaces in lane 1. -/
def fp : Firing := fired (some (lanes 1 6 [0x600BB8, 2 ^ 60 + 16])) (some (lanes 1 6 [0x600000, 2 ^ 60 + 8])) none
def fq : Firing := fired (some (lanes 1 6 [16, 2 ^ 60 + 2 ^ 57 + 16])) (some (lanes 1 6 [8, 8])) none
def fr1 : Firing := fired (some (lanes 1 6 [16, 12])) none none

theorem witness_PointerArithmetic : Latched (on fp) fp ∧ fp.opA.cl2 = 6 ∧ fp.opA.gl2 = fp.opB.gl2 ∧ Fits fp .port ∧
    (∀ j < 2 ^ fp.opA.gl2, fp.opA.lane j / 2 ^ fieldW (fp.opA.lane j) = fp.opB.lane j / 2 ^ fieldW (fp.opA.lane j)) ∧
    (∀ j < 2 ^ fr1.opA.gl2, fr1.opA.lane j < 2 ^ 57) ∧ (∀ j < 1, fp.opA.lane j < 2 ^ 60 ∧ fp.opA.lane j % 8 = 0) := by
  refine ⟨⟨rfl, rfl⟩, rfl, rfl, ?_, ?_⟩ <;> (first | unfold Fits | skip) <;> decide +kernel
theorem witness_pointer_ops :
    LaneResults (.psub 8 r) (on fp) fp r 1 6 (lanesAB fp .port false (fun _ p q =>
      wrapped 64 (((p % 2 ^ fieldW p : Nat) - (q % 2 ^ fieldW q : Nat) : Int) / (8 : Int)))) ∧
    LaneResults (.pspc (.set 7) r) (on fp) fp r 1 6 (lanesAB fp .port false (fun _ p q =>
      { code := 7 * 2 ^ 60 + q % 2 ^ 10 * 2 ^ 50 + p % 2 ^ 50 })) :=
  ⟨isNext (by decide +kernel), isNext (by decide +kernel)⟩
theorem witness_PointerFaults :
    firstFault 2 (fun k => if fq.opA.poisoned k = false ∧ fq.opB.poisoned k = false ∧
      fq.opA.lane k / 2 ^ fieldW (fq.opA.lane k) ≠ fq.opB.lane k / 2 ^ fieldW (fq.opA.lane k) then some (0x100, 2) else none) 1 0x100 2 ∧
    firstFault 2 (fun k => if fq.opA.poisoned k = false ∧ 2 ^ 57 ≤ fq.opA.lane k then some (0x100, 4) else none) 1 0x100 4 ∧
    firstFault 2 (fun k => tobyteFault (fq.opA.poisoned k) (fq.opA.lane k)) 1 0x100 2 ∧
    firstFault 2 (fun k => tobyteFault (fr1.opA.poisoned k) (fr1.opA.lane k)) 1 0x101 0 := by
  refine ⟨?_, ?_, ?_, ?_⟩ <;> unfold firstFault <;> decide +kernel
theorem witness_pointer_ends : Ends (.psub 8 r) (on fq mapped) fq 0x100 (2 + 256 * 1) ∧ Ends (.pcvt false r) (on fq mapped) fq 0x100 (4 + 256 * 1) ∧
    Ends (.pcvt true r) (on fr1 mapped) fr1 0x101 (256 * 1) :=
  ⟨isNext (by decide +kernel), isNext (by decide +kernel), isNext (by decide +kernel)⟩

/-- FP32 lanes: 1.5, −2, infinity, NaN against 2, 0.5, −infinity, 1. -/
def ff : Firing := fired (some (lanes 2 5 [0x3FC00000, 0xC0000000, 0x7F800000, 0x7FC00000]))
  (some (lanes 2 5 [0x40000000, 0x3F000000, 0xFF800000, 0x3F800000])) (some (lanes 2 5 [0, 0, 0, 0]))
theorem witness_FloatArithmetic : Latched (on ff) ff ∧ ff.opA.cl2 = laneCl2 .f32 ∧ Fits ff .port ∧ FitsC ff := by
  refine ⟨⟨rfl, rfl⟩, rfl, ?_, ?_⟩ <;> (first | unfold Fits | unfold FitsC) <;> decide +kernel
theorem witness_float_ops :
    LaneResults (.fadd .rdn .f32 .port r) (on ff) ff r 2 5 (fltAB ff .port .f32 .rdn (fun x y => ExtNum.add x y .rdn)) ∧
    LaneResults (.fmin .f32 .port r) (on ff) ff r 2 5 (codesAB ff .port .f32 (fun x y => { code := pastNaN .f32 (lesser .f32) x y })) ∧
    LaneResults (.frint .rne .f32 r) (on ff) ff r 2 5 (lanesA ff (fun _ x => match fnum .f32 x with
      | .fin neg n e => { code := (round (laneFmt .f32) .rne (.fin neg (roundMag neg n e 0 .rne) 1)).code
                          flags := if roundMag neg n e 0 .rne * e = n then 0 else Flag.INX }
      | v => { code := (round (laneFmt .f32) .rne v).code })) :=
  ⟨isNext (by decide +kernel), isNext (by decide +kernel), isNext (by decide +kernel)⟩

/-- Scaled 4-bit codes; finite FP32 lanes; a poisoned scale operand. -/
def fc : Firing := fired (some { lanes 3 2 [5, 1, 9, 0, 7, 15, 3, 2] with scale := 0x7B9A }) none none
def fm : Firing := fired (some (lanes 2 5 [0xBFC00000, 0x40400000, 0x3E800000, 0x40000000])) none none
def fs : Firing := fired (some (num 5 1)) (some (num 4 0x7E00)) none
def fx : Firing := fired (some (num 5 1)) (some { num 4 0x7E00 with pmask := 1 }) none
theorem witness_ConversionAndScale : Latched (on fc) fc ∧
    fc.opA.cl2 = Fd.contL2 (Fd.codeWidth 0x210A0200) ∧ 2 ^ fc.opA.gl2 * 2 ^ Fd.contL2 (Fd.codeWidth (laneFd .f32)) ≤ 256 ∧
    fm.opA.cl2 = 5 ∧ (∃ j, j < 2 ^ fm.opA.gl2 ∧ fm.opA.poisoned j = false) ∧
    (∀ j < 2 ^ fm.opA.gl2, fm.opA.poisoned j = false → ∃ neg n e, fnum .f32 (fm.opA.lane j) = .fin neg n e) ∧ (Fmt.of 0x210A0200).top.1 ≠ 0 ∧
    fs.opB.poisoned 0 = false ∧ fs.opB.lane 0 % 2 ^ 16 = (0x7E00 : BitVec 16).toNat ∧ fx.opB.poisoned 0 = true := by
  refine ⟨⟨rfl, rfl⟩, by decide +kernel, by decide +kernel, rfl, ⟨0, by decide +kernel⟩, ?_, by decide +kernel, by decide +kernel, by decide +kernel, by decide +kernel⟩
  intro j hj _
  have h : ∀ j < 2 ^ fm.opA.gl2, (match fnum .f32 (fm.opA.lane j) with | .fin .. => true | _ => false) = true := by decide +kernel
  specialize h j hj
  split at h
  · exact ⟨_, _, _, ‹_›⟩
  · cases h
theorem witness_scale_ends : Ends (.sclset .port r) (on fx mapped) fx 0x106 0 := isNext (by decide +kernel)
theorem witness_SpecialFunctions : Latched (on ff) ff ∧ ff.opA.cl2 = laneCl2 .f32 ∧ (3 : Nat) ≠ 0 := ⟨⟨rfl, rfl⟩, rfl, by decide⟩
theorem witness_special_values : special .log2 (laneFmt .f16) .rup (.fin true 5 3) = { code := (laneFmt .f16).nanCode, flags := Flag.INV } ∧
    special .cosp (laneFmt .f16) .rup (.fin true ((2 * 7 + 1) * 3) (2 * 3)) = { code := (round (laneFmt .f16) .rne (.fin false 0 1)).code } := by decide +kernel

/-- Eight 16-bit lanes and a permutation of them. -/
def f16 : Firing := fired (some { lanes 3 4 [10, 11, 12, 13, 14, 15, 16, 17] with pmask := 2 }) (some (lanes 3 4 [7, 0, 33, 2, 9, 4, 5, 6])) (some (lanes 3 4 [1, 2, 3, 4, 5, 6, 7, 8]))
theorem witness_LaneMoves : Latched (on f16) f16 ∧ Fits f16 .port ∧ 2 * 2 ^ f16.opA.gl2 * 2 ^ f16.opA.cl2 ≤ 256 ∧ f16.opA.gl2 ≠ 5 ∧ f16.opA.gl2 ≠ 0 ∧
    2 ^ (4 : BitVec 3).toNat * 2 ^ f16.opA.cl2 ≤ 256 ∧ (7 : BitVec 5).toNat < 2 ^ f16.opA.gl2 ∧ f16.opA.cl2 = f16.opB.cl2 ∧
    f16.opB.gl2 = f16.opC.gl2 ∧ f16.opB.cl2 = f16.opC.cl2 := by
  refine ⟨⟨rfl, rfl⟩, ?_, ?_⟩ <;> (first | unfold Fits | skip) <;> decide +kernel
theorem witness_lane_moves :
    Results (.vpack r) (on f16) f16 r 0 false [lanesTok f16 4 4 (fun j => if j < 8 then laneOf f16.opA j else laneOf f16.opB (j - 8))]
      [lanesTok f16 4 4 (fun j => if j < 8 then laneOf f16.opA j else laneOf f16.opB (j - 8))] ∧
    Results (.vperm r) (on f16) f16 r 0 false
      [lanesTok f16 3 4 (fun j => if f16.opB.poisoned j then (0, true) else laneOf f16.opA (f16.opB.lane j % 32 % 8))]
      [lanesTok f16 3 4 (fun j => if f16.opB.poisoned j then (0, true) else laneOf f16.opA (f16.opB.lane j % 32 % 8))] :=
  ⟨isNext (by decide +kernel), isNext (by decide +kernel)⟩
def fk : Firing := fired (some (lanes 1 6 [5, 6])) (some (num 6 9)) none
theorem witness_LaneReductions : Latched (on fk) fk ∧ fk.opA.cl2 = 6 ∧ fk.opB.cl2 = 6 ∧ ff.opA.cl2 = laneCl2 .f32 ∧
    LaneResults (.vredadd (.flt .rne .f32) r) (on ff) ff r 0 5 (fromAll ff (tree (fun x y => fltOut .f32 .rne
      (ExtNum.add (fnum .f32 x) (fnum .f32 y) .rne)) 2 ff.opA.lane)) :=
  ⟨⟨rfl, rfl⟩, rfl, rfl, rfl, isNext (by decide +kernel)⟩

theorem witness_ComputingNodesOnlySend : resultDests (.add true .port r) = some r ∧ sv.cur = some fv ∧
    exec (.add true .port r) sv = .next (after (.add true .port r) sv) := ⟨rfl, rfl, goesOn (by decide +kernel)⟩
/-- A bubble for elements 3 to 5 beside data. -/
def fb : Firing := fired (some (bubbleTok 3 5 1 0)) (some (num 5 1)) none
theorem witness_BubblesPassThrough : resultDests (.add true .port r) = some r ∧ (on fb).cur = some fb ∧ fb.hasBubble = true ∧
    exec (.add true .port r) (on fb) = .next ((on fb).emitBoth fb r (fb.stamp (bubbleTok 3 5 1 0))) := ⟨rfl, rfl, rfl, isNext (by decide +kernel)⟩

/-- Operands of two grants, of 64 lanes too many, and of one lane. -/
def fo : Firing := fired (some (lanes 2 5 [1])) (some (lanes 1 5 [1])) (some (lanes 2 5 [1]))
def fw : Firing := fired (some (lanes 3 5 [1])) (some (lanes 3 5 [1])) none
theorem witness_UnitFaults : Latched (on fo mapped) fo ∧ ¬ Fits fo .port ∧ fo.opA.gl2 ≠ fo.opB.gl2 ∧ fo.opA.cl2 ≠ 6 ∧ fo.opA.cl2 ≠ laneCl2 .f64 ∧
    f16.opA.cl2 ≠ 5 ∧ (fired (some (num 5 1)) none none).opA.gl2 = 0 ∧ 256 < 2 * 2 ^ fw.opA.gl2 * 2 ^ fw.opA.cl2 := by
  refine ⟨⟨rfl, rfl⟩, ?_, ?_⟩ <;> (first | unfold Fits | skip) <;> decide +kernel
theorem witness_mismatch_ends : Ends (.add true .port r) (on fo mapped) fo 0x203 0 ∧ Ends (.vpack r) (on fw mapped) fw 0x203 0 ∧
    Ends (.fadd .rne .f64 .port r) (on fo mapped) fo 0x203 0 ∧ Ends (.padd 3 r) (on fo mapped) fo 0x203 0 ∧
    Ends (.fsqrt .rne .f64 r) (on fo mapped) fo 0x203 0 ∧ Ends (.clamp true r) (on fo mapped) fo 0x203 0 :=
  ⟨isNext (by decide +kernel), isNext (by decide +kernel), isNext (by decide +kernel), isNext (by decide +kernel), isNext (by decide +kernel),
   isNext (by decide +kernel)⟩
theorem witness_TakingAFault : (mapped.cl 0).stat = .running ∧ (mapped.fail fv 0x203 0).hub.faults.length = 1 ∧
    ((mapped.modCl 0 (fun x => { x with stat := .ending })).cl 0).stat ≠ .running ∧
    (mapped.modCl 0 (fun x => { x with stat := .ending })).fail fv 0x203 0 = mapped.modCl 0 (fun x => { x with stat := .ending }) := by decide +kernel
/-- A unit that traps on DZ. -/
def trapping : State := mapped [] { pe := [(0, { xen := Flag.DZ })] }
theorem witness_FlagsAndTraps : Flag.DZ &&& (trapping.peOf fv).xen ≠ 0 ∧ Flag.INX &&& (trapping.peOf fv).xen = 0 ∧
    (trapping.raise fv Flag.DZ false).hub.faults.map (fun q => (q.code, q.cause)) = [(0x300, Flag.DZ + 128 * Flag.DZ)] ∧
    (trapping.raise fv Flag.INX true).hub.faults.map (fun q => (q.code, q.cause)) = [(0x300, Flag.INX + 2 ^ 14)] ∧
    (trapping.raise fv Flag.INX false).hub.faults = [] := by decide +kernel

/-- Controls: true, false and poisoned. -/
def ft : Firing := fired (some (num 6 1)) (some (num 6 7)) (some (num 6 8))
def fz : Firing := fired (some (num 6 0)) (some (num 6 0)) (some (num 6 8))
def fpz : Firing := fired (some { num 6 1 with pmask := 1 }) (some { num 6 1 with pmask := 1 }) (some (num 6 8))
theorem witness_Steering : Latched (on ft) ft ∧ (ft.opB.poisoned 0 = false ∧ ft.opB.lane 0 ≠ 0) ∧ (fz.opB.poisoned 0 = false ∧ fz.opB.lane 0 = 0) ∧
    fpz.opB.poisoned 0 = true ∧ (ft.opB.gl2 = ft.opC.gl2 ∧ ft.opB.cl2 = ft.opC.cl2) ∧ ft.a.isSome ∧ (fired none (some (num 6 6)) none).a = none := by
  refine ⟨⟨rfl, rfl⟩, ?_⟩; decide +kernel
theorem witness_steering_sends : exec (.steer both) (on fz) = .next ((on fz).emit fz [(both.db, forwarded fz fz.opA 0)]) ∧
    Sends (.steer both) (on fpz) fpz both (allPoisoned (forwarded fpz fpz.opA 0)) ∧
    Sends (.select both) (on fpz) fpz both { allPoisoned (forwarded fpz fpz.opB 0) with pay := 0 } ∧
    Sends (.select both) (on fz) fz both (forwarded fz fz.opC 0) :=
  ⟨isNext (by decide +kernel), isNext (by decide +kernel), isNext (by decide +kernel), isNext (by decide +kernel)⟩

/-- Frame entries: the root and frame 1, entry 2 free; a table with none free; and a frame with one iteration. -/
def fl : Firing := fired (some (num 6 11)) none none
def frames2 : State := on fl (running { frames := [(0, {}), (1, { n := 2, parent := some 0, retlink := some 0xC00000, occ := 1 })] })
def fi : Firing := fired (some (num 6 0x100)) none none 0 0x100
/-- The request of a firing at the owner of its frame: message 9, of the wait entry 3. -/
def reqAt (i : Instr) (f : Firing) (s : State) : State := ({ s with
  netMsgs := s.netMsgs ++ [{ id := 9, vc := 3, src := 0, srcUnit := 0, dst := 0, dstUnit := 64, pay := .frameReq 0 3 }] } : State).modCtx 0
    (fun x => { x with pend := x.pend ++ [⟨3, f, i, .request none, 0⟩] })
theorem witness_FrameAllocation : Latched frames2 fl ∧ Owned frames2 fl (frameTag 0 0 0) ∧ Owned (on fi frames2) fi fi.tag ∧
    Taken (reqAt (.loopin 2 both) fl frames2) 9 { id := 9, vc := 3, src := 0, srcUnit := 0, dst := 0, dstUnit := 64, pay := .frameReq 0 3 } ∧
    (reqAt (.loopin 2 both) fl frames2).pend 0 3 = some ⟨3, fl, .loopin 2 both, .request none, 0⟩ ∧
    ¬ Owned (on { fi with tag := 0x80000000 } frames2) { fi with tag := 0x80000000 } 0x80000000 ∧ LowestFree frames2 0 2 ∧ NoFrameWait frames2 0 ∧
    (on fi frames2).frame fi.tag = some { n := 2, parent := some 0, retlink := some 0xC00000, occ := 1 } ∧
    fi.opA.poisoned 0 = false ∧ ((on fi frames2).frame fi.tag).isSome ∧ frames2.frame 0x300 = none := by
  refine ⟨⟨rfl, rfl⟩, ?_⟩; unfold Owned Taken LowestFree NoFrameWait; decide +kernel
/-- A frame table with no free entry. -/
def full : State := running { frames := (List.range 1024).map (fun k => (k, {})) }
theorem find_listed (l : List Nat) (k : Nat) (h : k ∈ l) : (Tbl.find (l.map (fun k => (k, ({} : Frame)))) k).isSome := by
  induction l with
  | nil => cases h
  | cons x l ih =>
    simp only [List.map, Tbl.find]
    split
    · rfl
    · exact ih ((List.mem_cons.mp h).resolve_left ‹_›)
theorem witness_full_table : ∀ slot < 1024, ((full.ctx 0).frames.find slot).isSome :=
  fun slot h => find_listed _ slot (List.mem_range.mpr h)
/-- The owner's unit has ended before the request comes. -/
def strayReq : State := (reqAt (.loopin 2 both) fl frames2).modCl 0 (fun x => { x with slot := some 2 })
def strayMsg : Msg := { id := 9, vc := 3, src := 0, srcUnit := 0, dst := 0, dstUnit := 64, slot := some 1, pay := .frameReq 0 3 }
theorem witness_stray : let s : State := { strayReq with netMsgs := [strayMsg] }
    s.netMsgs.find? (·.id == 9) = some strayMsg ∧ s.arrived strayMsg = true ∧ s.stray strayMsg = true ∧
    s.pend 0 3 = some ⟨3, fl, .loopin 2 both, .request none, 0⟩ ∧
    exec (.tagOpApply 9) s = .next (((s.dropMsg 9).pendDel 0 3).endUnit 0x200 0 0 0 3 0 0) :=
  ⟨by decide +kernel, by decide +kernel, by decide +kernel, by decide +kernel, isNext (by decide +kernel)⟩
theorem witness_frames :
    exec (.loopin 2 both) frames2 = .next (asked frames2 fl (.loopin 2 both) 0) ∧
    exec (.tagOpApply 9) (reqAt (.call 2 both) fl frames2) = .next ((withFrame frames2 fl 2 3 (some both.db.toBits)).emit fl
      [(both.da, forwarded fl fl.opA (frameTag 0 2 0))]) ∧
    exec (.tagOpApply 9) (reqAt (.iend r) fi frames2) = .next ((frames2.setFrame 0x100 { n := 2, parent := some 0, retlink := some 0xC00000, occ := 0 }).freeFrame 0x100) ∧
    exec (.tagOpApply 9) (reqAt (.ret_ r) fi frames2) = .next (frames2.emit fi [(.ret, forwarded fi fi.opA 0x100)]) ∧
    exec (.tagOpApply 9) (reqAt (.tfree r) fi frames2) = .next ((frames2.freeFrame 0x100).emitBoth fi r (forwarded fi fi.opA 0x100)) ∧
    exec (.loopout r) (on { fi with tag := 0x80000000 } frames2) =
      .next ((on { fi with tag := 0x80000000 } frames2).endUnit 0x200 0 0 0 3 0x80000000 0) :=
  ⟨isNext (by decide +kernel), isNext (by decide +kernel), isNext (by decide +kernel), isNext (by decide +kernel), isNext (by decide +kernel),
    isNext (by decide +kernel)⟩

/-- Messages: one of each payload a clause needs, arrived for a unit that runs. -/
def msg (pay : MsgPay) (vc : Nat := 2) : Msg := { id := 9, vc := vc, src := 0, srcUnit := 0, dst := 0, dstUnit := 64, slot := some 0, pay := pay }
def sent (pay : MsgPay) (x : Ctx := {}) (vc : Nat := 2) : State := { mapped [] x with
  netMsgs := [msg pay vc]
  cls := [(0, { (mapped [] x).cl 0 with ctx := { x with frames := [(0, {}), (1, { n := 2, parent := some 0, occ := 1 })] } })] }
def tok (tag : Tag) : Token := { num 6 5 with tag := tag, aux := 1 }
def place : Place := .node 0 2 6 .a
theorem witness_TagsAndWaves : Latched (on ft) ft ∧ ft.opB.poisoned 0 = false ∧ (BitVec.ofNat 32 (ft.opB.lane 0)).toNat / 2 ^ 29 < 4 ∧
    4 ≤ (BitVec.ofNat 32 ((fired (some (num 6 1)) (some (num 5 0x80000000)) none).opB.lane 0)).toNat / 2 ^ 29 ∧
    Taken (sent (.waveMark 0 33 0x100)) 9 (msg (.waveMark 0 33 0x100)) ∧
    Taken (sent (.token place 1 (tok 0x100))) 9 (msg (.token place 1 (tok 0x100))) ∧
    (sent (.token place 1 (tok 0x100))).frame (tok 0x100).tag = some { n := 2, parent := some 0, occ := 1 } ∧
    (sent (.token place 1 (tok 0x100))).grantDue 0x100 { n := 2, parent := some 0, occ := 1 } = false ∧
    Taken (sent (.token place 3 (tok 0x100))) 9 (msg (.token place 3 (tok 0x100))) ∧
    (sent (.token place 3 (tok 0x100))).frame (auxTag (tok 0x100).aux) = some { n := 2, parent := some 0, occ := 1 } ∧
    (sent (.token place 1 (tok 0x300))).frame 0x300 = none := by
  refine ⟨⟨rfl, rfl⟩, ?_⟩; unfold Taken; decide +kernel
def held1 : State := sent (.token place 1 (tok 0x100))
theorem witness_tag_ops : exec (.tagOpApply 9) held1 = .next (((held1.dropMsg 9).setFrame 0x100 { n := 2, parent := some 0, occ := 3, newest := 1 }).send 2 0 64 0 2
      (.token place 0 { tok 0x100 with tag := 0x101, aux := 0 })) ∧
    exec (.tagOpApply 9) (sent (.token place 2 (tok 0x100))) = .next (((sent (.token place 2 (tok 0x100))).dropMsg 9).send 2 0 64 0 2
      (.token place 0 { tok 0x100 with tag := 0, aux := 0 })) ∧
    exec (.tagOpApply 9) (sent (.token place 3 (tok 0x100))) = .next (((sent (.token place 3 (tok 0x100))).dropMsg 9).send 2 0 64 0 2
      (.token place 0 { tok 0x100 with tag := 0x100, aux := 0 })) ∧
    exec (.tagOpApply 9) (sent (.token place 2 (tok 0x300))) = .next (((sent (.token place 2 (tok 0x300))).dropMsg 9).endUnit 0x200 0 0 0 3 0x300 0) :=
  ⟨isNext (by decide +kernel), isNext (by decide +kernel), isNext (by decide +kernel), isNext (by decide +kernel)⟩

/-- Launch points: a barrier of one arrival that has come, a trigger, and a pre-emption asked for. -/
def bl : BarrLit := { arrm1 := 0, part := false, id := 3 }
def recordBits96 (i : Instr) : BitVec 96 := match encode i with | .node w => w | _ => 0
def withNode (n : Nat) (i : Instr) (s : State) : State :=
  s.modCl 0 (fun x => { x with forme := { x.forme with nodes := x.forme.nodes.put n (recordBits96 i) } })
def barred : State := mapped [] { barriers := [(3, { counts := [(0, 1)] })], pend := [⟨3, fl, .barr bl r, .barr 3 0, 0⟩] }
theorem witness_LaunchPoints : Latched (on fl) fl ∧ ((barred.ctx 0).barrLit 3 = some bl ∧ (0 + 1) * (bl.arrm1.toNat + 1) ≤ 1) ∧ (on fl mapped).idleAction fl = false ∧
    ((on fl mapped).ctx 0).trigFired = false ∧ ((on fl mapped).ctx 0).skips = false ∧ ((on fl mapped).ctx 0).exitVal = none ∧
    ((on fl (mapped [] { exitVal := some 4 })).ctx 0).exitVal = some 4 ∧ ((on fl (mapped [] { skip0 := [(3, 4)] })).ctx 0).skips = true ∧
    ((on fl mapped).cl 0).preReq = false := by
  refine ⟨⟨rfl, rfl⟩, ?_⟩; decide +kernel
theorem witness_launch_points :
    exec (.barrGenerationComplete 0 3) barred = .next ((barred.modCtx 0 (fun x => { x with
      barriers := x.barriers.put 3 { counts := [(0, 1)], gen := 1 } })).barrRelease 0 3 0) ∧
    exec (.trigger r) (on fl mapped) = .next ((((((on fl mapped).modCtx 0 (fun x => { x with trigFired := true })).release 0).countTrigger 0).pendNew fl (.trigger r)
      (.trigger (some { gal := 0, pos := 0 })))) ∧
    exec (.done r) (on fl (mapped [] { exitVal := some 4 })) = .next (after (.done r) (on fl (mapped [] { exitVal := some 4 }))) ∧
    ((after (.done r) (on fl (mapped [] { exitVal := some 4 }))).ctx 0).exitVal = some 4 :=
  ⟨isNext (by decide +kernel), isNext (by decide +kernel), goesOn (by decide +kernel), by decide +kernel⟩

/-- A match of port b that waits; a token of a stream port; entries in the table, in the overflow store and aged. -/
def spilled : MEntry := { seq := 4, fir := fired (some (num 6 1)) none none 2, inTable := false, age := 1024 }
theorem witness_Matching :
    (LowestFree (frames2.pendNew fl (.talloc 2 both) .frame) 0 2 ∧
      ((frames2.pendNew fl (.talloc 2 both) .frame).ctx 0).pend.find? (fun p => p.why == .frame) = some ⟨0, fl, .talloc 2 both, .frame, 0⟩) ∧
    ((running { frames := [(1, { n := 2, occ := 1, pend := 1 })], held := [⟨0, 1, 1, place, tok 0x100⟩] }).frame (frameTag 0 1 1) =
      some { n := 2, occ := 1, pend := 1 }) ∧
    (Taken (sent (.token place 0 (tok 0x100))) 9 (msg (.token place 0 (tok 0x100))) ∧ ((sent (.token place 0 (tok 0x100))).ctx 0).matches_ = []) ∧
    Taken (sent (.token (.stream 0 7) 0 (tok 0))) 9 (msg (.token (.stream 0 7) 0 (tok 0))) ∧
    ((mapped [] { matches_ := [spilled] }).ctx 0).tableUsed 2 < tableSize 2 ∧ ((mapped [] { matches_ := [spilled] }).cl 0).refill 2 = some spilled ∧
    ((mapped [] { matches_ := [spilled] }).ctx 0).matches_.find? (fun x => x.seq == 4) = some spilled ∧ 1024 ≤ spilled.age ∧ spilled.promoted = false := by
  unfold LowestFree Taken; decide +kernel
theorem witness_match_dup : let s : State := sent (.token place 0 (tok 0x100)) { acts := [{ list0 with fir := { list0.fir with unit := 2, node := 6, tag := 0x100 } }] }
    Taken s 9 (msg (.token place 0 (tok 0x100))) ∧ (s.cl 0).inReplay 2 = false ∧
    exec (.tokenArrive 9) s = .next ((s.endUnit 0x202 0 2 6 0 0x100 0).dropMsg 9) :=
  ⟨by unfold Taken; decide +kernel, by decide +kernel, isNext (by decide +kernel)⟩
theorem witness_matching_steps :
    exec (.frameAllocWake 0 0) (frames2.pendNew fl (.talloc 2 both) .frame) =
      .next (((frames2.pendNew fl (.talloc 2 both) .frame).pendDel 0 0).allocate fl .talloc 2 both 2) ∧
    exec (.overflowRefill 0 2) (mapped [] { matches_ := [spilled] }) = .next ((mapped [] { matches_ := [spilled] }).modCtx 0 (fun x => { x with
      matches_ := [{ spilled with inTable := true }] })) ∧
    ((after (.tokenArrive 9) (sent (.token place 0 (tok 0x100)))).ctx 0).matches_ = [{
      seq := 0, fir := ({ cl := 0, unit := 2, node := 6, tag := 0x100, seq := 0 } : Firing).setPort .a (tok 0x100) }] ∧
    (((after (.tokenArrive 9) (sent (.token (.stream 0 7) 0 (tok 0)))).ctx 0).port 7).queue = [{ tok := tok 0 }] :=
  ⟨isNext (by decide +kernel), isNext (by decide +kernel), by decide +kernel, by decide +kernel⟩

/-- Step lists: the data token as a count, an innermost loop at its last step, and links of a chain. -/
def countTok : Activation := { list0 with fir := fired (some (num 6 3)) none none }
theorem witness_StepLists : Stepping (stepping list0) 0 list0 ∧ list0.loops = [] ∧ (fired (some (num 6 3)) none none).opA.pay % 2 ^ 32 ≠ 0 ∧
    list0.mxseq = false ∧ ({ list0 with mxseq := true } : Activation).mxseq = true ∧ ((0 : BitVec 16).toNat = 0) := ⟨rfl, rfl, by decide, rfl, rfl, rfl⟩
theorem witness_step_entries :
    exec (.stepLoop 2 1 true 0) (stepping countTok) = .next ((stepping countTok).putAct 0 { setX countTok 1 0 with idx := 1, loops := [(0, 2, 1, 3)] }) ∧
    exec (.stepLoop 2 1 false 0) (stepping list0) = .next (((stepping list0).endMarker 0 (setX list0 1 0) 0 2).putAct 0 { setX list0 1 0 with idx := 3, loops := [] }) ∧
    exec .stepDone (stepping list0) = .next ((stepping list0).modCtx 0 (fun y => { y with acts := [] })) ∧
    exec (.stepEmit true 0 2 0 0) (stepping list0) = .next (((stepping list0).emit list0.fir [(r.db, list0.fir.stamp { tag := 0, gl2 := 0, cl2 := 6 })]).stepOn 0 list0) ∧
    (stepping { list0 with idx := 2, loops := [(0, 2, 1, 1)] }).stepOn 0 { list0 with idx := 2, loops := [(0, 2, 1, 1)] } =
      ((stepping { list0 with idx := 2, loops := [(0, 2, 1, 1)] }).emit list0.fir [(r.da, { newScalar list0.fir 6 0 with eod := 1 })]).putAct 0
        { setX { list0 with idx := 2 } 1 1 with idx := 3, loops := [] } :=
  ⟨isNext (by decide +kernel), isNext (by decide +kernel), isNext (by decide +kernel), isNext (by decide +kernel), by decide +kernel⟩

/-- 12 R271: `ABSS` at node 40, `ADDS.s #10` at node 41, on −5 in an 8-bit lane; and a link that ends its unit. -/
def fch : Firing := fired (some (num 3 0xFB)) none none
def links : State := on fch (withNode 40 (.abss sinks) (withNode 41 (.adds true (.lit 10) sinks) (withNode 42 (.pcvt true sinks) mapped)))
def ch1 : ChainLit := { node2 := 0, node1 := 0, node0 := 40, cntm1 := 0 }
def linked : Firing := { fch with node := 40, a := some (num 3 0xFB), b := none, c := none, t := none }
theorem witness_LinksAndLists : Latched links fch ∧ ch1.cntm1 = 0 ∧ (links.cl 0).instr 0 40 = some (.abss sinks) ∧
    (∃ g m t, Machine.computes (.abss sinks) = some g ∧ g (links.peOf linked) linked = .made m ∧ m.toA = [t]) ∧
    (∃ g code cause, Machine.computes (.pcvt true sinks) = some g ∧ g (links.peOf linked) { linked with a := some (num 6 4) } = .ends code cause) :=
  ⟨⟨rfl, rfl⟩, rfl, by decide +kernel, ⟨_, _, _, rfl, rfl, rfl⟩, ⟨_, _, _, rfl, rfl⟩⟩
theorem witness_chain : gives (.chain { ch1 with node1 := 41, cntm1 := 1 } r) links = ([15], 0) ∧ gives (.chain ch1 r) links = ([5], 0) := by decide +kernel

/-- A dimension's first and second member, of integers and of floats. -/
def fd0 : Firing := fired (some (lanes 1 5 [3, 4])) none none
def fd1 : Firing := fired (some { lanes 1 5 [0x3F800000, 0x40000000] with eod := 1 }) none none
def four (l : List (List Nat)) (k : Nat) : State := mapped [] { seqs := [{ node := 1, unit := 0, frame := 0, count := 4, k := k, shape := some (1, 5), parts := l }] }
theorem witness_Reductions : Latched (on fd0 mapped) fd0 ∧
    (∃ e, Member (on fd0 mapped) fd0 .sgn e ∧ nth e.parts (e.k % 4) = none) ∧
    (∃ e, Member (on fd1 (four [] 0)) fd1 (.flt .rne .f32) e ∧ e.parts = [] ∧ e.k % 4 = 0) ∧
    (∃ e p, Member (on fd0 (four [[0, 0]] 4)) fd0 (.flt .rne .f32) e ∧ nth e.parts (e.k % 4) = some p) ∧
    (∃ e, Member (on fd1 (four [[0, 0], [1, 1], [0, 0], [0, 0]] 4)) fd1 (.flt .rne .f32) e ∧ e.parts = [[0, 0], [1, 1], [0, 0], [0, 0]]) ∧
    ((on fd1 mapped).peOf fd1).xen = 0 ∧ fd0.opA.gl2 ≤ 3 ∧ tagCluster (0x00200000 : Tag) ≠ 0 :=
  ⟨⟨rfl, rfl⟩, ⟨_, ⟨_, rfl, rfl, trivial, rfl⟩, rfl⟩, ⟨_, ⟨_, rfl, rfl, rfl, rfl⟩, rfl, rfl⟩,
   ⟨_, _, ⟨_, rfl, rfl, rfl, rfl⟩, rfl⟩, ⟨_, ⟨_, rfl, rfl, rfl, rfl⟩, rfl⟩, by decide +kernel, by decide +kernel, by decide +kernel⟩
theorem witness_sums : gives (.red (.flt .rne .f32) r) (on fd1 (four [[0, 0x3F800000], [0x3F800000, 0], [0, 0], [0, 0]] 4)) = ([0x4040000040000000], 0) ∧
    gives (.scan .uns r) (on fd0 (four [[10, 20]] 1)) = ([24 * 2 ^ 32 + 13], 0) ∧ Ends (.red .sgn r) (on { fd0 with tag := 0x200000 } mapped) { fd0 with tag := 0x200000 } 0x201 0 :=
  ⟨by decide +kernel, by decide +kernel, isNext (by decide +kernel)⟩

/-! Addresses below 2^33 bits are page 0 of the mapped space: the same physical bits. -/

def fptr (p : Nat) (b : Token) (u : Nat := 32) : Firing := fired (some (num 6 p)) (some b) none u
theorem pointer (p : Nat) (b : Token) (u : Nat) (h : (num 6 p).poisoned 0 = false ∧ (num 6 p).lane 0 = p) : Pointer (fptr p b u) p :=
  ⟨_, rfl, rfl, rfl, h⟩

def forked : Firing := fired (some (lanes 2 6 [1, 2, 3, 4])) (some (lanes 2 6 [0, 0, 0, 0])) none
def el : EntryLit := { entry := 0x0C280, ngm1 := 0, nm1 := 3 }
def rec0 : TaskRec := recordOf el forked.opA 0 { gal := 0, pos := 0 }
def parked1 : State := mapped [] { ready := 8, parked := [⟨3, rec0, .tag, 3, 0⟩] }
theorem witness_Continuations : Acts (on forked mapped) forked ∧ forked.opB.poisoned 0 = false ∧ ((.tag : ParkKind) = .tl ∨ ParkKind.tag = .net → forked.opB.gl2 ≠ 0 → forked.opB.poisoned 1 = false) ∧
    ({ lanes 2 6 [0, 0, 0, 0] with pmask := 1 } : Token).poisoned 0 = true ∧
    forked.opB.pmask = 0 ∧ (on { forked with tag := 0x300 } mapped).frame 0x300 = none ∧
    ((parked1.ctx 0).parked.find? (fun x => x.id == 3) = some ⟨3, rec0, .tag, 3, 0⟩ ∧ (parked1.parkHolds 0 ⟨3, rec0, .tag, 3, 0⟩).isSome ∧
      (parked1.cl 0).stopped = false ∧ (parked1.ctx 0).deque.length < 1088) ∧
    (Pointer (fptr 0x400040 (num 6 0)) 0x400040 ∧ Reaches (on (fptr 0x400040 (num 6 0)) mapped) 0 .read 0x400040 1152 [(0x400040, 1152, false)]) ∧
    (Pointer (fptr 0x800 (num 6 0)) 0x800 ∧ Reaches (on (fptr 0x800 (num 6 0)) mapped) 0 .atomic 0x800 64 [(0x800, 64, false)]) ∧ 0x400040 % 2048 ≠ 0 :=
  ⟨⟨rfl, by decide +kernel⟩, rfl, by decide +kernel, rfl, rfl, by decide +kernel, by decide +kernel,
   ⟨pointer _ _ _ (by decide +kernel), by unfold Reaches; decide +kernel⟩, ⟨pointer _ _ _ (by decide +kernel), by unfold Reaches; decide +kernel⟩, by decide⟩
/-- A FORK with a poisoned handle, a record that a RESUME has asked for, and a deque of 64 records. -/
def forkBad : Firing := fired (some (lanes 2 6 [1, 2, 3, 4])) (some { num 5 0 with pmask := 1 }) none
def recAsked : State := mapped [] { pend := [⟨3, fptr 0x400040 (num 6 0), .resume r, .recread 0 0x400040 false, 0⟩] }
theorem witness_resumption : forkBad.opB.poisoned 0 = true ∧ Acts (on forkBad mapped) forkBad ∧
    (on forked mapped).parkCause 0 .tag 3 0 = none ∧ mapped.parkHolds 0 ⟨3, rec0, .tag, 3, 0⟩ = none ∧
    (mapped.frame 0x0 = some { n := 1 }) ∧ recAsked.xlat 0 .read 0x400040 1152 = .ok [(0x400040, 1152, false)] ∧
    (recAsked.fetchLines 0 8195 2 (linesOf [(0x400040, 1152, false)])).1 = false ∧
    (let s := (recAsked.fetchLines 0 8195 2 (linesOf [(0x400040, 1152, false)])).2
     (s.cl 0).lines.map (fun (q : LineReq) => q.line) = [0x800]) ∧
    nth (List.replicate 64 rec0) 63 = some rec0 := by unfold Acts; decide +kernel
theorem witness_resume_steps : Ends (.fork el r) (on forkBad mapped) forkBad 0x106 0 ∧ Ends (.park .tag el r) (on forkBad mapped) forkBad 0x106 0 ∧
    ((after (.park .tag el r) (on forked mapped)).ctx 0).parked.map (fun p => (p.value, p.rec_.nm1)) = [(0, 3)] :=
  ⟨isNext (by decide +kernel), isNext (by decide +kernel), by decide +kernel⟩
theorem witness_tasks : exec (.fork el r) (on forked mapped) = .next ((((on forked mapped).release 0).push 0
      (recordOf el forked.opA 0 { gal := 0, pos := 0 })).emitBoth forked r (newScalar forked 5 0)) ∧
    exec (.resume r) (on (fptr 0x400040 (num 6 0)) mapped) = .next ((on (fptr 0x400040 (num 6 0)) mapped).pendNew (fptr 0x400040 (num 6 0)) (.resume r) (.recread 0 0x400040 false)) ∧
    exec (.join r) (on (fptr 0x800 (num 6 0)) mapped) = .next (((on (fptr 0x800 (num 6 0)) mapped).releasePkg 0).pendAsk (fptr 0x800 (num 6 0)) (.join r) (.join 0 0x800 0x800 none) 0x800) ∧
    ((after (.parkWake 0 3) parked1).ctx 0).deque.length = 1 ∧ ((after (.parkWake 0 3) parked1).ctx 0).parked = [] ∧
    Ends (.join r) (on (fptr 0x400040 (num 6 0)) mapped) (fptr 0x400040 (num 6 0)) 0x101 0 :=
  ⟨isNext (by decide +kernel), isNext (by decide +kernel), isNext (by decide +kernel), by decide +kernel, by decide +kernel, isNext (by decide +kernel)⟩

/-- A record on the deque, a freed frame's join, and two clusters of one launch. -/
def tasks : State := mapped [] { deque := [rec0] }
def joined1 : State := mapped [] { joins := [0x800] }
def pair (x y : Ctx) (m : List Msg := []) : State := { mapped with
  hub := { State.reset.hub with slots := [(0, { slot0 with clusters := [0, 1] })] }
  netMsgs := m
  cls := [(0, { (mapped).cl 0 with ctx := x }), (1, { (mapped).cl 0 with ctx := y })] }
def stealMsg : Msg := { id := 9, vc := 3, src := 0, srcUnit := 37, dst := 1, dstUnit := 37, slot := some 0, pay := .steal 0 1 }
/-- The resumption's request has reached the owner. -/
def taskFir : Firing := { cl := 0, unit := 37, tag := 0 }
def resumes : State := sent (.frameReq 0 3) { resuming := some rec0, pend := [⟨3, taskFir, .taskResume 0, .request none, 0⟩] } 3
theorem witness_TaskUnit : (LowestFree tasks 0 1 ∧ NoFrameWait tasks 0 ∧ (tasks.cl 0).stopped = false ∧ (tasks.ctx 0).resuming = none ∧ (tasks.ctx 0).activeTasks < 8 ∧
      tasks.resumeAcquires 0 rec0 = []) ∧
    (Taken resumes 9 (msg (.frameReq 0 3) 3) ∧ resumes.pend 0 3 = some ⟨3, taskFir, .taskResume 0, .request none, 0⟩ ∧
      (resumes.ctx 0).resuming = some rec0 ∧ LowestFree resumes 0 2 ∧ NoFrameWait resumes 0 ∧ rec0.ngm1 = 0) ∧
    ((joined1.ctx 0).joins = [0x800] ∧ (joined1.cl 0).stopped = false ∧ Reaches joined1 0 .atomic 0x800 64 [(0x800, 64, false)]) ∧
    (((pair {} {}).cl 0).stat = .running ∧ ((pair {} {}).cl 0).stopped = false ∧ ((pair {} {}).ctx 0).deque = [] ∧ ((pair {} {}).ctx 0).activeTasks < 8 ∧
      ((pair {} {}).ctx 0).resuming = none ∧ ((pair {} {}).ctx 0).stealing = false ∧ (pair {} {}).successor 0 ≠ 0) ∧
    ((pair {} { deque := [rec0] } [stealMsg]).netMsgs.find? (fun m => match m.pay with | .steal _ v => v == 1 && (pair {} { deque := [rec0] } [stealMsg]).arrived m | _ => false) =
      some stealMsg ∧ ((pair {} { deque := [rec0] } [stealMsg]).ctx 1).deque.getLast? = some rec0 ∧
      (pair {} { deque := [rec0] } [stealMsg]).mayResume 1 = true ∧ (pair {} { deque := [rec0], resuming := some rec0 } [stealMsg]).mayResume 1 = false) := by
  unfold LowestFree NoFrameWait Reaches Taken; decide +kernel
theorem witness_task_steps :
    exec (.taskResume 0) tasks = .next (asked (tasks.modCtx 0 (fun x => { x with deque := [], resuming := some rec0 })) taskFir (.taskResume 0) 0) ∧
    exec (.tagOpApply 9) resumes = .next ((((resumes.dropMsg 9).pendDel 0 3).modCtx 0 (fun x => { x with
      resuming := none, frames := x.frames.put 2 { n := 4, parent := some 0, resumed := true, occ := 1 }, allocCtr := 1, framesHigh := 3 })).sendGroup 0 2 rec0 0) ∧
    exec (.stealRequest 0) (pair {} {}) = .next (((pair {} {}).modCtx 0 (fun x => { x with stealing := true })).send 3 0 37 1 37 (.steal 0 1)) ∧
    ((after (.stealServe 1) (pair {} { deque := [rec0, rec0] } [stealMsg])).ctx 0).deque = [rec0] ∧
    exec (.stealServe 1) (pair {} { deque := [rec0] } [stealMsg]) = .next (pair {} { deque := [rec0] } [stealMsg]) ∧
    ((after (.frameJoin 0) joined1).ctx 0).pend.map (fun (p : Pend) => (p.fir.unit, p.why)) = [(37, .join 0 0x800 0x800 none)] :=
  ⟨isNext (by decide +kernel), isNext (by decide +kernel), isNext (by decide +kernel), by decide +kernel, isNext (by decide +kernel), by decide +kernel⟩

/-- Loads: from the A-buffer, from process memory, a piece that has come, and a fill. -/
def fa : Firing := fptr (abufPtr 64) (num 5 7)
def fg : Firing := fptr 0x400FA0 (num 6 5) 34
def arrived1 : State := mapped [] { pend := [⟨3, fg, .ld false 31 noWave r, .load 32 1 false 0 false [⟨0x400FA0, 32, false, some (77, false)⟩], 0⟩] }
/-- A load that waits for its galley, and one whose bank has answered. -/
def lateLoad : State := (mapped [] { pend := [⟨3, fg, .ld false 31 noWave r, .load 32 1 false 1025 true [⟨0x400FA0, 32, false, none⟩], 0⟩] }).modCl 0 (fun x => { x with
  gal := { x.gal with a := 1026, ents := [{ pos := 1 }] } })
def laterLoad : State := lateLoad.modCl 0 (fun x => { x with gal := { x.gal with ents := [{ pos := 0 }] } })
def servedLoad : State := mapped [] { pend := [⟨3, fa, .ld false 31 noWave r, .served 0x55, 0⟩] }
def filling : State := mapped.modCl 0 (fun x => { x with fills := [{ line := 0x801 }] })
/-- Every line request that the prefetching units may make is under way. -/
def crowded : State := (on fg mapped).modCl 0 (fun x => { x with lines := (List.range 96).map (fun k => { holder := holderOf 34, agent := k, line := 8 + k }) })
theorem witness_Loads : Acts (on fa mapped) fa ∧ Pointer fa (abufPtr 64) ∧ moved (abufPtr 64) 0 = Claims.abufPtr 64 ∧ 64 + 32 * 2 ^ 3 ≤ 2 ^ 23 ∧
    Acts (on fg mapped) fg ∧ Pointer fg 0x400FA0 ∧ Reaches (on fg mapped) 0 .read (moved 0x400FA0 64) 32 [(0x400FE0, 32, false)] ∧
    (on fg mapped).loadRoom 0 (holderOf 34) (loadPieces [(0x400FE0, 32, false)]) = true ∧ ((on fg mapped).cl 0).lineRooms (holderOf 34) 1 = true ∧ (crowded.cl 0).lineRooms (holderOf 34) 1 = false ∧
    (lateLoad.loadRoom 0 (holderOf 34) [⟨0x400FA0, 32, false, none⟩] = true ∧ 1025 ≤ (lateLoad.gal 0).d + 1024 ∧ (laterLoad.gal 0).d + 1024 < 1025 ∧
      lateLoad.waveFree fg (.ld false 31 noWave r) = true) ∧ (servedLoad.pend 0 3).isSome ∧
    (on (fptr (7 * 2 ^ 60 + 64) (num 6 0)) mapped).check 0 [0, 1, 7, 6] .read (7 * 2 ^ 60 + 64) 32 false = .ok 7 64 ∧ Reaches (on fg mapped) 0 .read 0x400FA0 1 [(0x400FA0, 1, false)] ∧
    (arrived1.pend 0 3).isSome ∧ (filling.cl 0).vcBusy = false ∧ filling.exchange 0 100 0x801 = .idle :=
  ⟨⟨rfl, by decide +kernel⟩, pointer _ _ _ (by decide +kernel), by decide +kernel, by decide, ⟨rfl, by decide +kernel⟩, pointer _ _ _ (by decide +kernel),
   by unfold Reaches; decide +kernel, by decide +kernel, by decide +kernel, by decide +kernel, by decide +kernel, by decide +kernel, by decide +kernel,
   by unfold Reaches; decide +kernel, by decide +kernel, by decide +kernel, by decide +kernel⟩
theorem witness_bank_loads : exec (.ldx false 31 0 r) (on fa mapped) = .next (banked (on fa mapped) fa (.ldx false 31 0 r) 64 32 none) ∧
    gives (.loadDataReturn 0 3) servedLoad = ([0x55], 0) ∧
    ((after (.loadDataReturn 0 3) lateLoad).ctx 0).pend.map (fun (p : Pend) => p.why) = [.load 32 1 false 1026 false [⟨0x400FA0, 32, false, none⟩]] :=
  ⟨isNext (by decide +kernel), by decide +kernel, by decide +kernel⟩
theorem witness_load_steps :
    exec (.ldx false 31 64 r) (on fg mapped) = .next (after (.ldx false 31 64 r) (on fg mapped)) ∧
    ((after (.ldx false 31 64 r) (on fg mapped)).ctx 0).pend.map (fun (p : Pend) => p.why) = [.load 32 1 false 0 false [⟨0x400FE0, 32, false, none⟩]] ∧
    gives (.loadDataReturn 0 3) arrived1 = ([77], 0) ∧
    ((after (.viewCacheFill 0 0x801) filling).cl 0).vc.has 0x801 = true ∧ ((after (.pref r) (on fg mapped)).cl 0).fills.map (fun (g : Fill) => g.line) = [0x801] :=
  ⟨goesOn (by decide +kernel), by decide +kernel, by decide +kernel, by decide +kernel, by decide +kernel⟩

/-- Stores: operands, pieces, a space that no store reaches, and a held append. -/
def heldApp : State := mapped [] { pend := [⟨3, fg, .st 31 noWave r, .append [(0x400FA0, 32, 5, false)] 0 4, 0⟩] }
theorem witness_Stores : Claims.Stores fg false 32 ∧ Claims.Stores (fptr 0 (lanes 5 3 [1])) true 8 ∧ Pointer fg 0x400FA0 ∧
    Reaches (on fg mapped) 0 .write 0x400FA0 32 [(0x400FA0, 32, false)] ∧ 0x400FA0 % 512 + 32 ≤ 512 ∧ ((on fg mapped).cl 0).gal.a - ((on fg mapped).cl 0).gal.d < 209715 ∧
    moved (15 * 2 ^ 60) 0 / 2 ^ 60 = 0xF ∧ (heldApp.mayAppend 0 0 1 = true ∧ heldApp.waveFree fg (.st 31 noWave r) = true) ∧
    ((heldApp.modCl 0 (fun x => { x with gal := { x.gal with a := 209715, ents := [{ pos := 0 }] } })).mayAppend 0 0 1 = false) ∧ mapped.mem.wf = true :=
  ⟨⟨_, rfl, by decide +kernel, by decide +kernel⟩, ⟨_, rfl, by decide +kernel, by decide +kernel⟩, pointer _ _ _ (by decide +kernel),
   by unfold Reaches; decide +kernel, by decide, by decide +kernel, by decide +kernel, by decide +kernel, by decide +kernel, by decide +kernel⟩
/-- The entry of that store. -/
def stored32 : GEnt := { pos := 0, source := 4, pba := 0x400FA0, len := 32, data := 5 }
theorem witness_store_steps :
    exec (.st 31 noWave r) (on fg mapped) = .next ((waveOn ((on fg mapped).append1 0 stored32) fg (.st 31 noWave r)).emitBoth fg r
      (forwarded fg fg.opA 0)) ∧
    exec (.st 31 noWave r) (on (fptr (15 * 2 ^ 60) (num 5 1)) mapped) = .next ((on (fptr (15 * 2 ^ 60) (num 5 1)) mapped).fail (fptr (15 * 2 ^ 60) (num 5 1)) 0x100 0) ∧
    exec (.galleyFullResume 0) heldApp = .next ((((((heldApp.appendAll 0 0 4 0 [(0x400FA0, 32, 5, false)]).waitApp 0 0 false).storeDone fg (.st 31 noWave r)).pendDel
      0 3).waitApp 0 0 false).waitApp 0 1 false) ∧
    exec (.st 31 noWave r) (on fa mapped) = .next (banked (on fa mapped) fa (.st 31 noWave r) 64 32 (some 7)) :=
  ⟨isNext (by decide +kernel), isNext (by decide +kernel), isNext (by decide +kernel), isNext (by decide +kernel)⟩
theorem witness_append : (((mapped.append1 0 stored32).gal 0).a, ((mapped.append1 0 stored32).gal 0).p) = (1, 0) ∧
    (mapped.append1 0 stored32).mem.wf = true := by decide +kernel

/-- Atomics. -/
def fat : Firing := fired (some (num 6 0x8000)) (some (num 6 1)) (some (num 6 2)) 32
def done5 : State := mapped [] { pend := [⟨3, fat, .atom true .add noWave r, .atomic 0 0x8000 0 (some (5, false, 0, false)), 0⟩] }
theorem witness_Atomics : Acts (on fat mapped) fat ∧ fat.opB.poisoned 0 = false ∧ fat.opC.poisoned 0 = false ∧ 64 ≤ 2 ^ fat.opB.cl2 ∧ 64 ≤ 2 ^ fat.opC.cl2 ∧ 0x8000 % 64 = 0 ∧
    Reaches (on fat mapped) 0 .atomic 0x8000 64 [(0x8000, 64, false)] ∧
    (let s := atomicAt (.atom true .add noWave r) (num 6 1) (num 6 0) [(0x1000, 5)]
     (s.pend 0 3).isSome ∧ 0 ≤ (s.gal 0).d ∧ s.exchange 0 101 3 = .idle ∧ s.bitsBad 0x8000 64 = false ∧
     ({ s with poison := [(0x40, 1)] } : State).bitsBad 0x8000 64 = true) ∧
    (done5.exchange 0 101 3 = .idle ∧ done5.waveFree fat (.atom true .add noWave r) = true) :=
  ⟨⟨rfl, by decide +kernel⟩, rfl, rfl, by decide +kernel, by decide +kernel, rfl, by unfold Reaches; decide +kernel, by decide +kernel, by decide +kernel⟩
theorem witness_atomic_steps :
    exec (.acas true noWave r) (on fat mapped) = .next ((on fat mapped).pendAsk fat (.acas true noWave r) (.atomic 0 0x8000 0 none) 0x8000) ∧
    gives (.atomicReturn 0 3) done5 = ([5], 0) ∧
    (let s : State := { atomicAt (.atom true .add noWave r) (num 6 1) (num 6 0) [(0x1000, 5)] with poison := [(0x40, 1)] }
     exec (.atomicHomeExec 0 3) s = .next (s.pendSet 0 3 (.atomic 0 0x8000 0 (some (0, true, 0, false))))) :=
  ⟨isNext (by decide +kernel), by decide +kernel, isNext (by decide +kernel)⟩

/-- Publishing: releases and their scopes, acquires, positions, fences. -/
def acqF : Firing := fired (some (num 6 1)) (some (num 6 0)) none 32
def waiting (i : Instr) (w : Waiting) (f : Firing := acqF) : State := mapped [] { pend := [⟨3, f, i, w, 0⟩] }
theorem witness_Publishing : Acts (on acqF mapped) acqF ∧
    (acqF.opB.cl2 = 6 ∧ acqF.opB.gl2 = acqF.opA.gl2 ∧ acqF.opA.gl2 ≤ 2 ∧ (acqF.opA.pmask ||| acqF.opB.pmask) % 2 ^ 2 ^ acqF.opA.gl2 = 0) ∧
    (∀ e ∈ (on acqF mapped).acqNames 0 acqF.opA acqF.opB, (on acqF mapped).galOk e.1 = true) ∧
    (∀ m ∈ 4 :: mapped.liveDies, 0 ≤ (mapped.mirror m 0).1) ∧ (waiting (.rel .system noWave r) (.rel .system 0)).waveFree acqF (.rel .system noWave r) = true ∧
    ((waiting (.acq noWave r) (.acq [(1, 0)] [] false false)).acqSeen 0 [(1, 0)] = true ∧ (waiting (.acq noWave r) (.acq [] [] false true)).mayAppend 0 6 1 = true ∧
      (waiting (.acq noWave r) (.acq [] [] false true)).waveFree acqF (.acq noWave r) = true ∧
      (waiting (.acq noWave r) (.acq [(1, 7)] [] false false)).acqSeen 0 [(1, 7)] = false ∧
      ((waiting (.acq noWave r) (.acq [] [] false true)).modCl 0 (fun x => { x with gal := { x.gal with a := 209715, ents := [{ pos := 0 }] } })).mayAppend 0 6 1 = false) ∧
    (∀ n ∈ ((waiting (.fence noWave r) (.fence [])).cl 0).issued, n ∉ ([] : List Nat)) ∧
    (on acqF mapped).galOk 1 = true ∧ acqF.opA.lane 0 ≠ acqF.cl := by
  refine ⟨⟨rfl, by decide +kernel⟩, ?_⟩; decide +kernel
theorem witness_publishing_steps :
    exec (.rel .die noWave r) (on acqF mapped) = .next (((on acqF mapped).release 0).pendNew acqF (.rel .die noWave r) (.rel .die 0)) ∧
    exec (.relScopeReached 0 3) (waiting (.rel .system noWave r) (.rel .system 0)) =
      .next ((((waiting (.rel .system noWave r) (.rel .system 0)).pendDel 0 3).waveDone acqF noWave).sendA acqF.atS0 r) ∧
    exec (.acq noWave r) (on acqF mapped) = .next ((on acqF mapped).pendNew acqF (.acq noWave r) (.acq ((on acqF mapped).acqNames 0 acqF.opA acqF.opB) [] false false)) ∧
    exec (.acqComplete 0 3) (waiting (.acq noWave both) (.acq [(1, 0), (2, 7)] [] false false)) =
      .next (((waiting (.acq noWave both) (.acq [(1, 0), (2, 7)] [] false false)).acquireAll 0 [(1, 0)]).1.pendSet 0 3 (.acq [(2, 7)] [] true true)) ∧
    exec (.acqComplete 0 3) (waiting (.acq noWave both) (.acq [] [] false false)) =
      .next ((((waiting (.acq noWave both) (.acq [] [] false false)).pendDel 0 3).waveDone acqF noWave).emit acqF.atS0
        [(both.da, forwarded acqF acqF.opA 0), (both.db, forwarded acqF acqF.opB 0)]) ∧
    exec (.acqComplete 0 3) (waiting (.acq noWave both) (.acq [] [5] false true)) =
      .next ((((((waiting (.acq noWave both) (.acq [] [5] false true)).marker 0 [5] false).waitApp 0 6 false).pendDel 0 3).waveDone acqF noWave).emit acqF.atS0
        [(both.da, forwarded acqF acqF.opA 0), (both.db, forwarded acqF acqF.opB 0)]) ∧
    Sends (.gpos .d r) (on acqF mapped) acqF r (newScalar acqF 6 0) ∧ Ends (.gpos .a r) (on acqF mapped) acqF 0x100 2 ∧
    exec (.fencePerformed 0 3) (waiting (.fence noWave r) (.fence [])) =
      .next ((((waiting (.fence noWave r) (.fence [])).pendDel 0 3).waveDone acqF noWave).sendA acqF.atS0 r) :=
  ⟨isNext (by decide +kernel), isNext (by decide +kernel), isNext (by decide +kernel), isNext (by decide +kernel), isNext (by decide +kernel),
   isNext (by decide +kernel), isNext (by decide +kernel), isNext (by decide +kernel), isNext (by decide +kernel)⟩

/-- A queue of four slots of 64 bits at 0x2000000, empty, with two entries, and full. -/
def fqu : Firing := fired (some (num 6 ringPtr)) (some (num 6 0xABCD)) none 32
def queue2 (claim wslot popc : Nat) : Ctx := { rings := [(2, { base := 0x2000000, slot := 64, log2n := 2, en := true, mode := true, wslot := wslot, claim := claim, popc := popc })] }
def popping (w : Waiting) (m : List Msg := []) : State := { mapped [] { queue2 2 2 1 with pend := [⟨3, fqu, .qpop r, w, 0⟩] } with netMsgs := m }
def bufVal : Msg := { id := 9, vc := 1, src := 1, srcUnit := 65, dst := 0, dstUnit := 32, slot := some 0, pay := .abufVal 0 3 77 }
/-- A pop whose line is here; a remote store that has come, and one whose bank has made it. -/
def lined : State := (popping (.qpop 0 2 1 none (some 0) false [⟨0x2000040, 64, false, none⟩])).modCl 0 (fun x => { x with here := [(8195, [0x4000])] })
def askedBuf : State := sent (.abuf 0 64 8 (some 5) (0, 3)) {} 0
def doneBuf : State := askedBuf.modCl 0 (fun x => { x with banks := [{ key := 9, who := 8, off := 64, w := 8, store := some 5, got := some 0, done := true }] })
/-- A push that has claimed slot 0 and waits for its append. -/
def claimed : State := { on fqu (mapped [] (queue2 1 0 0)) with curEnt := some { seq := 0, fir := fqu, claim := some (0, 2, 0) } }
theorem witness_Queues : Acts (on fqu (mapped [] (queue2 0 0 0))) fqu ∧ (on fqu (mapped [] (queue2 0 0 0))).queueHandle fqu true = .ok ringPtr ∧
    (let s := on fqu (mapped [] (queue2 0 0 0)); let g := (s.ctx 0).ring 2
     g.full = false ∧ g.base.toNat / 2 ^ 60 = 0 ∧ Reaches s 0 .write (g.slotPtr g.claim) 64 [(0x2000000, 64, false)] ∧
       s.mayAppend 0 4096 (piecesCut (overlay [(0x2000000, 64, false)] 0 (pushRuns fqu.opB 64))).length = true ∧
       (s.modCl 0 (fun x => { x with gal := { x.gal with a := 209715, ents := [{ pos := 0 }] } })).mayAppend 0 4096 1 = false) ∧
    ((on fqu (mapped [] (queue2 4 4 0))).ctx 0 |>.ring 2 |>.full) = true ∧
    (((on fqu (mapped [] (queue2 2 2 1))).ctx 0).ring 2).popc ≠ (((on fqu (mapped [] (queue2 2 2 1))).ctx 0).ring 2).wslot ∧
    ((popping (.qpop 0 2 1 (some ⟨1, 0⟩) none false [])).acqSeen 0 [(1, 0)] = true ∧ (popping (.qpop 0 2 1 (some ⟨1, 0⟩) none false [])).markerRoom 0 [(1, 0)] = true ∧
      (popping (.qpop 0 2 1 (some ⟨1, 7⟩) none false [])).acqSeen 0 [(1, 7)] = false) ∧
    (popping (.qpop 0 2 1 none (some 0) true []) [bufVal]).reply 0 3 = some (9, 77) ∧
    (let s := lined; let g := (s.ctx 0).ring 2
     leaseOk (s.leaseOf 0) .read (g.slotPtr 1 % 2 ^ 60) 64 = true ∧ s.xlat 0 .read (g.slotPtr 1 % 2 ^ 60) 64 = .ok [(0x2000040, 64, false)] ∧
       (s.fetchLines 0 8195 (holderOf 32) (linesOf [(0x2000040, 64, false)])).1 = true ∧
       s.readPieces 0 0 [⟨0x2000040, 64, false, none⟩] = (0, [], false) ∧ 0 ≤ (s.gal 0).d + 1024 ∧ (s.gal 0).d + 1024 < 2000) ∧
    (let s := on fqu (mapped [] (queue2 0 0 0)); (s.entryOf fqu).claim = none ∧ ((claimed.entryOf fqu).claim = some (0, 2, 0))) ∧
    (askedBuf.cl 0).banks.all (fun q => q.key != 9) = true ∧ ((doneBuf.cl 0).banks.any (fun q => q.key == 9) = true ∧ (doneBuf.cl 0).bankDone 9 = true) ∧
    Taken (sent (.abuf 0 64 8 (some 5) (0, 3)) {} 0) 9 (msg (.abuf 0 64 8 (some 5) (0, 3)) 0) ∧
    Taken (sent (.abuf 0 64 8 none (0, 3)) {} 0) 9 (msg (.abuf 0 64 8 none (0, 3)) 0) := by
  refine ⟨⟨rfl, by decide +kernel⟩, rfl, ?_⟩; unfold Reaches Taken; decide +kernel
theorem witness_queue_steps :
    exec (.qpush r) (on fqu (mapped [] (queue2 4 4 0))) = .next ((on fqu (mapped [] (queue2 4 4 0))).rehold fqu none) ∧
    exec (.qpop r) (on fqu (mapped [] (queue2 2 2 2))) = .next ((on fqu (mapped [] (queue2 2 2 2))).rehold fqu none) ∧
    exec (.qpop r) (on fqu (mapped [] (queue2 2 2 1))) = .next (((on fqu (mapped [] (queue2 2 2 1))).modRing 0 2 (fun g => { g with popc := 2 })).pendNew fqu (.qpop r)
      (.qpop 0 2 1 none none false [])) ∧
    (let s := on fqu (mapped [] (queue2 0 0 0)); 
      let s1 : State := { s.modRing 0 2 (fun g => { g with claim := 1 }) with curEnt := some { s.entryOf fqu with claim := some (0, 2, 0) } }
      exec (.qpush r) s = .next ((((s1.waitApp 0 4096 false).appendAll 0 0 4 0
        (overlay [(0x2000000, 64, false)] 0 (pushRuns fqu.opB 64))).pushDone fqu r 0 2 0).tlbUse 0 0x2000000 64)) ∧
    exec (.qpush r) claimed = .next ((((claimed.waitApp 0 4096 false).appendAll 0 0 4 0
        (overlay [(0x2000000, 64, false)] 0 (pushRuns fqu.opB 64))).pushDone fqu r 0 2 0).tlbUse 0 0x2000000 64) ∧
    gives (.qpopComplete 0 3) (popping (.qpop 0 2 1 none (some 0) true []) [bufVal]) = ([77], 0) ∧ gives (.qpopComplete 0 3) lined = ([0], 0) ∧
    exec (.remoteAbufAccess 9) askedBuf = .next (askedBuf.bankAsk 0 9 8 64 8 (some 5)) ∧
    exec (.remoteAbufAccess 9) doneBuf = .next ((doneBuf.bankDrop 0 9).dropMsg 9) :=
  ⟨isNext (by decide +kernel), isNext (by decide +kernel), isNext (by decide +kernel), isNext (by decide +kernel), isNext (by decide +kernel),
   by decide +kernel, by decide +kernel, isNext (by decide +kernel), isNext (by decide +kernel)⟩

/-- Endpoints of 8-bit unsigned codes, four lanes a token, on ports 3 (into the fabric) and 4 (out of it). -/
def epWord (out : Bool) : List Nat := [0x02020000 * 2 ^ 32 + 2 * 2 ^ 29 + (if out then 2 ^ 14 else 0) + 33 * 2 ^ 8, 0x020300 * 2 ^ 40 + 0x7F00, 0, 0]
def streams (x : Ctx) : State := (mapped [] x).modCl 0 (fun y => { y with forme := { y.forme with eps := [(3, epWord false), (4, epWord true)] } })
def fgo : Firing := fired (some (lanes 2 6 [abufPtr 256, 8, 0, 0])) none none 33
def strm (port : Nat) (j : Nat) : Stream := { fir := fgo, instr := .strmgo (BitVec.ofNat 8 port) r, base := abufPtr 256, c0 := 8, c1 := 1, c2 := 1, s1 := 0, s2 := 0, j := j }
def port3 (j : Nat) : State := streams { ports := [(3, { stream := some (strm 3 j) })] }
def port4 (t : Token) (j : Nat := 0) : State := streams { ports := [(4, { stream := some (strm 4 j), queue := [{ tok := t }] })] }
def e3 : Ep := Ep.of (epWord false)
def e4 : Ep := Ep.of (epWord true)
/-- An element that has been read for the token it makes. -/
def issued3 : State := (streams { ports := [(3, { stream := some { strm 3 0 with issued := some 7 } })] }).modCl 0 (fun x => { x with
  banks := [{ key := 7, who := 5, off := 256, w := 32, got := some 0x04030201, done := true }] })
theorem witness_Streams : (on fgo (streams {})).cur = some fgo ∧ fgo.hasBubble = false ∧ (on fgo (streams {})).ep 0 3 = some e3 ∧
    (fgo.opA.gl2 = 2 ∧ fgo.opA.cl2 = 6 ∧ fgo.opA.poisoned 0 = false ∧ 8 % 2 ^ e3.gl2 = 0 ∧ unpacked e3.w (strm 3 0) = false) ∧
    (streamAt (port3 0) 0 3 = some (strm 3 0) ∧ Flows (port3 0) 0 ∧ e3.out = false ∧ e3.scm = 0 ∧ 0 < (strm 3 0).total e3 ∧ (port3 0).streamTag 0 fgo.tag 0 false = .go 0 none ∧
      ((port3 0).ctx 0).repair = false ∧ (strm 3 0).base / 2 ^ 60 = 1 ∧ (strm 3 0).base / 2 ^ 23 % 2 ^ 37 = 0 ∧
      (strm 3 0).offsets e3 0 = (((256 : Nat) : Int), (strm 3 0).row ((strm 3 0).at_ e3 0).2.1 ((strm 3 0).at_ e3 0).2.2) ∧ (strm 3 0).issued = none ∧ ((port3 0).cl 0).streamStalled 3 e3.unit = false ∧ (port3 0).bufClear 0 e3.unit 0 = true ∧
      (issued3.cl 0).bankDone 7 = true) ∧ ((strm 3 0).told = false ∧ (strm 3 0).total e3 ≤ (strm 3 1).j + 1) ∧
    (Flows (port4 (lanes 2 3 [1, 2, 3, 4])) 0 ∧ e4.out = true ∧ (lanes 2 3 [1, 2, 3, 4]).gl2 = e4.gl2 ∧ (lanes 2 3 [1, 2, 3, 4]).cl2 = e4.cl2 ∧
      ((port4 (lanes 2 3 [1, 2, 3, 4])).cl 0).acceptHeld 4 (strm 4 0) e4.unit = false ∧ (port4 (lanes 2 3 [1, 2, 3, 4])).bufClear 0 e4.unit 0 = true) ∧
    (strm 3 2).total e3 ≤ 2 ∧ (strm 3 2).holding = false ∧ (on fgo (port3 1)).idleAction fgo = false := by
  refine ⟨rfl, rfl, by decide +kernel, ?_⟩; unfold Flows; decide +kernel
theorem witness_stream_steps :
    exec (.strmgo 3 r) (on fgo (streams {})) = .next ((on fgo (streams {})).modCtx 0 (fun y => { y with
      ports := y.ports.put 3 { y.port 3 with stream := some (strm 3 0), lastMoved := 0, ran := true } })) ∧
    ((after (.streamTokenEmit 0 3) (port3 0)).cl 0).banks = [{ key := 0, who := bankPlace e3.unit, off := 256, w := 32 }] ∧
    exec (.streamTokenEmit 0 3) issued3 = .next ((issued3.bankDrop 0 7).streamSend 0 3 { strm 3 0 with issued := some 7 } e3 0 none
      { loadedTok fgo false 8 2 0x04030201 with ov := true, oidx := (strm 3 0).outer e3 0 }) ∧
    ((after (.streamTokenAccept 0 4) (port4 (lanes 2 3 [1, 2, 3, 4]))).cl 0).banks = [{ key := 0, who := bankPlace e4.unit, off := 256, w := 32, store := some 0x04030201 }] ∧
    (streamAt (after (.streamTokenAccept 0 4) (port4 (bubbleTok 1 1 0 0))) 0 4).map (fun (y : Stream) => y.j) = some 1 ∧
    gives (.streamEnd 0 3) (port3 2) = ([8], 0) ∧ gives (.strmst 3 r) (on fgo (port3 1)) = ([1], 0) ∧ gives (.strmend 4 r) (on fgo (port3 1)) = ([abufPtr 256 + 8 * 2 ^ 64], 0) ∧
    exec (.strmend 3 r) (on fgo (port3 1)) = .next (((on fgo (port3 1)).setPort 0 3 (fun q => { q with stream := some { strm 3 1 with stopping := true } })).pendNew fgo
      (.strmend 3 r) (.strmend 3)) :=
  ⟨isNext (by decide +kernel), by decide +kernel, isNext (by decide +kernel), by decide +kernel, by decide +kernel, by decide +kernel, by decide +kernel, by decide +kernel,
   isNext (by decide +kernel)⟩

/-- The matrix engine: a template and a profile of 8-bit codes, a control token for each operation, and commands. -/
def mxForme : Forme := { ordA := some 0, ordB := some 0, fds := [0x12020000], templates := [[5 * 2 ^ 56 + 0xFFFF * 2 ^ 40, 0, 0, 0]], profiles := [[0x12020000 * 2 ^ 32, 0, 0, 0]] }
def mx (x : Ctx) : State := (mapped [] x).modCl 0 (fun y => { y with forme := { mxForme with eps := [(5, epWord true)] } })
def mxWord (mop : Nat) : Nat := 5 * 2 ^ 56 + 0xFFFF * 2 ^ 40 + mop * 2 ^ 36
def ctlTok (mop : Nat) : Token := { kind := .control, gl2 := 0, cl2 := 0, pay := mxWord mop }
def fcmd : Firing := fired (some (num 6 (2 * 2 ^ 60 + 0x1000))) (some (num 6 (2 * 2 ^ 60 + 0x2000))) (some (num 6 0x10105)) 36
def region : Nat := 5 + 0xFFFF * 2 ^ 8
def fin : Firing := fired (some (num 6 region)) (some (lanes 1 6 [abufPtr 4096, 512])) none 36
def fint : Firing := fired (some (num 6 region)) (some (lanes 2 5 [1, 2, 3, 4])) none 36
def fout : Firing := fired (some (lanes 1 6 [region, 0])) (some (lanes 1 6 [abufPtr 4096, 512])) none 36
def ftk : Firing := fired (some (num 6 0x105)) none none 36
theorem witness_MatrixCommands : Latched (on fcmd (mx {})) fcmd ∧ (Words fcmd.opA 1 ∧ Words fcmd.opB 1 ∧ Words fcmd.opC 1) ∧
    fcmd.opA.lane 0 / 2 ^ 60 = 2 ∧ fcmd.opB.lane 0 / 2 ^ 60 = 2 ∧ (Ctl.of (wordsOf4 [5 * 2 ^ 56 + 0xFFFF * 2 ^ 40, 0, 0, 0])).asrc = 0 ∧
    (Ctl.of (mxWord 0)).cause mxForme = none ∧ (Ctl.of (mxWord 1)).cause mxForme = none ∧ (Ctl.of (mxWord 2)).cause mxForme = none ∧
    (Words fin.opA 1 ∧ Words fin.opB 2 ∧ 1 ≤ fin.opB.gl2 ∧ (Region.of region).zero = 0 ∧ (mx {}).ptrCause 0 [1] (fin.opB.lane 0) = none ∧
      (Region.of region).cbase + (Region.of region).m * (Region.of region).n ≤ 131072 ∧ 4096 + ((Region.of region).m - 1) * 512 + 32 * (Region.of region).n ≤ 2 ^ 23) ∧
    (fint.opB.cl2 = 5 ∧ (Region.of region).m16 = 0 ∧ (Region.of region).n16 = 0 ∧ fint.opB.scale = 0x7F00) ∧
    (Words fout.opA 2 ∧ 1 ≤ fout.opA.gl2 ∧ fout.opA.lane 1 / 2 ^ 23 = 0 ∧ (Profile.of [0x12020000 * 2 ^ 32, 0, 0, 0]).blockBad 0 16 16 = false ∧
      (Region.of region).n % 2 ^ e4.gl2 = 0) ∧
    (on ftk (mx {})).idleAction ftk = false := by
  refine ⟨⟨rfl, rfl⟩, ?_⟩; unfold Words; decide +kernel
theorem witness_matrix_accepts :
    exec (.mxexec r) (on (fired (some (ctlTok 1)) none none 36) (mx {})) = .next ((accepted (on (fired (some (ctlTok 1)) none none 36) (mx {})) (fired (some (ctlTok 1)) none none 36) r
      5 255 255 0 (.mzero [mxWord 1, 0, 0, 0])).emitBoth (fired (some (ctlTok 1)) none none 36) r (newScalar (fired (some (ctlTok 1)) none none 36) 6 0x105)) ∧
    exec (.mxin false true r) (on fin (mx {})) = .next (accepted (on fin (mx {})) fin r 5 255 255 0 (.mxin region false true (abufPtr 4096) 512 fin.opB)) ∧
    exec (.mxin true false r) (on fint (mx {})) = .next (accepted (on fint (mx {})) fint r 5 255 255 0 (.mxin region true false 0 0 fint.opB)) ∧
    exec (.mxout { port := 0, dmode := 2, prof := 0 } r) (on fout (mx {})) = .next (accepted (on fout (mx {})) fout r 5 255 255 0 (.mxout region 0 { port := 0, dmode := 2, prof := 0 } 0 0)) ∧
    exec (.mxout { port := 5, dmode := 1, prof := 0 } r) (on fout (mx {})) = .next (accepted (on fout (mx {})) fout r 5 255 255 0 (.mxout region 0 { port := 5, dmode := 1, prof := 0 } 0 0)) ∧
    exec (.mxout { port := 0, dmode := 0, prof := 0 } r) (on fout (mx {})) =
      .next (accepted (on fout (mx {})) fout r 5 255 255 0 (.mxout region 0 { port := 0, dmode := 0, prof := 0 } (abufPtr 4096) 512)) ∧
    exec (.mxwait r) (on ftk (mx {})) = .next ((on ftk (mx {})).pendNew ftk (.mxwait r) (.ticket 0x105)) ∧
    Sends (.mxtl r) (on ftk (mx {})) ftk r (newScalar ftk 6 0) :=
  ⟨isNext (by decide +kernel), isNext (by decide +kernel), isNext (by decide +kernel), isNext (by decide +kernel), isNext (by decide +kernel),
   isNext (by decide +kernel), isNext (by decide +kernel), isNext (by decide +kernel)⟩
def placedCmd : Nat :=
  placed (placed (placed (placed (placed (placed (5 * 2 ^ 56 + 0xFFFF * 2 ^ 40) 104 24 0x1000) 80 24 0x2000) 56 8 5) 48 8 1) 40 8 1) 135 17 0 % 2 ^ 256
theorem witness_mxcmd : Sends (.mxcmd 0 r) (on fcmd (mx {})) fcmd r (fcmd.stamp { tag := 0, kind := .control, gl2 := 0, cl2 := 0, pay := placedCmd }) :=
  isNext (by decide +kernel)

def cmd (op : MxOp) (started done : Bool) : MxCmd := { slot := 5, gen := 1, op := op, fir := fin, dests := r, preds := [], started := started, done := done }
def mxWith (m : MxCmd) (slot : MxSlot := { gen := 1 }) : State := mx { mxCmds := [m], mxSlots := [(5, slot)] }
def outLit : MxoutLit := { port := 0, dmode := 0, prof := 0 }
theorem witness_MatrixArray : ((mx {}).cl 0).stopped = false ∧
    ((mxWith (cmd (.mmul [mxWord 0, 0, 0, 0]) false false)).ctx 0).startable isArrayOp = some (cmd (.mmul [mxWord 0, 0, 0, 0]) false false) ∧
    ((mxWith (cmd (.mzero [mxWord 1, 0, 0, 0]) false false)).ctx 0).startable isArrayOp = some (cmd (.mzero [mxWord 1, 0, 0, 0]) false false) ∧
    ((mxWith (cmd .mnop false false)).ctx 0).mxCmds.find? (fun m => isNopOp m.op && ((mxWith (cmd .mnop false false)).ctx 0).predsDone m) = some (cmd .mnop false false) ∧
    ((mxWith (cmd (.mmul [mxWord 0, 0, 0, 0]) true false)).ctx 0).mxCmds.find? (fun m => m.started && !m.done && isArrayOp m.op) = some (cmd (.mmul [mxWord 0, 0, 0, 0]) true false) ∧
    ((mxWith (cmd (.mzero [mxWord 1, 0, 0, 0]) true true)).ctx 0).mxCmds.find? (fun y => y.slot == 5) = some (cmd (.mzero [mxWord 1, 0, 0, 0]) true true) ∧
    ((mxWith (cmd (.mxin region false true (abufPtr 4096) 512 {}) false false)).ctx 0).startable isInOp = some (cmd (.mxin region false true (abufPtr 4096) 512 {}) false false) ∧
    ((mxWith (cmd (.mxout region 0 outLit (abufPtr 4096) 512) false false)).ctx 0).startable isOutOp = some (cmd (.mxout region 0 outLit (abufPtr 4096) 512) false false) ∧
    (Ctl.of (mxWord 0)).reads mxForme 0 = [] ∧ (Ctl.of (mxWord 0 + 2 ^ 34)).reads mxForme 0 ≠ [] ∧ HasRead (mx {}) 0 (cmd (.mmul [mxWord 0, 0, 0, 0]) true false) [] [] ∧
    groupSound (Ctl.of (mxWord 0)) mxForme (((mx {}).cl 0).group (Ctl.of (mxWord 0)) 0 []) [] = true ∧
    groupSound (Ctl.of (mxWord 0)) mxForme (((mx {}).cl 0).group (Ctl.of (mxWord 0)) 0 [(256, 1)]) [(256, 1)] = false ∧
    ((mx {}).outTaken 0 (cmd (.mxout region 0 outLit (abufPtr 4096) 512) true true) = true ∧
      ((mx {}).modCl 0 (fun x => { x with banks := [{ key := 1, who := 1, off := 0, w := 8, store := some 0 }] })).outTaken 0
        (cmd (.mxout region 0 outLit (abufPtr 4096) 512) true true) = false) := by
  refine ⟨?_, ?_, ?_, ?_, ?_, ?_, ?_, ?_, ?_, ?_, Or.inl ⟨rfl, rfl⟩, ?_, ?_, ?_⟩ <;> decide +kernel
/-- An MXIN row that has been read, and MXOUT's first row: read from the C-store, with and without a poisoned entry. -/
def rowRead : State := (mxWith { cmd (.mxin region false true (abufPtr 4096) 512 {}) true false with key := some 7 }).modCl 0 (fun x => { x with
  banks := [{ key := 7, who := 2, off := 4096, w := 512, got := some 0x0000000900000008, done := true }] })
def rowOut : MxCmd := { cmd (.mxout region 0 outLit (abufPtr 4096) 512) true false with read := (List.range 16).map (fun j => (j, {})) }
def prof0 : Profile := Profile.of [0x12020000 * 2 ^ 32, 0, 0, 0]
theorem witness_matrix_rows : (rowRead.cl 0).bankDone 7 = true ∧ (∀ j < 16, (((mx {}).cl 0).outReads (Region.of region) rowOut []).read.has (0 * 16 + j) = true) ∧
    ¬ (∀ j < 16, (((mx {}).cl 0).outReads (Region.of region) (cmd (.mxout region 0 outLit (abufPtr 4096) 512) true false) [3]).read.has (0 * 16 + j) = true) ∧
    prof0.reads (Region.of region) 0 0 = [] ∧ (Profile.of [0x12020000 * 2 ^ 32 + 0xFFFFFFFF, 0, 0, 0]).reads (Region.of region) 0 0 ≠ [] ∧
    (∀ y ∈ prof0.outRow [] (Region.of region) rowOut.read [] 0 0, y.bad = false) ∧
    (∃ y ∈ prof0.outRow [] (Region.of region) (rowOut.read.put 3 { pz := true }) [] 0 0, y.bad = true) ∧
    (((after (.mxeRetire 0 ⟨5, [], []⟩) rowRead).cl 0).cstore.get {} 1 = { code := 9, ty := true }) ∧
    (((after (.mxeRetire 0 ⟨5, [], []⟩) (mxWith rowOut)).cl 0).banks.map (fun q => (q.who, q.off, q.w, q.store)) = [(1, 4096, 128, some 0)]) ∧
    (after (.mxeRetire 0 ⟨5, [], []⟩) (mxWith { rowOut with read := rowOut.read.put 3 { pz := true } })).hub.faults.map (fun q => q.code) = [0x106] := by
  decide +kernel
def retried : MxCmd := let m := cmd (.mmul [mxWord 0, 0, 0, 0]) true false; { m with retried := true }
theorem witness_array_steps :
    exec (.mmul 0) (mxWith (cmd (.mmul [mxWord 0, 0, 0, 0]) false false)) = .next ((mxWith (cmd (.mmul [mxWord 0, 0, 0, 0]) false false)).putCmd 0 (cmd (.mmul [mxWord 0, 0, 0, 0]) true false)) ∧
    exec (.mnop 0) (mxWith (cmd .mnop false false)) = .next ((mxWith (cmd .mnop false false)).retireCmd 0 (cmd .mnop false false)) ∧
    exec (.mxeGroup 0 [(256, 1)]) (mxWith (cmd (.mmul [mxWord 0, 0, 0, 0]) true false)) = .next ((((mxWith (cmd (.mmul [mxWord 0, 0, 0, 0]) true false)).count 0 0x196 8).count 0 0x197 1).putCmd 0
      retried) ∧
    exec (.mxeGroup 0 []) (mxWith (cmd (.mmul [mxWord 0 + 2 ^ 34, 0, 0, 0]) true false)) = .next (readsAsked (mxWith (cmd (.mmul [mxWord 0 + 2 ^ 34, 0, 0, 0]) true false)) 0 0
      (cmd (.mmul [mxWord 0 + 2 ^ 34, 0, 0, 0]) true false) ((Ctl.of (mxWord 0 + 2 ^ 34)).reads mxForme 0)) ∧
    exec (.mxeRetire 0 ⟨5, [], []⟩) (mxWith (cmd (.mxin region true false 0 0 {}) true true)) = .next (((mxWith (cmd (.mxin region true false 0 0 {}) true true)).retireCmd 0
      (cmd (.mxin region true false 0 0 {}) true true)).emitBoth fin r (newScalar fin 6 0x105)) ∧
    exec (.mxeRetire 0 ⟨5, [], []⟩) (mxWith (cmd (.mxin region false true (abufPtr 4096) 512 {}) false false)) = .next (readsAsked
      (mxWith (cmd (.mxin region false true (abufPtr 4096) 512 {}) false false)) 0 2 (cmd (.mxin region false true (abufPtr 4096) 512 {}) false false) [(4096, 512)]) ∧
    ((after (.mxeRetire 0 ⟨5, [], []⟩) (mxWith (cmd (.mxin region true false 0 0 (lanes 2 5 [1, 2, 3, 4])) false false))).cl 0).cstore.get {} 3 = { code := 4, ty := false } ∧
    ((after (.mzero 0) (mxWith (cmd (.mzero [mxWord 1, 0, 0, 0]) false false))).ctx 0).mxCmds = [cmd (.mzero [mxWord 1, 0, 0, 0]) true true] ∧
    (((mxWith (cmd .mnop false false)).retireCmd 0 (cmd .mnop false false)).ctx 0).mxSlots.get {} 5 = { gen := 1, retired := 1, done := [(1, (0, 0, 0))] } :=
  ⟨isNext (by decide +kernel), isNext (by decide +kernel), isNext (by decide +kernel), isNext (by decide +kernel), isNext (by decide +kernel), isNext (by decide +kernel),
   by decide +kernel, by decide +kernel, by decide +kernel⟩

/-- Channels, tags, rings and waits. -/
def fch1 : Firing := fired (some (num 6 0x1000000)) (some (num 6 0)) none 38
def fri : Firing := fired (some (num 6 ringPtr)) none none 38
theorem witness_ChannelsAndRings : Acts (on fch1 mapped) fch1 ∧ Holds fch1.opA 0x1000000 ∧ ((on fch1 mapped).ctx 0).chan 2 = {} ∧
    Acts (on fri (mapped [] (ring2 7 5 9))) fri ∧ RingHandle (on fri (mapped [] (ring2 7 5 9))) fri 0 2 { base := 0x2000000, slot := 64, log2n := 2, en := true, wslot := 7, rslot := 5, claim := 9 } ∧
    RingHandle (on fri (mapped [] (ring2 5 5 9))) fri 0 2 { base := 0x2000000, slot := 64, log2n := 2, en := true, wslot := 5, rslot := 5, claim := 9 } ∧
    fv.opA.cl2 ≠ 6 ∧ (fpz.opA.cl2 = 6 ∧ fpz.opA.poisoned 0 = true) := by
  refine ⟨⟨rfl, by decide +kernel⟩, ⟨rfl, by decide +kernel, by decide +kernel⟩, by decide +kernel, ⟨rfl, by decide +kernel⟩, ⟨ringPtr, ?_⟩, ⟨ringPtr, ?_⟩, by decide +kernel⟩ <;>
    unfold Holds <;> decide +kernel
/-- A request that has arrived where it acts: message k of the wait entry 3. -/
def atCluster (k : Nat) (i : Instr) (f : Firing) (x : Ctx) : State := { mapped [] { x with pend := [⟨3, f, i, .request none, 0⟩] } with
  netMsgs := [{ id := k, vc := 5, src := 0, srcUnit := 38, dst := 0, dstUnit := 68, slot := some 0, pay := .request 0 3 }] }
theorem witness_arrives : Arrives (atCluster 9 (.rsrel r) fri (ring2 7 5 9)) 9 0 3 ⟨3, fri, .rsrel r, .request none, 0⟩ ((atCluster 9 (.rsrel r) fri (ring2 7 5 9)).dropMsg 9) :=
  ⟨rfl, by decide +kernel, _, rfl, rfl, by decide +kernel⟩
def fclr : Firing := { fch1 with a := some (num 6 5) }
def clr5 : State := on fclr (mapped [] { ready := 7, tagStamps := [(2, ⟨0, 1⟩), (1, ⟨0, 2⟩)] })
theorem witness_channel_steps :
    exec (.cpgo 2 r) (on fch1 (mapped [] { chans := [(2, { busy := true })] })) = .next (((on fch1 (mapped [] { chans := [(2, { busy := true })] })).modChan 0 2
      (fun h => { h with lastStat := 4 })).emitBoth fch1 r (newScalar fch1 6 0)) ∧
    exec (.rsrel r) (on fri (mapped [] (ring2 5 5 9))) = .next (requested (on fri (mapped [] (ring2 5 5 9))) fri (.rsrel r) 0 68) ∧
    (atCluster 9 (.rsrel r) fri (ring2 5 5 9)).serveReq 9 = (((atCluster 9 (.rsrel r) fri (ring2 5 5 9)).dropMsg 9).pendDel 0 3).fail fri 0x205 0 ∧
    gives (.waitComplete 0 3) (mapped [] { pend := [⟨3, fri, .rapeek r, .request (some 77), 0⟩] }) = ([77], 0) ∧
    exec (.tagclr r) clr5 = .next ((clr5.modCtx 0 (fun x => { x with
        ready := 2, tagStamps := [(1, ⟨0, 2⟩)], clrNow := 5 })).emitBoth fclr r (forwarded fclr (num 6 5) 0)) ∧
    (((after (.tagclr r) (clr5.modCtx 0 (fun x => { x with setNow := [(2, some ⟨0, 1⟩)] }))).ctx 0).ready,
      ((after (.tagclr r) (clr5.modCtx 0 (fun x => { x with setNow := [(2, some ⟨0, 1⟩)] }))).ctx 0).tagStamps) = (6, [(1, ⟨0, 2⟩), (2, ⟨0, 1⟩)]) ∧
    Ends (.cpgo 2 r) (on fv mapped) fv 0x203 0 ∧ Ends (.cpgo 2 r) (on fpz mapped) fpz 0x106 0 :=
  ⟨isNext (by decide +kernel), isNext (by decide +kernel), by decide +kernel, by decide +kernel, isNext (by decide +kernel), by decide +kernel,
   isNext (by decide +kernel), isNext (by decide +kernel)⟩

def waitOn (i : Instr) (f : Firing) (x : Ctx) (w : Waiting := .wait) : State := mapped [] { x with pend := [⟨3, f, i, w, 0⟩] }
def fwt : Firing := fired (some (num 6 0x88)) (some (num 6 42)) none 38
theorem waits (i : Instr) (f : Firing) (x : Ctx) (w : Waiting) (h : (waitOn i f x w).pend 0 3 = some ⟨3, f, i, w, 0⟩ ∧ ((waitOn i f x w).cl 0).stopped = false) :
    Waits (waitOn i f x w) 0 3 f i w := ⟨h.2, _, h.1, rfl, rfl, rfl⟩
theorem witness_WaitsAndSubmission : Acts (on fwt mapped) fwt ∧ Holds fwt.opA 0x88 ∧ Holds fwt.opB 42 ∧ mapped.netBound 0 5 = false ∧
    (Holds fch1.opB 0 ∧ (on fch1 mapped).ptrCause 0 [0] 0 = none ∧ 0 % 512 = 0 ∧ leaseOk ((on fch1 mapped).leaseOf 0) .read (0 % 2 ^ 60) 512 = true) ∧
    (Waits (waitOn (.tlwait (.ch 1) r) fwt { chans := [(1, { tl := 42 })] }) 0 3 fwt (.tlwait (.ch 1) r) .wait ∧ fwt.opB.lane 0 ≤ ((waitOn (.tlwait (.ch 1) r) fwt { chans := [(1, { tl := 42 })] }).timeline 0 (.ch 1)).1) ∧
    (Waits (waitOn (.wtff r) fwt { ready := 0x80 }) 0 3 fwt (.wtff r) .wait ∧ (0x80 &&& 0x88 : Nat).testBit 7 = true ∧ ∀ j < 7, (0x80 &&& 0x88 : Nat).testBit j = false) ∧
    Waits (waitOn (.wtany r) fwt { ready := 8 }) 0 3 fwt (.wtany r) .wait ∧ Waits (waitOn (.wtall r) fwt { ready := 0x88 }) 0 3 fwt (.wtall r) .wait ∧
    Waits (waitOn (.rawait r) fri (ring2 7 5 9)) 0 3 fri (.rawait r) .wait ∧ 0 ∈ (waitOn (.rawait r) fri (ring2 7 5 9)).moving ∧
    Waits (waitOn (.tlwait (.ch 1) r) fwt {} (.acquiring [⟨1, 0⟩] 42)) 0 3 fwt (.tlwait (.ch 1) r) (.acquiring [⟨1, 0⟩] 42) ∧
      (¬ OwnStamps 0 [⟨1, 0⟩] ∧ (waitOn (.tlwait (.ch 1) r) fwt {} (.acquiring [⟨1, 0⟩] 42)).acqReady 0 (acqOf 0 [⟨1, 0⟩]) = true ∧
        (waitOn (.tlwait (.ch 1) r) fwt {} (.acquiring [⟨1, 0⟩] 42)).markerRoom 0 (acqOf 0 [⟨1, 0⟩]) = true ∧
        (waitOn (.tlwait (.ch 1) r) fwt {} (.acquiring [⟨1, 7⟩] 42)).acqReady 0 (acqOf 0 [⟨1, 7⟩]) = false) ∧
    Waits (waitOn (.sysq 4 r) fwt {} (.sysq (some 9))) 0 3 fwt (.sysq 4 r) (.sysq (some 9)) :=
  ⟨⟨rfl, by decide +kernel⟩, ⟨rfl, by decide +kernel⟩, ⟨rfl, by decide +kernel⟩, by decide +kernel, ⟨⟨rfl, by decide +kernel⟩, by decide +kernel⟩,
   ⟨waits _ _ _ _ (by decide +kernel), by decide +kernel⟩, ⟨waits _ _ _ _ (by decide +kernel), by decide⟩, waits _ _ _ _ (by decide +kernel), waits _ _ _ _ (by decide +kernel),
   waits _ _ _ _ (by decide +kernel), by decide +kernel, waits _ _ _ _ (by decide +kernel), ⟨(fun h => absurd (h ⟨1, 0⟩ (by simp)) (by decide)), by decide +kernel⟩,
   waits _ _ _ _ (by decide +kernel)⟩
theorem witness_wait_steps :
    Completes (waitOn (.tlwait (.ch 1) both) fwt {} (.acquiring [] 42)) 0 3 fwt [(both.da, forwarded fwt fwt.opA 0), (both.db, newScalar fwt 6 42)] ∧
    Completes (waitOn (.wtff both) fwt {} (.acquiring [] 7)) 0 3 fwt [(both.da, newScalar fwt 6 7), (both.db, newScalar fwt 6 7)] ∧
    Completes (waitOn (.rawait both) fri {} (.acquiring [⟨0, 5⟩] 0x2000040)) 0 3 fri [(both.da, newScalar fri 6 0x2000040), (both.db, newScalar fri 6 0x2000040)] ∧
    Tested (waitOn (.rawait both) fri (ring2 7 5 9)) 0 3 (.acquiring [] 0x2000040) ∧ Tested (waitOn (.wtff both) fwt { ready := 0x80 }) 0 3 (.acquiring [] 7) ∧
    Completes (waitOn (.sysq 4 both) fwt {} (.sysq (some 9))) 0 3 fwt [(both.da, forwarded fwt fwt.opA 0), (both.db, newScalar fwt 6 9)] ∧
    exec (.waitComplete 0 3) (waitOn (.rawait both) fri (ring2 5 5 9)) = .next (waitOn (.rawait both) fri (ring2 5 5 9)) ∧
    exec (.sysq 4 r) (on fch1 mapped) = .next ((((on fch1 mapped).releasePkg 0).pendNew fch1 (.sysq 4 r) (.sysq none)).send 5 0 38 1024 0 (.sysq 0 0 0 4 0 { gal := 0, pos := 0 })) ∧
    Ends (.tlread (.net 5) r) (on fwt mapped) fwt 0x100 5 :=
  ⟨rfl, rfl, rfl, ⟨_, rfl, rfl⟩, ⟨_, rfl, rfl⟩, rfl, isNext (by decide +kernel), isNext (by decide +kernel),
   isNext (by decide +kernel)⟩

/-- System registers: CL_GAL_STALL of cluster 0, through a pointer of space 6. -/
def regPtr (unit index : Nat) : Nat := 6 * 2 ^ 60 + unit * 2 ^ 38 + index * 2 ^ 6
def fsy : Firing := fired (some (num 6 (regPtr 0 0x064))) (some (num 6 5)) none 38
def priv (s : State) : State := s.modCl 0 (fun x => { x with forme := { x.forme with priv := true } })
theorem witness_SystemNodes : Acts (on fsy (priv mapped)) fsy ∧ Holds fsy.opA (regPtr 0 0x064) ∧ Holds fsy.opB 5 ∧ (on fsy (priv mapped)).ptrCause 0 [6] (regPtr 0 0x064) = none ∧
    (∃ k, (on { fsy with a := some (num 6 (regPtr 1 0x064 + 1)) } (priv mapped)).ptrCause 0 [6] (regPtr 1 0x064 + 1) = some k) ∧
    ((priv mapped).slotOf 0).isSome ∧ (∀ k ∈ (priv mapped).present, k < 4) ∧
    ((mapped.modCl 0 (fun x => { x with brk := 2 ^ 18 + 7 })).cl 0).brk.testBit 18 = true ∧ (2 ^ 18 + 7) % 2 ^ 16 = (7 : BitVec 16).toNat := by
  refine ⟨⟨rfl, by decide +kernel⟩, ⟨rfl, by decide +kernel⟩, ⟨rfl, by decide +kernel⟩, by decide +kernel, ⟨_, rfl⟩, ?_⟩; decide +kernel
theorem witness_system_steps :
    exec (.syswr r) (on fsy (priv mapped)) = .next (requested (on fsy (priv mapped)) fsy (.syswr r) 0 0x1064) ∧
    (atCluster 9 (.syswr r) fsy {}).serveReq 9 = (((atCluster 9 (.syswr r) fsy {}).dropMsg 9).regWrite .privForme { block := 0, unit := 0, index := 0x064 } 5).pendSet 0 3
      (.request (some 0)) ∧
    gives (.waitComplete 0 3) (((atCluster 9 (.sysrd r) fsy {}).modCl 0 (fun x => { x with gal := { x.gal with stall := 12 } })).serveReq 9) = ([12], 0) ∧
    exec (.brk 7 r) (on fwt (mapped.modCl 0 (fun x => { x with brk := 2 ^ 18 + 7 }))) = .next ((((on fwt (mapped.modCl 0 (fun x => { x with brk := 2 ^ 18 + 7 }))).jobRecord
      0x303 0 38 1 0 0 0).emitBoth fwt r (forwarded fwt fwt.opA 0)).haltStart 0 false) ∧
    Sends (.brk 6 r) (on fwt (mapped.modCl 0 (fun x => { x with brk := 2 ^ 18 + 7 }))) fwt r (forwarded fwt fwt.opA 0) ∧
    gives (.flclr r) (on { fired (some (num 6 0x10)) none none with unit := 3 } (mapped [] { pe := [(3, { flags := 0x50 })] })) = ([0x10], 0) ∧
    ((after (.flclr r) (on { fired (some (num 6 0x10)) none none with unit := 3 } (mapped [] { pe := [(3, { flags := 0x50 })] }))).ctx 0).pe.map (fun p => p.2.flags) = [0x40] :=
  ⟨isNext (by decide +kernel), by decide +kernel, by decide +kernel, isNext (by decide +kernel), isNext (by decide +kernel), by decide +kernel, by decide +kernel⟩

/-! Registers, links, translation, galleys and counters. -/

def idleCl (x : Ctx := {}) : State := { State.reset with cls := [(0, { ctx := x })] }
def flitD : LinkDir := { txseq := 7, heldF := [{ seq := 5, ack := 0 }, { seq := 6, ack := 0 }], wire := [{ seq := 5, ack := 0 }], rxexp := 5 }
def linkUp (d : LinkDir) (o : LinkDir := {}) (m : List Msg := []) : State := { State.reset with links := [(0, { stat := 2, up := d, down := o })], netMsgs := m }
def crossing : Msg := { id := 3, vc := 2, src := 0, srcUnit := 0, dst := 256, dstUnit := 0, hops := [(0, 0, true)], pay := .signal 1 false }
def sysMsg : Msg := { id := 9, vc := 5, src := 0, srcUnit := 38, dst := 1024, dstUnit := 0, pay := .sysq 0 0 3 4 0 { gal := 0, pos := 0 } }
def firm (q : SubQueue) : State := { mapped with
  hub := { State.reset.hub with
    slots := [(0, slot0)]
    queues := [(4, q)]
    graphs := [(1, { nodes := [([0, 0, 0, 0, 0, 0, 0, 0], [])], queue := 4 })]
    jobCnts := [(5, 0xFFF)] }
  netMsgs := [sysMsg] }
/-- A graph of one node, whose pages the hub's TLB maps. -/
def graphed : State := (firm { job := 0xFFF, depth := 4 }).modHub (fun h => { h with
  hubTlb := [page0]
  graphs := [(1, { nodes := [([0, 0, 0, 0, 0xFFFFFFFFF0000000, 0, 0, 0], [])], queue := 4, params := 0x4000, page := 0x8000 })] })
theorem witness_RegistersAndQueues : ((idleCl).cl 0).slot = none ∧ (mapped.cl 0).slot ≠ none ∧ (3 : Nat) % 8 ≤ 4 ∧ 4 < 5 % 8 ∧ (({} : Ctx).chan 1).busy = false ∧
    (((idleCl).cl 0).ctx.rings.get {} 2).en = false ∧ (((mapped [] (ring2 7 5 9)).ctx 0).rings.get {} 2).en = true ∧ State.reset.present? 0 = true ∧
    ((firm { job := 0, depth := 4 }).netMsgs.find? (·.id == 9) = some sysMsg ∧ (firm { job := 0, depth := 4 }).arrived sysMsg = true ∧ ((firm {}).die 4).mirrorBad = false) ∧
    ((firm { depth := 0 }).queue 4).depth ≤ 0 ∧
    (let s : State := graphed; let g := s.hub.graphs.get {} 1
     s.hub.graphs.has 1 = true ∧ g.queue = 4 ∧ g.nodes.length + g.groups.length ≤ (s.spareCnts (s.queue 4).job).length ∧ (s.gal 1026).d = (s.gal 1026).a ∧
       (s.hubRead 0 0 g.params 4096).2.toOption = some (0, [], false) ∧
       ((s.hubRead 0 0 g.params 4096).1.hubStore 0 1026 0 g.page 4096 [(0, 4096, 0, false)]).isSome = true) ∧
    ((after (.graphReplay 1) graphed).hub.nodesHeld.map (fun q => ((Bind.of q.words).param, (Bind.of q.words).lcnt)) = [(0x8000, 5)]) ∧
    (let s := after (.graphReplay 1) graphed
     ∃ q, s.hub.nodesHeld = [q] ∧ s.afterFailed q = false ∧ s.afterDone q = true ∧ (s.releaseNodes.queue 4).reqs = [{ q with since := 0 }]) := by
  refine ⟨by decide +kernel, by decide +kernel, by decide +kernel, by decide +kernel, by decide +kernel, by decide +kernel, by decide +kernel, by decide +kernel,
    by decide +kernel, by decide +kernel, by decide +kernel, by decide +kernel, _, rfl, ?_⟩
  decide +kernel
theorem witness_register_steps :
    exec (.peModeWrite 0 2 3) idleCl = .next ((idleCl).modCtx 0 (fun y => { y with pe := y.pe.put 2 { mode := 3 } })) ∧
    exec (.peModeWrite 0 2 3) mapped = .next mapped ∧
    exec (.ringDisable 0 2) (mapped [] (ring2 7 5 9)) = .next ((mapped [] (ring2 7 5 9)).modCtx 0 (fun y => { y with rings := y.rings.put 2 { base := 0x2000000, slot := 64, log2n := 2 } })) ∧
    exec (.registerWrite .systemCore { block := 2, unit := 0, index := 0x161 } 0x300000005) State.reset =
      .next (State.reset.modHub (fun h => { h with cqHead := 3, sqTail := 5 })) ∧
    ((after (.sysqRequest 9) (firm { job := 0, depth := 0 })).queue 4).reqs = [] :=
  ⟨isNext (by decide +kernel), isNext (by decide +kernel), isNext (by decide +kernel), isNext (by decide +kernel), by decide +kernel⟩

/-- A module that is retraining, one marker taken and one on the wire. -/
def retraining : State := { linkUp { flitD with wire := [{ seq := 7, ack := 0, kind := .retrain }] } { marked := true } with
  links := [(0, { stat := 3, up := { flitD with wire := [{ seq := 7, ack := 0, kind := .retrain }] }, down := { marked := true } })] }
theorem witness_DieLinks : ((linkUp flitD).linkMod 0 0).stat = 2 ∧ flitD.heldF.length < 256 ∧ flitD.nakWire = none ∧ flitD.cut = none ∧
    (linkUp flitD {} [crossing]).netMsgs.filter (fun y => !y.inLink && y.hops.head? == some (0, 0, true)) = [crossing] ∧
    servedFirst flitD.refused [crossing.vc] = some 2 ∧ flitD.wire = [{ seq := 5, ack := 0 }] ∧
    flitSound (flipBits (Flit.word { seq := 5, ack := 0 }) []) = true ∧ flitSound (flipBits (Flit.word { seq := 5, ack := 0 }) [3]) = false ∧
    flitSound (flipBits (Flit.word { seq := 7, ack := 0, kind := .retrain }) []) = true ∧ (retraining.linkMod 0 0).down.marked = true ∧
    0 < flitD.spares ∧ ({ flitD with spares := 0 } : LinkDir).spares = 0 ∧ ((linkUp flitD).linkMod 0 0).width = 64 := by decide +kernel
theorem witness_payload : (linkUp flitD {} [crossing]).payload 0 0 true = [⟨3, 2, 0, min 30 (msgBeats 3)⟩] ∧ flitD.used.get 0 2 < vcBuffers 2 := by
  have h : (linkUp flitD {} [crossing]).linkOrder 0 0 true = [crossing] := by decide +kernel
  have h' : ((linkUp flitD {} [crossing]).linkMod 0 0).dir true = flitD := by decide +kernel
  constructor
  · simp only [State.payload, h, h']
    simp [flitD, fragsOf, crossing, vcBuffers, Tbl.get]
  · simp only [flitD, vcBuffers, Tbl.get]; omega
theorem witness_link_steps :
    (let x := (after (.flitReceive 0 0 true [3]) (linkUp flitD)).linkMod 0 0
     (x.up.err, x.up.nak, x.up.rxexp, x.down.wire) = (1, true, 5, [{ seq := 0, ack := 4, kind := .nak }])) ∧
    (let x := (after (.flitReceive 0 0 true []) (linkUp { flitD with wire := [{ seq := 0, ack := 5, kind := .nak }] })).linkMod 0 0
     (x.down.nakWire, x.up.rxexp, x.up.wire) = (some 5, 5, [])) ∧
    exec (.nakReplay 0 0 true) (linkUp { flitD with nakWire := some 5 }) = .next { linkUp flitD with
      links := [(0, { stat := 2, up := { flitD with heldF := [{ seq := 6, ack := 0 }], wire := [{ seq := 5, ack := 0 }, { seq := 6, ack := 0 }], rpl := 1 } })] } ∧
    ((after (.controlFlit 0 0 true) (linkUp flitD)).linkMod 0 0).up.wire = [{ seq := 5, ack := 0 }, { seq := 7, ack := 4095, kind := .control }] ∧
    (let x := (after (.laneFailure 0 0 true (.lane true)) (linkUp { flitD with spares := 0 })).linkMod 0 0
     (x.width, x.stat, x.down.wire.map (·.kind)) = (32, 3, [.retrain])) ∧
    ((after (.laneFailure 0 0 true (.lane true)) (linkUp flitD)).linkMod 0 0).repaired = 1 ∧
    ((after (.laneFailure 0 0 true .request) (linkUp flitD)).linkMod 0 0).stat = 3 ∧
    (let x := (after (.flitReceive 0 0 true []) retraining).linkMod 0 0
     (x.stat, x.up.nak, x.down.nak, x.down.wire.map (·.kind)) = (2, true, true, [.nak])) ∧
    (after (.laneFailure 0 0 true (.lane false)) (linkUp { flitD with spares := 0 })).hub.toFence = [0] :=
  ⟨by decide +kernel, by decide +kernel, isNext (by decide +kernel), by decide +kernel, by decide +kernel, by decide +kernel, by decide +kernel,
   by decide +kernel, by decide +kernel⟩

theorem witness_link_starved :
    (∃ q ∈ (linkUp { flitD with refused := [(2, 256)] } {} [crossing]).netMsgs, 256 ≤ ({ flitD with refused := [(2, 256)] } : LinkDir).refused.get 0 q.vc) ∧
    (after (.vcStarvationPriority 0 true) (linkUp { flitD with refused := [(2, 255)] } {} [crossing])).links =
      (linkUp { flitD with refused := [(2, 255)] } {} [crossing]).links := by decide +kernel

/-- Page tables that map space 1's first page to itself, with the leaf given. -/
def tables (leaf : Nat) : Memory :=
  [(0x100008, 0x200001), (0x200000, 0x201001), (0x201000, 0x202001), (0x202000, 0x203001), (0x203000, leaf)].foldl (fun m p => Memory.writeBytes m p.1 8 p.2) []
def goodLeaf : Nat := 2 ^ 62 + 2 ^ 60 + 2 ^ 59 + 0xBB
def walk1 : Walk := { id := 7, sid := 1, va := 64, kind := .read, fir := fg }
def walking (leaf : Nat) (w : Walk := walk1) : State := { mapped (tables leaf) with
  hub := { State.reset.hub with slots := [(0, slot0)], spaceBase := 1, spaceEn := true }
  cls := [(0, { (mapped).cl 0 with sid := 1, tlb := [], walks := [w], here := [(4103, [4096, 8192, 8208, 8224, 8240])] })] }
theorem witness_WalksAndInvalidation : ((walking goodLeaf).cl 0).walks.find? (fun w => w.id == 7 && w.lost.isNone) = some walk1 ∧
    (((walking goodLeaf).cl 0).walks.take 4).find? (fun w => w.id == 7 && w.lost.isNone) = some walk1 ∧
    ((walking goodLeaf).fetchLines 0 (4096 + 7) walk1.holder ((((walking goodLeaf).walkReads [] 1 64).map (fun p => p / 256)).eraseDups)).1 = true ∧
    (walking goodLeaf).walkVia [] 1 64 = .leaf goodLeaf 0x203000 1 0 ∧ ((walking goodLeaf).home 8).isSome ∧ walk1.prefs = [] ∧ walk1.chan = none ∧ walk1.port = none ∧ walk1.orphan = false ∧
    ((walking 0x3B { walk1 with orphan := true }).cl 0).walks.find? (fun w => w.id == 7 && w.lost.isNone) = some { walk1 with orphan := true } ∧
    (walking 0x3B).walkVia [] 1 64 = .leaf 0x3B 0x203000 1 0 ∧ isPref (((walking 0x3B).cl 0).instr 34 1) = false ∧ ((walking 0x3B).cl 0).stat = .running ∧
    (walking goodLeaf).hub.invBusy = false ∧
    (((walking goodLeaf { walk1 with lost := some 0x203000 }).cl 0).walks.find? (fun w => w.id == 7 && !w.reported)).isSome := by
  decide +kernel
theorem witness_leaf : Leaf (walking goodLeaf) 1 64 goodLeaf 0x203000 := ⟨1, 0, by decide +kernel⟩
theorem witness_walk_steps :
    ((after (.walkComplete 0 7) (walking goodLeaf)).cl 0).tlb.map (fun e => (e.sid, e.pba 64, e.rd, e.wr, e.dirty)) = [(1, 64, true, true, true)] ∧
    ((after (.walkComplete 0 7) (walking goodLeaf)).cl 0).walks = [] ∧
    (after (.walkComplete 0 7) (walking 0x3B)).hub.faults.map (fun q => q.code) = [0x104] ∧
    (let t := after (.walkComplete 0 7) (walking 0x3B { walk1 with orphan := true })
     (t.hub.faults = [] ∧ (t.cl 0).stat = .running ∧ (t.cl 0).walks = [])) ∧
    ((after (.pteLost 0 7) (walking goodLeaf { walk1 with lost := some 0x203000 })).hub.faults.head?.map (fun q => (q.queue, q.code))) = some (4095, 0x505) ∧
    (after (.pteLost 0 7) (walking goodLeaf { walk1 with lost := some 0x203000 })).hub.quiesced = [1] ∧
    (after (.writeBackScan 1 64) (walking goodLeaf)).hub.invBusy = true ∧ ((after .tlbInvAll mapped).cl 0).tlb = [] ∧
    (after .tlbInvDone (after .tlbInvAll { mapped with cur := none })).hub.invBusy = false := by decide +kernel
/-- 03 R54: a line request of space 1 is under way, or a load that was issued while CL_SID named space 1. -/
def lineIn (sid : Nat) : State := after (.tlbInvSid 1) ({ mapped with cur := none }.modCl 0 (fun x => { x with fills := [{ line := 0, sid := sid }] }))
def loadingIn1 : State := after (.tlbInvSid 1) ({ mapped [] { pend := [⟨3, fg, .ld false 31 noWave r, .load 32 1 false 0 false [⟨0x400FA0, 32, false, none⟩], 0⟩] } with cur := none }.modCl 0 (fun x => { x with oldSids := [1] }))
theorem witness_Invalidation : (lineIn 1).hub.invBusy = true ∧ (lineIn 1).hub.invRun.1 = 1 ∧ (lineIn 1).hub.invRun.2.1 = 1 ∧
    (∀ f ∈ ((lineIn 5).cl 0).fills, f.sid ≠ 1) ∧ (∃ f ∈ ((lineIn 1).cl 0).fills, f.sid = 1) ∧
    1 ∈ (loadingIn1.cl 0).sid :: (loadingIn1.cl 0).oldSids ∧ (loadingIn1.cl 0).inFlight = true := by decide +kernel
theorem witness_invalidation_steps : exec .tlbInvDone (lineIn 1) = .next (lineIn 1) ∧ exec .tlbInvDone loadingIn1 = .next loadingIn1 ∧ (after .tlbInvDone (lineIn 5)).hub.invBusy = false :=
  ⟨isNext (by decide +kernel), isNext (by decide +kernel), by decide +kernel⟩
/-- 03 R58, R61: a slot bound with a lease descriptor at bit 0x800 of the mapped page, and one whose unit has ended. -/
def bound1 : State := { mapped [(0x100, 5), (0x10F, 0xC0)] with hub := { State.reset.hub with
  slots := [(0, { slot0 with state := 1, leaseGranted := false, lease := [], words := [2 ^ 63, 0, 0, 0x800, 0, 0, 0, 0] })], hubTlb := [page0] } }
theorem witness_leases : (bound1.slot 0).state = 1 ∧ (bound1.slot 0).leaseGranted = false ∧
    (∃ v bad sub, (bound1.hubRead 0 (Bind.of (bound1.slot 0).words).sid (Bind.of (bound1.slot 0).words).lease 2048).2 = .ok (v, bad, sub)) ∧
    (let s := ({ mapped with hub := { State.reset.hub with slots := [(0, { slot0 with state := 3, endA := [(0, 0)] })] } } : State)
     (s.slot 0).state = 3 ∧ s.signalling (s.slot 0) = false ∧ (∀ p ∈ (s.slot 0).endA, p.2 ≤ (s.gal (p.1 % 2048)).d)) :=
  ⟨rfl, rfl, ⟨_, _, _, rfl⟩, by decide +kernel⟩
theorem witness_lease_granted : ((after (.leaseGranted 0) bound1).slot 0).lease = [(5, 0, true)] := by decide +kernel

/-- Galleys: an entry to drain, one drained, a marker, a lost slot. -/
def galleyOf (e : GEnt) : State := mapped.modCl 0 (fun x => { x with gal := { x.gal with a := 1, ents := [e] } })
def ent0 : GEnt := { pos := 0, pba := 0x400FA0, len := 32, data := 5 }
theorem witness_DrainingAndBases : ((galleyOf ent0).gal 0).ents.find? (fun x => !x.sent) = some ent0 ∧ ((galleyOf ent0).entryBad 0 0).1 = false ∧
    (({ galleyOf ent0 with eccBad := [((mapped).gal 0).slotPa 0 * 8 / 512] } : State).entryBad 0 0).1 = true ∧
    ((galleyOf { ent0 with sent := true }).gal 0).ents.find? (fun x => x.kind != 2 && (galleyOf ent0).home (x.pba / 8) == some 0) = some { ent0 with sent := true } ∧
    (galleyOf ent0).atomicHolds 0 0 0 = false ∧ (galleyOf ent0).drainAway 0 0 = false ∧ (galleyOf ent0).sectorBad (ent0.pba / 512) = false ∧
    (mapped.die 1).mirrorBad = false ∧ mapped.dieLive 1 = true ∧ dieOfAgent 0 ≠ 1 ∧ mapped.mirrorMsg 1 0 = none ∧ (mapped.home 0x1000).isSome ∧
    mapped.mem.wf = true ∧ (mapped.cl 0).vcBusy = false ∧ mapped.present? 0 = true := by decide +kernel
/-- Two requesters of bank 3, the second in the order refused n times; and the bank held by the first. -/
def banks2 (n : Nat) : State := mapped.modCl 0 (fun x => { x with
  banks := [{ key := 1, who := 5, off := 0x300, w := 8 }, { key := 2, who := 2, off := 0x310, w := 8 }], bankRefused := [(53, n)] })
def busy3 : State := (banks2 0).modCl 0 (fun x => { x with bankBusy := [(3, 2, 2)] })
theorem witness_drain_steps :
    ((after (.drainEntry 0) (galleyOf ent0)).gal 0).ents = [{ ent0 with sent := true }] ∧
    exec (.drainEntry 0) (galleyOf { ent0 with kind := 2 }) = .next ((galleyOf { ent0 with kind := 2 }).modGal 0 (fun y => { y with ents := [] })) ∧
    exec (.compactorFold 0 0) (galleyOf ent0) = .next (galleyOf ent0) ∧
    ({ ent0 with sent := true } : GEnt).left = [6] ∧ ((galleyOf { ent0 with sent := true }).fold ent0 6).mem.readBits 0x400FA0 32 = 5 ∧
    exec (.mirrorUpdate 0 0) (galleyOf ent0) = .next ((galleyOf ent0).modDie 0 (fun x => { x with mirror := [(0, (0, 0))] })) ∧
    ((after (.vcInvalAll 0) mapped).cl 0).vcBusy = true ∧
    (after (.hdmWindowStore 0x1000 [7, 8]) { mapped with hub := { State.reset.hub with hostWin := some (0x1000, 2) } }).mem = [(0x1000, 7), (0x1001, 8)] ∧
    (after (.hdmWindowStore 0x1001 [7, 8]) { mapped with hub := { State.reset.hub with hostWin := some (0x1000, 2) } }).mem = [] ∧
    ((after (.aBufferBankPriority 0 0 3) (banks2 0)).cl 0).banks.map (·.got) = [none, some 0] ∧
    ((after (.aBufferBankPriority 0 0 3) (banks2 16)).cl 0).banks.map (·.got) = [some 0, none] ∧
    (busy3.cl 0).bankCycle.bankRefused.get 0 (3 * 16 + 5) = 1 :=
  ⟨by decide +kernel, isNext (by decide +kernel), isNext (by decide +kernel), by decide +kernel, by decide +kernel, isNext (by decide +kernel), by decide +kernel, by decide +kernel, by decide +kernel, by decide +kernel, by decide +kernel, by decide +kernel⟩
theorem witness_banks : ((banks2 0).cl 0).bankBusy.has 3 = false ∧ ((banks2 0).cl 0).banks.filter (fun q => q.got.isNone && q.off / 256 % 32 == 3) ≠ [] ∧
    ((banks2 0).cl 0).banks.filter (fun q => q.got.isNone && q.off / 256 % 32 == 3 && !(q.store.isSome && ((banks2 0).cl 0).marked 0 (q.off / 256))) ≠ [] ∧
    (∀ k < 2, ∃ d < 4, mapped.home (0x1000 + k) = some d) ∧
    (∀ q ∈ ((banks2 0).cl 0).banks, q.who < 9) ∧ ((busy3.cl 0).bankBusy = [(3, 2, 2)]) ∧ (busy3.cl 0).bankCycle.bankBusy = [(3, 1, 9)] ∧
    (busy3.cl 0).bankCycle.perf.get 0 0x040 = 1 := by decide +kernel

/-- Completion counters (20 R358 to R360) and a bind record (R361). -/
def counters (l : Tbl Counter) (m : List Msg := []) : State := { State.reset with hub := { State.reset.hub with cnts := l, jobs := [4] }, netMsgs := m }
def signalMsg : Msg := { id := 1, vc := 5, src := 0, srcUnit := 0, dst := 1024, dstUnit := 0, pay := .signal 4 true }
def bindable (k : Nat) : State := { State.reset with hub := { State.reset.hub with slotSel := k, cnts := [(9, { status := 0 })], slotW := [2 ^ 63, 0, 0, 0, 9 * 2 ^ 52 + 4 * 2 ^ 16, 0, 0, 0] } }
/-- A slot whose launch answers to counter 4, saved (pre = 2) or under a restore (3). -/
def preempted (p : Nat) : State := (counters [(4, { status := 1, remain := 2 })]).modHub (fun h => { h with
  slots := [(0, { state := 2, pre := p, words := [2 ^ 63, 0, 0, 0, 9 * 2 ^ 52 + 0xFFF * 2 ^ 40 + 0xFFF * 2 ^ 28 + 4 * 2 ^ 16, 0, 0, 0], clusters := [0] })] })
theorem witness_Counters : ((counters []).counter 4).status = 0 ∧ ((counters [(4, { status := 1, remain := 2 })]).counter 4).status = 1 ∧
    2 ^ 23 ≤ 2 + (2 ^ 23 - 1) % 2 ^ 23 ∧ ((counters [(4, { status := 3 })]).counter 4).status = 3 ∧
    (counters [(4, { status := 1, remain := 2 })] [signalMsg]).netMsgs.find? (fun m => m.pay.counter == some 4 && (counters [(4, { status := 1, remain := 2 })] [signalMsg]).arrived m) = some signalMsg ∧
    (∀ k < 256, ((counters []).slot k).state ≠ 1) ∧ (∀ p ∈ (counters [(4, { status := 1 })]).hub.queues, ∀ r ∈ p.2.reqs, (counters []).hub.under p.2.job 4 r = false) ∧
    (∀ r ∈ (counters [(4, { status := 1 })]).hub.nodesHeld, (counters []).hub.under 0xFFF 4 r = false) ∧
    ((preempted 2).counter 4).status = 1 ∧ (Bind.of ((preempted 2).slot 0).words).names 4 = true ∧ ((preempted 2).slot 0).state = 2 ∧ ((preempted 2).slot 0).pre = 2 ∧
    ((preempted 3).slot 0).pre = 3 ∧ (∀ j < 256, j ≠ 0 → ((preempted 2).slot j).state = 0) ∧ (4 : Nat) ≠ 0xFFF ∧ 4 ∈ (counters []).hub.jobs ∧ errOf (bindable 3) 3 = 0 ∧ errOf { bindable 3 with hub := { (bindable 3).hub with slotW := [0] } } 3 = 1 := by decide +kernel
theorem witness_counter_steps :
    exec (.cntArm 4 false 0 3) (counters []) = .next ((counters []).modHub (fun h => { h with cnts := [(4, { status := 1, remain := 3 })] })) ∧
    exec (.cntAdd 4 (2 ^ 23 - 1)) (counters [(4, { status := 1, remain := 2 })]) = .next ((counters [(4, { status := 1, remain := 2 })]).modHub (fun h => { h with cnts := [(4, { status := 1, remain := 2, err := true })] })) ∧
    ((after (.cntSignal 4) (counters [(4, { status := 1, remain := 2 })] [signalMsg])).counter 4) = { status := 1, remain := 1, flt := true } ∧
    ((after (.cntSignal 4) (counters [(4, { status := 1, remain := 1 })] [signalMsg])).counter 4).status = 3 ∧
    (after (.cntSignal 4) (counters [(4, { status := 1, remain := 1 })] [signalMsg])).hub.comps = [{ cid := 0xFFFFFFFF, status := 0, result := 4 }] ∧
    ((after (.cntCancel 4) (preempted 2)).slot 0).state = 3 ∧ ((after (.cntCancel 4) (preempted 3)).slot 0).state = 3 ∧
    (after (.cntFree 4) (counters [(4, { status := 3 })])).hub.jobs = [] ∧
    ((after .slotCommit (bindable 3)).slot 3).state = 1 ∧ (after .slotCommit { bindable 3 with hub := { (bindable 3).hub with slotW := [0] } }).hub.slotErr = 1 :=
  ⟨isNext (by decide +kernel), isNext (by decide +kernel), by decide +kernel, by decide +kernel, by decide +kernel, by decide +kernel, by decide +kernel, by decide +kernel, by decide +kernel, by decide +kernel⟩

/-! Launches and their ends (20 R364 to R367, 03 R68). -/

/-- A forme of one node, a `MOV` at unit 1, node 6, whose result is dropped. -/
def movForme : Forme := { nodes := [(1 * 512 + 6, 0xC00000C0000000000000)] }
/-- Bit 0x10000 of process memory: a block of one start entry, 77 for port a of unit 1, node 6. -/
def startBlock : Memory := Memory.writeBytes (Memory.writeBytes [] 0x2000 8 1) 0x2010 16 ((1 * 2 ^ 16 + 6 * 2 ^ 7) * 2 ^ 40 + 77 * 2 ^ 64)
def launchWords1 : List Nat := [2 ^ 63, 0x40000, 0x10000, 0, 9 * 2 ^ 52 + 0xFFF * 2 ^ 40 + 0xFFF * 2 ^ 28 + 4 * 2 ^ 16, 0xFFF * 2 ^ 52 + 0xFFF * 2 ^ 40, 0x20000, 0]
def slotL (st : Nat) : Slot := { state := st, words := launchWords1, leaseGranted := true, lease := [(0, 2 ^ 60, true)], clusters := [0] }
def launching (sl : Slot) (x : Cluster := {}) : State := { State.reset with
  mem := startBlock
  formes := [(0, 0x40000, movForme, false)]
  cls := [(0, x)]
  hub := { State.reset.hub with slots := [(0, sl)], hubTlb := [page0], gals := [(2, { base := 2 ^ 20 })] } }
def starting : State := launching { slotL 2 with waiting := true }
def onUnit (x : Ctx := {}) (st : UnitStat := .running) : Cluster := { slot := some 0, stat := st, ctx := { x with frames := [(0, { n := 1 })] }, gal := { base := 2 ^ 19, a := 5, p := 3 } }
def skipper : Ctx := { skip0 := [(0, 1)] }
/-- A unit that ends while its output row still waits at bank 0. -/
def rowWaits : State := launching (slotL 2) { onUnit {} .ending with banks := [{ key := 1, who := 1, off := 0, w := 64, store := some 5 }] }
theorem witness_LaunchesAndEnds : (launching (slotL 1)).doomed 0 = false ∧ (launching (slotL 1)).hub.toFence = [] ∧ (starting.slot 0).pre = 0 ∧
    (∀ q ∈ ((launching (slotL 2) (onUnit {} .ending)).cl 0).banks, q.who = 1 → q.store ≠ none → q.got ≠ none) ∧ (launching (slotL 1)).slotReady 0 = true ∧ (launching (slotL 1)).firstFor 0 = true ∧
    (launching (slotL 1)).present? 0 = true ∧ ((launching (slotL 1)).cl 0).slot = none ∧ ((launching (slotL 1)).cl 0).health ≠ 2 ∧
    (launching (slotL 1)).formeAt 0 (0x40000 % 2 ^ 60) = some (movForme, false) ∧ movForme.loadErr (fun d => [0].contains d) = none ∧ movForme.fits = true ∧
    (starting.slot 0).state = 2 ∧ (starting.slot 0).waiting = true ∧ (Bind.of (starting.slot 0).words).pred1 = 0xFFF ∧ (Bind.of (starting.slot 0).words).pred2 = 0xFFF ∧
    (Bind.of (starting.slot 0).words).param = 0 ∧ ((launching (slotL 2) (onUnit)).cl 0).slot = some 0 ∧ (launching (slotL 2) (onUnit)).recordsPending 0 = false ∧
    (((((launching (slotL 2) (onUnit)).releasePkg 0).fillClaims 0).hubStore 0 1026 0 (0x20000 + 64 * 1 + 32 * 0) 32 [(0, 32, 5, false)]).isSome = true) ∧
    (launching (slotL 2) (onUnit)).drained 0 = true ∧ ((launching (slotL 2) (onUnit)).gal 0).p ≤ ((launching (slotL 2) (onUnit)).gal 0).a ∧
    ((launching (slotL 2) (onUnit {} .ending)).cl 0).stat = .ending ∧ ((launching (slotL 2) (onUnit skipper)).ctx 0).skips = true ∧
    ((launching (slotL 2) (onUnit { skipper with repaired := true })).ctx 0).repaired = true := by decide +kernel
theorem witness_launch_start : startTokens movForme none (1 + 2 ^ 128 * ((1 * 2 ^ 16 + 6 * 2 ^ 7) * 2 ^ 40 + 77 * 2 ^ 64)) [] = .ok [(1, 6, .a, 77, false)] := rfl
theorem witness_launch_steps :
    (let t := after (.dispatchStart 0) (launching (slotL 1))
     ((t.slot 0).state = 2 ∧ (t.slot 0).waiting = false ∧ t.counter 9 = { status := 1, remain := 1, pv := true, parent := 4, ln := true, trigLeft := 1 } ∧
      (t.cl 0).slot = some 0 ∧ (t.cl 0).stat = .running ∧ (t.ctx 0).frames.map (·.1) = [0] ∧ (t.ctx 0).resv = 1 ∧
      t.netMsgs.map (fun m => m.pay) = [.token (.node 0 1 6 .a) 0 { tag := frameTag 0 0 0, cl2 := 6, pay := 77 }])) ∧
    ((after (.dispatchStart 0) starting).slot 0).starts = [(1, 6, .a, 77, false)] ∧
    (let t := after (.unitEnd 0) (launching (slotL 2) (onUnit))
     ((t.cl 0).slot = none ∧ (t.cl 0).stat = .idle ∧ (t.ctx 0).frames = [] ∧ t.netMsgs.any (fun m => decide (m.pay = .signal 9 false)) = true ∧ (t.gal 0).p = 5 ∧ (t.slot 0).endA = [(0, 5)] ∧
      (t.slot 0).state = 3)) ∧
    ((after (.unitEnd 0) (launching (slotL 2) (onUnit {} .ending))).netMsgs.any (fun m => decide (m.pay = .signal 9 true)) = true) ∧
    ((after (.unitEnd 0) rowWaits).cl 0).slot = some 0 ∧
    (let t := after (.unitFault 0) (launching (slotL 2) (onUnit { deque := [{}] } .faulting))
     ((t.cl 0).stat = .ending ∧ (t.ctx 0).deque = [] ∧ (t.ctx 0).frames.map (·.1) = [0])) ∧
    (let t := after (.repairPassStart 0) (launching { slotL 2 with starts := [(1, 6, .a, 77, false)] } (onUnit skipper))
     ((t.ctx 0).repair = true ∧ t.netMsgs.map (fun m => m.pay) = [.token (.node 0 1 6 .a) 0 { tag := frameTag 0 0 0, cl2 := 6, pay := 77 }])) := by decide +kernel

/-! The copy engine (05 R101 to R116). -/

/-- Two words of 32 bits from process memory to A-buffer offset 64; one word to process memory with a tag. -/
def recWords (kind width : Nat) (src dst : Nat) (w0 : Nat := 0) (w7 : Nat := 0) : List Nat :=
  [2 ^ 63 + kind * 2 ^ 60 + 2 ^ 58 + width * 2 ^ 41 + w0, 0, src, dst, 2, 0, 0, w7]
def recBytes (l : List Nat) : Memory := Memory.writeBytes (Memory.writeBytes [] 0x2000 64 (l.zipIdx.foldl (fun n p => n + p.1 * 2 ^ (64 * p.2)) 0)) 0x4000 8 0x700000005
def toAbuf : List Nat := recWords 4 32 0x20000 (2 ^ 60 + 64)
def chanOf (h : Channel) (l : List Nat := toAbuf) (x : Ctx := {}) : State :=
  (mapped (recBytes l) { x with chans := [(1, { h with head := 0x10000, busy := true })] }).modCl 0 (fun x => { x with here := [(65, [32, 64])] })
def recOf (l : List Nat := toAbuf) : CopyRec := { ptr := 0x10000, words := l, dst := (nth l 3).getD 0, started := true }
def ringRec : List Nat := recWords 4 32 0x20000 0xF000000000000000 (2 ^ 48) (2 * 2 ^ 32)
def popRec : List Nat := recWords 2 32 (4 * 2 ^ 60 + 4) 0x30000
def taggedRec : List Nat := recWords 0 32 0x20000 0x30000 (2 ^ 49 + 6 * 2 ^ 50)
def vOf (l : List Nat) : Nat := l.zipIdx.foldl (fun n p => n + p.1 * 2 ^ (64 * p.2)) 0
def emptyPort : State := (chanOf { rec_ := some (recOf popRec) } popRec
    { ports := [(4, { queue := [{ tok := { kind := .bubble } }] })] }).modCl 0 (fun x => { x with forme := { x.forme with eps := [(4, epWord true)] } })
def lined1 (s : State) : State := (s.fetchLines 0 65 2 [32]).2
theorem witness_MayFetch : MayFetch (chanOf {}) 0 1 ∧ Fetches (chanOf {}) 0 1 (vOf toAbuf) (lined1 (chanOf {})) ∧
    Fetches (chanOf {} (0 :: toAbuf.tail)) 0 1 (vOf (0 :: toAbuf.tail)) (lined1 (chanOf {} (0 :: toAbuf.tail))) ∧
    Fetches (chanOf {} (recWords 4 32 (3 * 2 ^ 60) (2 ^ 60))) 0 1 (vOf (recWords 4 32 (3 * 2 ^ 60) (2 ^ 60))) (lined1 (chanOf {} (recWords 4 32 (3 * 2 ^ 60) (2 ^ 60)))) := by
  refine ⟨by unfold MayFetch; decide +kernel, ⟨[(0x10000, 512, false)], ?_⟩, ⟨[(0x10000, 512, false)], ?_⟩, ⟨[(0x10000, 512, false)], ?_⟩⟩ <;> unfold Reaches <;> decide +kernel
def toWordEnd : List Nat := recWords 4 32 0x20000 (2 ^ 60 + 224)
/-- The first element stands in the run; the whole record's run; and a record whose last request has been made. -/
def joining : CopyRec := { recOf with j := 1, run := some (64, 32, 5) }
def written (n : Nat) : CopyRec := { recOf with j := 2, wkey := some n }
def chanWrites (n : Nat) : State := (chanOf { rec_ := some (written 7) }).modCl 0 (fun x => { x with banks := [{ key := n, who := 7, off := 64, w := 64, store := some 5 }] })
theorem witness_CopyEngine : (vOf toAbuf).testBit 63 = true ∧ (vOf toAbuf).testBit 48 = false ∧ (chanOf {}).recBad 0 (recOf) = false ∧
    (chanOf {}).ptrCause 0 (kindTags 4).1 0x20000 = none ∧ (chanOf {}).ptrCause 0 (kindTags 4).2 (2 ^ 60 + 64) = none ∧ (recOf).unaligned (2 ^ 60 + 64) = false ∧
    ((chanOf {}).ptrCause 0 (kindTags 4).1 (3 * 2 ^ 60)).isSome ∧ ((chanOf {}).cl 0).stat = .running ∧ (vOf (0 :: toAbuf.tail)).testBit 63 = false ∧
    (recOf ringRec).ringEn = true ∧ 2 ^ 2 ≤ 9 - 5 ∧ 8 - 5 < 2 ^ 2 ∧ 0 ≤ (recOf ringRec).span.1 ∧ (recOf ringRec).span.2 ≤ 64 ∧
    (recOf).j < (recOf).total ∧ (recOf).srcAt 1 = 0x20020 ∧ (chanOf { rec_ := some (recOf) }).elems 0 [0] .read 0x20000 0x20000 32 1 = .ok 0 0x20000 [(0x20000, 32, false)] ∧
    (recOf).run = none ∧ (recOf).word = none ∧ 64 % 256 + 32 < 256 ∧ (recOf toWordEnd).run = none ∧ 224 % 256 + 32 = 256 ∧
    (chanOf { rec_ := some (recOf toWordEnd) } toWordEnd).elems 0 [0] .read 0x20000 0x20000 32 1 = .ok 0 0x20000 [(0x20000, 32, false)] ∧
    joining.run = some (64, 32, 5) ∧ joining.dstAt joining.j = 96 ∧ joining.srcAt joining.j = 0x20020 ∧
    (chanOf { rec_ := some joining }).elems 0 [0] .read 0x20000 0x20020 32 1 = .ok 0 0x20020 [(0x20020, 32, false)] ∧
    ({ joining with j := 2 }).total ≤ 2 ∧ bufOwner 0 joining.dst = 0 ∧ 5 < 2 ^ 32 ∧ (written 7).wkey = some 7 ∧ (written 7).run = none ∧
    (chanWrites 7).bufPending 0 7 = true ∧ (chanWrites 6).bufPending 0 7 = false ∧
    (chanOf { rec_ := some (recOf) }).fetchLines 0 65 2 (linesOf [(0x20000, 32, false)]) = (true, chanOf { rec_ := some (recOf) }) ∧
    ((chanOf { rec_ := some (recOf) }).readBase [(0x20000, 32, false)]).2.1 = [] ∧
    (emptyPort.ep 0 4).isSome ∧ (emptyPort.ctx 0).port 4 = { queue := [{ tok := { kind := .bubble } }] } ∧
    ({ recOf taggedRec with j := 2 }).total ≤ 2 ∧ (recOf taggedRec).tagEn = true ∧ (recOf taggedRec).kind ≠ 4 ∧
    (chanOf { rec_ := some { recOf taggedRec with j := 2 } } taggedRec).mayAppend 0 3 2 = true := by decide +kernel
theorem witness_Moving : Moving (chanOf { rec_ := some (recOf) }) 0 1 (recOf) ∧ Moving emptyPort 0 1 (recOf popRec) ∧
    Moving (chanOf { rec_ := some { recOf taggedRec with j := 2 } } taggedRec) 0 1 { recOf taggedRec with j := 2 } ∧
    Moving (chanOf { rec_ := some joining }) 0 1 joining ∧ Moving (chanOf { rec_ := some { joining with j := 2 } }) 0 1 { joining with j := 2 } ∧
    Moving (chanOf { rec_ := some (recOf toWordEnd) } toWordEnd) 0 1 (recOf toWordEnd) ∧ Moving (chanWrites 7) 0 1 (written 7) ∧
    Reaches (chanOf { rec_ := some { recOf taggedRec with j := 2 } } taggedRec) 0 .write 0x10000 64 [(0x10000, 64, false)] := by
  unfold Moving Reaches; decide +kernel
theorem witness_copy_steps :
    exec (.recordFetch 0 1) (chanOf {}) = .next ((chanOf {}).modCtx 0 (fun y => { y with chans := [(1, { busy := true, cur := 0x10000, head := 0, rec_ := some (recOf) })] })) ∧
    exec (.recordFetch 0 1) (chanOf {} (0 :: toAbuf.tail)) = .next ((chanOf {} (0 :: toAbuf.tail)).modCtx 0 (fun y => { y with chans := [(1, { head := 0x10000, lastStat := 1 })] })) ∧
    (let t := after (.recordFetch 0 1) (chanOf {} (recWords 4 32 (3 * 2 ^ 60) (2 ^ 60)))
     ((t.cl 0).stat = .faulting ∧ ((t.ctx 0).chan 1).lastStat = 9 ∧ t.hub.faults.map (fun q => (q.code, q.origin, q.unit, q.cause / 2 ^ 192)) = [(0x100, 1, 38, 0x10000)])) ∧
    (let t := after (.ringSlotClaim 0 1) (chanOf { rec_ := some { recOf ringRec with started := false } } ringRec (ring2 7 5 8))
     (((t.ctx 0).rings.get {} 2).claim = 9 ∧ ((t.ctx 0).chan 1).rec_.map (fun q => (q.claim, q.dst, q.started)) = some (some (0, 2, 8), 0x2000000, true))) ∧
    (let t := after (.ringSlotClaim 0 1) (chanOf { rec_ := some { recOf ringRec with started := false } } ringRec (ring2 7 5 9))
     (((t.ctx 0).chan 1).waiting = true ∧ ((t.ctx 0).rings.get {} 2).claim = 9)) ∧
    (let t := after (.copyMove 0 1) (chanOf { rec_ := some (recOf) })
     ((t.cl 0).banks = [] ∧ ((t.ctx 0).chan 1).rec_ = some joining)) ∧
    (let t := after (.copyMove 0 1) (chanOf { rec_ := some joining })
     ((t.cl 0).banks = [] ∧ ((t.ctx 0).chan 1).rec_ = some { recOf with j := 2, run := some (64, 64, 5 + 2 ^ 32 * 7) })) ∧
    (let t := after (.copyMove 0 1) (chanOf { rec_ := some (recOf toWordEnd) } toWordEnd)
     ((t.cl 0).banks = [{ key := 0, who := 7, off := 224, w := 32, store := some 5 }] ∧ ((t.ctx 0).chan 1).rec_ = some { recOf toWordEnd with j := 1, wkey := some 0 })) ∧
    (let t := after (.recordRetire 0 1) (chanOf { rec_ := some { joining with j := 2 } })
     ((t.cl 0).banks = [{ key := 0, who := 7, off := 64, w := 32, store := some 5 }] ∧ ((t.ctx 0).chan 1).rec_ = some { recOf with j := 2, wkey := some 0 })) ∧
    exec (.recordRetire 0 1) (chanWrites 7) = .next (chanWrites 7) ∧
    (let t := after (.copyMove 0 1) emptyPort
     (((t.ctx 0).port 4).queue = [] ∧ ((t.ctx 0).chan 1).rec_ = some { recOf popRec with j := 4, skipped := true })) ∧
    (let t := after (.recordRetire 0 1) (chanOf { rec_ := some { recOf taggedRec with j := 2 } } taggedRec)
     ((t.gal 0).ents.map (fun e => (e.kind, e.source, e.pba, e.len, e.data)) = [(1, 1, 0x10000, 64, (nth taggedRec 0).getD 0 % 2 ^ 63)] ∧ ((t.ctx 0).chan 1).tl = 1 ∧
      ((t.ctx 0).chan 1).busy = false ∧ (t.ctx 0).ready = 2 ^ 6 ∧ ((t.ctx 0).chan 1).stamp = some ⟨0, 1⟩)) :=
  ⟨isNext (by decide +kernel), isNext (by decide +kernel), by decide +kernel, by decide +kernel, by decide +kernel, by decide +kernel, by decide +kernel, by decide +kernel,
   by decide +kernel, isNext (by decide +kernel), by decide +kernel, by decide +kernel⟩

/-! Fault records, hangs, sparing, code objects and the kernel (16 R345, 20 R375, 21 R379 to R387, 22 R389 to R402). -/

def frec (q : Nat) : FaultRec := { queue := q, code := 0x104, cl := 3, cause := 9 }
/-- A fault table at page 0: job 4's queue of 64 records at page 3, with WPTR 2 and RPTR as given. -/
def faultTable (v rptr : Nat) : State := { State.reset with
  mem := Memory.writeBytes (Memory.writeBytes [] 128 8 (v * 2 ^ 63 + 3 * 2 ^ 12)) 136 8 (2 * 2 ^ 32 + rptr)
  hub := { State.reset.hub with fqEn := true, faults := [frec 7, frec 4, frec 4] } }
theorem witness_FaultAgent : (faultTable 1 2).hub.faults = [frec 7] ++ frec 4 :: [frec 4] ∧ (∀ q ∈ [frec 7], q.queue ≠ 4) ∧ (faultTable 1 2).hub.fqEn = true ∧
    ((faultTable 1 2).mem.word 128).testBit 63 = true ∧ ((faultTable 0 2).mem.word 128).testBit 63 = false ∧
    ((faultTable 1 (2 ^ 32 - 62)).mem.word 136 / 2 ^ 32 % 2 ^ 32 + 2 ^ 32 - (faultTable 1 (2 ^ 32 - 62)).mem.word 136 % 2 ^ 32) % 2 ^ 32 = 2 ^ 6 := by decide +kernel
theorem witness_record_written :
    exec (.faultRecordWrite 4) (faultTable 1 2) = .next (setMem ((faultTable 1 2).modHub (fun h => { h with faults := [frec 7, frec 4] }))
      (Memory.writeBytes (Memory.writeBytes (faultTable 1 2).mem (3 * 4096 + 2 * 64) 64 (recordBits (frec 4) 2)) 140 4 3)) ∧
    exec (.faultRecordWrite 4) (faultTable 0 2) = .next (setMem ((faultTable 0 2).modHub (fun h => { h with faults := [frec 7, frec 4] }))
      (Memory.writeBytes (faultTable 0 2).mem 144 8 1)) := ⟨isNext (by decide +kernel), isNext (by decide +kernel)⟩

def stuckOn (sl : Slot) (quiet : Nat) (x : Ctx := {}) : State := (launching { sl with words := launchWords1 } { onUnit x with quiet := quiet })
def waiter : Ctx := { pend := [⟨3, fg, .rawait r, .wait, 0⟩] }
theorem witness_HangsAndStops : ((stuckOn (slotL 2) 0x4000000 waiter).slot 0).trapSeen = false ∧ (stuckOn (slotL 2) 0x4000000 waiter).quietLimit (slotL 2) = 0x4000000 ∧
    ((stuckOn (slotL 2) 0x4000000 waiter).cl 0).holds = true ∧ ((stuckOn (slotL 2) 0x4000000 waiter).cl 0).halt = .run ∧
    ((((stuckOn (slotL 2) 0x4000000 waiter).freezeSlot 0).writeMap 0 false).isSome = true) ∧ (((stuckOn (slotL 2) 7 waiter).cl 0).quiet < 0x4000000) ∧
    (((stuckOn { slotL 2 with trapSeen := true } 4096).freezeSlot 0).writeMap 0 true).isSome = true ∧
    ((stuckOn { slotL 2 with trapSeen := true } 4095).cl 0).quiet < 4096 ∧ (slotL 2).pre ≤ 1 ∧ (slotL 2).mapDone = false := by decide +kernel
/-- The same launch in space 3, whose tables have been lost: its map waits. -/
def stuckMap : State := { (stuckOn (slotL 2) 0x4000000 waiter).modHub (fun h => { h with
  slots := [(0, { slotL 2 with words := launchWords1.set 0 (2 ^ 63 + 3 * 2 ^ 16) })], hubTlb := [], spaceEn := true }) with poison := [(0, 1), (4 * 2 ^ 30, 1)] }
theorem witness_mapWaits : ((stuckMap.freezeSlot 0).writeMap 0 false).isSome = false ∧ (stuckMap.slot 0).state = 2 ∧ (stuckMap.slot 0).trapSeen = false ∧
    ∀ c ∈ (stuckMap.slot 0).clusters, (stuckMap.cl c).halt = .run ∧ (stuckMap.cl c).holds = true := by decide +kernel
theorem witness_hang_steps :
    (let t := after (.hang 0) (stuckOn (slotL 2) 0x4000000 waiter)
     ((t.cl 0).halt = .halting ∧ (t.cl 0).haltAs = true ∧ t.hub.faults.map (fun q => (q.code, q.queue, q.origin, q.cause)) = [(0x206, 4, 5, 0x20000 + 2048 + 2 ^ 64)])) ∧
    exec (.hang 0) (stuckOn (slotL 2) 7 waiter) = .next (stuckOn (slotL 2) 7 waiter) ∧
    (let t := after (.trapStop 0) (stuckOn { slotL 2 with trapStop := true } 0)
     ((t.slot 0).trapSeen = true ∧ (t.cl 0).frozenPorts = true)) ∧
    (let t := after (.stopMap 0) (stuckOn { slotL 2 with trapSeen := true } 4096)
     ((t.slot 0).mapDone = true ∧ (t.cl 0).halt = .halting ∧ t.hub.faults.map (fun q => (q.code, q.cause)) = [(0x304, 0x20000 + 2048 + 2 ^ 64)])) ∧
    exec (.stopMap 0) (stuckOn { slotL 2 with trapSeen := true } 4095) = .next (stuckOn { slotL 2 with trapSeen := true } 4095) :=
  ⟨by decide +kernel, isNext (by decide +kernel), by decide +kernel, by decide +kernel, isNext (by decide +kernel)⟩

/-- A unit whose activation stands open on PE 1, in a cluster given. -/
def checked (x : Cluster := onUnit { acts := [{ list0 with fir := { fg with unit := 1 } }] }) : State := launching (slotL 2) x
/-- Its second round of replay has found another mismatch (22 R393). -/
def again (x : Cluster := {}) : State := checked { (checked).cl 0 with replaying := [(1, (0, list0.seq))], secondRound := [1], sp0 := x.sp0, sp1 := x.sp1 }
/-- Sixteen replays of PE 1 within 2^24 cycles. -/
def worn : State := checked { (checked).cl 0 with replays := [(1, List.replicate 16 0)] }
def deg (x : Cluster) : State := { State.reset with cls := [(0, x)] }
theorem witness_CheckingAndSparing : ((checked).cl 0).mayFire 1 = true ∧ (checked).wornOut 0 1 = false ∧ ((checked).cl 0).mayFail 1 = false ∧
    ((again).cl 0).mayFail 1 = true ∧ worn.wornOut 0 1 = true ∧ (again).firingNow 0 1 = some { fg with unit := 1 } ∧ worn.firingNow 0 1 = some { fg with unit := 1 } ∧
    ((again).cl 0).sp0 = 0x3F ∧ ((again { sp0 := 5, sp1 := 6 }).cl 0).idleSpares = [] ∧ (checked).present? 0 = true ∧ (checked).firingNow 0 1 = some { fg with unit := 1 } ∧ ((checked).cl 0).replaying.find 1 = none ∧ ((checked).cl 0).lastReplay.find 1 = none ∧
    ((checked).cl 0).sp0 = 0x3F ∧ ((checked).cl 0).sp1 ≠ 1 ∧ (40 ∉ ((checked).cl 0).failed) ∧ ((checked).cl 0).health ≤ 1 ∧
    ({ (checked).cl 0 with sp0 := 5, sp1 := 6 } : Cluster).idleSpares = [] ∧
    ((deg { health := 2 }).cl 0).slot = none ∧ ((deg { health := 2 }).cl 0).gal.a = ((deg { health := 2 }).cl 0).gal.d ∧ ((deg { health := 2 }).cl 0).shadowBusy = false ∧
    0 < ((deg { health := 2 }).cl 0).sites ∧ ((deg { health := 2, sites := 0 }).cl 0).sites = 0 ∧ (checked).dieLive 0 = true ∧
    ((checked).cl 0).stat = .running ∧ ((checked).cl 0).halt = .run ∧ (0, (checked).cl 0) ∈ (checked).cls := by decide +kernel
/-- Two entries of the matching table with a token on port a. -/
def lostEntry : State := checked (onUnit { matches_ := [{ seq := 1, inTable := true, fir := { unit := 1, node := 6, a := some { pay := 5 } } }, { seq := 2, inTable := true, fir := { unit := 1, node := 7, a := some { pay := 5 } } }] })
theorem witness_checking_steps :
    (let t := after (.checkReplay 0 1 2) (checked)
     ((t.cl 0).perf.get 0 0x0FC = 2 ∧ t.hub.faults.map (fun q => (q.queue, q.code, q.cause)) = [(4095, 0x500, 1 + fg.node * 64 + 2 * 2 ^ 15)])) ∧
    exec (.peRetired 0 1 true) (checked) = .next (checked) ∧ exec (.checkReplay 0 1 2) worn = .next worn ∧ ((after (.peRetired 0 1 true) worn).cl 0).sp0 = 1 ∧
    (let t := after (.peRetired 0 1 true) (again)
     ((t.cl 0).sp0 = 1 ∧ (t.cl 0).failed = [1] ∧ (t.cl 0).health = 1 ∧ (t.cl 0).stat = .running)) ∧
    (let t := after (.peRetired 0 1 false) (again { sp0 := 5, sp1 := 6 })
     ((t.cl 0).health = 2 ∧ (t.cl 0).stat = .faulting)) ∧
    (let t := after (.clusterRemap 0) (deg { health := 2, failed := [3] })
     ((t.cl 0).health = 0 ∧ (t.cl 0).failed = [] ∧ (t.cl 0).sites = 3)) ∧
    (let t := after (.clusterRemap 0) (deg { health := 2, sites := 0 })
     (t.hub.unavail = [0] ∧ t.present? 0 = false)) ∧
    (let t := after (.dieFault 0) (checked)
     (t.hub.toFence = [0] ∧ (t.cl 0).stat = .faulting ∧ (t.cl 0).halt = .halting)) ∧
    (let t := after (.stateLost 0 1 5 none) (checked)
     ((t.cl 0).health = 2 ∧ (t.cl 0).stat = .faulting ∧ t.hub.faults.map (fun q => (q.queue, q.code, q.cause)) = [(4095, 0x503, 1 + 5 * 64), (4, 0x503, 1 + 5 * 64), (4095, 0x507, 0x22)])) ∧
    ((after (.stateLost 0 1 1 (some 4)) lostEntry).ctx 0).matches_.map (fun e => (e.seq, (e.fir.port .a).map (fun q => q.pmask))) = [(1, some 1), (2, some 0)] ∧
    ((after (.stateLost 0 1 10 (some 0)) (checked { walkCache := [(2, 3)] })).cl 0).walkCache = [] ∧
    ((after (.stateLost 0 2 11 (some 0)) (checked)).die 2).mirrorBad = true :=
  ⟨by decide +kernel, isNext (by decide +kernel), isNext (by decide +kernel), by decide +kernel, by decide +kernel, by decide +kernel, by decide +kernel, by decide +kernel, by decide +kernel,
   by decide +kernel, by decide +kernel, by decide +kernel, by decide +kernel⟩


/-- A forme of one dense record, `MOV` from V0 to V1, and an object of it: three sections in 3,072 bits. -/
def dense1 : DenseForme := { ptr := 0x40000, nptr := 0x50000, native := some movForme, rootMap := [(518, 3 * 512 + 1)], lens := [1], bodies := [[2 ^ 38]], inputs := [[0]] }
def header (tamv flags : Nat) (magic : Nat := 0x2E746D6F) : List Nat := [magic * 2 ^ 32 + tamv * 2 ^ 24 + 3 * 2 ^ 16 + flags, 3072, 0, 0, 0, 0, 0, 0]
def table1 : List (List Nat) := [[2 ^ 56, 1536, 64, 0], [2 * 2 ^ 56, 2048, 64, 0], [7 * 2 ^ 56, 2560, 512, 0]]
def object1 : Object := { head := header 11 0, table := table1, sigWord := 2 ^ 56 + 5, sigOk := true, formes := [dense1] }
/-- The same object as the bits at byte 64 of host memory. -/
def hostObject (head : List Nat) (sig : Nat) : Memory :=
  (((head ++ table1.flatten).zipIdx) ++ [(2 ^ 38, 24), (sig, 40)]).foldl (fun m (p : Nat × Nat) => Memory.writeBytes m (64 + 8 * p.2) 8 p.1) []
def coded (o : Object := object1) (h : List HeapObj := []) (x : Cluster := {}) (p : Option (Object × Nat) := none) : State := { State.reset with
  hostMem := hostObject o.head o.sigWord
  objects := [(64, { formes := [{ dense1 with bodies := [] }] })]
  cls := [(0, x)]
  hub := { State.reset.hub with loads := [(4, 64, 3072, 77)], jobSids := [(4, 3)], keys := [(4, 5, false)], heap := h, placing := p
                                hubTlb := [{ page0 with sid := 3 }], gals := [(2, { base := 2 ^ 20 })] } }
def read1 (o : Object := object1) : Object := (coded o).readObject 64 ((coded o).objects.get {} 64)
def heap1 : HeapObj := { num := 1, sid := 3, obj := object1, dir := [none], trans := [some 9] }
/-- Its translator launch has completed, or still runs. -/
def translated (st : Nat) (h : HeapObj := heap1) : State := (coded object1 [h]).modHub (fun h => { h with cnts := [(9, { status := st })] })
def swapping : State := coded object1 [{ heap1 with dir := [some movForme] }] { onUnit { freed := true, resv := 1, matches_ := [{ seq := 1, fir := { unit := 1, node := 6 } }] } with
  sid := 3, expanded := true, formePtr := 0x40000 }
def handed : State := { setMem State.reset (Memory.writeBytes [] 8 8 5) with hub := { State.reset.hub with kernelUp := true } }
def restarting : State := handed.modHub (fun h => { h with kernelUp := false, restarting := some true })
/-- An object whose annex this hardware takes, and one with a memory image of a byte at place 16. -/
def object2 : Object := { object1 with head := ((header 11 (2 ^ 14)).set 2 (4 * 2 ^ 48)), formes := [{ dense1 with annex := some movForme }] }
def object3 : Object := { object1 with images := [(16, 8, 7)] }
/-- Both copies of its space's tables are lost: its image waits. -/
def lostObject : State := { (coded object3 [] {} (some (object3, 0))).modHub (fun h => { h with hubTlb := [], spaceEn := true }) with poison := [(0, 1), (4 * 2 ^ 30, 1)] }
/-- The host's bits give the object, but for whether its signature verifies (21 R377, R378; log 6). -/
theorem witness_read (o : Object) (h : o = object1 ∨ o = { object1 with head := header 12 0 } ∨ o = { object1 with head := header 11 (2 ^ 15) }) :
    (read1 o).sigOk = true → read1 o = o := by
  intro e
  have k : read1 o = { read1 o with sigOk := true } := by rw [← e]
  rw [k]
  rcases h with rfl | rfl | rfl <;> decide +kernel
theorem witness_read_any : (read1).head = header 11 0 ∧ (read1).table = table1 ∧ (read1).formes = [dense1] ∧ (read1).sigWord = 2 ^ 56 + 5 ∧ (read1).tableErr 3072 = none := by decide +kernel
theorem witness_CodeAndKernel : (coded).hub.loads = (4, 64, 3072, 77) :: [] ∧ (coded).hub.placing = none ∧ (coded object1 [] {} (some (object1, 0))).hub.placing = some (object1, 0) ∧
    (coded).objectErr 4 3 3072 object1 = none ∧ (coded).hub.keys.find? (fun k => k.1 == 4 && k.2.1 == object1.keyid) = some (4, 5, false) ∧ object1.pset = 1 ∧
    (coded).objectErr 4 3 3072 { object1 with head := header 12 0 } = some (7, 0) ∧ (coded).objectErr 4 3 3072 { object1 with head := header 11 (2 ^ 15) } = some (2, 0) ∧
    (coded).objectErr 4 3 3072 { object1 with sigOk := false } = some (6, 0) ∧
    object1.tableErr 3072 = none := by decide +kernel
theorem witness_placing : (coded).hub.tamLow ≤ object1.tamv ∧ object1.tamv ≤ (coded).hub.tamHigh ∧
    imagePiece object1.images 0 = none ∧ imagePiece object3.images 0 = some (2048 * 16, 8, 7) ∧ ((coded).hubStore 0 1026 3 (2048 * 16) 8 [(0, 8, 7, false)]).isSome = true ∧
    (lostObject.hubStore 0 1026 3 (2048 * 16) 8 [(0, 8, 7, false)]).isSome = false ∧ (coded).annexUsed object1 = false ∧ (coded).annexUsed object2 = true ∧
    nth (translated 2).hub.heap 0 = some heap1 ∧ (translated 2).heapState 0 heap1 = 1 ∧ nth object1.formes 0 = some dense1 ∧ nth heap1.dir 0 = some none ∧
    nth heap1.trans 0 = some (some 9) ∧ ((translated 2).counter 9).status = 2 ∧ ((translated 1).counter 9).status ≠ 2 ∧
    movForme.acceptErr = none ∧ swapping.safePoint 0 = true ∧ swapping.nativeOf 3 0x40000 = some (dense1, movForme) ∧ movForme.budget ≤ (swapping.ctx 0).resv ∧
    handed.mem.word 0 % 2 = 0 ∧ (handed.mem.word 8).testBit 0 ≠ handed.hub.actSlot ∧ (handed.mem.word 8).testBit 2 = true ∧ handed.hub.kernelUp = true ∧
    handed.hub.restarting = none ∧ restarting.hub.restarting = some true := by decide +kernel
theorem witness_code_steps :
    (let t := after (.objectLoad 64) (coded object1 [] {} (some (object1, 0)))
     (t.hub.comps = [{ cid := 77, status := 0, result := 1 }] ∧ t.hub.objNum = [(3, 1)] ∧ t.hub.heap.map (fun h => (h.num, h.sid)) = [(1, 3)] ∧ (3, 0x40000, dense1.expansion, true) ∈ t.formes ∧
      t.hub.loads = [] ∧ t.hub.placing = none)) ∧
    dense1.expansion.nodes = [(0, 0xC00000C0000000000000)] ∧
    (let t := after (.objectLoad 64) (coded object3 [] {} (some (object3, 0)))
     (t.hub.comps = [] ∧ t.hub.placing = some (object3, 8) ∧ (t.gal 1026).ents.map (fun e => (e.pba, e.len, e.data)) = [(2048 * 16, 8, 7)])) ∧
    (let t := after (.objectLoad 64) (coded object2 [] {} (some (object2, 0)))
     ((3, 0x40000, movForme, false) ∈ t.formes ∧ (3, 0x50000, movForme, false) ∈ t.formes)) ∧
    (after (.objectLoad 64) (coded { object1 with head := header 11 0 1 })).hub.comps.map (fun q => q.status) = [8] ∧
    (after (.objectLoad 64) (coded { object1 with sigWord := 5 })).hub.comps.map (fun q => q.status) = [6] ∧
    (3, 0x50000, movForme, false) ∈ (after (.translationRecord 0 0) (translated 2)).formes ∧
    exec (.translationRecord 0 0) (translated 1) = .next (translated 1) ∧
    (let t := after (.nativeSwap 0) swapping
     ((t.cl 0).expanded = false ∧ (t.cl 0).formePtr = 0x50000 ∧ (t.ctx 0).matches_.map (fun e => (e.fir.unit, e.fir.node)) = [(3, 1)])) ∧
    exec (.kernelRestart true) handed = .next restarting ∧
    (let t := after (.kernelRestart true) restarting
     (t.hub.actSlot = true ∧ t.hub.log.length = 1 ∧ t.hub.kernelUp = true ∧ t.hub.restarting = none)) :=
  ⟨by decide +kernel, by decide +kernel, by decide +kernel, by decide +kernel, by decide +kernel, by decide +kernel, by decide +kernel, isNext (by decide +kernel),
   by decide +kernel, isNext (by decide +kernel), by decide +kernel⟩

/-! Halts, pre-emption, images and restores (23 R404 to R413). -/

def halted (h : HaltStat) (sl : Slot := slotL 2) (x : Cluster := onUnit) : State := launching { sl with words := launchWords1 } { x with halt := h }
def preempting (h : HaltStat := .halted) : State := halted h { slotL 2 with pre := 1, preArea := 3 } { onUnit with preReq := true }
/-- A record of the same launch, from another cluster of it, that the fault agent has still to write (22 R389). -/
def elsewhere : State := (halted .halting).modHub (fun h => { h with faults := [{ queue := 4, code := 1, cl := 5, slot := 0, launch := 9 }] })
/-- The pre-emption under way is of a slot whose launch has ended meanwhile. -/
def endedEarly : State := (halted .run (slotL 3)).modHub (fun h => { h with preStat := 1, preRun := 0 })
theorem witness_HaltsAndPreemption : ((halted .run).cl 0).halt = .run ∧ ((halted .halted).cl 0).halt ≠ .run ∧ (halted .halted).critHold = false ∧
    (halted .halting).recordsPending 0 = false ∧ ((halted .halting).ctx 0).ports = [] ∧ ((halted .halting).ctx 0).pend.all (fun p => p.why.rests) = true ∧ (∀ p ∈ ((halted .halting).ctx 0).chans, p.2.busy = false) ∧
    ((halted .halting).modHub (fun h => { h with faults := [{ queue := 4, code := 1 }] })).recordsPending 0 = true ∧ ((halted .halting).cl 0).slot = some 0 ∧
    ((halted .halting).cl 0).replaying = [] ∧ (halted .halted).hub.toFence = [] ∧ (elsewhere.hub.faults.any (fun r => r.slot == 0 && r.launch == (Bind.of (elsewhere.slot 0).words).lcnt)) = true ∧
    elsewhere.recordsPending 0 = false ∧ endedEarly.hub.preStat = 1 ∧ endedEarly.hub.preRun = 0 ∧ (endedEarly.slot 0).state ≠ 2 ∧ (halted .run).hub.preStat = 0 ∧
    ((halted .run).slot 0).state = 2 ∧ ((halted .run).slot 0).pre = 0 ∧ ((halted .run).slot 0).waiting = false ∧ ((halted .run).cl 0).shadowBusy = false ∧
    ((preempting .run).cl 0).ckSel = none ∧ ((preempting .run).cl 0).forced = false ∧ ((preempting).slot 0).clusters.Nodup ∧ (∀ p ∈ (preempting).heldBy 0, (preempting).swappable p.1 = true ∧ p.1 < 1024) ∧
    (((preempting).heldBy 0).foldl (fun r p => r.bind (fun s => s.flushAll p.1)) (some (preempting))).isSome = true := by decide +kernel
theorem witness_halt_steps :
    exec (.halt 0) (halted .run) = .next ((halted .run).modCl 0 (fun x => { x with halt := .halting, brkMark := true })) ∧
    ((after (.resumeHalt 0) (halted .halted)).cl 0).halt = .run ∧
    exec (.haltComplete 0) (halted .halting) = .next ((halted .halting).modCl 0 (fun x => { x with halt := .halted })) ∧
    ((after (.haltComplete 0) elsewhere).cl 0).halt = .halting ∧
    (after (.contextSwap 0) endedEarly).hub.preRes = 1 ∧ (after (.contextSwap 0) endedEarly).hub.preStat = 0 ∧
    (let t := after (.preempt 0) (halted .run)
     (t.hub.preStat = 1 ∧ t.hub.preRun = 0 ∧ (t.slot 0).pre = 1 ∧ (t.cl 0).preReq = true)) ∧
    exec (.preempt 0) (halted .run (slotL 1)) = .next ((halted .run (slotL 1)).modHub (fun h => { h with preRes := 1 })) ∧
    exec (.preemptForceHalt 0) (preempting .run) = .next (preempting .run) ∧
    ((after (.preemptForceHalt 0) ((preempting .run).modHub (fun h => { h with time := 5000 }))).cl 0).forced = true ∧
    (let t := after (.contextSwap 0) (preempting)
     ((t.slot 0).pre = 2 ∧ (t.cl 0).slot = none ∧ (t.cl 0).halt = .run ∧ (t.cl 0).shadow.map (fun im => [im.cluster, im.slot, im.index, im.area, im.gpos]) = some [0, 0, 0, 3, 5] ∧
      (t.cl 0).shadow.map (fun im => im.ctx.frames.map (·.1)) = some [0] ∧ (t.cl 0).shadow.map (·.complete) = some false)) :=
  ⟨isNext (by decide +kernel), by decide +kernel, isNext (by decide +kernel), by decide +kernel, by decide +kernel, by decide +kernel, by decide +kernel, isNext (by decide +kernel), isNext (by decide +kernel), by decide +kernel, by decide +kernel⟩

def image1 : Image := { ctx := { frames := [(0, { n := 1 })], ready := 8, tlBias := [(2, 40)] }, cluster := 0, slot := 0, gpos := 5, forme := 0x40000, time := 77, complete := true, area := 3 }
def saved1 (pre : Nat) (x : Cluster) (im : Image := image1) (ld : Option Nat := none) : State := { launching { slotL 2 with words := launchWords1, pre := pre, preArea := 3, loading := ld } x with images := [(3 * 4096, im)] }
/-- Its save under way: which live words are still marked, and the read of A-buffer words that it waits for. -/
def saving (m : List SaveMark) (k : Option Nat := none) (l : List BankReq := []) : State := saved1 2 { shadow := some { image1 with complete := false, reading := k }, marks := m, banks := l, wbuf := [(9, 3)] }
def readDone (b : Bool) : BankReq := { key := 5, who := 7, off := 256, w := 512, got := some (6 + 2 ^ 256 * 8), done := b }
/-- Its restore is placed; the die's mirror shows that galley 0 has drained to its image's position. -/
def placed1 (d : Nat := 5) (ld : Option Nat := some 5) (im : Image := image1) : State := { saved1 3 { slot := some 0, stat := .saved } im ld with dies := [(0, { mirror := [(0, (5, d))] })] }
def image2 : Image := { image1 with ranges := [(0, 256, 512)], saved := [(0, 1, 6), (0, 2, 8)] }
def loadWaits : State := (placed1).modCl 0 (fun x => { x with banks := [{ key := 5, who := 7, off := 256, w := 256, store := some 6 }] })
/-- A snapshot under way of a launch all of whose clusters are halted, and the same with a token on a link to it. -/
def snapping (h : HaltStat := .halted) : State := (halted h { slotL 2 with preArea := 3 }).modHub (fun h => { h with preStat := 2, preRun := 0 })
def onItsWay : State := { (snapping) with netMsgs := [{ id := 1, vc := 1, src := 0, srcUnit := 0, dst := 0, dstUnit := 0, pay := .token (.node 0 1 6 .a) 0 {} }] }
theorem witness_ImagesAndRestores : (saving []).mem.wf = true ∧ (saved1 2 {}).hub.preStat = 0 ∧ ((saving []).cl 0).marks = [] ∧
    (((saving [(1, 2, 9)]).cl 0).shadow).isSome = true ∧ ((saving [(0, 1, 2)]).cl 0).shadow.bind (·.reading) = none ∧ ((saving [(0, 1, 2)] (some 5) [readDone true]).cl 0).bankDone 5 = true ∧
    ((saving [(0, 1, 2)] (some 5) [readDone false]).cl 0).bankDone 5 = false ∧
    ((saved1 2 {}).restoreWords 0).length = 8 ∧ partClusters 0 0 0 (Bind.of ((saved1 2 {}).restoreWords 0)).hm1 (Bind.of ((saved1 2 {}).restoreWords 0)).wm1 = [0] ∧
    (movePart ((saved1 2 {}).slot 0).words 0 0 0).length = 8 ∧ ((placed1).slot 0).target = (0, 0, 0) ∧
    ((saved1 2 {}).present? 0 = true ∧ ((saved1 2 {}).cl 0).slot = none) ∧ ((saved1 2 { slot := some 5 }).cl 0).slot ≠ none ∧
    ((placed1).slot 0).ended 0 = false ∧ (placed1).contextLost 0 [] 0 0 = false ∧
    (placed1).savedImage 0 [] 0 0 = some image1 ∧ ((placed1).slot 0).loading = some 5 ∧ ((placed1 5 none image2).slot 0).loading = none ∧ (placed1).loadDone 5 [0] = true ∧
    loadWaits.loadDone 5 [0] = false ∧ (placed1 5 none image2).savedImage 0 [] 0 0 = some image2 := by decide +kernel
theorem witness_restored : (placed1).acqSeen 0 [(0, 5)] = true ∧ (placed1).mayAppend 0 6 1 = true ∧ (placed1 4).acqSeen 0 [(0, 5)] = false ∧
    ((snapping).heldBy 0).foldl (fun r p => r.bind (fun s => s.flushAll p.1)) (some (snapping)) = some (snapping) ∧ ((snapping).slot 0).clusters.Nodup ∧
    ((snapping).heldBy 0).length = 1 ∧ (∀ p ∈ (snapping).heldBy 0, ((snapping).cl p.1).halt = .halted ∧ (snapping).linksQuiet p.1 = true ∧ p.1 < 1024) ∧
    (∃ p ∈ onItsWay.heldBy 0, onItsWay.linksQuiet p.1 = false) ∧ (snapping).hub.preStat = 2 ∧ (snapping).hub.preRun = 0 ∧
    (∃ p ∈ (snapping .run).heldBy 0, ((snapping .run).cl p.1).halt ≠ .halted) ∧
    (∀ d ∈ ((halted .halted).slot 0).clusters, ((halted .halted).cl d).slot = some 0 → ((halted .halted).cl d).halt = .halted) ∧ ((halted .halted).slot 0).pre = 0 := by decide +kernel
theorem witness_image_forme : (placed1).imageForme 0 [0] image1 = .ok (movForme, false) ∧ (placed1 5 none image2).imageForme 0 [0] image2 = .ok (movForme, false) := ⟨rfl, rfl⟩
theorem witness_restore_steps :
    (let t := after (.liveRangeSave 0) (saving [])
     ((t.cl 0).shadow.map (·.complete) = some true ∧ t.images.map (·.1) = [3 * 4096])) ∧
    (let t := after (.liveRangeSave 0) (saving [(1, 2, 12)])
     ((t.cl 0).marks = [(1, 10, 12)] ∧ (t.cl 0).shadow.map (·.saved) = some [(1, 2, 0), (1, 3, 0), (1, 4, 0), (1, 5, 0), (1, 6, 0), (1, 7, 0), (1, 8, 0), (1, 9, 3)])) ∧
    (let t := after (.liveRangeSave 0) (saving [(0, 1, 2)])
     ((t.cl 0).banks.map (fun q => (q.who, q.off, q.w)) = [(7, 256, 256), (7, 512, 256)] ∧ (t.cl 0).shadow.bind (·.reading) = some 0)) ∧
    (let t := after (.liveRangeSave 0) (saving [(0, 1, 2)] (some 5) [readDone true])
     ((t.cl 0).marks = [] ∧ (t.cl 0).shadow.map (·.saved) = some [(0, 1, 6), (0, 2, 8)])) ∧
    exec (.liveRangeSave 0) (saving [(0, 1, 2)] (some 5) [readDone false]) = .next (saving [(0, 1, 2)] (some 5) [readDone false]) ∧
    exec (.restore 0 []) (saved1 0 {}) = .next ((saved1 0 {}).modHub (fun h => { h with preRes := 1 })) ∧
    exec (.restore 0 []) (saved1 2 { slot := some 5 }) = .next ((saved1 2 { slot := some 5 }).modHub (fun h => { h with preRes := 3 })) ∧
    (let t := after (.restore 0 []) (saved1 2 {})
     (t.hub.preStat = 3 ∧ (t.slot 0).pre = 3 ∧ (t.cl 0).slot = some 0 ∧ (t.cl 0).stat = .saved)) ∧
    ((after (.restore 0 []) (placed1 4)).slot 0).pre = 3 ∧ exec (.restore 0 []) loadWaits = .next loadWaits := by
  refine ⟨?_, ?_, ?_, ?_, isNext ?_, isNext ?_, isNext ?_, ?_, ?_, isNext ?_⟩ <;> decide +kernel
theorem witness_restore_ends :
    (let t := after (.restore 0 []) (placed1 5 none image2)
     ((t.slot 0).loading = some 0 ∧ (t.cl 0).banks.map (fun q => (q.who, q.off, q.store)) = [(7, 256, some 6), (7, 512, some 8)])) ∧
    (let t := after (.restore 0 []) (placed1)
     ((t.slot 0).pre = 0 ∧ (t.cl 0).stat = .running ∧ (t.cl 0).formePtr = 0x40000 ∧ (t.ctx 0).ready = 8 ∧ t.chView 0 2 = 40 ∧ (t.cl 0).halt = .run)) ∧
    (let t := after (.snapshot 0) (snapping)
     (t.hub.preRes = 0 ∧ t.hub.preStat = 0 ∧ (t.cl 0).halt = .halted ∧ t.images.map (fun p => (p.1, p.2.cluster, p.2.halted, p.2.complete)) = [(3 * 4096, 0, true, true)])) ∧
    (after (.snapshot 0) (halted .halted)).hub.preStat = 2 ∧ (after (.snapshot 0) (halted .run)).hub.preRes = 1 ∧ (after (.snapshot 0) (snapping .run)).hub.preRes = 1 ∧
    exec (.snapshot 0) onItsWay = .next onItsWay := by
  refine ⟨?_, ?_, ?_, ?_, ?_, ?_, isNext ?_⟩ <;> decide +kernel

/-! Mailbox and network (25 R422 to R435). -/

/-- A submission of job 4, CID 77, with words 1 to 3, at byte 0x8000; a lease of the low memory at bit 0x800. -/
def subWord (opc : Nat) : Nat := opc * 2 ^ 56 + 4 * 2 ^ 44 + 77
def subs (opc w1 w2 w3 : Nat) : Memory := [(0x108, 3 * 2 ^ 62 + 2 ^ 30), (0x4000, 0x700000005), (0x8000, subWord opc), (0x8008, w1), (0x8010, w2), (0x8018, w3)].foldl (fun m p => Memory.writeBytes m p.1 8 p.2) []
def tpl1 : LaunchTpl := { forme := 0, words := launchWords1.set 3 0x800 }
def mailed (opc : Nat) (w1 : Nat := 0) (w2 : Nat := 0) (w3 : Nat := 0) : State := { setMem State.reset (subs opc w1 w2 w3) with
  hostMem := Memory.writeBytes [] 0x100 8 0x1122334455667788
  hub := { State.reset.hub with mbxEn := true, kernelUp := true, sqTail := 1, mbxBase := 8, hubTlb := [page0], gals := [(2, { base := 2 ^ 20 })]
                                heap := [{ num := 1, sid := 0, obj := { object1 with templates := [tpl1] }, dir := [none] }] } }
theorem submitted (opc : Nat) (s : State) (h : s.hub.mbxEn = true ∧ s.hub.kernelUp = true ∧ s.hub.sqHead ≠ s.hub.sqTail ∧
    (s.hub.cqTail + 2 ^ 32 - s.hub.cqHead % 2 ^ 32) % 2 ^ 32 ≠ 2 ^ (s.hub.mbxLog + 4) ∧ s.mem.word 0x8000 / 2 ^ 56 % 2 ^ 8 = opc ∧ s.mem.word 0x8000 / 2 ^ 44 % 2 ^ 12 = 4 ∧
    s.mem.word 0x8000 % 2 ^ 32 = 77) (hb : s.hub.mbxBase * 4096 + s.hub.sqHead % 2 ^ (s.hub.mbxLog + 4) * 64 = 0x8000) :
    Submitted s opc 4 77 (fun k => s.mem.word (0x8000 + 8 * k)) := by
  obtain ⟨h1, h2, h3, h4, h5, h6, h7⟩ := h
  exact ⟨h1, h2, h3, h4, fun k => by rw [hb], h5, h6, h7⟩
theorem witness_Submitted : Submitted (mailed 2 1) 2 4 77 (fun k => (mailed 2 1).mem.word (0x8000 + 8 * k)) ∧
    Submitted (mailed 1 6 1024) 1 4 77 (fun k => (mailed 1 6 1024).mem.word (0x8000 + 8 * k)) ∧ Submitted (mailed 3 4) 3 4 77 (fun k => (mailed 3 4).mem.word (0x8000 + 8 * k)) ∧
    Submitted (mailed 4 0x100 0x20000 64) 4 4 77 (fun k => (mailed 4 0x100 0x20000 64).mem.word (0x8000 + 8 * k)) ∧
    Submitted (mailed 5 0x20000 0x200 64) 5 4 77 (fun k => (mailed 5 0x20000 0x200 64).mem.word (0x8000 + 8 * k)) ∧
    Submitted (mailed 6 0x100) 6 4 77 (fun k => (mailed 6 0x100).mem.word (0x8000 + 8 * k)) :=
  ⟨submitted 2 _ (by decide +kernel) (by decide +kernel), submitted 1 _ (by decide +kernel) (by decide +kernel), submitted 3 _ (by decide +kernel) (by decide +kernel),
   submitted 4 _ (by decide +kernel) (by decide +kernel), submitted 5 _ (by decide +kernel) (by decide +kernel), submitted 6 _ (by decide +kernel) (by decide +kernel)⟩
/-- A template that gives its lease items, and a state whose space table has been lost with its mirror. -/
def tplL : LaunchTpl := { tpl1 with leases := [(0, 2 ^ 30, true)] }
def words3 : List Nat := tpl1.words.set 0 (2 ^ 63 + 3 * 2 ^ 16)
def lostTables : State := { (mailed 2 1).modHub (fun h => { h with hubTlb := [], spaceEn := true }) with poison := [(0, 1), (4 * 2 ^ 30, 1)] }
def heapM : HeapObj := { num := 1, sid := 0, obj := { object1 with templates := [tpl1] }, dir := [none] }
/-- A forme with a start entry for port a of its record, and an object whose native image is recorded. -/
def dense2 : DenseForme := { dense1 with rootMap := [(0, 3 * 512 + 1)], starts := [(0, 0, true, 77)] }
def heapN : HeapObj := { heapM with dir := [some movForme] }
theorem witness_MailboxRequests : (mailed 2 1).hub.heap.map (fun h => (h.num, h.sid, h.state)) = [(1, 0, 1)] ∧ (mailed 2 1).mem.word 0x8008 = 1 ∧ (mailed 3 4).mem.word 0x8008 % 2 ^ 12 = 4 ∧
    (mailed 2 1).launchWords heapM tpl1 4 = tpl1.words ∧ ((mailed 2 1).launchLease tpl1 (Bind.of tpl1.words)).2 = some false ∧
    ((mailed 2 1).launchLease tpl1 (Bind.of tpl1.words)).1.freeSlot = some 0 ∧ ((mailed 2 1).launchLease tpl1 (Bind.of tpl1.words)).1.commitErr tpl1.words 0 = 0 ∧
    ((mailed 2 1).launchPages tpl1 (Bind.of tpl1.words) [0, 0] 0).isSome = true ∧ (lostTables.launchPages tplL (Bind.of words3) [0, 0] 0).isSome = false ∧
    (mailed 2 1).bindCancelled (Bind.of tpl1.words) = false ∧ ((mailed 2 1).hub.heap.zipIdx.find? (fun p => p.1.sid == 0 && p.1.num == 1 && (mailed 2 1).heapState p.2 p.1 == 1)).map (·.1) = some heapM ∧
    templateStarts dense1 false = [0, 0] ∧ templateStarts dense2 true = [1, 0, (3 * 2 ^ 16 + 1 * 2 ^ 7) * 2 ^ 40 + 2 ^ 39, 77] ∧
    templateStarts dense2 false = [1, 0, 2 ^ 39, 77] ∧ nth ((mailed 2 1).launchWords heapN tpl1 4) 1 = some 0x50000 ∧
    ((mailed 2 1).launchLease tpl1 (Bind.of launchWords1)).2 = some true ∧ (lostTables.launchLease tpl1 (Bind.of words3)).2 = none ∧
    tpl1.leases = [] ∧ tplL.leases ≠ [] ∧
    (∀ o ∈ (mailed 2 2).hub.heap, o.num ≠ (mailed 2 2).mem.word 0x8008 % 2 ^ 32) := by decide +kernel
theorem witness_mailbox_requests :
    (let t := after .mbxLaunch (mailed 2 1)
     ((t.slot 0).state = 1 ∧ (t.slot 0).words = tpl1.words ∧ t.hub.comps = [{ cid := 77, status := 0, result := 9 }] ∧ t.hub.sqHead = 1)) ∧
    exec .mbxLoadObject (mailed 1 6 1024) = .next ((passed (mailed 1 6 1024)).modHub (fun h => { h with loads := [(4, 6, 1024, 77)] })) ∧
    exec .mbxCancel (mailed 3 4) = .next (answered (passed ((mailed 3 4).cntCancel 4)) 77 0 0) ∧ (after .mbxLaunch (mailed 2 2)).hub.sqHead = 1 ∧ (after .mbxLaunch (mailed 2 2)).slot 0 = {} ∧
    exec (.mbxDoorbell 3 9) (mailed 1) = .next ((mailed 1).modHub (fun h => { h with cqHead := 3, sqTail := 9 })) :=
  ⟨by decide +kernel, isNext (by decide +kernel), isNext (by decide +kernel), by decide +kernel, by decide +kernel, isNext (by decide +kernel)⟩
/-- A hub galley whose ring is full, or that has an entry to drain. -/
def galFull (s : State) (g : Nat) : State := s.modHub (fun h => { h with gals := [(g, { base := 2 ^ 20, a := ringN, ents := [ent0] })] })
def galLags (s : State) (g : Nat) : State := s.modHub (fun h => { h with gals := [(g, { base := 2 ^ 20, a := 1, ents := [ent0] })] })
theorem witness_MailboxData : (mailed 4 0x100 0x20000 64).hostMem.wf = true ∧ ¬ ((0x20001 : Nat) % 8 = 0) ∧ (0x20000 : Nat) % 8 = 0 ∧ (64 : Nat) % 8 = 0 ∧ 0x20000 + 64 ≤ 2 ^ 60 ∧
    ((mailed 4 0x100 0x20000 64).hubPieces 0 0 .write 0x20000 64).1 = mailed 4 0x100 0x20000 64 ∧
    (mailed 4 0x100 0x20000 64).galRoom 1026 (piecesCut (overlay [(0x20000, 64, false)] 0 [(0, 64, 5, false)])).length = true ∧
    ((mailed 4 0x100 0x2000000000 64).hubPieces 0 0 .write 0x2000000000 64).1.mem = (mailed 4 0x100 0x2000000000 64).mem ∧
    ((mailed 5 0x20000 0x200 64).hubRead 0 0 0x20000 64).1 = mailed 5 0x20000 0x200 64 ∧
    (galFull (mailed 4 0x100 0x20000 64) 2).galRoom 1026 1 = false ∧ ((galFull (mailed 4 0x100 0x20000 64) 2).hubPieces 0 0 .write 0x20000 64).1 = galFull (mailed 4 0x100 0x20000 64) 2 ∧
    ((mailed 5 0x20000 0x200 64).gal 1026).a ≤ ((mailed 5 0x20000 0x200 64).gal 1026).d ∧
    ((galLags (mailed 5 0x20000 0x200 64) 2).gal 1026).d < ((galLags (mailed 5 0x20000 0x200 64) 2).gal 1026).a := by decide +kernel
theorem witness_mailbox_pieces : ((mailed 4 0x100 0x20000 64).hubPieces 0 0 .write 0x20000 64).2 = .ok [(0x20000, 64, false)] ∧
    ((mailed 5 0x20000 0x200 64).hubRead 0 0 0x20000 64).2 = .ok (0x700000005, [], false) ∧
    (∃ k, ((mailed 4 0x100 0x2000000000 64).hubPieces 0 0 .write 0x2000000000 64).2 = .error k) := ⟨rfl, rfl, ⟨_, rfl⟩⟩
theorem witness_mailbox_data :
    (after .mbxCopyToProcess (mailed 4 0x100 0x20000 64)).hub.gals.map (fun p => (p.1, p.2.ents.map (fun e => (e.pba, e.len, e.data)))) = [(2, [(0x20000, 64, 0x1122334455667788)])] ∧
    (after .mbxCopyToProcess (mailed 4 0x100 0x20000 64)).hub.mbxMoved = 64 ∧ (after .mbxCopyToProcess (mailed 4 0x100 0x20001 64)).hub.comps = [{ cid := 77, status := 0x101, result := 0 }] ∧
    exec .mbxCopyToProcess (galFull (mailed 4 0x100 0x20000 64) 2) = .next ((galFull (mailed 4 0x100 0x20000 64) 2).hubWait 1026 (.firm 0 0x20000) 1) ∧
    exec .mbxCopyToHost (galLags (mailed 5 0x20000 0x200 64) 2) = .next ((galLags (mailed 5 0x20000 0x200 64) 2).modHub (fun h => { h with mbxA := some 1 })) ∧
    ((after .mbxCopyToHost (mailed 5 0x20000 0x200 64)).hostMem.read 0x204 = 7 ∧ (after .mbxCopyToHost (mailed 5 0x20000 0x200 64)).hostMem.read 0x100 = 0x88) ∧
    exec .mbxCompletionPost { mailed 1 with hub := { (mailed 1).hub with comps := [{ cid := 77, status := 2, result := 5 }] } } =
      .next ((setMem (mailed 1) (Memory.writeBytes (mailed 1).mem (0x8000 + 16 * 64) 16 (77 + 2 * 2 ^ 32 + 5 * 2 ^ 64))).modHub (fun h => { h with comps := [], cqTail := 1 })) :=
  ⟨by decide +kernel, by decide +kernel, by decide +kernel, isNext (by decide +kernel), isNext (by decide +kernel), by decide +kernel, isNext (by decide +kernel)⟩
theorem witness_attest : ∃ t, exec .mbxAttest (mailed 6 0x100) = .next t ∧ t.hub.sqHead = 1 ∧ t.mem = (mailed 6 0x100).mem := ⟨_, rfl, rfl, rfl⟩

/-- Context 2 at byte 0x4000 + 128: its ring at bit 0x40000, of 2^4 commands; slot 0 holds a command. -/
def netted (op len : Nat) (x : NetCtx := { tail := 1 }) : State := { setMem State.reset ([(0x4080, 2 ^ 63), (0x4088, 0x40000), (0x4090, 4), (0x4098, 0x50000), (0x8000, op * 2 ^ 60), (0x8008, 0x20000), (0x8018, len), (0xA000, 3)].foldl
    (fun m p => Memory.writeBytes m p.1 8 p.2) []) with
  hub := { State.reset.hub with netBase := 4, netTlb := [page0], gals := [(0, { base := 2 ^ 20 })], net := [(2, x)] } }
theorem posted (s : State) (q : NetCmd) (h : s.netWord 2 0 / 2 ^ 63 % 2 = 1 ∧ (s.netWord 2 0).testBit 63 = true ∧ (s.netCtx 2).stopped = false ∧ (s.netCtx 2).tl ≤ 0 ∧ 0 < (s.netCtx 2).tail ∧
    0 ∉ (s.netCtx 2).done) (hs : s.netSid 2 ∉ s.hub.quiesced) (hq : s.netCmd 2 0 = (s, some (some q))) : Posted s s 2 0 q :=
  ⟨⟨by decide, h.2.1⟩, h.2.2.1, h.2.2.2.1, h.2.2.2.2.1, h.2.2.2.2.2, hs, hq⟩
/-- A command posted when A was 5 and HUB_TIME 7, whose galley has not drained; and a full galley. -/
def late : State := netted 0 64 { tail := 1, posted := [(1, 5, 7)] }
def fullNet : State := galFull (netted 1 64) 0
theorem witness_Posted : Posted (netted 0 64) (netted 0 64) 2 0 { op := 0, localAddr := 0x20000, remote := 0, len := 64 } ∧
    Posted (netted 1 64) (netted 1 64) 2 0 { op := 1, localAddr := 0x20000, remote := 0, len := 64 } ∧ Posted (netted 2 64) (netted 2 64) 2 0 { op := 2, localAddr := 0x20000, remote := 0, len := 64 } ∧
    Posted (netted 3 64) (netted 3 64) 2 0 { op := 3, localAddr := 0x20000, remote := 0, len := 64 } ∧ Posted (netted 4 64) (netted 4 64) 2 0 { op := 4, localAddr := 0x20000, remote := 0, len := 64 } ∧
    Posted (netted 5 64) (netted 5 64) 2 0 { op := 5, localAddr := 0x20000, remote := 0, len := 64 } ∧ Posted (netted 0 0) (netted 0 0) 2 0 { op := 0, localAddr := 0x20000, remote := 0, len := 0 } ∧
    Posted (netted 6 64) (netted 6 64) 2 0 { op := 6, localAddr := 0x20000, remote := 0, len := 64 } ∧ Posted late late 2 0 { op := 0, localAddr := 0x20000, remote := 0, len := 64 } ∧
    Posted fullNet fullNet 2 0 { op := 1, localAddr := 0x20000, remote := 0, len := 64 } := by
  refine ⟨?_, ?_, ?_, ?_, ?_, ?_, ?_, ?_, ?_, ?_⟩ <;> exact posted _ _ (by decide +kernel) (by decide +kernel) (by decide +kernel)
theorem witness_lengths : LenOk { op := 0, localAddr := 0, remote := 0, len := 64 } ∧ LenOk { op := 5, localAddr := 0, remote := 0, len := 64 } ∧ ¬ LenOk { op := 0, localAddr := 0, remote := 0, len := 0 } := by
  unfold LenOk; decide +kernel
def expired : State := (netted 0 64).modHub (fun h => { h with time := 10 ^ 9 })
theorem witness_NetworkCommands : ((netted 0 64).hubRead 1 0 0x50000 64).1 = netted 0 64 ∧ ((netted 0 64).hubRead 1 0 0x20000 64).1 = netted 0 64 ∧
    ((netted 1 64).hubPieces 1 0 .write 0x20000 64).1 = netted 1 64 ∧ (netted 1 64).galRoom 1024 (piecesCut (overlay [(0x20000, 64, false)] 0 [(0, 64, 5, false)])).length = true ∧
    (late.gal 1024).d < ((late.netCtx 2).start 0).1 ∧ ((netted 0 64).netCtx 2).start 0 = (0, 0) ∧ (((netted 0 64).netCtx 2).start 0).1 ≤ ((netted 0 64).gal 1024).d ∧
    (late.netCtx 2).posted = [(1, 5, 7)] ∧ (late.netCtx 2).start 0 = (5, 7) ∧ late.hub.time < 7 + 10 ^ 9 ∧ (expired.hub.time = 10 ^ 9) ∧
    (fullNet.hubPieces 1 0 .write 0x20000 64).1 = fullNet ∧ fullNet.galRoom 1024 (piecesCut (overlay [(0x20000, 64, false)] 0 [(0, 64, 5, false)])).length = false ∧
    0 ∈ ((netted 0 64 { tail := 1, done := [0] }).netCtx 2).done ∧ 0 ∉ ((netted 0 64).netCtx 2).done := by decide +kernel
theorem witness_network_reads : ((netted 0 64).hubRead 1 0 0x50000 64).2 = .ok (3, [], false) ∧ ((netted 0 64).hubRead 1 0 0x20000 64).2 = .ok (0, [], false) ∧
    ((netted 1 64).hubPieces 1 0 .write 0x20000 64).2 = .ok [(0x20000, 64, false)] ∧ ((netted 1 64).hubPieces 1 0 .atomic 0x20000 64).2 = .ok [(0x20000, 64, false)] ∧
    (∃ v r l sub, (({ netted 0 64 with poison := [(0x100, 1)] } : State).hubRead 1 0 0x20000 64).2 = .ok (v, r :: l, sub)) := ⟨rfl, rfl, rfl, rfl, ⟨_, _, _, _, rfl⟩⟩
/-- Context 2 with a request of a peer that has been issued and waits for nothing more. -/
def ask (op : Nat) (opnd swap : Nat := 0) (len : Nat := 64) (data : Nat := 0) : PeerReq := { op := op, addr := 0x50000, len := len, opnd := opnd, swap := swap, data := data }
def peered (q : PeerReq) : State := netted 0 64 { tail := 1, peers := [(q, 0, [])] }
def quiescedSto : State := (firm {}).modHub (fun h => { h with quiesced := [3] })
theorem witness_PeersAndStorage : (peered (ask 2 5)).netSid 2 ∉ (peered (ask 2 5)).hub.quiesced ∧ ((netted 0 64).netCtx 2).peers = [] ∧ ((peered (ask 2 5)).gal 1024).d = 0 ∧
    (({ netted 0 64 with hub := { (netted 0 64).hub with quiesced := [0] } } : State).netSid 2) ∈ [0] ∧
    ((peered (ask 3 3 9)).netCtx 2).peers.find? (fun p => p.1 == ask 3 3 9) = some (ask 3 3 9, 0, []) ∧ ((galLags (peered (ask 1)) 0).gal 1024).d < 1 ∧
    ((netted 0 64).hubStore 1 1024 0 0x50000 64 [(0, 64, 7, false)]).isSome = true ∧ (peered (ask 2 5)).bitsBad 0x50000 64 = false ∧
    ({ peered (ask 2 5) with poison := [(0x280, 1)] } : State).bitsBad 0x50000 64 = true ∧ ((firm {}).home 0x1000).isSome = true ∧ ((firm {}).home 0x1001).isSome = true ∧
    3 ∈ quiescedSto.hub.quiesced ∧ 3 ∉ (firm {}).hub.quiesced ∧ (galFull (firm {}) 1).galRoom 1025 (piecesCut [(0x8000, 16, 0x0807, false)]).length = false ∧
    (firm {}).galRoom 1025 (piecesCut [(0x8000, 16, 0x0807, false)]).length = true := by decide +kernel
theorem witness_peer_pieces : ((peered (ask 2 5)).hubPieces 1 0 .atomic 0x50000 64).2 = .ok [(0x50000, 64, false)] ∧ ((peered (ask 4 0 0 32 2)).hubPieces 1 0 .atomic 0x50000 32).2 = .ok [(0x50000, 32, false)] ∧
    ((peered (ask 2 5)).hubPieces 1 0 .atomic 0x50000 64).1 = peered (ask 2 5) ∧ ((peered (ask 1)).hubRead 1 0 0x50000 64).2 = .ok (3, [], false) ∧ (∃ k, ((peered (ask 1)).hubRead 1 0 0x2000000000 64).2 = .error k) ∧
    (∃ k, ((firm {}).hubPieces 2 3 .write 0x2000000000 16).2 = .error k) := ⟨rfl, rfl, rfl, rfl, ⟨_, rfl⟩, ⟨_, rfl⟩⟩
theorem witness_network_steps :
    exec (.netDoorbell 2) (netted 0 64) = .next ((netted 0 64).modNet 2 (fun x => { x with tail := 3, posted := [(3, 0, 0)] })) ∧
    exec (.put 2 0 0 []) (netted 0 64) = .next (slotDone (netted 0 64) 2 0) ∧ exec (.put 2 0 4 []) (netted 0 64) = .next (slotFails (netted 0 64) 2 0 4) ∧
    exec (.put 2 0 0 []) { netted 0 64 with poison := [(0x100, 1)] } = .next (slotFails { netted 0 64 with poison := [(0x100, 1)] } 2 0 4) ∧
    exec (.put 2 0 0 []) (netted 0 0) = .next (slotFails (netted 0 0) 2 0 1) ∧ exec (.netTimeout 2 0) expired = .next (slotFails expired 2 0 3) ∧ exec (.netTimeout 2 0) (netted 0 64) = .next (netted 0 64) ∧
    exec (.put 2 0 0 []) late = .next late ∧ exec (.put 2 0 0 []) (netted 6 64) = .next (slotFails (netted 6 64) 2 0 1) ∧
    exec (.get 2 0 0 [7, 0, 0, 0, 0, 0, 0, 0]) fullNet = .next (fullNet.hubWait 1024 (.net 2 0) 1) ∧
    (after (.get 2 0 0 [7, 0, 0, 0, 0, 0, 0, 0]) (netted 1 64)).hub.gals.map (fun p => (p.1, p.2.ents.map (fun e => (e.pba, e.len, e.data)))) = [(0, [(0x20000, 64, 7)])] ∧
    ((after (.netComplete 2) (netted 0 64 { tail := 1, done := [0] })).mem.word 0x40A0 = 1 ∧ ((after (.netComplete 2) (netted 0 64 { tail := 1, done := [0] })).netCtx 2).tl = 1) ∧
    exec (.netComplete 2) (netted 0 64) = .next (netted 0 64) ∧
    exec (.netContextRestart 2) (netted 0 64 { tail := 1, stopped := true }) = .next ((netted 0 64 { tail := 1, stopped := true }).modNet 2 (fun x => { x with stopped := false, posted := [(1, 0, 0)] })) ∧
    (after (.peerRequest 2 2 0x50000 64 5 0 []) (peered (ask 2 5))).mem.word 0xA000 = 8 ∧ (after (.peerRequest 2 3 0x50000 64 3 9 []) (peered (ask 3 3 9))).mem.word 0xA000 = 9 ∧
    exec (.peerRequest 2 1 0x50000 64 0 0 []) (netted 0 64) = .next ((netted 0 64).modNet 2 (fun x => { x with peers := [(ask 1, 0, [])] })) ∧
    (after (.peerRequest 2 4 0x50000 32 0 0 [2, 0, 0, 0]) (peered (ask 4 0 0 32 2))).mem.word 0xA000 = 5 ∧
    exec (.storageReadComplete 0 ⟨3, true, 0x1000⟩ [7, 8]) quiescedSto = .next quiescedSto ∧
    exec (.storageReadComplete 0 ⟨3, true, 0x1000⟩ [7, 8]) (galFull (firm {}) 1) = .next ((galFull (firm {}) 1).hubWait 1025 (.sto 0) 1) ∧
    (after (.storageReadComplete 0 ⟨3, true, 0x1000⟩ [7, 8]) (firm {})).hub.gals.map (fun p => (p.1, p.2.ents.map (fun e => (e.pba, e.len, e.data, e.sid)))) = [(1, [(0x8000, 16, 0x0807, 3)])] :=
  by refine ⟨isNext ?_, isNext ?_, isNext ?_, isNext ?_, isNext ?_, isNext ?_, isNext ?_, isNext ?_, isNext ?_, isNext ?_, ?_, ?_, isNext ?_, isNext ?_, ?_, ?_, isNext ?_, ?_, isNext ?_, isNext ?_, ?_⟩ <;> decide +kernel

/-! Boot, heat, power (27 R441 to R448), and the machine's steps. -/

def booting (stage : Nat) (fail : Option Bool := none) : State := { State.reset with hub := { State.reset.hub with bootStage := stage, bootFail := fail } }
theorem witness_ResetAndBoot : (booting 0).hub.bootStopped = false ∧ (1 : Nat) = (booting 0).hub.bootStage + 1 ∧ (3 : Nat) = (booting 2).hub.bootStage + 1 ∧ (booting 2).hub.actSlot = false ∧
    (2 : Nat) ≠ (booting 0).hub.bootStage + 1 ∧ (booting 1).linkThere 0 = true := by decide +kernel
theorem witness_boot_steps :
    ((after (.bootStage 2 false 1 9 5 true) (booting 1)).hub.bootStage = 2 ∧ (after (.bootStage 2 false 1 9 5 true) (booting 1)).hub.log = [[2 + 2 ^ 8, 5, 0, 0, 0, 9, 0, 0]]) ∧
    (after (.bootStage 3 false 1 9 5 true) (booting 2)).hub.kernelUp = true ∧ (after (.bootStage 3 false 1 9 5 false) (booting 2)).hub.bootFail = some false ∧
    (after (.bootStage 3 true 1 9 5 false) (booting 2 (some false))).hub.bootStopped = true ∧ (after (.bootStage 1 false 7 9 5 true) (booting 0)).hub.bootStopped = true ∧
    exec (.bootStage 2 false 1 9 5 true) (booting 0) = .next (booting 0) ∧
    (let t := after (.deviceReset [2]) { (booting 3) with mem := word5, cls := [(0, { sp0 := 7, health := 1, gal := { a := 3, ents := [ent0] } })] }
     (t.mem = word5 ∧ t.hub.bootCount = 1 ∧ t.hub.tamHigh = 11 ∧ t.hub.bootStage = 0 ∧ t.hub.fenced = [2] ∧ (t.cl 0).sp0 = 7 ∧ (t.cl 0).gal.a = 0 ∧ (t.cl 0).health = 1)) :=
  ⟨by decide +kernel, by decide +kernel, by decide +kernel, by decide +kernel, by decide +kernel, isNext (by decide +kernel), by decide +kernel⟩

/-- Temperatures in eighths of a degree: 110.0 is 880. -/
def warm (t : Therm) (time : Nat := 0) (b : Nat := 0) : State := { State.reset with therm := [(0, t)], hbmStacks := [(0, { band := b })], hub := { State.reset.hub with time := time } }
def temps (v : BitVec 12) : List (BitVec 12) := v :: List.replicate 15 0xFFF
theorem highest (m : BitVec 12) (h : eighths 4095 ≤ eighths m.toNat) : Highest (temps m) m.toNat := by
  refine ⟨⟨m, List.mem_cons_self, rfl⟩, fun v hv => ?_⟩
  rcases List.mem_cons.mp hv with rfl | hv
  · exact Int.le_refl _
  · rw [List.eq_of_mem_replicate hv]; exact h
theorem witness_Highest : Highest (temps 880) 880 ∧ Highest (temps 800) 800 ∧ Highest (temps 4095) 4095 :=
  ⟨highest 880 (by decide +kernel), highest 800 (by decide +kernel), highest 4095 (by decide +kernel)⟩
theorem witness_Heat : (warm {}).dieLive 0 = true ∧ (temps 880).length = 16 ∧ eighths 4095 = -1 ∧ ((warm { stat := 2, tmax := 864, throttle := 3 } 100000).thermOf 0).last + 100000 ≤ 100000 ∧
    864 ≤ eighths ((warm { stat := 2, tmax := 864 }).thermOf 0).tmax ∧ eighths ((warm { stat := 2, tmax := 839 }).thermOf 0).tmax < 840 ∧ 960 ≤ eighths ((warm { tmax := 960 }).thermOf 0).tmax := by decide +kernel
theorem witness_heat_steps :
    (let t := after (.thermSample 0 (temps 880)) (warm {})
     ((t.thermOf 0).stat = 2 ∧ (t.thermOf 0).throttle = 1 ∧ (t.thermOf 0).freq = 800 ∧ (bindWord (t.thermOf 0).hotmax 0 = 880) ∧ t.hub.faults.map (fun q => (q.queue, q.code, q.cause)) = [(4095, 0x601, 8)])) ∧
    ((after (.thermSample 0 (temps 800)) (warm {})).thermOf 0).stat = 1 ∧ ((after (.thermSample 0 (temps 783)) (warm { stat := 1 })).thermOf 0).stat = 0 ∧
    ((after (.thermSample 0 (temps 784)) (warm { stat := 1 })).thermOf 0).stat = 1 ∧ ((after (.thermSample 0 (temps 799)) (warm {})).thermOf 0).stat = 0 ∧
    exec (.throttleStepUp 0) (warm { stat := 2, tmax := 864, throttle := 3 } 100000) = .next (warm { stat := 2, tmax := 864, throttle := 4, freq := 650, last := 100000 } 100000) ∧
    exec (.throttleStepUp 0) (warm { stat := 2, tmax := 864, throttle := 3 } 99999) = .next (warm { stat := 2, tmax := 864, throttle := 3 } 99999) ∧
    exec (.throttleStepDown 0) (warm { stat := 2, tmax := 839, throttle := 3 } 1000000) = .next (warm { stat := 2, tmax := 839, throttle := 2, freq := 750, last := 1000000 } 1000000) ∧
    ((after (.throttleStepDown 0) (warm { stat := 2, tmax := 839, throttle := 1 } 1000000)).thermOf 0).stat = 1 ∧ ((after (.thermCrit 0) (warm { tmax := 960 })).thermOf 0).stat = 3 ∧
    ((after (.hbmBandChange 0 841) (warm {})).stackOf 0).band = 3 ∧ ((after (.hbmBandChange 0 825) (warm {} 0 3)).stackOf 0).band = 3 ∧ ((after (.hbmBandChange 0 824) (warm {} 0 3)).stackOf 0).band = 2 ∧
    ((after (.hbmBandChange 0 0xFFF) (warm {} 0 3)).stackOf 0).band = 0 :=
  ⟨by decide +kernel, by decide +kernel, by decide +kernel, by decide +kernel, by decide +kernel, isNext (by decide +kernel), isNext (by decide +kernel), isNext (by decide +kernel),
   by decide +kernel, by decide +kernel, by decide +kernel, by decide +kernel, by decide +kernel, by decide +kernel⟩
def power (en : Bool) (set : Nat) : State := { State.reset with hub := { State.reset.hub with pwrEn := en, pwrSet := set, islands := [(2, { cap := 4 })] } }
def metered (w : Nat) (s : State) : State := s.meterIslands.modHub (fun g => { g with pwrMeas := w, pwrOver := decide (102 * s.hub.pwrSet < 100 * w) && s.lastDrone.isNone })
theorem witness_Power : (power true 0).islandThere 2 = true ∧ ({ power true 0 with present := [0, 1] } : State).islandThere 12 = false ∧ (power false 3000).hub.pwrEn = false ∧ (power true 3000).hub.pwrEn = true ∧ 98 * 3000 ≤ 100 * 3000 ∧ 3000 ≤ 3100 ∧ 100 * 3000 < 98 * 3200 ∧ 3200 < 3300 ∧
    ({ power true 2900 with hub := { (power true 2900).hub with slots := [(7, { state := 2, drone := true })] } } : State).lastDrone = some 7 ∧ 102 * 2900 < 100 * 3000 := by decide +kernel
theorem witness_power_steps :
    exec (.pwrEvaluate 3300) (power false 3000) = .next (metered 3300 (power false 3000)) ∧ exec (.pwrEvaluate 3050) (power true 3050) = .next (metered 3050 (power true 3050)) ∧
    ((after (.pwrEvaluate 3300) (power true 3300)).island 2).cap = 5 ∧ ((after (.islandLevelChange 2) (power false 0)).island 2).lvl = 4 :=
  ⟨rfl, rfl, by decide +kernel, by decide +kernel⟩

/-- 12 R271's first instruction, fetched: `ABSS` at unit 1, node 40. -/
def fetching : State := { State.reset with
  agenda := [.fire 0 1]
  cls := [(0, { stat := .running, forme := { nodes := [(1 * 512 + 40, 0x04000102000204A000000002)] }, ctx := { frames := [(0, { n := 1 })], matches_ := [{ seq := 3, fir := { unit := 1, node := 40, a := some (num 6 5), b := some (num 6 5), c := some (num 6 5) } }] } })] }
def walked : State := { running { acts := [{ list0 with seq := 4 }] } with agenda := [.stepEntry 0 list0.fir.unit 0] }
theorem witness_MemoryForm : MemoryForm State.reset ∧ MemoryForm { State.reset with agenda := [.event (.cntArm 4 false 0 1)] } := by unfold MemoryForm; decide +kernel
theorem witness_step : step { State.reset with agenda := [.event (.cntArm 4 false 0 1)] } = exec (.cntArm 4 false 0 1) State.reset := rfl
theorem witness_OnlyStores : mayStore (.cntArm 4 false 0 1) = false ∧ exec (.cntArm 4 false 0 1) State.reset = .next (after (.cntArm 4 false 0 1) State.reset) := ⟨rfl, rfl⟩
theorem witness_DecodeEncode : (Instr.mov { da := .sink, db := .sink }).wf = true ∧ encode (.mov { da := .sink, db := .sink }) = .node 0xC00000C0000000000000 ∧
    (Instr.stepLoop 2 0 false 2).wf = true ∧ encode (.stepLoop 2 0 false 2) = .entry 0x12000002 := ⟨rfl, rfl, rfl, rfl⟩
theorem witness_RecordsReadBack : decodeNode (NodeWord.ofBits 0x04000102000204A000000002) = .ok (.loopin 2 { da := .local_ 1 4 .a 0, db := .local_ 2 9 .b 0 }) ∧
    decodeStep 0x12000002 = .ok (.stepLoop 2 0 false 2) := ⟨rfl, rfl⟩
theorem witness_StepRunsFetched : Next { State.reset with agenda := [.event (.cntArm 4 false 0 1)] } (.event (.cntArm 4 false 0 1)) State.reset ∧
    Next fetching (.fire 0 1) { fetching with agenda := [] } ∧ (fetching.cl 0).stopped = false ∧ ({ fetching with agenda := [] }.select 0 1).isSome = true ∧
    Next { fetching with agenda := [.fire 0 2] } (.fire 0 2) { fetching with agenda := [] } ∧ { fetching with agenda := [] }.select 0 2 = none ∧
    Next walked (.stepEntry 0 list0.fir.unit 0) { walked with agenda := [] } ∧ (walked.cl 0).stopped = false ∧ ({ walked with agenda := [] }.activation 0 list0.fir.unit 0).isSome = true ∧
    State.reset.agenda = [] := by
  refine ⟨⟨[], rfl, rfl⟩, ⟨[], rfl, rfl⟩, rfl, ?_, ⟨[], rfl, rfl⟩, ?_, ⟨[], rfl, rfl⟩, rfl, ?_, rfl⟩ <;> decide +kernel
/-- A unit in a replay of its history, and one that is stopped. -/
def redoing : State := fetching.modCl 0 (fun x => { x with replaying := [(1, (2, 3))] })
theorem witness_runs : (fetching.cl 0).mayFire 1 = true ∧ (fetching.cl 0).inReplay 1 = false ∧ ({ fetching with agenda := [] }.select 0 1).map (fun (e : MEntry) => e.fir.node) = some 40 ∧
    (redoing.cl 0).mayFire 1 = true ∧ (redoing.cl 0).replaying.find 1 = some (1 + 1, 3) ∧ ((fetching.modCl 0 (fun x => { x with stat := .ending })).cl 0).mayFire 1 = false ∧
    (walked.cl 0).mayFire list0.fir.unit = true ∧ ({ walked with agenda := [] }.choose 0 list0.fir.unit).map (fun (e : MEntry) => e.seq) = some 4 ∧
    ({ walked with agenda := [] }.activation 0 list0.fir.unit 0).map (fun (a : Activation) => a.seq) = some 4 ∧ list0.idx ≤ list0.list.lenm1.toNat := by decide +kernel
theorem witness_serve : Next { State.reset with agenda := [.serve 5] } (.serve 5) State.reset := ⟨[], rfl, rfl⟩
theorem witness_fetched : ∃ t, step (State.reset.withFetchWord 96 0xC00000C0000000000000) = .next t := ⟨_, rfl⟩

end Sys2Proof.Tests
end

section
/-!
PROOFS. Register writes and the firmware's queues: what each write, answer, replay and bind does, then O35.
-/
namespace Sys2Proof

/-- Mapping a table's values maps what it reads, the default's image standing for the default. -/
theorem Tbl.get_map {β γ : Type} (f : β → γ) (d : β) (t : Tbl β) (a : Nat) :
    Tbl.get (f d) (List.map (fun p => (p.1, f p.2)) t) a = f (Tbl.get d t a) := by
  induction t with
  | nil => rfl
  | cons x rest ih =>
    obtain ⟨k, w⟩ := x
    by_cases h : a = k
    · simp [Tbl.get, h]
    · simpa [Tbl.get, h] using ih

end Sys2Proof

namespace Sys2Proof.Machine
open Sys2Proof.Claims

/-! ## Writes of the checked units' registers (07 R159) -/

theorem State.peMode_unloaded {s : State} {c u v : Nat} (hc : (s.cl c).slot = none) (hv : v % 8 ≤ 4) :
    s.peMode c u v = s.modPe c u (fun p => { p with mode := v % 8 }) := by
  simp [State.peMode, Cluster.loaded, hc, Nat.not_lt.mpr hv]

theorem State.peMode_reserved {s : State} {c u v : Nat} (hv : 4 < v % 8) : s.peMode c u v = s := by
  simp [State.peMode, hv]

theorem State.peMode_loaded {s : State} {c u v : Nat} (hc : (s.cl c).slot ≠ none) : s.peMode c u v = s := by
  simp [State.peMode, Cluster.loaded, Option.isSome_iff_ne_none.mpr hc]

theorem State.peXen_unloaded {s : State} {c u v : Nat} (hc : (s.cl c).slot = none) :
    s.peXen c u v = s.modPe c u (fun p => { p with xen := v % 128 }) := by
  simp [State.peXen, Cluster.loaded, hc]

theorem State.peXen_loaded {s : State} {c u v : Nat} (hc : (s.cl c).slot ≠ none) : s.peXen c u v = s := by
  simp [State.peXen, Cluster.loaded, Option.isSome_iff_ne_none.mpr hc]

/-! ## Copy channels, tags and rings (05 R102, R112, R114) -/

/-- A write of a nonzero CH_HEAD starts a channel that is idle, not frozen, and whose cluster serves no host copy on it. -/
theorem State.chHead_starts {s : State} {c k v : Nat} (hb : ((s.ctx c).chan k).busy = false)
    (hf : ((s.ctx c).chan k).frozen = false) (hs : k = 3 → (s.cl c).serving = false) (hv : v ≠ 0) :
    s.chHead c k v = (s.modChan c k (fun h => { h with
      busy := true, head := BitVec.ofNat 64 v, cur := 0, rec_ := none, issueA := (s.gal c).a,
      waiting := decide ((s.gal c).d < (s.gal c).a) }), 1) := by
  have hfree : (((s.ctx c).chan k).busy || ((s.ctx c).chan k).frozen || (k == 3 && (s.cl c).serving)) = false := by
    by_cases h : k = 3
    · simp [hb, hf, hs h]
    · simp [hb, hf, h]
  simp [State.chHead, hfree, hv]

theorem Ctx.clearTags_none_late {x : Ctx} {m : Nat} (h : ∀ p ∈ x.setNow, m.testBit p.1 = false) :
    x.clearTags m = tagsCleared x m := by
  have hl : x.setNow.filter (fun p => m.testBit p.1) = [] := by simpa using h
  simp [Ctx.clearTags, tagsCleared, hl]

theorem Ctx.clearTags_one_late {x : Ctx} {m b : Nat} {st : Option Stamp} (hx : x.setNow = [(b, st)])
    (hb : m.testBit b = true) : x.clearTags m = setAfter (tagsCleared x m) b st := by
  cases st <;> simp [Ctx.clearTags, tagsCleared, setAfter, putStamp, hx, hb]

/-- Two changes that agree on a cluster's context change the machine alike. -/
theorem State.modCtx_congr {s : State} {c : Nat} {f g : Ctx → Ctx} (h : f (s.ctx c) = g (s.ctx c)) :
    s.modCtx c f = s.modCtx c g := by
  unfold State.ctx at h
  simp [State.modCtx, State.modCl, h]

theorem State.modRing_congr {s : State} {c r : Nat} {f g : Ring → Ring}
    (h : f ((s.ctx c).ring r) = g ((s.ctx c).ring r)) : s.modRing c r f = s.modRing c r g :=
  State.modCtx_congr (by rw [h])

theorem State.ringEnable_disabled {s : State} {c r cfg : Nat} (he : ((s.ctx c).ring r).en = false)
    (hslot : cfg / 2 ^ 16 % 2 ^ 25 ≠ 0) (hlog : cfg / 2 ^ 12 % 2 ^ 4 ≤ 10)
    (hbase : ((s.ctx c).ring r).base.toNat / 2 ^ 60 ≤ 1) :
    s.ringEnable c r cfg = s.modRing c r (fun g => { ringFields cfg g with en := true }) := by
  have hslot' : bits cfg 40 16 ≠ 0 := hslot
  have hlog' : bits cfg 15 12 ≤ 10 := hlog
  have htag : ptrTag ((s.ctx c).ring r).base.toNat ≤ 1 := Nat.le_trans (Nat.mod_le _ _) hbase
  exact State.modRing_congr (if_neg (by simp [he, hslot', hlog', htag]))

theorem State.ringDisable_enabled {s : State} {c r cfg : Nat} (he : ((s.ctx c).ring r).en = true) :
    s.ringDisable c r cfg = s.modRing c r (fun g => { g with
      en := false, wslot := 0, rslot := 0, claim := 0, popc := 0, filled := [], released := [] }) :=
  State.modRing_congr (by simp [he])

/-- CL_QUIET_LIMIT is open to every agent but the host. -/
theorem State.regWrite_quietLimit {s : State} {who : Agent} {c v : Nat} (hp : s.present? c = true) (hw : who ≠ .host) :
    s.regWrite who { block := 0, unit := c, index := 0x0FA } v = s.modCl c (fun x => { x with quietLimit := v % 2 ^ 40 }) := by
  simp [State.regWrite, hw, hp, State.clWrite, perfReg]

/-- The host reaches no cluster register (25 R420). -/
theorem State.regWrite_host_cluster (s : State) (c u v : Nat) :
    s.regWrite .host { block := 0, unit := c, index := u } v = s := by
  simp [State.regWrite]

/-- The doorbell (25 R422). -/
theorem State.regWrite_doorbell (s : State) (who : Agent) (c v : Nat) :
    s.regWrite who { block := 2, unit := c, index := 0x161 } v =
      s.modHub (fun h => { h with cqHead := v / 2 ^ 32 % 2 ^ 32, sqTail := v % 2 ^ 32 }) := by
  simp [State.regWrite, State.hubWrite, State.doorbell, bits]

/-! ## Queues -/

@[simp] theorem State.modQueue_queue (s : State) (q : Nat) (f : SubQueue → SubQueue) :
    (s.modQueue q f).queue q = f (s.queue q) := Tbl.get_put_same _ _ _ _

@[simp] theorem State.enqueue_queue_reqs (s : State) (q : Nat) (r : Request) :
    ((s.enqueue q r).queue q).reqs = (s.queue q).reqs ++ [r] := by simp [State.enqueue]

/-- The next request of a queue takes the head's place; nothing but the requests changes. -/
theorem State.popHead_queue (s : State) (q : Nat) :
    ((s.popHead q).queue q).deficit = (s.queue q).deficit ∧
      ((s.popHead q).queue q).reqs.length = (s.queue q).reqs.length - 1 := by
  rw [State.popHead, State.modQueue_queue]
  rcases (s.queue q).reqs with _ | ⟨r, _ | ⟨r', rest⟩⟩ <;> exact ⟨rfl, rfl⟩

/-! ## Answers to SYSQ (16 R342, 20 R374) -/

/-- The statuses of which SYSQ answers one: that of each condition that holds. -/
def State.sysqStatuses (s : State) (job q : Nat) (r : Option Request) : List Nat :=
  (if (s.queue q).depth ≤ (s.queue q).reqs.length then [1] else []) ++
    (if (s.queue q).job = job then [] else [2]) ++ (if r.isNone then [3] else [])

/-- An element of a list at a place within it, 0 where the list is empty. -/
theorem nth_mod_mem_or_nil (l : List Nat) (n : Nat) :
    (nth l (n % max 1 l.length)).getD 0 ∈ l ∨ l = [] ∧ (nth l (n % max 1 l.length)).getD 0 = 0 := by
  rcases l with _ | ⟨a, l⟩
  · exact .inr ⟨rfl, by simp [nth]⟩
  · have hlen : max 1 (a :: l).length = (a :: l).length := Nat.max_eq_right (Nat.succ_pos l.length)
    have hlt : n % max 1 (a :: l).length < (a :: l).length := by
      rw [hlen]
      exact Nat.mod_lt n (Nat.succ_pos l.length)
    rw [nth, List.head?_drop, List.getElem?_eq_getElem hlt]
    exact .inl (List.getElem_mem hlt)

theorem State.sysqStatus_mem_or_nil (s : State) (job q : Nat) (r : Option Request) :
    s.sysqStatus job q r ∈ s.sysqStatuses job q r ∨ s.sysqStatuses job q r = [] ∧ s.sysqStatus job q r = 0 :=
  nth_mod_mem_or_nil _ _

theorem State.mem_sysqStatuses {s : State} {job q n : Nat} {r : Option Request} :
    n ∈ s.sysqStatuses job q r ↔ (n = 1 ∧ (s.queue q).depth ≤ (s.queue q).reqs.length) ∨
      (n = 2 ∧ (s.queue q).job ≠ job) ∨ (n = 3 ∧ r = none) := by
  simp only [State.sysqStatuses, List.mem_append, List.mem_ite_nil_right, List.mem_ite_nil_left, List.mem_singleton,
    Option.isNone_iff_eq_none]
  constructor
  · rintro ((⟨h, rfl⟩ | ⟨h, rfl⟩) | ⟨h, rfl⟩)
    · exact .inl ⟨rfl, h⟩
    · exact .inr (.inl ⟨rfl, h⟩)
    · exact .inr (.inr ⟨rfl, h⟩)
  · rintro (⟨rfl, h⟩ | ⟨rfl, h⟩ | ⟨rfl, h⟩)
    · exact .inl (.inl ⟨h, rfl⟩)
    · exact .inl (.inr ⟨h, rfl⟩)
    · exact .inr ⟨h, rfl⟩

/-- What SYSQ answers: a status whose condition holds, or 0 where none does. -/
theorem State.sysqStatus_cases (s : State) (job q : Nat) (r : Option Request) :
    (s.sysqStatus job q r = 1 ∧ (s.queue q).depth ≤ (s.queue q).reqs.length) ∨
      (s.sysqStatus job q r = 2 ∧ (s.queue q).job ≠ job) ∨ (s.sysqStatus job q r = 3 ∧ r = none) ∨
      (s.sysqStatus job q r = 0 ∧ ¬ (s.queue q).depth ≤ (s.queue q).reqs.length ∧ (s.queue q).job = job ∧ r ≠ none) := by
  rcases s.sysqStatus_mem_or_nil job q r with h | ⟨hl, h0⟩
  · rcases State.mem_sysqStatuses.mp h with h | h | h
    · exact .inl h
    · exact .inr (.inl h)
    · exact .inr (.inr (.inl h))
  · have hnone (n : Nat) : n ∉ s.sysqStatuses job q r := hl ▸ List.not_mem_nil
    refine .inr (.inr (.inr ⟨h0, fun h => ?_, ?_, fun h => ?_⟩))
    · exact hnone 1 (State.mem_sysqStatuses.mpr (.inl ⟨rfl, h⟩))
    · exact Decidable.not_not.mp fun h => hnone 2 (State.mem_sysqStatuses.mpr (.inr (.inl ⟨rfl, h⟩)))
    · exact hnone 3 (State.mem_sysqStatuses.mpr (.inr (.inr ⟨rfl, h⟩)))

theorem State.sysqStatus_spec (s : State) (job q : Nat) (r : Option Request) :
    let status := s.sysqStatus job q r
    let full := (s.queue q).depth ≤ (s.queue q).reqs.length
    status ≤ 3 ∧ (status = 1 → full) ∧ (status = 2 → (s.queue q).job ≠ job) ∧ (status = 3 → r = none) ∧
      (full ∨ (s.queue q).job ≠ job ∨ r = none → status ≠ 0) := by
  rcases s.sysqStatus_cases job q r with ⟨h, hc⟩ | ⟨h, hc⟩ | ⟨h, hc⟩ | ⟨h, hfull, hjob, hr⟩ <;> simp only [h]
  · simpa using hc
  · simpa using hc
  · simpa using hc
  · simp [hjob, hr]
    omega

/-- What `State.answer` does to a cluster: its context and its shadow store hear the answer. -/
def Cluster.answer (x : Cluster) (k v : Nat) : Cluster :=
  { x with ctx := x.ctx.answer k v, shadow := x.shadow.map (fun im => im.answer k v) }

@[simp] theorem State.answer_cl (s : State) (k v c : Nat) : (s.answer k v).cl c = (s.cl c).answer k v :=
  Tbl.get_map (fun x => Cluster.answer x k v) {} s.cls c

@[simp] theorem State.answer_ctx (s : State) (k v c : Nat) : (s.answer k v).ctx c = (s.ctx c).answer k v :=
  congrArg Cluster.ctx (s.answer_cl k v c)

/-- The machine when the firmware has taken a status's serial: its job's next one counts on, refused or not (log 43). -/
def State.sysqSerial (s : State) (job : Nat) : State :=
  { s.modHub (fun h => { h with jobSerials := h.jobSerials.put job ((s.hub.jobSerials.get 0 job + 1) % 2 ^ 32) }) with
    freeCtr := s.freeCtr + 3 }

theorem State.sysqAnswer_refused {s : State} {job q pend : Nat} {req : Option Request} (h : s.sysqStatus job q req ≠ 0) :
    s.sysqAnswer job q pend req =
      (s.sysqSerial job).answer pend (s.hub.jobSerials.get 0 job * 2 ^ 32 + s.sysqStatus job q req) := by
  unfold State.sysqAnswer
  generalize s.sysqStatus job q req = st at h
  rcases req with _ | r
  · rfl
  · rcases st with _ | n
    · exact absurd rfl h
    · rfl

theorem State.sysqAnswer_queued {s : State} {job q pend : Nat} {r : Request} (h : s.sysqStatus job q (some r) = 0) :
    s.sysqAnswer job q pend (some r) = ((s.sysqSerial job).enqueue q { r with serial := s.hub.jobSerials.get 0 job }).answer pend
      (s.hub.jobSerials.get 0 job * 2 ^ 32 + s.sysqStatus job q (some r)) := by
  unfold State.sysqAnswer
  rw [h]; rfl

/-- Queued or refused, SYSQ's answer counts the job's serial on and reaches the waiting entry of every context. -/
theorem State.sysqAnswer_spec (s : State) (job q pend : Nat) (req : Option Request) :
    let t := s.sysqAnswer job q pend req
    let serial := s.hub.jobSerials.get 0 job
    t.hub.jobSerials.get 0 job = (serial + 1) % 2 ^ 32 ∧ t.netMsgs = s.netMsgs ∧
      (∀ c, t.ctx c = (s.ctx c).answer pend (serial * 2 ^ 32 + s.sysqStatus job q req)) ∧
      (s.sysqStatus job q req ≠ 0 → (t.queue q).reqs = (s.queue q).reqs) ∧
      (s.sysqStatus job q req = 0 → ∃ r, req = some r ∧ (t.queue q).reqs = (s.queue q).reqs ++ [{ r with serial := serial }]) := by
  intro t serial
  by_cases h : s.sysqStatus job q req = 0
  · obtain ⟨r, rfl⟩ : ∃ r, req = some r := by
      rcases s.sysqStatus_cases job q req with ⟨h', -⟩ | ⟨h', -⟩ | ⟨h', -⟩ | ⟨-, -, -, hr⟩
      · omega
      · omega
      · omega
      · exact Option.ne_none_iff_exists'.mp hr
    have ht : t = _ := State.sysqAnswer_queued h
    rw [ht]
    refine ⟨Tbl.get_put_same _ _ _ _, rfl, fun c => State.answer_ctx _ _ _ c, fun h' => absurd h h', fun _ => ⟨r, rfl, ?_⟩⟩
    exact State.enqueue_queue_reqs _ q _
  · have ht : t = _ := State.sysqAnswer_refused h
    rw [ht]
    exact ⟨Tbl.get_put_same _ _ _ _, rfl, fun c => State.answer_ctx _ _ _ c, fun _ => rfl, fun h' => absurd h' h⟩

/-! The steps of SYSQ's request at the hub. -/

/-- The stamp of a request has been acquired in the hub's mirror. -/
def State.stampSeen (s : State) (st : Stamp) : Prop :=
  (s.die 4).mirrorBad = false ∧ st.pos ≤ (s.mirror 4 st.gal).1 ∧ st.pos ≤ (s.mirror 4 st.gal).2

section
variable {s : State} {k : Nat} {m : Msg} {job sid pend q ptr : Nat} {st : Stamp}
  (hm : s.msg k = some m) (hp : m.pay = .sysq job sid pend q ptr st)
include hm hp

theorem sysqRequest_unseen (h : ¬ s.stampSeen st) : exec (.sysqRequest k) s = .next s := by
  show execSysqRequest k s = _
  have hb : (!s.arrived m || (s.die 4).mirrorBad || decide ((s.mirror 4 st.gal).1 < st.pos) ||
      decide ((s.mirror 4 st.gal).2 < st.pos)) = true := by
    refine eq_true_of_ne_false fun hc => ?_
    simp only [Bool.or_eq_false_iff, decide_eq_false_iff_not, Nat.not_lt] at hc
    obtain ⟨⟨⟨-, hbad⟩, hreleased⟩, hdrained⟩ := hc
    exact h ⟨hbad, hreleased, hdrained⟩
  simp only [execSysqRequest, hm, hp, hb, if_true]

variable (ha : s.arrived m = true) (hs : s.stampSeen st)
include ha hs

theorem sysqRequest_waits {s1 : State} (hr : s.sysqRead sid ptr q = (s1, none)) :
    exec (.sysqRequest k) s = .next s1 := by
  show execSysqRequest k s = _
  obtain ⟨h1, h2, h3⟩ := hs
  simp [execSysqRequest, hm, hp, ha, h1, Nat.not_lt.mpr h2, Nat.not_lt.mpr h3, hr]

theorem sysqRequest_answers {s1 : State} {w : Option (List Nat)} {bad : Bool}
    (hr : s.sysqRead sid ptr q = (s1, some (w, bad))) :
    exec (.sysqRequest k) s = .next ((s1.dropMsg k).sysqAnswer job q pend (w.bind (fun w => s1.requestOf q w bad))) := by
  show execSysqRequest k s = _
  obtain ⟨h1, h2, h3⟩ := hs
  simp [execSysqRequest, hm, hp, ha, h1, Nat.not_lt.mpr h2, Nat.not_lt.mpr h3, hr]

end

/-! ## What a hub access leaves alone (03 R46, R56) -/

theorem foldl_nodesHeld {α : Type} {f : State → α → State} (h : ∀ s x, (f s x).hub.nodesHeld = s.hub.nodesHeld)
    (l : List α) (s : State) : (l.foldl f s).hub.nodesHeld = s.hub.nodesHeld := by
  induction l generalizing s with
  | nil => rfl
  | cons a l ih => exact (ih _).trans (h s a)

@[simp] theorem State.updatePte_hub (s : State) (p : Nat) (f : Nat → Nat) : (s.updatePte p f).hub = s.hub := by
  unfold State.updatePte
  dsimp only
  split <;> rfl

@[simp] theorem State.markDirty_hub (s : State) (sid va : Nat) : (s.markDirty sid va).hub = s.hub := by
  unfold State.markDirty
  split
  · exact State.updatePte_hub _ _ _
  · rfl

@[simp] theorem State.translate_nodesHeld (s : State) (sid va : Nat) (kind : AccKind) (user : Bool) :
    (s.translate sid va kind user).1.hub.nodesHeld = s.hub.nodesHeld := by
  unfold State.translate State.translateVia
  dsimp only
  split
  · rfl
  · rfl
  · split
    · rfl
    · dsimp only
      split
      · rfl
      · rw [State.updatePte_hub]; rfl

@[simp] theorem State.quiesceCl_hub (s : State) (c : Nat) : (s.quiesceCl c).hub = s.hub := by
  unfold State.quiesceCl
  split <;> rfl

@[simp] theorem State.quiesceSid_nodesHeld (s : State) (pa sid : Nat) :
    (s.quiesceSid pa sid).hub.nodesHeld = s.hub.nodesHeld := by
  unfold State.quiesceSid
  split
  · rfl
  · dsimp only
    refine (foldl_nodesHeld (fun s c => ?_) _ _).trans (foldl_nodesHeld (fun s c => ?_) _ s)
    · rfl
    · rw [State.quiesceCl_hub]

@[simp] theorem State.hubLost_nodesHeld (s : State) (sid table : Nat) :
    (s.hubLost sid table).hub.nodesHeld = s.hub.nodesHeld := by
  unfold State.hubLost
  split
  · rfl
  · rw [State.quiesceSid_nodesHeld]; rfl

@[simp] theorem Hub.setTlb_nodesHeld (h : Hub) (t : Nat) (l : List TlbEnt) : (h.setTlb t l).nodesHeld = h.nodesHeld := by
  unfold Hub.setTlb
  split
  · rfl
  · split <;> rfl

@[simp] theorem State.hubXlat_nodesHeld (s : State) (t sid va : Nat) (kind : AccKind) :
    (s.hubXlat t sid va kind).1.hub.nodesHeld = s.hub.nodesHeld := by
  have hx := s.translate_nodesHeld sid va kind false
  unfold State.hubXlat
  extract_lets r
  have hr : r.1.hub.nodesHeld = s.hub.nodesHeld := by
    unfold r
    split
    · rfl
    · split <;> rename_i h <;> rw [h] at hx
      · rw [State.hubLost_nodesHeld]; exact hx
      · exact hx
  clear_value r
  obtain ⟨s', _ | e⟩ := r
  · exact hr
  · dsimp only at hr ⊢
    rw [State.modHub_hub, Hub.setTlb_nodesHeld, ← hr]
    split
    · rw [State.markDirty_hub]
    · rfl

@[simp] theorem State.hubParts_nodesHeld (s : State) (t sid : Nat) (kind : AccKind) (l : List (Nat × Nat)) :
    (s.hubParts t sid kind l).1.hub.nodesHeld = s.hub.nodesHeld := by
  induction l generalizing s with
  | nil => rfl
  | cons p rest ih =>
    obtain ⟨va, n⟩ := p
    have hx := s.hubXlat_nodesHeld t sid va kind
    unfold State.hubParts
    split <;> rename_i s' _ h <;> rw [h] at hx
    · exact hx
    · have hp := (ih s').trans hx
      split <;> rename_i h'
      · rw [h'] at hp; exact hp
      · exact hp

theorem State.hubRead_nodesHeld {s s1 : State} {t sid va w : Nat} {r : Except Nat (Nat × List (Nat × Nat) × Bool)}
    (h : s.hubRead t sid va w = (s1, r)) : s1.hub.nodesHeld = s.hub.nodesHeld := by
  have hp : (s.hubPieces t sid .read va w).1.hub.nodesHeld = s.hub.nodesHeld := State.hubParts_nodesHeld _ _ _ _ _
  unfold State.hubRead at h
  split at h <;> rename_i hq <;> rw [hq] at hp <;> cases h <;> exact hp

@[simp] theorem State.modGal_nodesHeld (s : State) (g : Nat) (f : Galley → Galley) :
    (s.modGal g f).hub.nodesHeld = s.hub.nodesHeld := by
  unfold State.modGal
  split <;> rfl

@[simp] theorem State.mergeVc_hub (s : State) (g : Nat) (e : GEnt) : (s.mergeVc g e).hub = s.hub := by
  unfold State.mergeVc
  split
  · split <;> rfl
  · rfl

@[simp] theorem State.append1_nodesHeld (s : State) (g : Nat) (e : GEnt) :
    (s.append1 g e).hub.nodesHeld = s.hub.nodesHeld := by
  unfold State.append1
  extract_lets y e' s1 s2 s3
  have h3 : s3.hub.nodesHeld = s.hub.nodesHeld := by
    rw [State.mergeVc_hub, State.modGal_nodesHeld]
  split
  · rw [State.modGal_nodesHeld]; exact h3
  · exact h3

theorem State.hubStore_nodesHeld {s t : State} {tlb g sid va w : Nat} {runs : List Run}
    (h : s.hubStore tlb g sid va w runs = some t) : t.hub.nodesHeld = s.hub.nodesHeld := by
  have hp : (s.hubPieces tlb sid .write va w).1.hub.nodesHeld = s.hub.nodesHeld := State.hubParts_nodesHeld _ _ _ _ _
  unfold State.hubStore at h
  split at h <;> rename_i hq <;> rw [hq] at hp
  · split at h
    · cases h
    · cases h; exact hp
  · dsimp only at h
    split at h
    · cases h; exact (foldl_nodesHeld (fun s _ => State.append1_nodesHeld s _ _) _ _).trans hp
    · cases h

/-! ## Graphs replayed (20 R371) -/

/-- Arming a counter of a replay's group holds no node and changes no graph. -/
theorem State.armGroup_held (s : State) (g : Graph) (own : List (Nat × Nat)) (p : Nat × Nat) :
    (s.armGroup g own p).hub.nodesHeld = s.hub.nodesHeld ∧ (s.armGroup g own p).hub.graphs = s.hub.graphs := by
  unfold State.armGroup State.cntArm
  dsimp only
  split <;> exact ⟨rfl, rfl⟩

/-- The counters that stand for a replay's groups are armed. -/
def State.armGroups (s : State) (g : Graph) (own : List (Nat × Nat)) : State :=
  own.foldl (fun t p => t.armGroup g own p) s

theorem State.armGroups_held (s : State) (g : Graph) (own : List (Nat × Nat)) :
    (s.armGroups g own).hub.nodesHeld = s.hub.nodesHeld ∧ (s.armGroups g own).hub.graphs = s.hub.graphs := by
  have hfold (l : List (Nat × Nat)) (t : State) :
      (l.foldl (fun t p => t.armGroup g own p) t).hub.nodesHeld = t.hub.nodesHeld ∧
        (l.foldl (fun t p => t.armGroup g own p) t).hub.graphs = t.hub.graphs := by
    induction l generalizing t with
    | nil => exact ⟨rfl, rfl⟩
    | cons p l ih =>
      obtain ⟨hn, hg⟩ := ih (t.armGroup g own p)
      obtain ⟨hn', hg'⟩ := t.armGroup_held g own p
      exact ⟨hn.trans hn', hg.trans hg'⟩
  exact hfold own s

/-- A node of a replay is held: the firmware gives its request a serial and keeps it until its predecessors allow it. -/
def State.holdReplayed (q page : Nat) (own : List (Nat × Nat)) (cnts : List Nat) (s : State)
    (p : (List Nat × List Nat) × Nat) : State :=
  s.fresh.2.holdNode { nodeRequest q page own cnts p.2 p.1 with serial := s.fresh.1 }

/-- Every node of a replay is held as one launch request of the graph's queue with the replay's page; no graph changes. -/
theorem State.holdReplayed_all (q page : Nat) (own : List (Nat × Nat)) (cnts : List Nat)
    (nodes : List ((List Nat × List Nat) × Nat)) (s : State) :
    ∃ l, (nodes.foldl (State.holdReplayed q page own cnts) s).hub.nodesHeld = s.hub.nodesHeld ++ l ∧
      l.length = nodes.length ∧ (∀ r ∈ l, r.kind = 0 ∧ r.queue = q ∧ (Bind.of r.words).param = page) ∧
      (nodes.foldl (State.holdReplayed q page own cnts) s).hub.graphs = s.hub.graphs := by
  induction nodes generalizing s with
  | nil => exact ⟨[], (List.append_nil _).symm, rfl, by simp, rfl⟩
  | cons p nodes ih =>
    obtain ⟨l, hl, hlen, hall, hg⟩ := ih (State.holdReplayed q page own cnts s p)
    refine ⟨{ nodeRequest q page own cnts p.2 p.1 with serial := s.serial } :: l, ?_, by simp [hlen], ?_, hg⟩
    · exact hl.trans (List.append_assoc _ [_] l)
    · rintro r (_ | ⟨_, hr⟩)
      · exact ⟨rfl, rfl, rfl⟩
      · exact hall r hr

/-- The launch counters of a replay's nodes: the first of its job's spare ones. -/
def State.replayCnts (s : State) (gr : Graph) : List Nat := (s.spareCnts (s.queue gr.queue).job).take gr.nodes.length

/-- The counters that stand for the graph's groups in a replay: the spare ones after its nodes'. -/
def State.replayOwn (s : State) (gr : Graph) : List (Nat × Nat) :=
  gr.groups.zip ((s.spareCnts (s.queue gr.queue).job).drop gr.nodes.length)

/-- A replay whose counters are spare, whose parameters are read and whose snapshot is stored: the snapshot's place moves
on, the group counters are armed, and the nodes are held. -/
theorem State.replay_stored {s s1 s2 : State} {g v : Nat} {bad : List (Nat × Nat)} {sub : Bool} {gr : Graph}
    (hgr : s.hub.graphs.get {} g = gr) (hg : s.hub.graphs.has g = true)
    (hcnt : gr.nodes.length + gr.groups.length ≤ (s.spareCnts (s.queue gr.queue).job).length)
    (hgal : (s.gal 1026).d = (s.gal 1026).a)
    (hr : s.hubRead 0 (s.queue gr.queue).sid gr.params 4096 = (s1, .ok (v, bad, sub)))
    (hs : s1.hubStore 0 1026 (s.queue gr.queue).sid gr.page 4096 [(0, 4096, v, !bad.isEmpty)] = some s2) :
    s.replay g = some ((gr.nodes.zip (s.replayCnts gr)).foldl
      (State.holdReplayed gr.queue gr.page (s.replayOwn gr) (s.replayCnts gr))
      ((s2.modHub (fun h => { h with graphs := h.graphs.put g { gr with page := gr.page + 4096 } })).armGroups gr
        (s.replayOwn gr))) := by
  have hready : ¬ (!s.hub.graphs.has g || decide ((s.spareCnts (s.queue gr.queue).job).length <
      gr.nodes.length + gr.groups.length) || decide ((s.gal 1026).d ≠ (s.gal 1026).a)) = true := by
    simp [hg, hgal, hcnt]
  unfold State.replay
  simp only [hgr, hr, hs]
  exact (if_neg hready).trans rfl

theorem graphReplay_some {s t : State} {g : Nat} (h : s.replay g = some t) : exec (.graphReplay g) s = .next t := by
  show Host.Outcome.next ((s.replay g).getD (s.replayStuck g)) = _
  rw [h, Option.getD_some]

/-- What such a replay leaves: its nodes held for the graph's queue, each with the snapshot's page, and the next
snapshot's place behind this one's. -/
theorem graphReplay_holds {s s1 : State} {g v : Nat} {bad : List (Nat × Nat)} {sub : Bool} {gr : Graph}
    (hgr : s.hub.graphs.get {} g = gr) (hg : s.hub.graphs.has g = true)
    (hcnt : gr.nodes.length + gr.groups.length ≤ (s.spareCnts (s.queue gr.queue).job).length)
    (hgal : (s.gal 1026).d = (s.gal 1026).a)
    (hr : s.hubRead 0 (s.queue gr.queue).sid gr.params 4096 = (s1, .ok (v, bad, sub)))
    (hs : (s1.hubStore 0 1026 (s.queue gr.queue).sid gr.page 4096 [(0, 4096, v, !bad.isEmpty)]).isSome = true) :
    ∃ t l, exec (.graphReplay g) s = .next t ∧ t.hub.nodesHeld = s.hub.nodesHeld ++ l ∧ l.length = gr.nodes.length ∧
      (∀ r ∈ l, r.kind = 0 ∧ r.queue = gr.queue ∧ (Bind.of r.words).param = gr.page) ∧
      (t.hub.graphs.get {} g).page = gr.page + 4096 := by
  obtain ⟨s2, hs2⟩ := Option.isSome_iff_exists.mp hs
  have hrep := State.replay_stored hgr hg hcnt hgal hr hs2
  obtain ⟨harm, hgraphs⟩ := (s2.modHub (fun h => { h with
    graphs := h.graphs.put g { gr with page := gr.page + 4096 } })).armGroups_held gr (s.replayOwn gr)
  obtain ⟨l, hl, hlen, hall, hgr'⟩ := State.holdReplayed_all gr.queue gr.page (s.replayOwn gr) (s.replayCnts gr)
    (gr.nodes.zip (s.replayCnts gr)) ((s2.modHub (fun h => { h with
      graphs := h.graphs.put g { gr with page := gr.page + 4096 } })).armGroups gr (s.replayOwn gr))
  have hheld : s2.hub.nodesHeld = s.hub.nodesHeld := (State.hubStore_nodesHeld hs2).trans (State.hubRead_nodesHeld hr)
  refine ⟨_, l, graphReplay_some hrep, ?_, ?_, hall, ?_⟩
  · rw [hl, harm, State.modHub_hub, hheld]
  · simp only [hlen, List.length_zip, State.replayCnts, List.length_take]
    omega
  · rw [hgr', hgraphs, State.modHub_hub, Tbl.get_put_same]

/-! ## Nodes released (20 R371) -/

theorem State.releaseNodes_none {s : State} (h : s.hub.nodesHeld = []) : s.releaseNodes = s := by
  unfold State.releaseNodes
  rw [h, List.foldl_nil, State.modHub, ← h]

theorem State.releaseNodes_one_done {s : State} {r : Request} (h : s.hub.nodesHeld = [r])
    (hf : s.afterFailed r = false) (hd : s.afterDone r = true) :
    s.releaseNodes = (s.modHub (fun h => { h with nodesHeld := [] })).enqueue r.queue { r with since := s.hub.time } := by
  have hf' : (s.modHub (fun h => { h with nodesHeld := [] })).afterFailed r = false := hf
  have hd' : (s.modHub (fun h => { h with nodesHeld := [] })).afterDone r = true := hd
  unfold State.releaseNodes
  rw [h, List.foldl_cons, List.foldl_nil, hf', hd']
  rfl

theorem State.releaseNodes_one_waits {s : State} {r : Request} (h : s.hub.nodesHeld = [r])
    (hf : s.afterFailed r = false) (hd : s.afterDone r = false) : s.releaseNodes = s := by
  have hf' : (s.modHub (fun h => { h with nodesHeld := [] })).afterFailed r = false := hf
  have hd' : (s.modHub (fun h => { h with nodesHeld := [] })).afterDone r = false := hd
  have hback : (s.modHub (fun h => { h with nodesHeld := [] })).holdNode r = s := by
    simp [State.holdNode, State.modHub, ← h]
  unfold State.releaseNodes
  rw [h, List.foldl_cons, List.foldl_nil, hf', hd']
  exact hback

/-! ## Heads bound (20 R363, R372) -/

/-- A slot as COMMIT leaves it: ready, last in the order of commits. -/
def State.boundSlot (s : State) (w : List Nat) (drone : Bool) : Slot :=
  { state := 1, words := w, order := s.hub.commits, drone := drone
    clusters := partClusters (Bind.of w).die (Bind.of w).row0 (Bind.of w).col0 (Bind.of w).hm1 (Bind.of w).wm1 }

/-- A COMMIT without ERR fills the slot and touches no queue. -/
theorem State.commit_spec {s : State} {w : List Nat} {k : Nat} (drone : Bool) (he : s.commitErr w k = 0) :
    let t := (s.commit w k drone).1
    (s.commit w k drone).2 = 0 ∧ t.slot k = s.boundSlot w drone ∧ t.hub.commits = s.hub.commits + 1 ∧
      t.hub.slotSel = s.hub.slotSel ∧ (∀ q, t.queue q = s.queue q) := by
  unfold State.commit
  rw [he]
  exact ⟨rfl, Tbl.get_put_same _ _ _ _, rfl, rfl, fun _ => rfl⟩

/-- The machine with the firmware's words in the staging registers. -/
def State.staged (s : State) (w : List Nat) (k : Nat) : State :=
  s.modHub (fun h => { h with slotSel := k, slotW := (List.range 8).map (bindWord w) })

theorem State.firmCommit_spec {s : State} {w : List Nat} {k : Nat} (drone : Bool) (he : s.commitErr w k = 0) :
    let t := (s.firmCommit w k drone).1
    (s.firmCommit w k drone).2 = 0 ∧ t.slot k = s.boundSlot w drone ∧ t.hub.commits = s.hub.commits + 1 ∧
      t.hub.slotSel = k ∧ t.hub.slotErr = 0 ∧ (∀ q, t.queue q = s.queue q) := by
  obtain ⟨herr, hslot, hcommits, hsel, hqueue⟩ := State.commit_spec (s := s.staged w k) drone he
  exact ⟨herr, hslot, hcommits, hsel, herr, hqueue⟩

/-- The machine after the firmware's commit of bind words into a slot. -/
def State.bound (s : State) (w : List Nat) (k : Nat) (due drone sys : Bool) : State :=
  (s.firmCommit w k drone).1.modSlot k (fun x => { x with due := due, sys := sys })

theorem State.bound_spec {s : State} {w : List Nat} {k : Nat} (due drone sys : Bool) (he : s.commitErr w k = 0) :
    let t := s.bound w k due drone sys
    t.slot k = { s.boundSlot w drone with due := due, sys := sys } ∧ t.hub.commits = s.hub.commits + 1 ∧
      t.hub.slotSel = k ∧ t.hub.slotErr = 0 ∧ (∀ q, t.queue q = s.queue q) := by
  obtain ⟨-, hslot, hcommits, hsel, herr, hqueue⟩ := State.firmCommit_spec drone he
  exact ⟨(State.modSlot_slot _ k _).trans (by rw [hslot]), hcommits, hsel, herr, hqueue⟩

/-- A launch whose descriptor is refused takes no slot. -/
theorem State.bindHead_refused {s t : State} {w : List Nat} {due drone sys : Bool} {k : Nat} (hk : s.freeSlot = some k)
    (hl : s.leaseCheck (Bind.of w) = (t, some true)) : s.bindHead w due drone sys = some t := by
  simp only [State.bindHead, hk, hl]

/-- A launch whose descriptor is sound and whose words COMMIT accepts is bound. -/
theorem State.bindHead_commits {s s1 : State} {w : List Nat} {due drone sys : Bool} {k : Nat} (hk : s.freeSlot = some k)
    (hl : s.leaseCheck (Bind.of w) = (s1, some false)) (he : s1.commitErr w k = 0) :
    s.bindHead w due drone sys = some (s1.bound w k due drone sys) := by
  have herr : (s1.firmCommit w k drone).2 = 0 := (State.firmCommit_spec drone he).1
  simp only [State.bindHead, hk, hl, herr, if_true]
  rfl

/-! ## Deficit round robin (20 R372; log 43) -/

/-- The machine after the one head of a level has been chosen: its queue has paid, and the round has reached it. -/
def State.charged (s : State) (lvl q cost : Nat) : State :=
  (s.modQueue q (fun x => { x with deficit := x.deficit - cost })).modHub (fun h => { h with rr := h.rr.put lvl q })

theorem State.charged_bindCancelled (s : State) (lvl q cost : Nat) (b : Bind) :
    (s.charged lvl q cost).bindCancelled b = s.bindCancelled b := rfl

theorem State.charged_popHead_freeSlot (s : State) (lvl q cost : Nat) :
    ((s.charged lvl q cost).popHead q).freeSlot = s.freeSlot := rfl

theorem State.charged_popHead_queue (s : State) (lvl q cost : Nat) :
    (((s.charged lvl q cost).popHead q).queue q).deficit = (s.queue q).deficit - cost ∧
      (((s.charged lvl q cost).popHead q).queue q).reqs.length = (s.queue q).reqs.length - 1 := by
  have hq : (s.charged lvl q cost).queue q = { s.queue q with deficit := (s.queue q).deficit - cost } :=
    s.modQueue_queue q (fun x => { x with deficit := x.deficit - cost })
  obtain ⟨hdef, hlen⟩ := (s.charged lvl q cost).popHead_queue q
  rw [hq] at hdef hlen
  exact ⟨hdef, hlen⟩

/-- A level's only head is chosen where the round has not passed its queue and its deficit pays. -/
theorem State.drr_one {s : State} {n lvl q : Nat} {r : Request} (hl : s.headsAt lvl = [(q, r)])
    (hr : s.hub.rr.get 0 lvl ≤ q) (hc : r.cost ≤ (s.queue q).deficit) :
    State.drr (n + 1) s lvl = (s.charged lvl q r.cost, some (q, r)) := by
  simp [State.drr, hl, hr, hc, State.charged]

/-- A level without heads chooses none, however many rounds go by. -/
theorem State.drr_none {s : State} {n lvl : Nat} (hl : s.headsAt lvl = []) : (State.drr n s lvl).2 = none := by
  induction n generalizing s with
  | zero => rfl
  | succ n ih =>
    unfold State.drr
    rw [hl]
    exact ih hl

/-! ## The firmware's next choice (20 R372) -/

/-- With no node to release and no due head, the one head of the highest level that has any is served. -/
theorem queueBind_one {s : State} {lvl q : Nat} {r : Request} (hn : s.hub.nodesHeld = []) (hd : s.hub.due = [])
    (hh : s.hub.preStat = 0 → s.dueHolder = none) (hlvl : lvl < 8) (hbelow : ∀ j < lvl, s.headsAt j = [])
    (hl : s.headsAt lvl = [(q, r)]) (hr : s.hub.rr.get 0 lvl ≤ q) (hc : r.cost ≤ (s.queue q).deficit) :
    exec .queueBind s = .next (((s.charged lvl q r.cost).serve q (s.queue q).level false false r).getD (s.waits r)) := by
  have hfind : (List.range 8).find? (fun l => !(s.headsAt l).isEmpty) = some lvl := by
    rw [List.find?_range_eq_some]
    refine ⟨by simp [hl], by simp [hlvl], fun j hj => by simp [hbelow j hj]⟩
  have hpre : (if s.hub.preStat = 0 then s.dueHolder else none) = none := by
    split
    · exact hh ‹_›
    · rfl
  show execQueueBind s = _
  unfold execQueueBind
  rw [State.releaseNodes_none hn]
  simp only [hpre, hd, hfind, drrRounds, State.drr_one hl hr hc]

/-- A launch that names no cancelled counter is bound at its queue's level. -/
theorem State.serve_launch {s : State} {q prio : Nat} {due drone : Bool} {r : Request} (hk : r.kind = 0)
    (hc : s.bindCancelled (Bind.of (atPrio r.words prio)) = false) :
    s.serve q prio due drone r = (s.popHead q).bindHead (atPrio r.words prio) due drone (q == s.hub.sysQueue) := by
  unfold State.serve
  dsimp only
  rw [if_neg (by omega), if_neg (by omega)]
  exact if_neg (Bool.eq_false_iff.mp hc)

/-! ## Ageing (20 R372) -/

/-- A head that has waited its next T_age rises a level; at its seventh it is due. -/
theorem queueAge_rises {s : State} {q : Nat} {r : Request} {rest : List Request} (hq : (s.queue q).reqs = r :: rest)
    (hlvl : (s.queue q).level < 8) (hage : r.age < 7)
    (ht : r.since + (r.age + 1) * s.hub.tAge * 1000000 ≤ s.hub.time) :
    exec (.queueAge q) s = .next (s.modHub (fun h => { h with
      queues := h.queues.put q { s.queue q with reqs := { r with age := r.age + 1 } :: rest }
      due := if r.age = 6 then h.due ++ [q] else h.due })) := by
  show execQueueAge q s = _
  unfold execQueueAge
  simp only [hq]
  rw [if_neg (by simp; omega)]
  by_cases h6 : r.age = 6
  · rw [if_pos (by omega)]; simp only [if_pos h6]; rfl
  · rw [if_neg (by omega)]; simp only [if_neg h6]; rfl

/-! ## Drones (20 R373) -/

theorem droneBind_noRoom {s : State} (h : s.hub.ballastRoom = false) : exec .droneBind s = .next s := by
  show Host.Outcome.next (if s.hub.ballastRoom then s.droneBind else s) = _
  rw [h]; rfl

/-- With room for ballast and no drone request, the next offered drone is bound at PRIO 8. -/
theorem droneBind_offered {s t : State} {w : List Nat} {more : List (List Nat)} (h : s.hub.ballastRoom = true)
    (hl : s.headsAt 8 = []) (hd : s.hub.drones = w :: more) (hroom : s.droneRoom 0 w = true)
    (hb : s.bindHead (atPrio w 8) false true false = some t) : exec .droneBind s = .next t := by
  have hdrr : State.drr drrRounds s 8 = ((State.drr drrRounds s 8).1, none) := Prod.ext rfl (State.drr_none hl)
  unfold atPrio at hb
  show Host.Outcome.next (if s.hub.ballastRoom then s.droneBind else s) = _
  unfold State.droneBind
  rw [if_pos h, hdrr]
  simp only [hd, hl, hroom, hb, List.isEmpty_nil, Bool.and_self, if_true, Option.getD_some]

end Sys2Proof.Machine

namespace Sys2Proof.Proofs
open Sys2Proof.Machine Sys2Proof.Claims

/-- Every register write of the claim, each by the lemma of its operation. -/
theorem registerWrites : Claims.RegisterWrites := by
  intro who c k u v s x n ring withRing pe old
  refine ⟨fun hu => ⟨fun hc hm => ?_, fun hc => ?_, fun hc => ⟨?_, ?_⟩, fun hm => ?_, ?_⟩, fun hb hf hs hn => ?_,
    fun h => ?_, fun b st h hb => ?_, fun he hs hl hb => ?_, fun he => ?_, fun hp hw => ?_, fun hw => ?_, ?_⟩
  · show Host.Outcome.next (if u < 36 then s.peMode c u n else s) = _
    rw [if_pos hu, State.peMode_unloaded hc hm]; rfl
  · show Host.Outcome.next (if u < 36 then s.peXen c u n else s) = _
    rw [if_pos hu, State.peXen_unloaded hc]; rfl
  · show Host.Outcome.next (if u < 36 then s.peMode c u n else s) = _
    rw [if_pos hu, State.peMode_loaded hc]
  · show Host.Outcome.next (if u < 36 then s.peXen c u n else s) = _
    rw [if_pos hu, State.peXen_loaded hc]
  · show Host.Outcome.next (if u < 36 then s.peMode c u n else s) = _
    rw [if_pos hu, State.peMode_reserved hm]
  · show Host.Outcome.next (if u < 36 then s.peFlagsClear c u n else s) = _
    rw [if_pos hu]; rfl
  · show Host.Outcome.next (s.chHead c (k % 4) n).1 = _
    rw [State.chHead_starts hb hf hs hn, BitVec.ofNat_toNat, BitVec.setWidth_eq]; rfl
  · exact congrArg _ (State.modCtx_congr (Ctx.clearTags_none_late h))
  · exact congrArg _ (State.modCtx_congr (Ctx.clearTags_one_late h hb))
  · exact congrArg _ (State.ringEnable_disabled he hs hl hb)
  · show Host.Outcome.next (if ring.en then s.ringDisable c (k % 16) 0 else s) = _
    rw [if_pos he, State.ringDisable_enabled he]; rfl
  · exact congrArg _ (State.regWrite_quietLimit hp hw)
  · exact congrArg _ (hw ▸ State.regWrite_host_cluster s c u n)
  · exact congrArg _ (State.regWrite_doorbell s who c n)

/-- The firmware's queues, clause by clause: SYSQ's answer, a replay, the nodes it releases, the head that is bound, its
ageing, and drones. -/
theorem firmwareQueues : Claims.FirmwareQueues := by
  intro s q sq
  refine ⟨?_, ?_, ?_, ?_, ?_, ?_, ?_⟩
  · intro k m job sid pend ptr st hm hp ha seen
    refine ⟨fun h => sysqRequest_unseen hm hp h, fun s1 h hr => sysqRequest_waits hm hp ha h hr, ?_⟩
    intro s1 w bad h hr full other serial request
    obtain ⟨hle, h1, h2, h3, h0⟩ := (s1.dropMsg k).sysqStatus_spec job q request
    obtain ⟨hserial, hmsgs, hctx, hrefused, hqueued⟩ := (s1.dropMsg k).sysqAnswer_spec job q pend request
    exact ⟨_, _, sysqRequest_answers hm hp ha h hr, hle, h1, h2, h3, h0, hserial, hmsgs,
      fun c => congrArg Ctx.pend (hctx c), hrefused, hqueued⟩
  · intro g gr hg hq hcnt hgal s1 v bad sub hr hs
    subst hq
    exact graphReplay_holds rfl hg hcnt hgal hr hs
  · intro r hr
    refine ⟨fun hf hd => ?_, fun hf hd => State.releaseNodes_one_waits hr hf hd⟩
    rw [State.releaseNodes_one_done hr hf hd]
    exact ⟨rfl, State.enqueue_queue_reqs _ _ _⟩
  · intro lvl r k hn hd hh hlvl hbelow hl hrr hcost hkind hcan hk _ paid
    have hpaid : paid = (s.charged lvl q r.cost).popHead q := rfl
    have hfree : paid.freeSlot = some k := (s.charged_popHead_freeSlot lvl q r.cost).trans hk
    have hbind : exec .queueBind s = .next ((paid.bindHead (atPrio r.words (s.queue q).level) false false
        (q == s.hub.sysQueue)).getD (s.waits r)) := by
      rw [queueBind_one hn hd hh hlvl hbelow hl hrr hcost,
        State.serve_launch hkind ((s.charged_bindCancelled lvl q r.cost _).trans hcan)]
      rfl
    clear_value paid
    refine ⟨fun t ht => ?_, fun s1 hs1 he => ?_, ?_⟩
    · rw [hbind, State.bindHead_refused hfree ht, Option.getD_some]
    · obtain ⟨hslot, hcommits, hsel, herr, hqueue⟩ := State.bound_spec false false (q == s.hub.sysQueue) he
      rw [hbind, State.bindHead_commits hfree hs1 he, Option.getD_some]
      exact ⟨_, rfl, congrArg Slot.state hslot, congrArg Slot.words hslot, congrArg Slot.drone hslot,
        congrArg Slot.order hslot, hcommits, hsel, herr, congrArg SubQueue.deficit (hqueue q),
        congrArg SubQueue.reqs (hqueue q)⟩
    · rw [hpaid]
      exact s.charged_popHead_queue lvl q r.cost
  · exact fun r rest hq hlvl hage ht => queueAge_rises hq hlvl hage ht
  · exact fun hen hmeas => droneBind_noRoom (by simp [Hub.ballastRoom, hen, hmeas])
  · intro w more k s1 hon hoff hl hd hk hroom hlease he
    obtain ⟨hslot, -⟩ := State.bound_spec false true false he
    have hballast : s.hub.ballastRoom = true := by
      cases hen : s.hub.pwrEn
      · simp [Hub.ballastRoom, hen, hoff hen]
      · simp [Hub.ballastRoom, hen, hon hen]
    exact ⟨_, droneBind_offered hballast hl hd hroom (State.bindHead_commits hk hlease he), congrArg Slot.state hslot,
      congrArg Slot.drone hslot, congrArg Slot.words hslot⟩

/-- Settles O35: register writes and the firmware's queues, each from the lemmas of its operations. -/
theorem registersAndQueues : Obligations.RegistersAndQueues := ⟨registerWrites, firmwareQueues⟩

end Sys2Proof.Proofs
end

section
/-!
PROOFS. A bubble at a computing node, and the registers at reset: O11 and O52.
-/
namespace Sys2Proof.Machine
open Sys2Proof.Claims

/-! ## Computing nodes and bubbles (03 R65) -/

/-- Every computing node is one computation performed by the shared operation. -/
theorem exec_compute {i : Instr} {d : Dests} (h : resultDests i = some d) (s : State) :
    ∃ g, exec i s = .next (s.compute d g) := by
  cases i <;> cases h <;> exact ⟨_, rfl⟩

theorem State.compute_bubble {s : State} {f : Firing} (hs : s.cur = some f) (hb : f.hasBubble = true) (d : Dests)
    (g : Computes) : s.compute d g = s.emitBubble f d := by
  simp [State.compute, State.firing, hs, hb]

/-! ## Registers that nothing has written (03 R55, 20 R375, 21 R379, 22 R398, 25 R429, 27 R444) -/

/-- A test both of whose branches give v gives v. -/
theorem ite_gives {c : Prop} [Decidable c] {a b v : Nat} (ha : c → a = v) (hb : ¬ c → b = v) :
    (if c then a else b) = v := by
  split <;> simp [*]

@[simp] theorem bn_false (k : Nat) : bn false k = 0 := rfl

theorem bindWord_replicate_zero (m k : Nat) : bindWord (List.replicate m 0) k = 0 := by
  by_cases h : m - k = 0 <;> simp [bindWord, nth, List.drop_replicate, List.head?_replicate, h]

@[simp] theorem bindWord_nil (k : Nat) : bindWord [] k = 0 := bindWord_replicate_zero 0 k
@[simp] theorem bindWord_eight_zeros (k : Nat) : bindWord [0, 0, 0, 0, 0, 0, 0, 0] k = 0 :=
  bindWord_replicate_zero 8 k

@[simp] theorem Galley.reg_default (k : Nat) : ({} : Galley).reg k = 0 := by
  simp [Galley.reg, Galley.d]

theorem LinkMod.reg_default (l k : Nat) : ({} : LinkMod).reg l k = if k = 0 then 64 * 2 ^ 55 else 0 := by
  simp [LinkMod.reg]

theorem Cluster.reg_default {n : Nat} (hquiet : n ≠ 0x0FA) (hhealth : n ≠ 0x0FB) : ({} : Cluster).reg n = 0 := by
  unfold Cluster.reg
  dsimp only
  rw [if_neg hquiet, if_neg hhealth]
  repeat' with_reducible refine ite_gives (fun _ => ?_) (fun _ => ?_)
  all_goals simp [Tbl.get, Ctx.repairReg, Ctx.chan, Channel.stat, Ctx.ring, Ring.cfg, Ctx.framesReg, Ctx.ovfReg,
    Ctx.ovfUsed, Ctx.taskReg, Ctx.activeTasks, Cluster.haltReg, haltCode, Ctx.peReg, Ctx.mxStat, Forme.fmtA, Forme.fmtB]

theorem Cluster.reg_quietLimit : ({} : Cluster).reg 0x0FA = 0x4000000 := rfl
theorem Cluster.reg_health : ({} : Cluster).reg 0x0FB = 0x3F * 2 ^ 14 + 0x3F * 2 ^ 8 + 4 * 2 ^ 4 := rfl

/-! ## The state after reset, part by part -/

@[simp] theorem State.reset_hub : State.reset.hub = {} := rfl
@[simp] theorem State.reset_cl (c : Nat) : State.reset.cl c = {} := rfl
@[simp] theorem State.reset_die (d : Nat) : State.reset.die d = {} := rfl
@[simp] theorem State.reset_cycles (c : Nat) : State.reset.cycles c = 0 := rfl
theorem State.reset_linkMod (l m : Nat) : State.reset.linkMod l m = {} := rfl
@[simp] theorem State.reset_thermOf (d : Nat) : State.reset.thermOf d = {} := rfl
@[simp] theorem State.reset_stackOf (k : Nat) : State.reset.stackOf k = {} := rfl
@[simp] theorem State.reset_island (k : Nat) : State.reset.island k = {} := rfl
@[simp] theorem State.reset_counter (k : Nat) : State.reset.counter k = {} := rfl
@[simp] theorem State.reset_slot (k : Nat) : State.reset.slot k = {} := rfl
@[simp] theorem State.reset_healthReg : State.reset.healthReg = 0 := rfl

/-- A K4-P has every cluster of its four fabric dies. -/
theorem State.reset_present (c : Nat) : State.reset.present? c = decide (c < 1024) := by
  by_cases h : c < 1024
  · have hd : dieOf c = 0 ∨ dieOf c = 1 ∨ dieOf c = 2 ∨ dieOf c = 3 := by
      unfold dieOf; omega
    rcases hd with hd | hd | hd | hd <;> simp [State.present?, h, hd, State.dieLive, State.liveDies, State.reset]
  · simp [State.present?, h]

theorem State.clReg_reset (c n : Nat) : State.reset.clReg c n =
    if n = 0x0FA then 0x4000000 else if n = 0x0FB then 0x3F * 2 ^ 14 + 0x3F * 2 ^ 8 + 4 * 2 ^ 4 else 0 := by
  by_cases hcycle : n = 0x0F8
  · subst hcycle; rfl
  rw [State.clReg, if_neg hcycle, State.reset_cl]
  by_cases hquiet : n = 0x0FA
  · rw [if_pos hquiet, hquiet, Cluster.reg_quietLimit]
  by_cases hhealth : n = 0x0FB
  · rw [if_neg hquiet, if_pos hhealth, hhealth, Cluster.reg_health]
  · rw [if_neg hquiet, if_neg hhealth, Cluster.reg_default hquiet hhealth]

theorem State.hubReg_reset_link {n : Nat} (h : 0x180 ≤ n ∧ n < 0x200) :
    State.reset.hubReg n = if n % 4 = 0 then 64 * 2 ^ 55 else 0 := by
  unfold State.hubReg
  repeat with_reducible refine (if_neg (by omega)).trans ?_
  rw [if_pos h, State.reset_linkMod, LinkMod.reg_default]
  exact ite_congr (propext (by omega)) (fun _ => rfl) (fun _ => rfl)

theorem State.hubReg_reset_therm {n : Nat} (h : 0x240 ≤ n ∧ n < 0x244) : State.reset.hubReg n = 850 * 2 ^ 52 := by
  unfold State.hubReg
  repeat with_reducible refine (if_neg (by omega)).trans ?_
  rw [if_pos h, State.reset_thermOf]
  simp only [Nat.zero_mul, Nat.zero_add, Nat.add_zero]

theorem State.hubReg_reset_zero {n : Nat} (hpt : n ≠ 0x102) (htam : n ≠ 0x130) (hlink : ¬ (0x180 ≤ n ∧ n < 0x200))
    (htherm : ¬ (0x240 ≤ n ∧ n < 0x244)) : State.reset.hubReg n = 0 := by
  unfold State.hubReg
  dsimp only
  rw [if_neg hpt, if_neg htam, if_neg hlink, if_neg htherm]
  repeat' with_reducible refine ite_gives (fun _ => ?_) (fun _ => ?_)
  all_goals simp [Counter.reg, State.unavailReg]

theorem State.hubReg_reset (n : Nat) : State.reset.hubReg n =
    if n = 0x102 then 0x1000000 * 2 ^ 12 + 4
    else if n = 0x130 then 11 * 2 ^ 8 + 7
    else if 0x180 ≤ n ∧ n < 0x200 ∧ n % 4 = 0 then 64 * 2 ^ 55
    else if 0x240 ≤ n ∧ n < 0x244 then 850 * 2 ^ 52
    else 0 := by
  by_cases hpt : n = 0x102
  · subst hpt; rfl
  by_cases htam : n = 0x130
  · subst htam; rfl
  rw [if_neg hpt, if_neg htam]
  by_cases hlink : 0x180 ≤ n ∧ n < 0x200
  · rw [State.hubReg_reset_link hlink, if_neg (by omega : ¬ (0x240 ≤ n ∧ n < 0x244))]
    exact ite_congr (propext (by omega)) (fun _ => rfl) (fun _ => rfl)
  rw [if_neg (by omega : ¬ (0x180 ≤ n ∧ n < 0x200 ∧ n % 4 = 0))]
  by_cases htherm : 0x240 ≤ n ∧ n < 0x244
  · rw [State.hubReg_reset_therm htherm, if_pos htherm]
  · rw [State.hubReg_reset_zero hpt htam hlink htherm, if_neg htherm]

end Sys2Proof.Machine

namespace Sys2Proof.Proofs
open Sys2Proof.Machine

/-- Settles O11: every computing node is `State.compute`, which sends the firing's bubble and does nothing else. -/
theorem bubblesPassThrough : Obligations.BubblesPassThrough := by
  intro i d s f hd hs hb hull port
  obtain ⟨g, hg⟩ := exec_compute hd s
  rw [hg, State.compute_bubble hs hb, State.emitBubble]
  have hbub : f.bubble f.tag = f.stamp (bubbleTok (hull Token.olo min) (hull Token.ohi max) port f.tag) := by
    unfold Firing.hasBubble at hb
    unfold Firing.bubble hull port
    cases hl : f.bubbles with
    | nil => simp [hl] at hb
    | cons b rest => rfl
  rw [hbub]

/-- Settles O52, block by block: the clusters', the dies' and the hub's registers. -/
theorem resetState : Obligations.ResetState := by
  rintro ⟨block, unit, index⟩
  unfold State.regRead
  by_cases h0 : block = 0
  · subst h0
    by_cases hu : unit < 1024 <;> simp [State.reset_present, State.clReg_reset, hu]
  by_cases h2 : block = 2
  · subst h2
    simp [State.hubReg_reset]
  · simp [h0, h2]

end Sys2Proof.Proofs
end

section
/-!
PROOFS. The count of a page's leases, which refutes O37.
-/
namespace Sys2Proof.Proofs
open Sys2Proof.Machine

/-- A hub whose lease table lists page 0 twice. `Tbl` is a plain list, and O37 asks its clause on lease counts of every
hub, not only of those whose table has its keys rising. -/
def hubTwiceListed : Hub := { leases := [(0, 1), (0, 1)] }

/-- Page 0 counts one lease; its release deletes the first entry and leaves the second one standing. -/
theorem hubTwiceListed_release : hubTwiceListed.leases.get 0 0 = 1 ∧
    (hubTwiceListed.countLeases [0] false).leases.get 0 0 = 1 := by decide

/-- Refutes O37: its clause on a lease that ends says, of every hub, that the page then counts one lease less. On a
table that lists the page twice the count stays at 1. -/
theorem not_walksAndInvalidation : ¬ Obligations.WalksAndInvalidation := by
  rintro ⟨-, hinv⟩
  obtain ⟨-, -, -, -, -, -, -, -, hcount, -, -⟩ := hinv State.reset 0 0 0
  obtain ⟨hone, hstays⟩ := hubTwiceListed_release
  have hless := (hcount hubTwiceListed 0).2
  rw [hone, hstays] at hless
  exact absurd hless (by decide)

end Sys2Proof.Proofs
end

section
/-!
PROOFS. The network port's contexts and commands, peers' requests and the storage port: what each operation does in each
of its cases, then O49.
-/
namespace Sys2Proof

/-- The later of two writes under one key stands. -/
theorem Tbl.put_put {β : Type} (t : Tbl β) (a : Nat) (v w : β) : (t.put a v).put a w = t.put a w := by
  induction t with
  | nil => simp [Tbl.put]
  | cons x rest ih =>
    obtain ⟨k, y⟩ := x
    by_cases hlt : a < k
    · simp [Tbl.put, hlt]
    · by_cases heq : a = k
      · simp [Tbl.put, heq]
      · simp [Tbl.put, hlt, heq, ih]

end Sys2Proof

namespace Sys2Proof.Machine
open Sys2Proof.Claims

theorem ptrOff_eq (p : Nat) : ptrOff p = p % 2 ^ 60 := by simp [ptrOff, bits]

/-! ## Contexts (25 R431, R432) -/

theorem State.netValid_iff {s : State} {ctx : Nat} : s.netValid ctx = true ↔ NetContext s ctx := by
  simp [State.netValid, NetContext]

theorem State.modNet_modNet (s : State) (ctx : Nat) (f g : NetCtx → NetCtx) :
    (s.modNet ctx f).modNet ctx g = s.modNet ctx (fun x => g (f x)) := by
  simp [State.modNet, State.modHub, State.netCtx, Tbl.put_put]

theorem State.netFail_eq (s : State) (ctx slot : Nat) {status : Nat} (h : status < 256) :
    s.netFail ctx slot status = slotFails s ctx slot status := by
  rw [State.netFail, Nat.mod_eq_of_lt h]
  rfl

theorem netDoorbell_reads {s s1 : State} {ctx v : Nat} {sub : Bool} (hv : NetContext s ctx)
    (hr : s.hubRead 1 (s.netSid ctx) (s.netWord ctx 3 % 2 ^ 60) 64 = (s1, .ok (v, [], sub))) :
    exec (.netDoorbell ctx) s = .next (s1.netPost ctx v) := by
  show execNetDoorbell ctx s = _
  simp only [execNetDoorbell, State.netValid_iff.mpr hv, ptrOff_eq, hr, Bool.not_true, Bool.false_eq_true, if_false]

/-- A restart clears word 5 and posts the open slots afresh. -/
theorem netContextRestart_restarts {s : State} {ctx : Nat} (hv : NetContext s ctx) :
    exec (.netContextRestart ctx) s =
      .next ((setMem s (s.mem.writeBytes (s.hub.netBase * 4096 + 64 * ctx + 40) 8 0)).modNet ctx (fun y =>
        { y with stopped := false, tail := (s.netCtx ctx).tail,
                 posted := [((s.netCtx ctx).tail, (s.gal 1024).a, s.hub.time)] })) := by
  show execNetContextRestart ctx s = _
  simp only [execNetContextRestart, State.netValid_iff.mpr hv, Bool.not_true, Bool.false_eq_true, if_false,
    State.netPost, State.modNet_modNet]
  rfl

/-! ## Commands (25 R432 to R434) -/

/-- The posting that covers a slot tells where and when its command started. -/
theorem NetCtx.start_of_posted {x : NetCtx} {slot tail a t : Nat} (hmem : (tail, a, t) ∈ x.posted) (hlt : slot < tail)
    (honly : ∀ p ∈ x.posted, slot < p.1 → p = (tail, a, t)) : x.start slot = (a, t) := by
  have hfind : x.posted.find? (fun p => decide (slot < p.1)) = some (tail, a, t) := by
    cases hf : x.posted.find? (fun p => decide (slot < p.1)) with
    | none => exact absurd hlt (by simpa using List.find?_eq_none.mp hf _ hmem)
    | some p => rw [honly p (List.mem_of_find?_eq_some hf) (by simpa using List.find?_some hf)]
  simp [NetCtx.start, hfind]

theorem NetCmd.lenOk_iff {q : NetCmd} : q.lenOk = true ↔ LenOk q := by
  by_cases hword : q.op = 2 ∨ q.op = 3
  · have hlow : ¬ 4 ≤ q.op := by omega
    simp [NetCmd.lenOk, LenOk, hword, hlow, and_assoc]
  · by_cases hadd : 4 ≤ q.op <;> simp [NetCmd.lenOk, LenOk, hword, hadd, and_assoc]

theorem State.netOpen_quiesced {s : State} {ctx : Nat} (slot : Nat) (h : s.netSid ctx ∈ s.hub.quiesced) :
    s.netOpen ctx slot = false := by
  simp [State.netOpen, h]

theorem State.netRun_closed {s : State} {ctx slot : Nat} (h : s.netOpen ctx slot = false) (op status : Nat)
    (go : State → NetCmd → State) : s.netRun ctx slot op status go = s := by
  simp [State.netRun, h]

theorem netTimeout_closed {s : State} {ctx slot : Nat} (h : s.netOpen ctx slot = false) :
    exec (.netTimeout ctx slot) s = .next s := by
  show execNetTimeout ctx slot s = _
  simp [execNetTimeout, h]

section
variable {s s1 : State} {ctx slot : Nat} {q : NetCmd} (hp : Posted s s1 ctx slot q)
include hp

theorem State.netOpen_of_posted : s.netOpen ctx slot = true := by
  obtain ⟨hv, hrun, htl, htail, hdone, hquiet, -⟩ := hp
  simp [State.netOpen, State.netValid_iff.mpr hv, hrun, htl, htail, hdone, hquiet]

/-- A posted command is read, and its operation and length are checked. -/
theorem State.netRun_posted (op status : Nat) (go : State → NetCmd → State) :
    s.netRun ctx slot op status go =
      if 6 ≤ q.op then s1.netFail ctx slot 1
      else if q.op ≠ op then s
      else if !q.lenOk then s1.netFail ctx slot 1
      else if status = 0 then go s1 q
      else if status = 1 ∨ status = 4 ∨ (status = 2 ∧ q.unaligned) then s1.netFail ctx slot status
      else s := by
  have hopen := State.netOpen_of_posted hp
  obtain ⟨-, -, -, -, -, -, hcmd⟩ := hp
  simp only [State.netRun, hopen, hcmd, Bool.not_true, Bool.false_eq_true, if_false]

theorem State.netRun_unknown (h : 6 ≤ q.op) (op status : Nat) (go : State → NetCmd → State) :
    s.netRun ctx slot op status go = slotFails s1 ctx slot 1 := by
  rw [State.netRun_posted hp, if_pos h, State.netFail_eq _ _ _ (by decide)]

theorem State.netRun_malformed (hop : q.op < 6) (hlen : ¬ LenOk q) (status : Nat) (go : State → NetCmd → State) :
    s.netRun ctx slot q.op status go = slotFails s1 ctx slot 1 := by
  have hbad : q.lenOk = false := Bool.eq_false_iff.mpr (fun h => hlen (NetCmd.lenOk_iff.mp h))
  rw [State.netRun_posted hp, if_neg (by omega), if_neg (not_not_intro rfl), hbad, if_pos Bool.not_false,
    State.netFail_eq _ _ _ (by decide)]

theorem State.netRun_goes (hop : q.op < 6) (hlen : LenOk q) (go : State → NetCmd → State) :
    s.netRun ctx slot q.op 0 go = go s1 q := by
  rw [State.netRun_posted hp, if_neg (by omega), if_neg (not_not_intro rfl),
    if_neg (by simp [NetCmd.lenOk_iff.mpr hlen]), if_pos rfl]

/-- The peer's refusal, or its poison, fails the command. -/
theorem State.netRun_answered (hop : q.op < 6) (hlen : LenOk q) {status : Nat} (hst : status = 1 ∨ status = 4)
    (go : State → NetCmd → State) : s.netRun ctx slot q.op status go = slotFails s1 ctx slot status := by
  rw [State.netRun_posted hp, if_neg (by omega), if_neg (not_not_intro rfl),
    if_neg (by simp [NetCmd.lenOk_iff.mpr hlen]), if_neg (by omega), if_pos (by omega),
    State.netFail_eq _ _ _ (by omega)]

theorem netTimeout_late (h : ((s.netCtx ctx).start slot).2 + 10 ^ 9 ≤ s.hub.time) :
    exec (.netTimeout ctx slot) s = .next (slotFails s ctx slot 3) := by
  show execNetTimeout ctx slot s = _
  simp only [execNetTimeout, State.netOpen_of_posted hp, h, decide_true, Bool.and_self, if_true]
  rw [State.netFail_eq _ _ _ (by decide)]

end

theorem netTimeout_early {s : State} {ctx slot : Nat} (h : s.hub.time < ((s.netCtx ctx).start slot).2 + 10 ^ 9) :
    exec (.netTimeout ctx slot) s = .next s := by
  show execNetTimeout ctx slot s = _
  simp only [execNetTimeout, Nat.not_le.mpr h, decide_false, Bool.and_false, Bool.false_eq_true, if_false]

/-! ## What a command moves (25 R433, 04 R94) -/

theorem State.netOut_waits {s : State} {ctx slot : Nat} (q : NetCmd)
    (h : (s.gal 1024).d < ((s.netCtx ctx).start slot).1) : s.netOut ctx slot q = s := if_pos h

section
variable {s s2 : State} {ctx slot v : Nat} {q : NetCmd} {sub : Bool}
  (hd : ((s.netCtx ctx).start slot).1 ≤ (s.gal 1024).d)
include hd

theorem State.netOut_done (hr : s.hubRead 1 (s.netSid ctx) q.localAddr q.len = (s2, .ok (v, [], sub))) :
    s.netOut ctx slot q = slotDone (substituted s2 ctx sub) ctx slot := by
  rw [State.netOut, if_neg (Nat.not_lt.mpr hd), hr]
  rfl

theorem State.netOut_poisoned {r : Nat × Nat} {l : List (Nat × Nat)}
    (hr : s.hubRead 1 (s.netSid ctx) q.localAddr q.len = (s2, .ok (v, r :: l, sub))) :
    s.netOut ctx slot q = slotFails (substituted s2 ctx sub) ctx slot 4 := by
  rw [State.netOut, if_neg (Nat.not_lt.mpr hd), hr, ← State.netFail_eq _ _ _ (by decide)]
  rfl

end

/-- Bits that have arrived are appended, where galley 1024 has room, and the slot is done with the last of them. -/
theorem State.netIn_pieces {s s2 : State} {ctx slot n : Nat} {q : NetCmd} {reply : List Byte}
    {l : List (Nat × Nat × Bool)} (hn : n = min (q.len - (s.netCtx ctx).moved.get 0 slot) (8 * reply.length))
    (hp : s.hubPieces 1 (s.netSid ctx) .write (q.localAddr + (s.netCtx ctx).moved.get 0 slot) n = (s2, .ok l)) :
    s.netIn ctx slot q reply =
      (let ps := overlay l 0 [(0, n, leNat reply % 2 ^ n, false)]
       if !s2.galRoom 1024 (piecesCut ps).length then s2.hubWait 1024 (.net ctx slot) (piecesCut ps).length
       else if q.len ≤ (s.netCtx ctx).moved.get 0 slot + n then
         slotDone (s2.appendAll 1024 0 7 (s.netSid ctx) ps) ctx slot
       else (s2.appendAll 1024 0 7 (s.netSid ctx) ps).modNet ctx (fun x =>
         { x with moved := x.moved.put slot ((s.netCtx ctx).moved.get 0 slot + n) })) := by
  subst hn
  simp only [State.netIn, hp]
  rfl

/-! ## Completions (04 R92, 25 R433) -/

theorem State.modGal_netBase (s : State) (g : Nat) (f : Galley → Galley) :
    (s.modGal g f).hub.netBase = s.hub.netBase := by
  unfold State.modGal
  split <;> rfl

theorem State.release_netBase (s : State) (g : Nat) : (s.release g).hub.netBase = s.hub.netBase := by
  by_cases hopen : (s.gal g).p < (s.gal g).a
  · by_cases hlast : (s.gal g).a % 4096 = 0 <;> simp only [State.release, hopen, hlast, if_true, if_false] <;>
      exact State.modGal_netBase _ _ _
  · simp only [State.release, hopen, if_false]

theorem State.releasePkg_netBase (s : State) (g : Nat) : (s.releasePkg g).hub.netBase = s.hub.netBase := by
  have hmirrors (l : List Nat) (t : State) : (l.foldl (fun t d => t.mirrorUpdate d g) t).hub = t.hub := by
    induction l generalizing t with
    | nil => rfl
    | cons d l ih => exact ih _
  rw [State.releasePkg, hmirrors, State.release_netBase]

theorem netComplete_advances {s : State} {ctx : Nat} (hv : NetContext s ctx)
    (hdone : (s.netCtx ctx).tl ∈ (s.netCtx ctx).done) :
    exec (.netComplete ctx) s = .next ((setMem (s.releasePkg 1024) ((s.releasePkg 1024).mem.writeBytes
      (s.hub.netBase * 4096 + 64 * ctx + 32) 8 (((s.netCtx ctx).tl + 1) % 2 ^ 64))).modNet ctx (fun y =>
        { y with tl := ((s.netCtx ctx).tl + 1) % 2 ^ 64, done := y.done.filter (fun k => k != (s.netCtx ctx).tl),
                 stamp := some { gal := 1024, pos := ((s.releasePkg 1024).gal 1024).p } })) := by
  show execNetComplete ctx s = _
  simp only [execNetComplete, State.netValid_iff.mpr hv, List.contains_iff_mem.mpr hdone, Bool.not_true, Bool.or_self,
    Bool.false_eq_true, if_false, State.netPa, State.releasePkg_netBase]
  rfl

theorem netComplete_open {s : State} {ctx : Nat} (hopen : (s.netCtx ctx).tl ∉ (s.netCtx ctx).done) :
    exec (.netComplete ctx) s = .next s := by
  show execNetComplete ctx s = _
  simp [execNetComplete, hopen]

end Sys2Proof.Machine

namespace Sys2Proof.Proofs
open Sys2Proof.Machine Sys2Proof.Claims

theorem networkCommands : Claims.NetworkCommands := by
  intro s ctx slot status reply x sid
  refine ⟨fun s1 v sub hv hr => netDoorbell_reads hv hr, fun hv => netContextRestart_restarts hv, ?_,
    fun tail a t => NetCtx.start_of_posted, ?_, fun hv hdone => netComplete_advances hv hdone,
    fun _ hopen => netComplete_open hopen⟩
  · intro s1 q hp out in_
    have hout (i : Instr) (op : Nat) (hlt : op < 6)
        (hi : exec i s = .next (s.netRun ctx slot op status (fun s q => s.netOut ctx slot q))) (hop : q.op = op) :
        out i := by
      intro hlen
      subst hop
      rw [hi]
      refine ⟨fun hd h0 => ?_, fun hd => ⟨fun s2 v sub hr h0 => ?_, fun s2 v r l sub hr h0 => ?_⟩, fun hst => ?_⟩
      · rw [h0, State.netRun_goes hp hlt hlen, State.netOut_waits q hd]
      · rw [h0, State.netRun_goes hp hlt hlen, State.netOut_done hd hr]
      · rw [h0, State.netRun_goes hp hlt hlen, State.netOut_poisoned hd hr]
      · rw [State.netRun_answered hp hlt hlen hst]
    have hin (i : Instr) (op : Nat) (go : State → NetCmd → State) (hlt : op < 6)
        (hi : exec i s = .next (s.netRun ctx slot op status go)) (hgo : go s1 q = s1.netIn ctx slot q reply)
        (hop : q.op = op) : in_ i := by
      intro hlen
      subst hop
      rw [hi]
      refine ⟨fun s2 l hpieces h0 => ?_, fun hst => ?_⟩
      · rw [h0, State.netRun_goes hp hlt hlen, hgo, State.netIn_pieces rfl hpieces]
        refine ⟨fun hfull => ?_, fun hroom => ⟨fun hlast => ?_, fun hmore => ?_⟩⟩
        · simp only [hfull, Bool.not_false, if_true]
        · simp only [hroom, Bool.not_true, Bool.false_eq_true, if_false, if_pos hlast]
        · simp only [hroom, Bool.not_true, Bool.false_eq_true, if_false, if_neg (Nat.not_le.mpr hmore)]
      · rw [State.netRun_answered hp hlt hlen hst]
    refine ⟨hout _ 0 (by decide) rfl, hout _ 4 (by decide) rfl, hout _ 5 (by decide) rfl,
      hin _ 1 (fun s q => s.netIn ctx slot q reply) (by decide) rfl rfl, fun hword =>
        ⟨hin _ 2 (fun s q => if reply.length = 8 then s.netIn ctx slot q reply else s) (by decide) rfl (if_pos hword),
          hin _ 3 (fun s q => if reply.length = 8 then s.netIn ctx slot q reply else s) (by decide) rfl (if_pos hword)⟩,
      fun h hlen => ?_, fun h i hi => ?_, netTimeout_late hp, netTimeout_early⟩
    · exact congrArg _ (h ▸ State.netRun_malformed hp (by omega) hlen status _)
    · simp only [List.mem_cons, List.not_mem_nil, or_false] at hi
      rcases hi with rfl | rfl | rfl | rfl | rfl | rfl <;> exact congrArg _ (State.netRun_unknown hp h _ _ _)
  · intro i hi hquiet
    have hclosed := State.netOpen_quiesced slot hquiet
    simp only [List.mem_cons, List.not_mem_nil, or_false] at hi
    rcases hi with rfl | rfl | rfl | rfl | rfl | rfl | rfl
    case inr.inr.inr.inr.inr.inr => exact netTimeout_closed hclosed
    all_goals exact congrArg _ (State.netRun_closed hclosed _ _ _)

end Sys2Proof.Proofs
end

section
/-!
PROOFS. Requests of peers and the storage port's reads, then O49.
-/
namespace Sys2Proof.Machine
open Sys2Proof.Claims

/-! ## Requests of peers (25 R433, 03 R74, 04 R94) -/

theorem peerRequest_quiesced {s : State} {ctx : Nat} (hq : s.netSid ctx ∈ s.hub.quiesced) (op addr len : Nat)
    (opnd swap : Word) (data : List Byte) : exec (.peerRequest ctx op addr len opnd swap data) s = .next s := by
  show execPeerRequest ctx op addr len opnd swap data s = _
  simp [execPeerRequest, hq]

/-- A request that reads the base image is issued once, at galley 1024's A. -/
theorem State.peerAsk_issues {s : State} {ctx : Nat} {q : PeerReq}
    (h : (s.netCtx ctx).peers.find? (fun p => p.1 == q) = none) (homes : List Nat) (go : State → State) :
    s.peerAsk ctx q homes go = s.modNet ctx (fun x => { x with peers := x.peers ++ [(q, (s.gal 1024).a, homes)] }) := by
  rw [State.peerAsk, h]

section
variable {s : State} {ctx a : Nat} {q r : PeerReq} {held : List Nat}
  (h : (s.netCtx ctx).peers.find? (fun p => p.1 == q) = some (r, a, held))
include h

theorem State.peerAsk_waits (hd : (s.gal 1024).d < a) (homes : List Nat) (go : State → State) :
    s.peerAsk ctx q homes go = s := by
  simp only [State.peerAsk, h, hd, if_true]

theorem State.peerAsk_goes (hd : a ≤ (s.gal 1024).d) (homes : List Nat) (go : State → State) :
    s.peerAsk ctx q homes go = (go s).modNet ctx (fun x => { x with peers := x.peers.filter (fun p => p.1 != q) }) := by
  simp only [State.peerAsk, h, Nat.not_lt.mpr hd, if_false]

end

theorem State.peerAtomic_poisoned {s : State} {pba w : Nat} (h : s.bitsBad pba w = true) (f : Nat → Nat) :
    s.peerAtomic pba w f = s := if_pos h

theorem State.peerAtomic_sound {s : State} {pba w : Nat} (h : s.bitsBad pba w = false) (f : Nat → Nat) :
    s.peerAtomic pba w f = setMem s (s.mem.writeBits pba w (f (s.mem.readBits pba w))) := by
  simp only [State.peerAtomic, h, Bool.false_eq_true, if_false]
  rfl

/-- The atomic of one word is one step at the word's home, and a package release. -/
theorem State.peerAtomics_one (s : State) (ctx : Nat) (q : PeerReq) (w pba : Nat) (f : Nat → Nat → Nat) :
    s.peerAtomics ctx q w [pba] f =
      s.peerAsk ctx q (s.home (pba / 8)).toList (fun s => (s.peerAtomic pba w (f 0)).releasePkg 1024) := by
  cases h : s.home (pba / 8) <;> simp [State.peerAtomics, h]

/-- Element 0 of a peer's data is the low 32 bits. -/
theorem add_first_element (old v : Nat) : (old + bits v (32 * 0 + 31) (32 * 0)) % 2 ^ 32 = (old + v) % 2 ^ 32 := by
  simp [bits]

/-- What a peer asks, as the context holds it. -/
def askOf (op addr len : Nat) (opnd swap : Word) (data : List Byte) : PeerReq :=
  { op := op, addr := addr, len := len, opnd := opnd.toNat, swap := swap.toNat, data := leNat data }

/-- The copy read of a peer's GET: what it answers leaves the device, and a substitution counts. -/
def State.getRead (s : State) (ctx sid addr len : Nat) : State :=
  match s.hubRead 1 sid addr len with
  | (s, .ok (_, _, sub)) => s.netSubst ctx sub
  | (s, .error _) => s

theorem State.getRead_ok {s s1 : State} {sid addr len v : Nat} {bad : List (Nat × Nat)} {sub : Bool}
    (h : s.hubRead 1 sid addr len = (s1, .ok (v, bad, sub))) (ctx : Nat) :
    s.getRead ctx sid addr len = substituted s1 ctx sub := by
  simp only [State.getRead, h]
  rfl

theorem State.getRead_error {s s1 : State} {sid addr len k : Nat} (h : s.hubRead 1 sid addr len = (s1, .error k))
    (ctx : Nat) : s.getRead ctx sid addr len = s1 := by
  simp only [State.getRead, h]

theorem State.peerWords_one {s s1 : State} {sid addr w pba : Nat} {x : Nat × Bool} {rest : List (Nat × Nat × Bool)}
    (hp : s.hubPieces 1 sid .atomic addr w = (s1, .ok ((pba, x) :: rest))) : s.peerWords sid addr w 1 = (s1, [pba]) := by
  simp only [State.peerWords, hp]

section
variable {s : State} {ctx : Nat} (hv : NetContext s ctx) (hq : s.netSid ctx ∉ s.hub.quiesced) (addr len : Nat)
  (opnd swap : Word) (data : List Byte)
include hv hq

/-- A request on a context whose space is not quiesced is carried out. -/
theorem peerRequest_runs (op : Nat) {t : State}
    (ht : execPeerRequest ctx op addr len opnd swap data s = .next (if !s.netValid ctx ||
      s.hub.quiesced.contains (s.netSid ctx) then s else t)) :
    exec (.peerRequest ctx op addr len opnd swap data) s = .next t := by
  refine ht.trans (congrArg _ (if_neg ?_))
  simp [State.netValid_iff.mpr hv, hq]

theorem peerRequest_put_stores {n : Nat} (hn : n = min len (8 * data.length)) {s1 : State}
    (h : s.hubStore 1 1024 (s.netSid ctx) addr n [(0, n, leNat data, false)] = some s1) :
    exec (.peerRequest ctx 0 addr len opnd swap data) s = .next (s1.releasePkg 1024) := by
  rw [peerRequest_runs hv hq addr len opnd swap data 0 rfl, if_pos rfl, ← hn, h]

theorem peerRequest_put_waits {n : Nat} (hn : n = min len (8 * data.length))
    (h : s.hubStore 1 1024 (s.netSid ctx) addr n [(0, n, leNat data, false)] = none) :
    exec (.peerRequest ctx 0 addr len opnd swap data) s =
      .next (s.hubStuck 1 (s.netSid ctx) addr n (.peer (s.netSid ctx) addr)) := by
  rw [peerRequest_runs hv hq addr len opnd swap data 0 rfl, if_pos rfl, ← hn, h]

theorem peerRequest_get : exec (.peerRequest ctx 1 addr len opnd swap data) s =
    .next (s.peerAsk ctx (askOf 1 addr len opnd swap data) [] (fun t => t.getRead ctx (s.netSid ctx) addr len)) :=
  peerRequest_runs hv hq addr len opnd swap data 1 rfl

/-- An atomic at an address that is no multiple of its width takes no effect. -/
theorem peerRequest_misaligned {op w : Nat} (hop : (op, w) ∈ [(2, 64), (3, 64), (4, 32), (5, 32)]) (h : addr % w ≠ 0) :
    exec (.peerRequest ctx op addr len opnd swap data) s = .next s := by
  simp only [List.mem_cons, Prod.mk.injEq, List.not_mem_nil, or_false] at hop
  rcases hop with ⟨rfl, rfl⟩ | ⟨rfl, rfl⟩ | ⟨rfl, rfl⟩ | ⟨rfl, rfl⟩ <;>
    exact (peerRequest_runs hv hq addr len opnd swap data _ rfl).trans (congrArg _ (if_pos h))

/-- What an atomic of one 64-bit word makes of the old word. -/
def wordAtomic (op : Nat) (opnd swap : Word) (old : Nat) : Nat :=
  if op = 2 then (old + opnd.toNat) % 2 ^ 64 else if old = opnd.toNat then swap.toNat else old

theorem peerRequest_word {s1 : State} {pba : Nat} {x : Nat × Bool} {rest : List (Nat × Nat × Bool)}
    (ha : addr % 64 = 0) (hp : s.hubPieces 1 (s.netSid ctx) .atomic addr 64 = (s1, .ok ((pba, x) :: rest))) {op : Nat}
    (hop : op = 2 ∨ op = 3) :
    exec (.peerRequest ctx op addr len opnd swap data) s = .next (s1.peerAtomics ctx (askOf op addr len opnd swap data)
      64 [pba] (fun _ => wordAtomic op opnd swap)) := by
  rcases hop with rfl | rfl
  all_goals
    refine (peerRequest_runs hv hq addr len opnd swap data _ rfl).trans (congrArg _ ((if_neg (not_not_intro ha)).trans ?_))
    rw [State.peerWords_one hp]
    rfl

/-- A sum of one 32-bit element. -/
theorem peerRequest_element {s1 : State} {pba : Nat} {x : Nat × Bool} {rest : List (Nat × Nat × Bool)}
    (ha : addr % 32 = 0) (hone : min (len / 32) (data.length / 4) = 1)
    (hp : s.hubPieces 1 (s.netSid ctx) .atomic addr 32 = (s1, .ok ((pba, x) :: rest))) :
    exec (.peerRequest ctx 4 addr len opnd swap data) s = .next (s1.peerAtomics ctx (askOf 4 addr len opnd swap data)
      32 [pba] (fun k old => (old + bits (leNat data) (32 * k + 31) (32 * k)) % 2 ^ 32)) := by
  refine (peerRequest_runs hv hq addr len opnd swap data _ rfl).trans (congrArg _ ((if_neg (not_not_intro ha)).trans ?_))
  rw [hone, State.peerWords_one hp]
  rfl

end

/-! ## The storage port (25 R435, 03 R46) -/

theorem storageReadComplete_quiesced {s : State} {dst : StorageDst} (h : dst.sid ∈ s.hub.quiesced) (qp : Nat)
    (data : List Byte) : exec (.storageReadComplete qp dst data) s = .next s := by
  show execStorageReadComplete qp dst data s = _
  simp [execStorageReadComplete, h]

theorem State.stoFill_room {s : State} {sid : Nat} {ps : List (Nat × Nat × Nat × Bool)}
    (h : s.galRoom 1025 (piecesCut ps).length = true) (qp : Nat) :
    s.stoFill qp sid ps = (s.appendAll 1025 0 7 sid ps).stoEnd qp sid 0 := if_pos h

theorem State.stoFill_full {s : State} {ps : List (Nat × Nat × Nat × Bool)}
    (h : s.galRoom 1025 (piecesCut ps).length = false) (qp sid : Nat) :
    s.stoFill qp sid ps = s.hubWait 1025 (.sto qp) (piecesCut ps).length := by
  simp only [State.stoFill, h, Bool.false_eq_true, if_false]

section
variable {s : State} {qp sid : Nat} {data : List Byte} (hdata : data ≠ []) (hqp : qp < 256) (hq : sid ∉ s.hub.quiesced)
include hdata hqp hq

theorem storageRead_frame {addr : Nat} (hfirst : (s.home addr).isSome)
    (hlast : (s.home (addr + data.length - 1)).isSome) :
    exec (.storageReadComplete qp ⟨sid, true, addr⟩ data) s =
      .next (s.stoFill qp sid [(8 * addr, 8 * data.length, leNat data, false)]) := by
  refine congrArg Host.Outcome.next ((if_neg ?_).trans ((if_pos rfl).trans (if_neg ?_)))
  · simp [hdata, Nat.not_le.mpr hqp, hq]
  · simp [Option.isSome_iff_ne_none.mp hfirst, Option.isSome_iff_ne_none.mp hlast]

/-- A read to an address of the queue pair's space: it is translated, and a fault ends it. -/
theorem storageRead_translates (addr : Nat) :
    exec (.storageReadComplete qp ⟨sid, false, addr⟩ data) s =
      .next (match s.hubPieces 2 sid .write addr (8 * data.length) with
        | (s, .error k) => if k = hubWaits then s else s.stoEnd qp sid Code.XLATE_FAULT
        | (s, .ok l) => s.stoFill qp sid (overlay l 0 [(0, 8 * data.length, leNat data, false)])) := by
  refine congrArg Host.Outcome.next ((if_neg ?_).trans (if_neg Bool.false_ne_true))
  simp [hdata, Nat.not_le.mpr hqp, hq]

end

end Sys2Proof.Machine

namespace Sys2Proof.Proofs
open Sys2Proof.Machine Sys2Proof.Claims

theorem peersAndStorage : Claims.PeersAndStorage := by
  intro s ctx qp sid addr len opnd swap data n space asks q held issued carried
  refine ⟨fun _ hq op => peerRequest_quiesced hq op addr len opnd swap data, fun hv hq => ?_,
    fun _ _ hq frame => storageReadComplete_quiesced hq qp data, fun hdata hqp hq => ?_⟩
  · have hget := peerRequest_get hv hq addr len opnd swap data
    have hmisaligned {op w : Nat} := @peerRequest_misaligned s ctx hv hq addr len opnd swap data op w
    refine ⟨fun s1 h => peerRequest_put_stores hv hq addr len opnd swap data rfl h,
      fun h => peerRequest_put_waits hv hq addr len opnd swap data rfl h,
      fun h => hget.trans (congrArg _ (State.peerAsk_issues h _ _)), fun r a homes h =>
        ⟨fun hd => hget.trans (congrArg _ (State.peerAsk_waits h hd _ _)), fun hd => ?_⟩, ?_, ?_,
      fun ha => ⟨hmisaligned (by decide) ha, hmisaligned (by decide) ha⟩,
      fun ha => ⟨hmisaligned (by decide) ha, hmisaligned (by decide) ha⟩⟩
    · have hgoes := hget.trans (congrArg _ (State.peerAsk_goes h hd _ _))
      exact ⟨fun s1 v bad sub hr => hgoes.trans (by rw [State.getRead_ok hr]),
        fun s1 k hr => hgoes.trans (by rw [State.getRead_error hr])⟩
    · intro s1 pba e l rest ha hp old op hop
      have hword := peerRequest_word hv hq addr len opnd swap data ha hp hop
      rw [State.peerAtomics_one] at hword
      refine ⟨fun h => hword.trans (congrArg _ (State.peerAsk_issues h _ _)), fun r a homes h =>
        ⟨fun hd => hword.trans (congrArg _ (State.peerAsk_waits h hd _ _)), fun hd => ?_⟩⟩
      have hgoes := hword.trans (congrArg _ (State.peerAsk_goes h hd _ _))
      refine ⟨fun hbad => hgoes.trans ?_, fun hsound => hgoes.trans ?_⟩
      · rw [State.peerAtomic_poisoned hbad]
      · rw [State.peerAtomic_sound hsound, wordAtomic]
    · intro s1 pba e l rest b0 b1 b2 b3 r a homes ha hlen hdata hp hsound h hd
      have helem := peerRequest_element hv hq addr len opnd swap data ha (by simp [hlen, hdata]) hp
      rw [State.peerAtomics_one] at helem
      refine (helem.trans (congrArg _ (State.peerAsk_goes h hd _ _))).trans ?_
      rw [State.peerAtomic_sound hsound, add_first_element]
  · refine ⟨fun hfirst hlast => ?_, fun s1 l hp => ?_, fun s1 k hp => ?_⟩
    · have hfill := storageRead_frame hdata hqp hq hfirst hlast
      exact ⟨fun hroom => hfill.trans (congrArg _ (State.stoFill_room hroom qp)),
        fun hfull => hfill.trans (congrArg _ (State.stoFill_full hfull qp sid))⟩
    · have hfill := storageRead_translates hdata hqp hq addr
      rw [hp] at hfill
      exact ⟨fun hroom => hfill.trans (congrArg _ (State.stoFill_room hroom qp)),
        fun hfull => hfill.trans (congrArg _ (State.stoFill_full hfull qp sid))⟩
    · have hfill := storageRead_translates hdata hqp hq addr
      rw [hp] at hfill
      exact hfill

/-- Settles O49: the commands of a context, then what peers and the storage port ask, each from its operation's cases. -/
theorem network : Obligations.Network := ⟨networkCommands, peersAndStorage⟩

end Sys2Proof.Proofs
end

section
/-!
PROOFS. Atomics: an access of process memory that goes on, the issue at the firing's A, the word's change at its home and
the old value's return, then O26.
-/
namespace Sys2Proof.Machine
open Sys2Proof.Claims

/-! ## Firings that act, and their pointers (02 R25, 03 R53, 13 R273) -/

theorem firing_of_acts {s : State} {f : Firing} (h : Acts s f) : s.firing = f := by
  simp [State.firing, h.1]

theorem ptrOperand_of_pointer {f : Firing} {p : Nat} (h : Pointer f p) : ptrOperand f.a = .ok p := by
  obtain ⟨t, hport, hdata, hcont, hsound, hlane⟩ := h
  simp [ptrOperand, hport, hdata, hcont, hsound, hlane]

theorem ptrTag_of_process {p : Nat} (h : p / 2 ^ 60 = 0) : ptrTag p = 0 := by
  rw [ptrTag, bits, h, Nat.zero_mod]

theorem State.ptrCause_process {p : Nat} (h : p / 2 ^ 60 = 0) {tags : List Nat} (ht : 0 ∈ tags) (s : State) (c : Nat) :
    s.ptrCause c tags p = none := by
  simp [State.ptrCause, ptrZero, ptrTag_of_process h, ht]

/-- An aligned access that the lease grants and the TLBs translate goes on with its pieces. -/
theorem State.access_reaches {s : State} {f : Firing} {kind : AccKind} {p w : Nat} {l : List (Nat × Nat × Bool)}
    (h : Reaches s f.cl kind p w l) {tags : List Nat} (ht : 0 ∈ tags) {misaligned : Bool} (hal : misaligned = false)
    (go : Nat → Nat → List (Nat × Nat × Bool) → State) :
    s.access f tags kind p w misaligned go = (go 0 (p % 2 ^ 60) l).tlbUse f.cl (p % 2 ^ 60) w := by
  obtain ⟨hspace, hlease, hpieces⟩ := h
  rw [← ptrOff_eq] at hlease hpieces ⊢
  have hcheck : s.check f.cl tags kind p w misaligned = .ok 0 (ptrOff p) := by
    simp [State.check, State.ptrCause_process hspace ht, ptrTag_of_process hspace, hal, hlease]
  simp [State.access, hcheck, hpieces]

/-! ## Atomics (04 R91, 13 R291) -/

/-- A firing that raised nothing sets no flag and traps nothing. -/
theorem State.raise_nothing (s : State) (f : Firing) : s.raise f 0 false = s := by
  simp [State.raise, State.setFlags]

/-- A sound lane that raised nothing leaves as it is. -/
theorem Lane.sent_sound (pe : PeReg) (v : Nat) : Lane.sent pe { code := v } = (v, false) := by simp [Lane.sent]

theorem State.waveIf_eq_waveOn (s : State) (f : Firing) (i : Instr) : s.waveIf f i = waveOn s f i := rfl

/-- An atomic whose operands fit is issued at the A of its firing. -/
theorem State.atomFire_issues {s : State} {f : Firing} {i : Instr} {d : Dests} {p w pba n : Nat} {e : Bool}
    {rest : List (Nat × Nat × Bool)} (hacts : Acts s f) (hshape : atomShape i = some (w, d))
    (hops : atomOperands i f w = none) (hp : Pointer f p) (hw : w ∣ 2 ^ 60) (hal : p % w = 0)
    (hr : Reaches s f.cl .atomic p w ((pba, n, e) :: rest)) :
    s.atomFire i = (s.pendAsk f i (.atomic (s.gal f.cl).a pba (s.cl f.cl).sid none) pba).tlbUse f.cl (p % 2 ^ 60) w := by
  have haligned : decide (ptrOff p % w ≠ 0) = false := by
    rw [ptrOff_eq, Nat.mod_mod_of_dvd p hw, hal]; rfl
  simp only [State.atomFire, firing_of_acts hacts, hshape, hacts.2, ptrOperand_of_pointer hp, hops,
    State.access_reaches hr List.mem_cons_self haligned, Bool.false_eq_true, if_false]

theorem atomOperands_atom {f : Firing} {w64 : Bool} {op : AtomOp} {wave : WaveLit} {d : Dests} {w : Nat}
    (hb : f.opB.poisoned 0 = false) (hw : w ≤ 2 ^ f.opB.cl2) : atomOperands (.atom w64 op wave d) f w = none := by
  simp [atomOperands, Token.cont, hb, hw]

theorem atomOperands_atomf {f : Firing} {w64 : Bool} {op : FAtomOp} {wave : WaveLit} {d : Dests} {w : Nat}
    (hb : f.opB.poisoned 0 = false) (hw : w = 2 ^ f.opB.cl2) : atomOperands (.atomf op w64 wave d) f w = none := by
  simp [atomOperands, Token.cont, hb, hw]

theorem atomOperands_acas {f : Firing} {w64 : Bool} {wave : WaveLit} {d : Dests} {w : Nat}
    (hb : f.opB.poisoned 0 = false) (hc : f.opC.poisoned 0 = false) (hwb : w ≤ 2 ^ f.opB.cl2)
    (hwc : w ≤ 2 ^ f.opC.cl2) : atomOperands (.acas w64 wave d) f w = none := by
  simp [atomOperands, Token.cont, hb, hc, hwb, hwc]

section
variable {s : State} {c k : Nat} {p : Pend} {a pba sid w : Nat} {d : Dests} (hp : s.pend c k = some p)
  (hshape : atomShape p.instr = some (w, d)) (hidle : s.exchange c 101 k = .idle)
include hp hshape hidle

/-- Once D has reached its issue, an atomic writes its new word at the home and keeps the old one. -/
theorem atomicHomeExec_writes (hwhy : p.why = .atomic a pba sid none) (hd : a ≤ (s.gal c).d)
    (hsound : s.bitsBad pba w = false) :
    exec (.atomicHomeExec c k) s = .next ((setMem s (s.mem.writeBits pba w
      (atomLane p.instr p.fir (s.mem.readBits pba w)).code)).pendSet c k (.atomic a pba sid (some
        (s.mem.readBits pba w, false, (atomLane p.instr p.fir (s.mem.readBits pba w)).flags,
          (atomLane p.instr p.fir (s.mem.readBits pba w)).force)))) := by
  show execAtomicHomeExec c k s = _
  simp only [execAtomicHomeExec, hp, hwhy, hshape, hidle, Nat.not_lt.mpr hd, hsound, Bool.false_eq_true, if_false]
  rfl

/-- A poisoned word is not written, and poison is what returns (03 R74). -/
theorem atomicHomeExec_poisoned (hwhy : p.why = .atomic a pba sid none) (hd : a ≤ (s.gal c).d)
    (hbad : s.bitsBad pba w = true) :
    exec (.atomicHomeExec c k) s = .next (s.pendSet c k (.atomic a pba sid (some (0, true, 0, false)))) := by
  show execAtomicHomeExec c k s = _
  simp only [execAtomicHomeExec, hp, hwhy, hshape, hidle, Nat.not_lt.mpr hd, hbad, if_true, if_false]

/-- The old value of an atomic that raised nothing leaves; the requester's line of the word is dropped. -/
theorem atomicReturn_returns {old : Nat} (hwhy : p.why = .atomic a pba sid (some (old, false, 0, false)))
    (hfree : s.waveFree p.fir p.instr = true) :
    exec (.atomicReturn c k) s = .next ((waveOn ((s.dropLine c (pba / 2048)).pendDel c k) p.fir p.instr).emitBoth p.fir d
      (p.fir.laneTok 0 (contOf w) [(old, false)])) := by
  show execAtomicReturn c k s = _
  simp only [execAtomicReturn, hp, hwhy, hshape, hidle, hfree, Bool.not_true, Bool.false_eq_true, if_false,
    State.raise_nothing, Lane.sent_sound, State.waveIf_eq_waveOn]

end

end Sys2Proof.Machine

namespace Sys2Proof.Proofs
open Sys2Proof.Machine Sys2Proof.Claims

/-- Settles O26: the issue, the two answers of the home and the return, each by its lemma. -/
theorem atomics : Obligations.Atomics := by
  intro w64 op fop wave d s f hacts w issued
  have hissued {i : Instr} (hi : exec i s = .next (s.atomFire i)) (hshape : atomShape i = some (w, d))
      (hops : atomOperands i f w = none) : issued i := by
    intro p pba n e rest hp hal hr
    have hw : w ∣ 2 ^ 60 := by cases w64 <;> decide
    rw [hi, State.atomFire_issues hacts hshape hops hp hw hal hr]
  refine ⟨fun hb => ⟨fun hw => ?_, fun hw => ?_, fun hc hwb hwc => ?_⟩, ?_, ?_, ?_, ?_⟩
  · exact hissued rfl rfl (atomOperands_atom hb hw)
  · exact hissued rfl rfl (atomOperands_atomf hb hw)
  · exact hissued rfl rfl (atomOperands_acas hb hc hwb hwc)
  · intro c id p a pba sid hp hwhy hi hd hidle hsound old v new
    have hshape : atomShape p.instr = some (w, d) := congrArg atomShape hi
    rw [atomicHomeExec_writes hp hshape hidle hwhy hd hsound, hi]
    cases op <;> rfl
  · intro c id p a pba sid hp hwhy hi hd hidle hsound old
    have hshape : atomShape p.instr = some (w, d) := congrArg atomShape hi
    rw [atomicHomeExec_writes hp hshape hidle hwhy hd hsound, hi]
    rfl
  · intro c id p a pba sid hp hwhy hd hi hidle hbad
    have hshape : atomShape p.instr = some (w, d) := congrArg atomShape hi
    exact atomicHomeExec_poisoned hp hshape hidle hwhy hd hbad
  · intro c id p a pba sid old hp hwhy hi hidle hfree
    have hshape : atomShape p.instr = some (w, d) := congrArg atomShape hi
    rw [atomicReturn_returns hp hshape hidle hwhy hfree]
    cases w64 <;> rfl

end Sys2Proof.Proofs
end

section
/-!
PROOFS. Publishing and acquiring: releases and the scopes they wait for, acquires galley by galley, positions and fences,
then O27.
-/
namespace Sys2Proof.Machine
open Sys2Proof.Claims

/-! ## Releases (04 R82, 13 R293) -/

/-- What each scope of a release guarantees. -/
theorem State.relHolds_iff {s : State} {c pos : Nat} {scope : RelScope} : s.relHolds c scope pos = true ↔
    (match scope with
      | .cluster => pos ≤ (s.gal c).p
      | .die => pos ≤ (s.mirror (dieOfAgent c) c).1
      | .package => ∀ m ∈ 4 :: s.liveDies, pos ≤ (s.mirror m c).1
      | .system => (∀ m ∈ 4 :: s.liveDies, pos ≤ (s.mirror m c).1) ∧ pos ≤ (s.gal c).d) := by
  cases scope <;> simp [State.relHolds]

section
variable {s : State} {f : Firing} (hacts : Acts s f)
include hacts

theorem rel_waits (scope : RelScope) (wave : WaveLit) (d : Dests) : exec (.rel scope wave d) s =
    .next ((s.release f.cl).pendNew f (.rel scope wave d) (.rel scope ((s.release f.cl).gal f.cl).p)) := by
  show execRel scope wave d s = _
  simp only [execRel, firing_of_acts hacts, hacts.2, Bool.false_eq_true, if_false]

theorem fence_waits (wave : WaveLit) (d : Dests) : exec (.fence wave d) s =
    .next (s.pendNew f (.fence wave d) (.fence (s.cl f.cl).issued)) := by
  show execFence wave d s = _
  simp only [execFence, firing_of_acts hacts, hacts.2, Bool.false_eq_true, if_false]

/-- An acquire whose operands fit waits for the galleys it names. -/
theorem acq_waits {wave : WaveLit} {d : Dests} (hcont : f.opB.cl2 = 6) (hgrant : f.opB.gl2 = f.opA.gl2)
    (hfour : f.opA.gl2 ≤ 2) (hsound : (f.opA.pmask ||| f.opB.pmask) % 2 ^ 2 ^ f.opA.gl2 = 0)
    (hnames : ∀ e ∈ s.acqNames f.cl f.opA f.opB, s.galOk e.1 = true) : exec (.acq wave d) s =
      .next (s.pendNew f (.acq wave d) (.acq (s.acqNames f.cl f.opA f.opB) [] false false)) := by
  have hfits : ¬ (f.opB.cl2 ≠ 6 ∨ f.opB.gl2 ≠ f.opA.gl2 ∨ 2 < f.opA.gl2) := by omega
  have hall : (s.acqNames f.cl f.opA f.opB).any (fun e => !s.galOk e.1) = false := by simpa using hnames
  show execAcq wave d s = _
  simp only [execAcq, firing_of_acts hacts, hacts.2, if_neg hfits, Token.g, hsound, hall, ne_eq, not_true_eq_false,
    Bool.false_eq_true, if_false]

end

section
variable {s : State} {c k : Nat} {p : Pend} {wave : WaveLit} {d : Dests} (hp : s.pend c k = some p)
include hp

/-- A release whose scope is reached leaves. -/
theorem relScopeReached_leaves {scope : RelScope} {pos : Nat} (hwhy : p.why = .rel scope pos)
    (hi : p.instr = .rel scope wave d) (hholds : s.relHolds c scope pos = true) (hfree : s.waveFree p.fir p.instr = true) :
    exec (.relScopeReached c k) s = .next (((s.pendDel c k).waveDone p.fir wave).sendA p.fir.atS0 d) := by
  show execRelScopeReached c k s = _
  rw [hi] at hfree
  simp only [execRelScopeReached, hp, hwhy, hi, hholds, hfree, Bool.and_self, if_true]

/-- A fence leaves once no access that it waits for is under way. -/
theorem fencePerformed_leaves {before : List Nat} (hwhy : p.why = .fence before) (hi : p.instr = .fence wave d)
    (hdone : ∀ n ∈ (s.cl c).issued, n ∉ before) (hfree : s.waveFree p.fir p.instr = true) :
    exec (.fencePerformed c k) s = .next (((s.pendDel c k).waveDone p.fir wave).sendA p.fir.atS0 d) := by
  have hnone : (s.cl c).issued.any (fun n => before.contains n) = false := by simpa using hdone
  show execFencePerformed c k s = _
  rw [hi] at hfree
  simp only [execFencePerformed, hp, hwhy, hi, hnone, hfree, Bool.not_true, Bool.or_self, Bool.false_eq_true, if_false]

end

/-! ## Acquires (04 R84, R85, 13 R294) -/

theorem State.acqSeen_one {s : State} {c a pos : Nat} : s.acqSeen c [(a, pos)] = true ↔
    (s.die (dieOf c)).mirrorBad = false ∧ pos ≤ (s.mirror (dieOf c) a).1 ∧ pos ≤ (s.mirror (dieOf c) a).2 := by
  simp [State.acqSeen]

/-- An acquire leaves: a goes to DA and b to DB. -/
def State.acqLeaves (s : State) (c k : Nat) (f : Firing) (wave : WaveLit) (d : Dests) : State :=
  ((s.pendDel c k).waveDone f wave).emit f.atS0 [(d.da, forwarded f f.opA f.tag), (d.db, forwarded f f.opB f.tag)]

section
variable {s t : State} {c k : Nat} {p : Pend} {wave : WaveLit} {d : Dests} {l left : List (Nat × Nat)}
  {pages : List Nat} {full adv : Bool} {r : State × List Nat × Bool × Bool} (hp : s.pend c k = some p)
  (hwhy : p.why = .acq l pages full adv) (hi : p.instr = .acq wave d)
  (hr : s.acquireAll c (l.filter (fun e => s.acqSeen c [e])) = r)
  (hleft : l.filter (fun e => !s.acqSeen c [e]) = left)
  (ht : r.1.pendSet c k (.acq left (pages ++ r.2.1) (full || r.2.2.1) (adv || r.2.2.2)) = t)
include hp hwhy hi hr hleft ht

/-- The galleys that are seen have been taken in t; what is left of the acquire, and whether one advanced, say what
follows. -/
theorem acqComplete_eq : exec (.acqComplete c k) s = .next (
    if !left.isEmpty || !t.waveFree p.fir p.instr then t
    else if (adv || r.2.2.2) && !t.mayAppend c 6 1 then t.waitApp c 6 true
    else (if adv || r.2.2.2 then (t.marker c (pages ++ r.2.1) (full || r.2.2.1)).waitApp c 6 false
      else t).acqLeaves c k p.fir wave d) := by
  subst hr hleft ht
  show execAcqComplete c k s = _
  simp only [execAcqComplete, hp, hwhy, hi]
  rfl

theorem acqComplete_waits (hsome : left ≠ []) : exec (.acqComplete c k) s = .next t := by
  simp [acqComplete_eq hp hwhy hi hr hleft ht, hsome]

variable (hall : left = []) (hfree : t.waveFree p.fir p.instr = true)
include hall hfree

/-- All galleys are taken and no entry advanced: no marker. -/
theorem acqComplete_still (hadv : (adv || r.2.2.2) = false) :
    exec (.acqComplete c k) s = .next (t.acqLeaves c k p.fir wave d) := by
  simp [acqComplete_eq hp hwhy hi hr hleft ht, hall, hfree, hadv]

/-- All galleys are taken and an entry advanced: the marker is appended first. -/
theorem acqComplete_marks (hadv : (adv || r.2.2.2) = true) (hroom : t.mayAppend c 6 1 = true) :
    exec (.acqComplete c k) s = .next (((t.marker c (pages ++ r.2.1) (full || r.2.2.1)).waitApp c 6 false).acqLeaves
      c k p.fir wave d) := by
  simp [acqComplete_eq hp hwhy hi hr hleft ht, hall, hfree, hadv, hroom]

/-- The marker finds no room, and the acquire waits as an appender (04 R96). -/
theorem acqComplete_noRoom (hadv : (adv || r.2.2.2) = true) (hroom : t.mayAppend c 6 1 = false) :
    exec (.acqComplete c k) s = .next (t.waitApp c 6 true) := by
  simp [acqComplete_eq hp hwhy hi hr hleft ht, hall, hfree, hadv, hroom]

end

/-! ## Positions (13 R295) -/

section
variable {s : State} {f : Firing} (hacts : Acts s f) (hsound : f.opA.poisoned 0 = false)
  (hgal : s.galOk (f.opA.lane 0) = true)
include hacts hsound hgal

/-- A, P and D of the own galley. -/
theorem gpos_own (hown : f.opA.lane 0 = f.cl) (sel : GposSel) (d : Dests) :
    Sends (.gpos sel d) s f d (newScalar f 6 (match sel with
      | .a => (s.gal f.cl).a
      | .p => (s.gal f.cl).p
      | .d => (s.gal f.cl).d)) := by
  show execGpos sel d s = _
  rw [hown] at hgal
  cases sel <;> simp only [execGpos, firing_of_acts hacts, hacts.2, hsound, hown, hgal, decide_true, Bool.not_true,
    Bool.false_eq_true, if_false, if_true] <;> rfl

/-- P and D of another galley come from the die's mirror, which holds no A. -/
theorem gpos_other (hother : f.opA.lane 0 ≠ f.cl) (sel : GposSel) (d : Dests) :
    exec (.gpos sel d) s = .next (match sel with
      | .a => s.fail f 0x100 2
      | .p => s.emitBoth f d (newScalar f 6 (s.mirror (dieOf f.cl) (f.opA.lane 0)).1)
      | .d => s.emitBoth f d (newScalar f 6 (s.mirror (dieOf f.cl) (f.opA.lane 0)).2)) := by
  show execGpos sel d s = _
  cases sel <;> simp only [execGpos, firing_of_acts hacts, hacts.2, hsound, hgal, hother, decide_false, Bool.not_true,
    Bool.false_eq_true, if_false] <;> rfl

end

end Sys2Proof.Machine

namespace Sys2Proof.Proofs
open Sys2Proof.Machine Sys2Proof.Claims

/-- Settles O27: releases, acquires, positions and fences, clause by clause from the lemmas of each. -/
theorem publishing : Obligations.Publishing := by
  intro scope sel wave d s f hacts r g
  refine ⟨rel_waits hacts scope wave d, ?_, acq_waits hacts, ?_, fun c a pos => State.acqSeen_one, ?_,
    fence_waits hacts wave d, ?_⟩
  · intro c id p pos hp hwhy hi hscope hfree
    exact relScopeReached_leaves hp hwhy hi (State.relHolds_iff.mpr hscope) hfree
  · intro c id p l pages full adv hp hwhy hi r left t
    refine ⟨fun hsome => acqComplete_waits hp hwhy hi rfl rfl rfl hsome, fun hall hfree => ?_⟩
    intro go _
    refine ⟨fun hadv => ?_, fun hadv hroom => ?_, fun hadv hroom => ?_⟩
    · exact acqComplete_still hp hwhy hi rfl rfl rfl hall hfree hadv
    · exact acqComplete_marks hp hwhy hi rfl rfl rfl hall hfree hadv hroom
    · exact acqComplete_noRoom hp hwhy hi rfl rfl rfl hall hfree hadv hroom
  · intro hsound hgal
    refine ⟨fun hown => ?_, fun hother hsel => ?_, fun hother =>
      gpos_other hacts hsound hgal hother .a d⟩
    · rw [hown]
      exact gpos_own hacts hsound hgal hown sel d
    · cases sel with
      | a => exact absurd rfl hsel
      | p => exact gpos_other hacts hsound hgal hother .p d
      | d => exact gpos_other hacts hsound hgal hother .d d
  · intro c id p before hp hwhy hi hdone hfree
    exact fencePerformed_leaves hp hwhy hi hdone hfree

end Sys2Proof.Proofs
end

section
/-!
PROOFS. What a firing's flags do: the unit's PE_FLAGS take them, the arithmetic trap adds its one record, then O13.
-/
namespace Sys2Proof.Machine

/-! ## Sticky flags (07 R160) -/

@[simp] theorem State.setFlags_peOf (s : State) (f : Firing) (flags : Nat) :
    (s.setFlags f flags).peOf f =
      { s.peOf f with flags := (s.peOf f).flags ||| flags, now := (s.peOf f).now ||| flags } := by
  unfold State.setFlags
  split
  case isTrue hzero => simp [hzero]
  case isFalse => exact State.modPe_pe s f.cl f.unit _

@[simp] theorem State.setFlags_hub (s : State) (f : Firing) (flags : Nat) : (s.setFlags f flags).hub = s.hub := by
  unfold State.setFlags
  split <;> rfl

/-! ## The arithmetic trap (22 R396, R397) -/

/-- Stopping the launch touches its slot only: every cluster and every fault record stay. -/
theorem State.noteTrap_cases (s : State) (c : Nat) :
    s.noteTrap c = s ∨ ∃ k, s.noteTrap c = s.modSlot k (fun x => { x with trapStop := true }) := by
  unfold State.noteTrap
  split
  · split
    · exact .inr ⟨_, rfl⟩
    · exact .inl rfl
  · exact .inl rfl

@[simp] theorem State.noteTrap_peOf (s : State) (c : Nat) (f : Firing) : (s.noteTrap c).peOf f = s.peOf f := by
  obtain h | ⟨k, h⟩ := s.noteTrap_cases c <;> rw [h]
  rfl

@[simp] theorem State.noteTrap_faults (s : State) (c : Nat) : (s.noteTrap c).hub.faults = s.hub.faults := by
  obtain h | ⟨k, h⟩ := s.noteTrap_cases c <;> rw [h]
  rfl

@[simp] theorem State.jobRecord_peOf (s : State) (code c u n o : Nat) (t : Tag) (k : Nat) (f : Firing) :
    (s.jobRecord code c u n o t k).peOf f = s.peOf f := rfl

/-- A record to the job's queue is the last of those that set out, with the fields it was given. -/
theorem State.jobRecord_faults (s : State) (code c u n o : Nat) (t : Tag) (k : Nat) :
    ∃ r, (s.jobRecord code c u n o t k).hub.faults = s.hub.faults ++ [r] ∧ r.code = code ∧ r.cl = c ∧ r.unit = u ∧
      r.node = n ∧ r.tag = t ∧ r.cause = k := ⟨_, rfl, rfl, rfl, rfl, rfl, rfl, rfl⟩

/-- A firing traps: ForceTrap was called, or a flag that PE_XEN enables was raised. -/
def State.Traps (s : State) (f : Firing) (flags : Nat) (force : Bool) : Prop :=
  force = true ∨ flags &&& (s.peOf f).xen ≠ 0

section
variable {s : State} {f : Firing} {flags : Nat} {force : Bool}

theorem State.raise_of_traps (h : s.Traps f flags force) : s.raise f flags force =
    ((s.setFlags f flags).jobRecord Code.ARITH_TRAP f.cl f.unit f.node 0 f.tag
      (trapCause flags (s.peOf f).xen force)).noteTrap f.cl := by
  have hcond : (force || (flags &&& (s.peOf f).xen) ≠ 0) = true := by simpa [State.Traps] using h
  exact if_pos hcond

theorem State.raise_of_not_traps (h : ¬ s.Traps f flags force) : s.raise f flags force = s.setFlags f flags := by
  have hcond : ¬ (force || (flags &&& (s.peOf f).xen) ≠ 0) = true := by simpa [State.Traps] using h
  exact if_neg hcond

end

/-- Trap or not, the unit's registers are those of the sticky flags alone. -/
theorem State.raise_peOf (s : State) (f : Firing) (flags : Nat) (force : Bool) :
    (s.raise f flags force).peOf f = (s.setFlags f flags).peOf f := by
  by_cases h : s.Traps f flags force
  · rw [State.raise_of_traps h, State.noteTrap_peOf, State.jobRecord_peOf]
  · rw [State.raise_of_not_traps h]

end Sys2Proof.Machine

namespace Sys2Proof.Proofs
open Sys2Proof.Machine

/-- Settles O13: the registers by `State.raise_peOf`, the records by whether the firing traps. -/
theorem flagsAndTraps : Obligations.FlagsAndTraps := by
  intro s f flags force _ p t
  refine ⟨?_, fun hforce hxen => ?_, fun htraps => ?_⟩
  · exact (s.raise_peOf f flags force).trans (s.setFlags_peOf f flags)
  · have hquiet : ¬ s.Traps f flags force := fun htraps => htraps.elim (by simp [hforce]) (· hxen)
    rw [show t = _ from State.raise_of_not_traps hquiet, State.setFlags_hub]
  · rw [show t = _ from State.raise_of_traps htraps, State.noteTrap_faults, ← State.setFlags_hub s f flags]
    exact State.jobRecord_faults _ _ _ _ _ _ _ _

end Sys2Proof.Proofs
end

section
/-!
PROOFS. The frame of the computing nodes: a firing's flags, its results and its fault each leave only by the ways that
`OnlySends` names, and these frames compose; then O10.
-/
namespace Sys2Proof.Claims
open Sys2Proof.Machine

/-! ## The frame composes (10 R206) -/

theorem OnlySends.refl (s : State) (f : Firing) : OnlySends s s f where
  rest := ⟨s.cls, s.netMsgs, s.serial, s.hub, rfl⟩
  bytes _ := rfl
  sent := ⟨[], (List.append_nil _).symm⟩
  others _ _ := rfl
  own := ⟨(s.cl f.cl).ctx.pe, (s.cl f.cl).stat, rfl⟩
  flags := ⟨(s.peOf f).flags, (s.peOf f).now, rfl, Nat.and_self _⟩
  units _ _ := rfl
  hub := ⟨[], s.hub.slots, by rw [List.append_nil]⟩

theorem OnlySends.trans {s t u : State} {f : Firing} (hst : OnlySends s t f) (htu : OnlySends t u f) :
    OnlySends s u f where
  rest := by
    obtain ⟨_, _, _, _, ht⟩ := hst.rest
    obtain ⟨_, _, _, _, hu⟩ := htu.rest
    exact ⟨_, _, _, _, by rw [hu, ht]⟩
  bytes a := (htu.bytes a).trans (hst.bytes a)
  sent := by
    obtain ⟨l, ht⟩ := hst.sent
    obtain ⟨m, hu⟩ := htu.sent
    exact ⟨l ++ m, by rw [hu, ht, List.append_assoc]⟩
  others c hc := (htu.others c hc).trans (hst.others c hc)
  own := by
    obtain ⟨_, _, ht⟩ := hst.own
    obtain ⟨_, _, hu⟩ := htu.own
    exact ⟨_, _, by rw [hu, ht]⟩
  flags := by
    obtain ⟨fl, now, ht, hs⟩ := hst.flags
    obtain ⟨fl', now', hu, hs'⟩ := htu.flags
    rw [ht] at hu hs'
    refine ⟨fl', now', hu, ?_⟩
    calc (s.peOf f).flags &&& fl' = (s.peOf f).flags &&& fl &&& fl' := by rw [hs]
      _ = (s.peOf f).flags := by rw [Nat.and_assoc, hs', hs]
  units v hv := (htu.units v hv).trans (hst.units v hv)
  hub := by
    obtain ⟨fs, _, ht⟩ := hst.hub
    obtain ⟨fs', slots, hu⟩ := htu.hub
    exact ⟨fs ++ fs', slots, by rw [hu, ht, List.append_assoc]⟩

/-! ## What a computing firing does keeps within it -/

/-- Messages and fault records are added, and the launch's slot may note its stop. -/
theorem OnlySends.added (s : State) (f : Firing) (l : List Msg) (n : Nat) (fs : List FaultRec) (slots : Tbl Slot) :
    OnlySends s { s with
      netMsgs := s.netMsgs ++ l, serial := n
      hub := { s.hub with faults := s.hub.faults ++ fs, slots := slots } } f where
  rest := ⟨s.cls, _, n, _, rfl⟩
  bytes _ := rfl
  sent := ⟨l, rfl⟩
  others _ _ := rfl
  own := ⟨(s.cl f.cl).ctx.pe, (s.cl f.cl).stat, rfl⟩
  flags := ⟨(s.peOf f).flags, (s.peOf f).now, rfl, Nat.and_self _⟩
  units _ _ := rfl
  hub := ⟨fs, slots, rfl⟩

/-- The status of the firing's cluster changes. -/
theorem OnlySends.stat (s : State) (f : Firing) (st : UnitStat) :
    OnlySends s (s.modCl f.cl (fun x => { x with stat := st })) f := by
  have hcl : (s.modCl f.cl (fun x => { x with stat := st })).cl f.cl = { s.cl f.cl with stat := st } := s.modCl_cl f.cl _
  exact {
    rest := ⟨_, s.netMsgs, s.serial, s.hub, rfl⟩
    bytes _ := rfl
    sent := ⟨[], (List.append_nil _).symm⟩
    others _ hc := s.modCl_cl_other _ hc
    own := ⟨(s.cl f.cl).ctx.pe, st, hcl⟩
    flags := ⟨(s.peOf f).flags, (s.peOf f).now, by rw [State.peOf, State.ctx, hcl]; rfl, Nat.and_self _⟩
    units v _ := by rw [State.ctx, hcl]; rfl
    hub := ⟨[], s.hub.slots, by rw [List.append_nil]; rfl⟩ }

/-- Bits that are set stay set when more are set. -/
theorem land_lor_self (a b : Nat) : a &&& (a ||| b) = a :=
  Nat.eq_of_testBit_eq fun i => by simpa using Or.inl

/-- The sticky flags of the firing's unit grow (07 R160). -/
theorem OnlySends.setFlags (s : State) (f : Firing) (flags : Nat) : OnlySends s (s.setFlags f flags) f := by
  by_cases hzero : flags = 0
  · rw [State.setFlags, if_pos hzero]
    exact OnlySends.refl s f
  have hset : s.setFlags f flags =
      s.modPe f.cl f.unit (fun p => { p with flags := p.flags ||| flags, now := p.now ||| flags }) := if_neg hzero
  have hpe := s.setFlags_peOf f flags
  rw [hset] at hpe ⊢
  exact {
    rest := ⟨_, s.netMsgs, s.serial, s.hub, rfl⟩
    bytes _ := rfl
    sent := ⟨[], (List.append_nil _).symm⟩
    others _ hc := s.modCtx_cl_other _ hc
    own := ⟨_, (s.cl f.cl).stat, s.modCl_cl f.cl _⟩
    flags := ⟨_, _, hpe, land_lor_self _ _⟩
    units v hv := by rw [State.modPe, State.modCtx_ctx]; exact Tbl.get_put_other _ _ _ hv
    hub := ⟨[], s.hub.slots, by rw [List.append_nil]; rfl⟩ }

/-- A fault of the firing: one record and the unit's status, or nothing where the unit is ending (20 R367). -/
theorem OnlySends.fail (s : State) (f : Firing) (code cause : Nat) : OnlySends s (s.fail f code cause) f := by
  rcases s.endUnit_cases code f.cl f.unit f.node 0 f.tag cause with h | ⟨r, h⟩ <;> rw [State.fail, h]
  · exact OnlySends.refl s f
  · have hrecord := OnlySends.added s f [] s.serial [r] s.hub.slots
    rw [List.append_nil] at hrecord
    exact hrecord.trans (OnlySends.stat _ f .faulting)

theorem OnlySends.emit (s : State) (f : Firing) (outs : List (Dest × Token)) : OnlySends s (s.emit f outs) f := by
  rcases s.emit_cases f outs with ⟨l, n, fs, h⟩ | ⟨code, h⟩ <;> rw [h]
  · exact OnlySends.added s f l n fs s.hub.slots
  · exact OnlySends.fail s f code 0

theorem OnlySends.raise (s : State) (f : Firing) (flags : Nat) (force : Bool) :
    OnlySends s (s.raise f flags force) f := by
  obtain ⟨fs, slots, h⟩ := s.raise_cases f flags force
  have hrecord := OnlySends.added (s.setFlags f flags) f [] (s.setFlags f flags).serial fs slots
  rw [List.append_nil, State.setFlags_hub] at hrecord
  rw [h]
  exact (OnlySends.setFlags s f flags).trans hrecord

/-- A bubble, a fault, or flags and then results. -/
theorem OnlySends.compute {s : State} {f : Firing} (hs : s.cur = some f) (d : Dests) (g : Computes) :
    OnlySends s (s.compute d g) f := by
  have hf : s.firing = f := by rw [State.firing, hs]; rfl
  unfold State.compute
  dsimp only
  rw [hf]
  split
  · exact OnlySends.emit s f _
  · cases g (s.peOf f) f with
    | ends code cause => exact OnlySends.fail s f code cause
    | made m => exact (OnlySends.raise s f m.flags m.force).trans (OnlySends.emit _ f _)

end Sys2Proof.Claims

namespace Sys2Proof.Proofs
open Sys2Proof.Machine Sys2Proof.Claims

/-- Settles O10: every computing node is `State.compute`, whose parts each keep the frame. -/
theorem computingNodesOnlySend : Obligations.ComputingNodesOnlySend := by
  intro i d s t f hd hs ht
  obtain ⟨g, hg⟩ := exec_compute hd s
  rw [hg] at ht
  cases ht
  exact OnlySends.compute hs d g

end Sys2Proof.Proofs
end

section
/-!
PROOFS. Steering: what each node of 10 R209 sends when no operand is a bubble, then O14.
-/
namespace Sys2Proof

/-! ## Literals as two's complement (00 R7, 10 R210) -/

theorem sext_toNat {w : Nat} (hw : w ≠ 0) (k : BitVec w) : sext k.toNat w = k.toInt := by
  have hhalf := Nat.two_pow_pred_mul_two (Nat.pos_of_ne_zero hw)
  have hcond : k.toNat < 2 ^ (w - 1) ↔ 2 * k.toNat < 2 ^ w := by omega
  simp only [sext, Nat.mod_eq_of_lt k.isLt, if_neg hw, hcond, BitVec.toInt_eq_toNat_cond]

theorem zextInt_eq_toNat (v : Int) (w : Nat) : zextInt v w = (BitVec.ofInt w v).toNat :=
  (BitVec.toNat_ofInt v).symm

end Sys2Proof

namespace Sys2Proof.Machine
open Sys2Proof.Claims

/-- With no bubble among its operands a node sends the token itself. -/
theorem Firing.out_of_data {f : Firing} (h : f.hasBubble = false) (t : Token) : f.out t = t := by
  simp [Firing.out, h]

theorem firing_of_latched {s : State} {f : Firing} (h : Latched s f) : s.firing = f := by
  simp [State.firing, h.1]

/-! ## A control operand (10 R207) -/

theorem control_poisoned {t : Token} (h : t.poisoned 0 = true) : control t = none := if_pos h

theorem control_nonzero {t : Token} (h : t.poisoned 0 = false) (hl : t.lane 0 ≠ 0) : control t = some true := by
  simp [control, h, hl]

theorem control_zero {t : Token} (h : t.poisoned 0 = false) (hl : t.lane 0 = 0) : control t = some false := by
  simp [control, h, hl]

theorem Token.same_of_shape {t u : Token} (hg : t.gl2 = u.gl2) (hc : t.cl2 = u.cl2) : t.same u = true := by
  simp [Token.same, hg, hc]

/-! ## The steering nodes (10 R209, R210) -/

/-- A literal's scalar holds it extended by its sign or by zeros, with no outer index (03 R64). -/
theorem scalar64_literal (sg : Bool) (k : BitVec 32) (tag : Tag) :
    scalar64 (if sg then zextInt (sext k.toNat 32) 64 else k.toNat) tag =
      { tag := tag, cl2 := 6, pay := if sg then (BitVec.signExtend 64 k).toNat else k.toNat } := by
  have hpay : (if sg then zextInt (sext k.toNat 32) 64 else k.toNat) =
      if sg then (BitVec.signExtend 64 k).toNat else k.toNat := by
    rw [sext_toNat (by decide), zextInt_eq_toNat]; rfl
  have hlt : (if sg then (BitVec.signExtend 64 k).toNat else k.toNat) < 2 ^ 2 ^ 6 := by
    cases sg
    · exact Nat.lt_trans k.isLt (by decide)
    · exact (BitVec.signExtend 64 k).isLt
  rw [hpay, scalar64, scalarTok, Nat.mod_eq_of_lt hlt]

section
variable {s : State} {f : Firing} (h : Latched s f) (d : Dests)
include h

theorem const_sends (sg : Bool) (k : BitVec 32) : Sends (.const_ sg k d) s f d
    { tag := f.tag, cl2 := 6, pay := if sg then (BitVec.signExtend 64 k).toNat else k.toNat } := by
  rw [← scalar64_literal]
  show execConst sg k d s = _
  simp only [execConst, firing_of_latched h, h.2, Bool.false_eq_true, if_false]

theorem mov_sends : Sends (.mov d) s f d (forwarded f f.opA f.tag) := by
  show execMov d s = _
  simp only [execMov, firing_of_latched h, Firing.out_of_data h.2]
  rfl

theorem gate_sends : Sends (.gate d) s f d (forwarded f f.opA f.tag) := by
  show execGate d s = _
  simp only [execGate, firing_of_latched h, Firing.out_of_data h.2]
  rfl

/-- STEER's control picks DA or DB; a poisoned one sends poison to both. -/
theorem steer_chooses : exec (.steer d) s = .next (match control f.opB with
    | none => s.emitBoth f d (allPoisoned (forwarded f f.opA f.tag))
    | some true => s.emit f [(d.da, forwarded f f.opA f.tag)]
    | some false => s.emit f [(d.db, forwarded f f.opA f.tag)]) := by
  show execSteer d s = _
  simp only [execSteer, firing_of_latched h, h.2, Bool.false_eq_true, if_false]
  rfl

/-- SELECT's control picks b or c; a poisoned one sends b's shape, all lanes poisoned. -/
theorem select_chooses (hg : f.opB.gl2 = f.opC.gl2) (hc : f.opB.cl2 = f.opC.cl2) :
    exec (.select d) s = .next (s.emitBoth f d (match control f.opA with
      | none => { allPoisoned (forwarded f f.opB f.tag) with pay := 0 }
      | some true => forwarded f f.opB f.tag
      | some false => forwarded f f.opC f.tag)) := by
  show execSelect d s = _
  simp only [execSelect, firing_of_latched h, h.2, Token.same_of_shape hg hc, Bool.not_true, Bool.false_eq_true, if_false]
  rcases control f.opA with _ | _ | _ <;> rfl

/-- MERGE forwards the operand that fired it. -/
theorem merge_sends : Sends (.merge d) s f d (forwarded f (if f.a.isSome then f.opA else f.opB) f.tag) := by
  show execMerge d s = _
  simp only [execMerge, firing_of_latched h, Firing.out_of_data h.2, Firing.opA]
  cases f.a <;> rfl

theorem sync2_sends : exec (.sync2 d) s =
    .next (s.emit f [(d.da, forwarded f f.opA f.tag), (d.db, forwarded f f.opB f.tag)]) := by
  show execSync2 d s = _
  simp only [execSync2, firing_of_latched h, Firing.out_of_data h.2]
  rfl

theorem sync3_sends : exec (.sync3 d) s =
    .next (s.emit f [(d.da, forwarded f f.opA f.tag), (d.db, forwarded f f.opB f.tag)]) := by
  show execSync3 d s = _
  simp only [execSync3, firing_of_latched h, Firing.out_of_data h.2]
  rfl

end

end Sys2Proof.Machine

namespace Sys2Proof.Proofs
open Sys2Proof.Machine Sys2Proof.Claims

/-- Settles O14, node by node; STEER and SELECT by what their control says. -/
theorem steering : Obligations.Steering := by
  intro sg k d s f h a b
  have hsteer := steer_chooses h d
  have hmerge := merge_sends h d
  refine ⟨mov_sends h d, const_sends h d sg k, gate_sends h d, fun hp hl => ?_, fun hp hl => ?_, fun hp => ?_,
    fun hg hc => ?_, fun ha => ?_, fun ha => ?_, sync2_sends h d, sync3_sends h d⟩
  · rw [hsteer, control_nonzero hp hl]
  · rw [hsteer, control_zero hp hl]
  · rw [Sends, hsteer, control_poisoned hp]
  · have hselect := select_chooses h d hg hc
    refine ⟨fun hp hl => ?_, fun hp hl => ?_, fun hp => ?_⟩
    · rw [Sends, hselect, control_nonzero hp hl]
    · rw [Sends, hselect, control_zero hp hl]
    · rw [Sends, hselect, control_poisoned hp]
  · rwa [if_pos ha] at hmerge
  · rwa [ha] at hmerge

end Sys2Proof.Proofs
end

section
/-!
PROOFS. The launch-level points: barriers, the trigger, the exit value and checkpoints (10 R217 to R220), then O17.
-/
namespace Sys2Proof.Machine
open Sys2Proof.Claims

/-! ## Barriers (10 R217) -/

/-- An object when one more arrival has been counted under a key. -/
def Barrier.arrive (b : Barrier) (key : Nat) : Barrier := { b with counts := b.counts.put key (b.counts.get 0 key + 1) }

/-- An arrival at a cluster's own object (SCOPE 00) is counted there. -/
theorem State.barrCount_own {s : State} {c : Nat} {l : BarrLit} {b : Barrier} (hpart : l.part = false)
    (hb : (s.ctx c).barriers.get {} l.id.toNat = b) : s.barrCount c l =
      (b.counts.get 0 0 / (l.arrm1.toNat + 1),
        s.modCtx c (fun x => { x with barriers := x.barriers.put l.id.toNat (b.arrive 0) })) := by
  simp only [State.barrCount, State.barrier, State.setBarrier, State.barrKey, hpart, hb, Bool.false_eq_true, if_false]
  rfl

/-- An arrival at the launch's object (SCOPE 01) is counted under the cluster's place in the partition. -/
theorem State.barrCount_launch {s : State} {c slot at_ : Nat} {sl : Slot} {l : BarrLit} {b : Barrier}
    (hpart : l.part = true) (hslot : s.slotOf c = some (slot, sl)) (hat : (s.launch c).idxOf c = at_)
    (hb : sl.barrs.get {} l.id.toNat = b) : s.barrCount c l =
      (b.counts.get 0 at_ / (l.arrm1.toNat + 1),
        s.modSlot slot (fun x => { x with barrs := x.barrs.put l.id.toNat (b.arrive at_) })) := by
  simp only [State.barrCount, State.barrier, State.setBarrier, State.barrKey, hpart, hslot, hat, hb, if_true]
  rfl

/-- An arrived BARR's request is counted, and its firing waits for its generation. -/
theorem State.serveReq_barr {s : State} {k c j : Nat} {m : Msg} {q : Pend} {l : BarrLit} {d : Dests}
    (hm : s.msg k = some m) (hpay : m.pay = .request c j) (harr : s.arrived m = true) (hq : s.pend c j = some q)
    (hi : q.instr = .barr l d) : s.serveReq k =
      ((s.dropMsg k).barrCount c l).2.pendSet c j (.barr l.id.toNat ((s.dropMsg k).barrCount c l).1) := by
  have hpend : (s.dropMsg k).pend c j = some q := hq
  simp only [State.serveReq, hm, hpay, harr, hpend, hi, Bool.not_true, Bool.false_eq_true, if_false]

/-- A generation of a cluster's own object that has all its arrivals completes, and its tokens leave. -/
theorem barrGenerationComplete_own {s : State} {c id : Nat} {l : BarrLit} {b : Barrier} (hpart : l.part = false)
    (hlit : (s.ctx c).barrLit id = some l) (hb : (s.ctx c).barriers.get {} id = b)
    (hall : (b.gen + 1) * (l.arrm1.toNat + 1) ≤ b.counts.get 0 0) :
    exec (.barrGenerationComplete c id) s = .next ((s.modCtx c (fun x => { x with
      barriers := x.barriers.put id { b with gen := b.gen + 1 } })).barrRelease c id b.gen) := by
  show execBarrGenerationComplete c id s = _
  simp only [execBarrGenerationComplete, hlit, State.barrier, State.setBarrier, State.barrKey, hpart, hb, List.all_cons,
    List.all_nil, hall, List.foldl_cons, List.foldl_nil, decide_true, Bool.and_self, Bool.false_eq_true, if_false,
    if_true]

section
variable {s : State} {f : Firing} (h : Latched s f) (d : Dests)
include h

theorem barr_counts {l : BarrLit} (hpart : l.part = false) :
    exec (.barr l d) s =
      .next ((s.barrCount f.cl l).2.pendNew f (.barr l d) (.barr l.id.toNat (s.barrCount f.cl l).1)) := by
  show execBarr l d s = _
  simp only [execBarr, firing_of_latched h, hpart, Bool.false_eq_true, if_false]

theorem barr_asks {l : BarrLit} (hpart : l.part = true) :
    exec (.barr l d) s = .next (requested s f (.barr l d) ((s.launch f.cl).foldl min f.cl) 67) := by
  show execBarr l d s = _
  simp only [execBarr, firing_of_latched h, hpart, if_true]
  rfl

/-! ## The trigger (10 R218) -/

/-- A data firing of TRIGGER: the launch's first waits, for the end where skip lists are not empty, else for the
package guarantee of its release; any later one forwards a. -/
theorem trigger_acts (hidle : s.idleAction f = false) : exec (.trigger d) s = .next (
    if (s.ctx f.cl).trigFired then s.emitBoth f d (forwarded f f.opA f.tag)
    else
      let s1 := s.modCtx f.cl (fun x => { x with trigFired := true })
      if (s.ctx f.cl).skips then s1.pendNew f (.trigger d) (.trigger none)
      else
        let s2 := (s1.release f.cl).countTrigger f.cl
        s2.pendNew f (.trigger d) (.trigger (some { gal := f.cl, pos := (s2.gal f.cl).p }))) := by
  show execTrigger d s = _
  simp only [execTrigger, firing_of_latched h, hidle, Bool.false_eq_true, if_false]
  rfl

/-! ## The exit value and checkpoints (10 R219, R220) -/

/-- DONE records lane 0 of a, all ones where it is poisoned, unless a value stands already. -/
theorem done_records : exec (.done d) s = .next (s.modCtx f.cl (fun x => { x with
    exitVal := some (x.exitVal.getD (if f.opA.poisoned 0 then 0xFFFFFFFF else f.opA.lane 0 % 2 ^ 32)) })) := by
  show execDone d s = _
  simp only [execDone, firing_of_latched h, h.2, Bool.false_or]
  refine congrArg _ (State.modCtx_congr ?_)
  cases (s.ctx f.cl).exitVal <;> rfl

/-- CKPT forwards a; with a pre-emption pending and no entry selected it selects its own and halts the cluster. -/
theorem ckpt_forwards (n : BitVec 8) : exec (.ckpt n d) s = .next (
    if (s.cl f.cl).preReq && (s.cl f.cl).ckSel.isNone then
      (s.emitBoth f d (forwarded f f.opA f.tag)).modCl f.cl (fun x => { x with ckSel := some n.toNat, halt := .halting })
    else s.emitBoth f d (forwarded f f.opA f.tag)) := by
  show execCkpt n d s = _
  simp only [execCkpt, firing_of_latched h, Firing.out_of_data h.2]
  rfl

end

end Sys2Proof.Machine

namespace Sys2Proof.Proofs
open Sys2Proof.Machine Sys2Proof.Claims

/-- Settles O17, point by point. -/
theorem launchPoints : Obligations.LaunchPoints := by
  intro l n d s f h id b cnt a
  refine ⟨fun hpart => ?_, barr_asks h d, fun k m c j q slot sl hm hpay harr hq hi hpart hslot => ?_,
    fun hpart hlit hall => barrGenerationComplete_own hpart hlit rfl hall, fun hidle hfired => ?_, fun hidle hfirst => ?_,
    fun hnone => ?_, fun v hv => ?_, fun hquiet => ?_, fun hpre hsel => ?_⟩
  · rw [barr_counts h d hpart, State.barrCount_own hpart rfl]
    rfl
  · rw [State.serveReq_barr hm hpay harr hq hi,
      State.barrCount_launch hpart (show (s.dropMsg k).slotOf c = some (slot, sl) from hslot) rfl rfl]
    rfl
  · rw [Sends, trigger_acts h d hidle, if_pos hfired]
  · have htrigger := trigger_acts h d hidle
    rw [if_neg (by simp [hfirst])] at htrigger
    refine ⟨fun hskips => ?_, fun hskips => ?_⟩
    · rw [htrigger, if_pos hskips]
    · rw [htrigger, if_neg (by simp [hskips])]
  · rw [done_records h d]
    exact congrArg _ (State.modCtx_congr (by rw [hnone]; rfl))
  · exact ⟨_, done_records h d, by rw [State.modCtx_ctx, hv]; rfl⟩
  · rw [Sends, ckpt_forwards h d n, if_neg (by simp [hquiet])]
  · rw [ckpt_forwards h d n, if_pos (by simp [hpre, hsel])]

end Sys2Proof.Proofs
end

section
/-!
PROOFS. Continuations: what a release and a push of the deque leave alone, then FORK, PARK, RESUME, JOIN and the wake of
a parked record (10 R222 to R227), then O22.
-/
namespace Sys2Proof.Machine
open Sys2Proof.Claims

/-! ## Galleys beside contexts (04 R79, R82) -/

/-- A change to galleys leaves every cluster's context. -/
@[simp] theorem State.modGal_ctx (s : State) (g : Nat) (f : Galley → Galley) (c : Nat) :
    (s.modGal g f).ctx c = s.ctx c := by
  unfold State.modGal
  split
  · by_cases hc : c = g
    · rw [hc, State.ctx, State.modCl_cl]; rfl
    · rw [State.ctx, State.modCl_cl_other s _ hc]; rfl
  · rfl

@[simp] theorem State.modGal_serial (s : State) (g : Nat) (f : Galley → Galley) : (s.modGal g f).serial = s.serial := by
  unfold State.modGal
  split <;> rfl

/-- A change to contexts leaves every galley. -/
@[simp] theorem State.modCtx_gal (s : State) (c : Nat) (f : Ctx → Ctx) (g : Nat) :
    (s.modCtx c f).gal g = s.gal g := by
  unfold State.gal
  by_cases hg : g = c
  · rw [hg, State.modCtx, State.modCl_cl]; rfl
  · rw [State.modCtx_cl_other s f hg]; rfl

/-- A release changes memory, by the open segment's summary, and the galley's P. -/
theorem State.release_cases (s : State) (g : Nat) : s.release g = s ∨
    ∃ m, s.release g = ({ s with mem := m } : State).modGal g (fun y => { y with p := y.a }) := by
  by_cases hopen : (s.gal g).p < (s.gal g).a
  · refine .inr ?_
    by_cases hlast : (s.gal g).a % 4096 = 0
    · exact ⟨s.mem, by simp only [State.release, hopen, hlast, if_true]⟩
    · exact ⟨_, by simp only [State.release, hopen, hlast, if_true, if_false]; rfl⟩
  · exact .inl (if_neg hopen)

@[simp] theorem State.release_ctx (s : State) (g c : Nat) : (s.release g).ctx c = s.ctx c := by
  obtain h | ⟨m, h⟩ := s.release_cases g <;> rw [h]
  exact State.modGal_ctx _ g _ c

@[simp] theorem State.release_serial (s : State) (g : Nat) : (s.release g).serial = s.serial := by
  obtain h | ⟨m, h⟩ := s.release_cases g <;> rw [h]
  exact State.modGal_serial _ g _

@[simp] theorem State.release_frame (s : State) (g : Nat) (t : Tag) : (s.release g).frame t = s.frame t := by
  simp only [State.frame, State.release_ctx]

/-! ## The deque and its spilled records (10 R222) -/

@[simp] theorem State.push_deque (s : State) (c : Nat) (r : TaskRec) :
    ((s.push c r).ctx c).deque = r :: (s.ctx c).deque := by
  unfold State.push
  extract_lets s1
  have h1 : (s1.ctx c).deque = r :: (s.ctx c).deque := congrArg Ctx.deque (s.modCtx_ctx c _)
  clear_value s1
  split
  · exact h1
  · generalize s1.mem.writeBytes _ _ _ = m
    rw [State.modCtx_ctx]
    exact h1

theorem nth_cons_succ {α : Type} (a : α) (l : List α) (k : Nat) : nth (a :: l) (k + 1) = nth l k := rfl

theorem nth_of_length_le {α : Type} {l : List α} {k : Nat} (h : l.length ≤ k) : nth l k = none := by
  rw [nth, List.drop_eq_nil_of_le h, List.head?_nil]

/-- A push moves the 64th record of the deque, where there is one, into its slot of the cluster's area. -/
theorem State.push_mem (s : State) (c : Nat) (r : TaskRec) : (s.push c r).mem = match nth (s.ctx c).deque 63 with
    | none => s.mem
    | some o => s.mem.writeBytes (s.spillPa c (s.ctx c).spillTop) 256 o.slotBits := by
  have hnth : nth ((s.modCtx c (fun x => { x with deque := r :: x.deque })).ctx c).deque dequeDie =
      nth (s.ctx c).deque 63 := by rw [State.modCtx_ctx]; exact nth_cons_succ r _ 63
  unfold State.push
  dsimp only
  rw [hnth]
  cases nth (s.ctx c).deque 63 with
  | none => rfl
  | some o => simp only [State.modCtx_mem, State.spillPa, State.modCtx_gal, State.modCtx_ctx]

/-! ## Records (10 R221, R224) -/

theorem buildRec_eq_recordOf (l : EntryLit) (a : Token) (join : Nat) (st : Stamp) :
    buildRec l a join st = recordOf l a join st := by
  have hword (k : Nat) : bits a.pay (64 * k + 63) (64 * k) = a.pay / 2 ^ (64 * k) % 2 ^ 64 := by
    rw [bits, show 64 * k + 63 + 1 - 64 * k = 64 by omega]
  simp only [buildRec, recordOf, hword]

/-! ## FORK and PARK (10 R207, R224, R225) -/

/-- What PARK reads as OBJ. -/
def parkObj (b : Token) : Nat := if b.gl2 = 0 then 0 else b.lane 1

/-- A poisoned lane of b that PARK reads. -/
def parkPoisoned (kind : ParkKind) (b : Token) : Bool :=
  b.poisoned 0 || ((kind == .tl || kind == .net) && decide (b.gl2 ≠ 0) && b.poisoned 1)

theorem two_le_g {b : Token} : 2 ≤ b.g ↔ b.gl2 ≠ 0 := by
  rw [Token.g]
  refine ⟨fun h h0 => by simp [h0] at h, fun h => ?_⟩
  calc 2 = 2 ^ 1 := rfl
    _ ≤ 2 ^ b.gl2 := Nat.pow_le_pow_right (by decide) (Nat.one_le_iff_ne_zero.mpr h)

theorem parkPoisoned_eq_false {kind : ParkKind} {b : Token} (h0 : b.poisoned 0 = false)
    (h1 : kind = .tl ∨ kind = .net → b.gl2 ≠ 0 → b.poisoned 1 = false) : parkPoisoned kind b = false := by
  cases h : b.poisoned 1
  · simp [parkPoisoned, h0, h]
  · have hreads : (kind = .tl ∨ kind = .net) → b.gl2 = 0 := fun hk =>
      Decidable.byContradiction fun hg => Bool.noConfusion ((h1 hk hg).symm.trans h)
    simpa [parkPoisoned, h0, h] using hreads

/-- The record that PARK parks, with the frame's join pointer. -/
def State.parkRec (s : State) (f : Firing) (l : EntryLit) (kind : ParkKind) (join : Nat) : Parked :=
  { id := s.serial, rec_ := recordOf l f.opA join (s.ownStamp f.cl), kind := kind, value := f.opB.lane 0
    obj := parkObj f.opB }

/-- The record's number and stamp are those of the release, whatever happens to frames after it. -/
theorem State.parkRec_setFrame (s : State) (f : Firing) (l : EntryLit) (kind : ParkKind) (join : Nat) (t : Tag)
    (fr : Frame) : (s.setFrame t fr).parkRec f l kind join = s.parkRec f l kind join := by
  simp only [State.parkRec, State.ownStamp, State.setFrame, State.modCtx_gal, State.modCtx_serial]

/-- A record joins the parked ones, and a zero goes to DA and DB. -/
def State.parks (s : State) (f : Firing) (d : Dests) (p : Parked) : State :=
  (({ s with serial := s.serial + 1 } : State).modCtx f.cl (fun x => { x with parked := x.parked ++ [p] })).emitBoth f d
    (newScalar f 5 0)

section
variable {s : State} {f : Firing} (hacts : Acts s f) (d : Dests) (l : EntryLit)
include hacts

theorem fork_pushes (hsound : f.opB.poisoned 0 = false) : exec (.fork l d) s = .next
    (((s.release f.cl).push f.cl (recordOf l f.opA (f.opB.lane 0)
      { gal := f.cl, pos := ((s.release f.cl).gal f.cl).p })).emitBoth f d (newScalar f 5 0)) := by
  rw [← buildRec_eq_recordOf]
  show execFork l d s = _
  simp only [execFork, firing_of_acts hacts, hacts.2, hsound, Bool.false_eq_true, if_false]
  rfl

theorem fork_poisoned (hbad : f.opB.poisoned 0 = true) : Ends (.fork l d) s f 0x106 0 := by
  show execFork l d s = _
  simp only [execFork, firing_of_acts hacts, hacts.2, hbad, Bool.false_eq_true, if_false, if_true]
  rfl

/-- PARK in each of its cases: a poisoned lane it reads, an object that does not exist, or the record with the frame's
join pointer. -/
theorem park_cases (kind : ParkKind) : exec (.park kind l d) s = .next (
    if parkPoisoned kind f.opB then s.fail f 0x106 0
    else match s.parkCause f.cl kind (f.opB.lane 0) (parkObj f.opB) with
      | some n => s.fail f 0x100 n
      | none =>
        let r := s.release f.cl
        match s.frame f.tag with
        | none => r.parks f d (r.parkRec f l kind 0)
        | some fr => (r.setFrame f.tag { fr with join := 0 }).parks f d (r.parkRec f l kind fr.join.toNat)) := by
  have hobj : (if 2 ≤ f.opB.g then f.opB.lane 1 else 0) = parkObj f.opB := by
    simp only [two_le_g, parkObj, ne_eq, ite_not]
  have hbad : (f.opB.poisoned 0 || ((kind == .tl || kind == .net) && decide (2 ≤ f.opB.g) && f.opB.poisoned 1)) =
      parkPoisoned kind f.opB := by
    simp only [two_le_g, parkPoisoned]
  show execPark kind l d s = _
  simp only [execPark, firing_of_acts hacts, hacts.2, Bool.false_eq_true, if_false, hobj, hbad, State.release_frame,
    buildRec_eq_recordOf]
  refine congrArg _ (ite_congr rfl (fun _ => rfl) fun _ => ?_)
  cases s.parkCause f.cl kind (f.opB.lane 0) (parkObj f.opB) with
  | some n => rfl
  | none =>
    cases s.frame f.tag with
    | none => rfl
    | some fr =>
      simp only [← State.parkRec_setFrame (s.release f.cl) f l kind _ f.tag { fr with join := 0 }]
      rfl

end

/-! ## Waking a parked record (10 R225) -/

theorem parkWake_wakes {s : State} {c k : Nat} {p : Parked} {g : Option Stamp}
    (hp : (s.ctx c).parked.find? (fun x => x.id == k) = some p) (hg : s.parkHolds c p = some g)
    (hrun : (s.cl c).stopped = false) (hroom : (s.ctx c).deque.length < 1088) : exec (.parkWake c k) s = .next
      ((s.modCtx c (fun x => { x with parked := x.parked.filter (fun y => y.id != k) })).push c
        { p.rec_ with stamps := p.rec_.stamps ++ g.toList }) := by
  show execParkWake c k s = _
  simp only [execParkWake, hrun, hp, hg, Nat.not_le.mpr hroom, Bool.false_eq_true, if_false]

theorem parkWake_waits {s : State} {c k : Nat} {p : Parked}
    (hp : (s.ctx c).parked.find? (fun x => x.id == k) = some p) (hg : s.parkHolds c p = none) :
    exec (.parkWake c k) s = .next s := by
  show execParkWake c k s = _
  simp only [execParkWake, hp, hg, ite_self]

/-! ## RESUME and JOIN (10 R226, R227) -/

theorem aligned_of_dvd {p w : Nat} (hw : w ∣ 2 ^ 60) (h : p % w = 0) : decide (ptrOff p % w ≠ 0) = false := by
  rw [ptrOff_eq, Nat.mod_mod_of_dvd p hw, h]; rfl

section
variable {s : State} {f : Firing} (hacts : Acts s f) (d : Dests) {p : Nat}
include hacts

theorem resume_reads (hp : Pointer f p) (hal : p % 64 = 0) {pieces : List (Nat × Nat × Bool)}
    (hr : Reaches s f.cl .read p 1152 pieces) : exec (.resume d) s = .next
      ((s.pendNew f (.resume d) (.recread (s.gal f.cl).a (p % 2 ^ 60) false)).tlbUse f.cl (p % 2 ^ 60) 1152) := by
  show execResume d s = _
  simp only [execResume, firing_of_acts hacts, hacts.2, ptrOperand_of_pointer hp,
    State.access_reaches hr List.mem_cons_self (aligned_of_dvd (by decide) hal), Bool.false_eq_true, if_false]

theorem join_asks (hp : Pointer f p) (hal : p % 2048 = 0) {pba n : Nat} {e : Bool} {rest : List (Nat × Nat × Bool)}
    (hr : Reaches s f.cl .atomic p 64 ((pba, n, e) :: rest)) : exec (.join d) s = .next
      (((s.releasePkg f.cl).pendAsk f (.join d)
        (.join ((s.releasePkg f.cl).gal f.cl).a pba (p % 2 ^ 60) none) pba).tlbUse f.cl (p % 2 ^ 60) 64) := by
  show execJoin d s = _
  simp only [execJoin, State.joinAt, firing_of_acts hacts, hacts.2, ptrOperand_of_pointer hp,
    State.access_reaches hr List.mem_cons_self (aligned_of_dvd (by decide) hal), Bool.false_eq_true, if_false]

/-- A counter that is no multiple of its object's 2,048 bits is an alignment fault. -/
theorem join_misaligned (hp : Pointer f p) (hspace : p / 2 ^ 60 = 0) (hmis : p % 2048 ≠ 0) :
    Ends (.join d) s f 0x101 0 := by
  have hbad : decide (ptrOff p % 2048 ≠ 0) = true := by
    rw [ptrOff_eq, Nat.mod_mod_of_dvd p (by decide)]
    exact decide_eq_true hmis
  have hcheck : s.check f.cl [0] .atomic p 64 true = .bad Code.ALIGN_FAULT 0 := by
    simp only [State.check, State.ptrCause_process hspace List.mem_cons_self, if_true]
  show execJoin d s = _
  simp only [execJoin, State.joinAt, State.access, firing_of_acts hacts, hacts.2, ptrOperand_of_pointer hp, hbad, hcheck,
    Bool.false_eq_true, if_false]
  rfl

end

/-- A record read returns once D has passed its issue: the record is pushed with a release's stamp and its live values'
poison, and a leaves. -/
theorem loadDataReturn_record {s s1 : State} {c k a va : Nat} {joined : Bool} {p : Pend} {d : Dests}
    {l : List (Nat × Nat × Bool)} (hp : s.pend c k = some p) (hwhy : p.why = .recread a va joined)
    (hi : p.instr = .resume d ∨ p.instr = .join d) (hd : a ≤ (s.gal c).d) (hl : s.xlat c .read va 1152 = .ok l)
    (hf : s.fetchLines c (8192 + k) 2 (linesOf l) = (true, s1))
    (hsound : meetsBad (s1.readBase l).2.1 0 128 = false) (hroom : (s1.ctx c).deque.length < 1088) :
    exec (.loadDataReturn c k) s = .next
      (let t := (((s1.tlbUse c va 1152).substIf c (s1.readBase l).2.2).pendDel c k).release c
      (t.push c { recOf (s1.readBase l).1 with
        poison := maskOf ((List.range 16).map (fun i => meetsBad (s1.readBase l).2.1 (128 + 64 * i) 64))
        stamps := [⟨c, (t.gal c).p⟩], joined := joined }).sendA p.fir d) := by
  have hholder : holderOf 37 = 2 := rfl
  have hgo : exec (.loadDataReturn c k) s = .next (s.recordRead c k p va joined) := by
    show execLoadDataReturn c k s = _
    simp only [execLoadDataReturn, hp, hwhy, hd, if_true]
  rw [hgo]
  rcases hi with hi | hi <;>
    simp only [State.recordRead, hl, hholder, hf, hsound, hi, Nat.not_le.mpr hroom, Bool.not_true, Bool.false_eq_true,
      if_false]

end Sys2Proof.Machine

namespace Sys2Proof.Proofs
open Sys2Proof.Machine Sys2Proof.Claims

/-- Settles O22, instruction by instruction; PARK by its cases, the deque by what a push leaves. -/
theorem continuations : Obligations.Continuations := by
  intro l kind d s f hacts r st value obj
  have hpark := park_cases hacts d l kind
  refine ⟨fork_pushes hacts d l, fun hbad => ⟨fork_poisoned hacts d l hbad, ?_⟩, fun h0 h1 => ?_,
    fun _ _ _ => parkWake_wakes, fun _ _ => parkWake_waits, fun _ _ hp hal hr => resume_reads hacts d hp hal hr,
    fun _ _ _ _ _ _ _ hp hwhy hi hd hl hf => loadDataReturn_record hp hwhy hi hd hl hf,
    fun _ _ _ _ _ hp hal hr => join_asks hacts d hp hal hr, fun _ => join_misaligned hacts d,
    fun c q => ⟨s.push_deque c q, fun hfew => ?_, fun o ho => ?_⟩⟩
  · rw [Ends, hpark, parkPoisoned, hbad, Bool.true_or, if_pos rfl]
  · rw [if_neg (by rw [parkPoisoned_eq_false h0 h1]; exact Bool.false_ne_true)] at hpark
    refine ⟨fun hnone => ?_, fun hkind => ?_, fun n hn => ?_⟩
    · rw [show s.parkCause f.cl kind (f.opB.lane 0) (parkObj f.opB) = none from hnone] at hpark
      refine ⟨fun hframe => ?_, fun fr hframe => ?_⟩
      all_goals
        simp only [hpark, hframe, State.parkRec, State.release_serial]
        rfl
    · rcases hkind with rfl | rfl <;> rfl
    · rw [Ends, hpark, show s.parkCause f.cl kind (f.opB.lane 0) (parkObj f.opB) = some n from hn]
  · rw [s.push_mem c q, nth_of_length_le (Nat.le_of_lt_succ hfew)]
  · rw [s.push_mem c q, ho]; rfl

end Sys2Proof.Proofs
end

section
/-!
PROOFS. The task unit: the frame table's lowest free entry, what a package release leaves alone, then resumption, a freed
frame's join and stealing (10 R228, R229), and O23.
-/
namespace Sys2Proof.Machine
open Sys2Proof.Claims

/-! ## The lowest free entry (06 R126) -/

theorem lowestFrame_of_lowestFree {s : State} {c slot : Nat} (h : LowestFree s c slot) :
    lowestFrame (s.ctx c).frames = some slot := by
  obtain ⟨hlt, hfree, hbelow⟩ := h
  refine List.find?_range_eq_some.mpr ⟨?_, List.mem_range.mpr hlt, fun k hk => ?_⟩
  · simp [Tbl.has, hfree]
  · simpa [Tbl.has] using hbelow k hk

theorem noFrameWait_iff {s : State} {c : Nat} :
    NoFrameWait s c ↔ (s.ctx c).pend.any (fun p => p.why == .frame) = false := by
  simp [NoFrameWait]

/-! ## A package release (04 R82) -/

/-- The mirrors that a package release brings up to date are the dies'; clusters and hub are those of the release. -/
theorem State.releasePkg_frame (s : State) (g : Nat) :
    (s.releasePkg g).cls = (s.release g).cls ∧ (s.releasePkg g).hub = (s.release g).hub := by
  have hmirrors (l : List Nat) (t : State) :
      (l.foldl (fun t d => t.mirrorUpdate d g) t).cls = t.cls ∧
        (l.foldl (fun t d => t.mirrorUpdate d g) t).hub = t.hub := by
    induction l generalizing t with
    | nil => exact ⟨rfl, rfl⟩
    | cons d l ih => exact ih (t.mirrorUpdate d g)
  exact hmirrors _ _

@[simp] theorem State.releasePkg_ctx (s : State) (g c : Nat) : (s.releasePkg g).ctx c = s.ctx c := by
  rw [← s.release_ctx g c]
  simp only [State.ctx, State.cl, (s.releasePkg_frame g).1]

theorem State.modGal_gal_same (s : State) (g : Nat) (f : Galley → Galley) : (s.modGal g f).gal g = f (s.gal g) := by
  unfold State.modGal State.gal
  by_cases hg : g < 1024
  · simp only [hg, if_true, State.modCl_cl]
  · simp only [hg, if_false]
    exact Tbl.get_put_same _ _ _ _

theorem State.modGal_gal_other (s : State) {g h : Nat} (f : Galley → Galley) (hne : h ≠ g) :
    (s.modGal g f).gal h = s.gal h := by
  unfold State.modGal State.gal
  by_cases hg : g < 1024 <;> by_cases hh : h < 1024 <;> simp only [hg, hh, if_true, if_false]
  · rw [State.modCl_cl_other s _ hne]
  · rfl
  · rfl
  · exact Tbl.get_put_other _ _ _ (by omega)

/-- A release moves P, and leaves every galley's A. -/
theorem State.release_gal_a (s : State) (g h : Nat) : ((s.release g).gal h).a = (s.gal h).a := by
  obtain hr | ⟨m, hr⟩ := s.release_cases g <;> rw [hr]
  by_cases hne : h = g
  · rw [hne, State.modGal_gal_same]; rfl
  · rw [State.modGal_gal_other _ _ hne]; rfl

@[simp] theorem State.releasePkg_gal_a (s : State) (g h : Nat) : ((s.releasePkg g).gal h).a = (s.gal h).a := by
  rw [← s.release_gal_a g h]
  simp only [State.gal, State.cl, (s.releasePkg_frame g).1, (s.releasePkg_frame g).2]

/-- An atomic's firing waits in its cluster, its request sent or not. -/
theorem State.pendAsk_ctx (s : State) {f : Firing} {c : Nat} (hc : f.cl = c) (i : Instr) (w : Waiting) (pba : Nat) :
    (s.pendAsk f i w pba).ctx c = { s.ctx c with
      pend := (s.ctx c).pend ++ [{ id := s.serial, fir := f, instr := i, why := w }] } := by
  have hask (t : State) : (t.ask f.cl 101 s.serial pba).ctx c = t.ctx c := by
    unfold State.ask
    split <;> rfl
  subst hc
  rw [State.pendAsk, hask]
  exact State.modCtx_ctx _ f.cl _

/-! ## Resumption (10 R228) -/

theorem taskResume_asks {s : State} {c slot : Nat} {r : TaskRec} {rest : List TaskRec} (hdq : (s.ctx c).deque = r :: rest)
    (hfree : LowestFree s c slot) (hwait : NoFrameWait s c) (hrun : (s.cl c).stopped = false)
    (hres : (s.ctx c).resuming = none) (hroom : (s.ctx c).activeTasks < 8) (hacqs : s.resumeAcquires c r = []) :
    exec (.taskResume c) s = .next (asked (s.modCtx c (fun x => { x with
        deque := rest, spillTop := if 64 ≤ rest.length then x.spillTop - 1 else x.spillTop, resuming := some r }))
      { cl := c, unit := 37, tag := frameTag c 0 0 } (.taskResume c) c) := by
  have hmay : s.mayResume c = true := by
    simp [State.mayResume, hrun, hdq, hres, hroom, lowestFrame_of_lowestFree hfree, noFrameWait_iff.mp hwait]
  have hpop : s.modCtx c (fun x => { x.pop with resuming := some r }) = s.modCtx c (fun x => { x with
      deque := rest, spillTop := if 64 ≤ rest.length then x.spillTop - 1 else x.spillTop, resuming := some r }) := by
    refine State.modCtx_congr ?_
    have hspilled : dequeDie < (r :: rest).length ↔ 64 ≤ rest.length := by
      rw [dequeDie, List.length_cons, Nat.lt_succ_iff]
    simp only [Ctx.pop, hdq, hspilled, List.drop_succ_cons, List.drop_zero]
  rw [← hpop]
  show execTaskResume c s = _
  simp only [execTaskResume, hdq, hmay, hacqs, List.isEmpty_nil, Bool.true_or, Bool.not_true,
    Bool.false_eq_true, if_false, if_true]
  rfl

/-- The frame of a resumed record: its PARENT is the root tag, and its join pointer waits in it (10 R228). -/
def resumedFrame (c : Nat) (r : TaskRec) : Frame :=
  { n := r.nm1 + 1, parent := some (rootTag c), retlink := none, join := r.join, resumed := true }

/-- An allocation that finds an entry free, and no earlier one waiting, takes the lowest. -/
theorem State.allocApply_gives {s : State} {p : Pend} {slot : Nat} (hfree : LowestFree s p.fir.cl slot)
    (hwait : NoFrameWait s p.fir.cl) : s.allocApply p = s.frameGive p slot := by
  have hlow := lowestFrame_of_lowestFree hfree
  have hnone := noFrameWait_iff.mp hwait
  unfold State.allocApply
  extract_lets x
  split
  case h_1 k hk =>
    obtain rfl : k = slot := Option.some.inj (hk.symm.trans hlow)
    exact if_neg (by rw [hnone]; exact Bool.false_ne_true)
  case h_2 hk => exact absurd (hk.symm.trans hlow) nofun

/-- The frame table gives the task unit its frame, and the record's one group leaves. -/
theorem tagOpApply_resumes {s : State} {c k j slot : Nat} {m : Msg} {q : Pend} {r : TaskRec} (hm : Taken s k m)
    (hpay : m.pay = .frameReq c j) (hq : s.pend c j = some q) (hi : q.instr = .taskResume c) (hc : q.fir.cl = c)
    (hres : (s.ctx c).resuming = some r) (hfree : LowestFree s c slot) (hwait : NoFrameWait s c) (hone : r.ngm1 = 0) :
    exec (.tagOpApply k) s = .next ((((s.dropMsg k).pendDel c j).modCtx c (fun x =>
      { x.allocFrame slot (resumedFrame c r) with resuming := none })).sendGroup c slot r 0) := by
  obtain ⟨hmsg, harr, hstray⟩ := hm
  have hmsg' : s.msg k = some m := hmsg
  have hid : q.id = j := by simpa using List.find?_some hq
  have halloc : allocOf q.instr = none := by rw [hi]; rfl
  have happly : (s.dropMsg k).frameApply q = (s.dropMsg k).allocApply q := by
    unfold State.frameApply
    rw [hi]
  have hgive : (s.dropMsg k).allocApply q = (s.dropMsg k).frameGive q slot :=
    State.allocApply_gives (by rw [hc]; exact hfree) (by rw [hc]; exact hwait)
  have hres' : (((s.dropMsg k).pendDel c j).ctx c).resuming = some r := by
    rw [State.pendDel, State.modCtx_ctx]; exact hres
  show execTagOpApply k s = _
  simp only [execTagOpApply, hmsg', harr, hstray, hpay, hq, happly, hgive, State.frameGive, halloc, hc, hid, hres', hone,
    Bool.not_true, Bool.false_eq_true, if_false]
  rfl

/-! ## The join of a freed frame (10 R228) -/

theorem frameJoin_asks {s : State} {c pba n : Nat} {j : Word} {rest : List Word} {e : Bool}
    {more : List (Nat × Nat × Bool)} (hj : (s.ctx c).joins = j :: rest) (hrun : (s.cl c).stopped = false)
    (hal : j.toNat % 2048 = 0) (hr : Reaches s c .atomic j.toNat 64 ((pba, n, e) :: more)) :
    exec (.frameJoin c) s = .next
      (let t := (s.modCtx c (fun x => { x with joins := rest })).releasePkg c
      t.pendAsk { cl := c, unit := 37, tag := rootTag c, a := some (scalar64 j.toNat (rootTag c)), seq := s.serial }
        (.join { da := .sink, db := .sink }) (.join (t.gal c).a pba (j.toNat % 2 ^ 60) none) pba) := by
  obtain ⟨hspace, hlease, hpieces⟩ := hr
  have hcheck : s.check c [0] .atomic j.toNat 64 false = .ok 0 (j.toNat % 2 ^ 60) := by
    rw [← ptrOff_eq] at hlease ⊢
    simp [State.check, State.ptrCause_process hspace List.mem_cons_self, ptrTag_of_process hspace, hlease]
  show execFrameJoin c s = _
  simp only [execFrameJoin, hrun, hj, aligned_of_dvd (show 2048 ∣ 2 ^ 60 by decide) hal, hcheck, hpieces,
    Bool.false_eq_true, if_false]

/-! ## Stealing (10 R229) -/

theorem stealRequest_asks {s : State} {c : Nat} (hstat : (s.cl c).stat = .running) (hrun : (s.cl c).stopped = false)
    (hdq : (s.ctx c).deque = []) (hroom : (s.ctx c).activeTasks < 8) (hres : (s.ctx c).resuming = none)
    (hsteal : (s.ctx c).stealing = false) (hring : s.successor c ≠ c) : exec (.stealRequest c) s =
      .next ((s.modCtx c (fun x => { x with stealing := true })).send 3 c 37 (s.successor c) 37
        (.steal c (s.successor c))) := by
  show execStealRequest c s = _
  simp only [execStealRequest]
  rw [if_pos (by simp [hstat, hrun, hdq, hroom, hres, hsteal, hring])]

/-- A cluster runs the launch that a message was sent in (20 R367). -/
def State.runsFor (s : State) (m : Msg) (k : Nat) : Bool :=
  (s.cl k).stat == .running && m.slot.isSome && (s.cl k).slot == m.slot

theorem State.runsFor_iff {s : State} {m : Msg} {k : Nat} :
    s.runsFor m k = true ↔ (s.cl k).stat = .running ∧ m.slot.isSome ∧ (s.cl k).slot = m.slot := by
  simp [State.runsFor, and_assoc]

theorem State.runsFor_eq_false {s : State} {m : Msg} {k : Nat}
    (h : ¬ ((s.cl k).stat = .running ∧ m.slot.isSome ∧ (s.cl k).slot = m.slot)) : s.runsFor m k = false :=
  Bool.eq_false_iff.mpr fun hr => h (State.runsFor_iff.mp hr)

/-- The thief asks no more, and its request is gone. -/
def State.stealOver (s : State) (thief : Nat) (m : Msg) : State :=
  (s.dropMsg m.id).modCtx thief (fun x => { x with stealing := false })

theorem State.stealOver_deque (s : State) {c thief : Nat} (m : Msg) (hother : thief ≠ c) :
    ((s.stealOver thief m).ctx c).deque = (s.ctx c).deque := by
  rw [State.ctx, State.stealOver, State.modCtx_cl_other _ _ hother.symm]; rfl

/-- The victim's tail record moves to the thief. -/
def State.stolen (s : State) (c thief : Nat) (r : TaskRec) : State :=
  (((s.modCtx c (fun x => { x with deque := x.deque.dropLast })).push thief r).count thief 0x0F1 1).modCl thief
    (fun x => { x with quiet := 0 })

section
variable {s : State} {c thief : Nat} {m : Msg}
  (hm : s.netMsgs.find? (fun m => match m.pay with | .steal _ v => v == c && s.arrived m | _ => false) = some m)
  (hpay : m.pay = .steal thief c)
include hm hpay

/-- What the victim does with the oldest request that has reached it. -/
theorem stealServe_eq : exec (.stealServe c) s = .next (
    if !s.runsFor m thief then s.dropMsg m.id
    else if !s.runsFor m c then s.stealOver thief m
    else if (s.cl c).stopped || decide (1088 ≤ (s.ctx thief).deque.length) ||
        ((s.ctx c).deque.length == 1 && s.mayResume c) then s
    else match ((s.stealOver thief m).ctx c).deque.getLast? with
      | none => s.stealOver thief m
      | some r => (s.stealOver thief m).stolen c thief r) := by
  show execStealServe c s = _
  unfold execStealServe
  split
  case h_1 h => exact absurd (h.symm.trans hm) nofun
  case h_2 m' h =>
    obtain rfl : m' = m := Option.some.inj (h.symm.trans hm)
    rw [hpay]
    rfl

theorem stealServe_thiefEnded (ht : s.runsFor m thief = false) : exec (.stealServe c) s = .next (s.dropMsg m.id) := by
  rw [stealServe_eq hm hpay, ht, if_pos (by decide)]

variable (ht : s.runsFor m thief = true)
include ht

theorem stealServe_victimEnded (hc : s.runsFor m c = false) :
    exec (.stealServe c) s = .next (s.stealOver thief m) := by
  rw [stealServe_eq hm hpay, ht, hc, if_neg (by decide), if_pos (by decide)]

variable (hc : s.runsFor m c = true)
include hc

/-- A halted victim gives nothing, and none its last record while it can resume that itself. -/
theorem stealServe_keeps (hkeep : (s.cl c).stopped = true ∨ (s.ctx c).deque.length = 1 ∧ s.mayResume c = true) :
    exec (.stealServe c) s = .next s := by
  rw [stealServe_eq hm hpay, ht, hc, if_neg (by decide), if_neg (by decide), if_pos]
  rcases hkeep with h | ⟨h1, h2⟩
  · rw [h]; rfl
  · simp [h1, h2]

variable (hother : thief ≠ c) (hroom : (s.ctx thief).deque.length < 1088) (hrun : (s.cl c).stopped = false)
include hother hroom hrun

/-- The victim may give: its tail goes, where it has one. -/
theorem stealServe_gives (hgive : (s.ctx c).deque.length ≠ 1 ∨ s.mayResume c = false) :
    exec (.stealServe c) s = .next (match (s.ctx c).deque.getLast? with
      | none => s.stealOver thief m
      | some r => (s.stealOver thief m).stolen c thief r) := by
  rw [stealServe_eq hm hpay, ht, hc, if_neg (by decide), if_neg (by decide), if_neg, s.stealOver_deque m hother]
  rcases hgive with h | h <;> simp [hrun, Nat.not_le.mpr hroom, h]

end

end Sys2Proof.Machine

namespace Sys2Proof.Proofs
open Sys2Proof.Machine Sys2Proof.Claims

/-- Settles O23: resumption and the frame it is given, a freed frame's join, and the requests of stealing. -/
theorem taskUnit : Obligations.TaskUnit := by
  intro s c
  refine ⟨fun _ _ _ => taskResume_asks, fun _ _ _ _ _ _ => tagOpApply_resumes,
    fun j rest pba n e more hj hrun hal hr => ⟨_, frameJoin_asks hj hrun hal hr, ?_⟩, stealRequest_asks,
    fun m thief hm hpay hother => ?_⟩
  · simp only [State.pendAsk_ctx _ rfl, State.releasePkg_ctx, State.modCtx_ctx, State.releasePkg_gal_a, State.modCtx_gal]
    exact ⟨trivial, _, rfl, rfl, rfl, rfl⟩
  · intro runs t
    have hruns (k : Nat) : runs k → s.runsFor m k = true := State.runsFor_iff.mpr
    have hended (k : Nat) : ¬ runs k → s.runsFor m k = false := State.runsFor_eq_false
    refine ⟨fun r ht hc hlast hroom hrun hgive => ?_,
      fun ht hc hone hmay => stealServe_keeps hm hpay (hruns _ ht) (hruns _ hc) (.inr ⟨hone, hmay⟩),
      fun ht hc hstop => stealServe_keeps hm hpay (hruns _ ht) (hruns _ hc) (.inl hstop),
      fun ht hc hdq hroom hrun => ?_, fun ht hc => stealServe_victimEnded hm hpay (hruns _ ht) (hended _ hc),
      fun ht => stealServe_thiefEnded hm hpay (hended _ ht)⟩
    · rw [stealServe_gives hm hpay (hruns _ ht) (hruns _ hc) hother hroom hrun hgive, hlast]
      rfl
    · rw [stealServe_gives hm hpay (hruns _ ht) (hruns _ hc) hother hroom hrun (.inl (by simp [hdq])), hdq]
      rfl

end Sys2Proof.Proofs
end
